-- ==== Sys2Proof/Word.lean ====
section
/-! DEFINITION. The plain types the model is written in: bytes, 64-bit register words, and the two
helper records for sparse data. Everything a test could show wrong is in Machine/Bytes.lean and later files. -/

namespace Sys2Proof

/-- One byte. -/
abbrev Byte := BitVec 8

/-- One 64-bit register (R8): BAR0 registers, core index registers, MG registers. -/
abbrev Word := BitVec 64

/-- One 32-bit word of FP32 or INT32 data (R210). -/
abbrev Word32 := BitVec 32

/-- Sparse data by number: strictly rising keys, and no entry equal to what an unlisted key reads as. -/
abbrev SMap (α : Type) := List (Nat × α)

end Sys2Proof
end

