-- ==== Sys2Proof/Syntax.lean ====
section
/-! DEFINITION. The commands of the block: one constructor per row of spec/opcode_table.json, with the
row's operands. Where a row is an event of the module's own engines, the operands carry the physical
facts the model cannot compute (a sensor's reading, whether a signature verifies, how many bits of a row
read wrong); everything the spec computes from them is in the meanings. -/

namespace Sys2Proof

/-- A command packet as firmware holds it (R501), with what the host answers to the command's buffer:
`hostIn` is the data a read of the named host address returns (none: unreadable), `hostOut` says that the
named host buffer can be written. Function 0 is the physical function. -/
structure Cmd where
  fn : Nat
  flags : Nat
  tag : Nat
  partition : Nat
  length : Nat
  params : List Byte
  hostIn : Option (List Byte)
  hostOut : Bool
deriving DecidableEq, Repr

/-- An operation descriptor at issue: the core site, the thread and the 32 bytes (R134). -/
structure Desc where
  site : Nat
  thread : Nat
  bytes : List Byte
deriving DecidableEq, Repr

/-- Who asked for an access; the answer goes back there (R301). -/
inductive Src where
  | host (fn id : Nat)                -- a BAR2 or BAR4 request
  | stream (site slot seq : Nat)      -- a stream slot's request (R240)
  | keyhole (site thread seq : Nat)   -- a keyhole sector (R250)
  | fetch (site thread va : Nat)      -- a descriptor fetch (R132)
  | copy (part seq : Nat)             -- a work-ring copy (R494)
  | fabric (dev tag : Nat)            -- a remote module (R541)
  | engine (deck tag : Nat)           -- a deck collective engine (R327)
  | firmware (id : Nat)               -- firmware, scrub and tables
  | nr (site thread id : Nat)         -- an NR transfer or a remote signal (R319)
deriving DecidableEq, Repr

/-- A request at a slice controller: one sector or one row, class P0 to P4 (R43). -/
structure MemReq where
  site : Nat
  off : Nat
  cls : Nat
  src : Src
  write : Bool
  row : Bool
  data : List Byte
  poison : Bool
deriving DecidableEq, Repr

/-- A translation (R348): the partition, the virtual address, the access and who walks. -/
structure Walk where
  part : Nat
  va : Nat
  write : Bool
  src : Src
  prefetch : Bool
deriving DecidableEq, Repr

/-- One of the two kinds of ring of a function: its letterbox, or the work ring of partition n (R489). -/
inductive Ring where
  | letter (fn : Nat)
  | work (part : Nat)
deriving DecidableEq, Repr

/-- What a DRAIN or an ABORT acts on (R340). -/
inductive Target where
  | packet (part seq : Nat)
  | context (part ctx : Nat)
  | thread (site thread : Nat)
  | partition (part : Nat)
  | bankop (id : Nat)
  | port (port : Nat)
  | slice (site : Nat)
deriving DecidableEq, Repr

/-- A phase-locked loop with a lock detector of its own (R444). -/
inductive Pll where
  | cluster (c : Nat)
  | half (h : Nat)
  | stack (s : Nat)
  | deck (d : Nat)
deriving DecidableEq, Repr

/-- A unit of R476's numbering. -/
inductive UnitKind where
  | core | arrayHalf | slice | page | bank | router | cluster | stack | deck
  | bridgeLane | bridgeGroup | cell | sensor | bankUnit | imageSlot | none
deriving DecidableEq, Repr

/-- One finding of a bring-up stage or a known-answer run: its cause (R457), the unit and a detail. -/
structure Finding where
  cause : Nat
  kind : UnitKind
  unit : Nat
  detail : Nat
deriving DecidableEq, Repr

/-- What discovery finds at S3 (R31, R461, R462), decks by any numbering of their own: those whose host-port strap is active; each
trained bridge as deck, edge, deck, edge (edges 0 north, 1 east, 2 south, 3 west), in the order discovery goes over them; and how
many column lines passed through one bond only. -/
structure Discovery where
  straps : List Nat
  links : List (Nat × Nat × Nat × Nat)
  singleBond : Nat
deriving DecidableEq, Repr

/-- A failing cell found by a march or a retention hold (R465): slice, bank, row, the longest hold it survived
not (0 for a march failure, else the hold in ms). -/
structure CellFail where
  site : Nat
  bank : Nat
  row : Nat
  holdMs : Nat
deriving DecidableEq, Repr

/-- What S1 reads from module flash (R459, R616). -/
structure FwInfo where
  grade : Nat
  moduleRev : Nat
  slotOk : Bool
  otherOk : Bool
  deadDecks : List Nat
deriving DecidableEq, Repr

/-- One sensor's reading (1/8 °C; none: no reading) and the forecast model's estimate of it (R374, R376). -/
structure Reading where
  sensor : Nat
  value : Option Int
  est : Int
deriving DecidableEq, Repr

/-- A mesh packet's head at a router input: the control field of R300, whether the link's code left it alone (0), corrected it (1) or
could not (2), and whether a data parity bit was wrong (R302). -/
structure Flit where
  cluster : Nat
  inPort : Nat
  typ : Nat
  flags : Nat
  dest : Nat
  src : Nat
  tag : Nat
  address : Nat
  aux : Nat
  ctrl : Nat
  poison : Bool
deriving DecidableEq, Repr

/-- A fabric transaction: the header of R537 and its payload. -/
structure Trans where
  typ : Nat
  flags : Nat
  dest : Nat
  src : Nat
  partition : Nat
  tag : Nat
  epoch : Nat
  address : Nat
  aux : Nat
  step : Nat
  hops : Nat
  payload : List Byte
deriving DecidableEq, Repr

/-- A fabric flit (R533) as received: the numbers of its header, whether its CRC-32C is good and no codeword
failure touches it, and the transactions that end in its body. -/
structure FabFlit where
  seq : Nat
  ack : Nat
  nak : Bool
  kind : Nat
  stream : Nat
  credits : List Nat
  good : Bool
  trans : List Trans
deriving DecidableEq, Repr

/-- THE COMMANDS. One constructor per row of the opcode table, in the table's order; the rule named is the
row's governing rule. -/
inductive Instr where
  | devNop (c : Cmd)  -- DEV_NOP, R517
  | devIdentify (c : Cmd)  -- DEV_IDENTIFY, R517
  | devExpert (c : Cmd)  -- DEV_EXPERT, R510
  | devNetQuery (c : Cmd)  -- DEV_NET_QUERY, R328
  | devReset (c : Cmd)  -- DEV_RESET, R448
  | devAckShortfall (c : Cmd)  -- DEV_ACK_SHORTFALL, R470
  | partCreate (c : Cmd)  -- PART_CREATE, R335
  | partDestroy (c : Cmd)  -- PART_DESTROY, R336
  | partDisable (c : Cmd)  -- PART_DISABLE, R341
  | partEnable (c : Cmd)  -- PART_ENABLE, R334
  | partConfig (c : Cmd)  -- PART_CONFIG, R360
  | partQuery (c : Cmd)  -- PART_QUERY, R363
  | partMap (c : Cmd)  -- PART_MAP, R361
  | partUnmap (c : Cmd)  -- PART_UNMAP, R362
  | partStripe (c : Cmd)  -- PART_STRIPE, R362
  | partPool (c : Cmd)  -- PART_POOL, R345
  | memQuery (c : Cmd)  -- MEM_QUERY, R79
  | memRetirePage (c : Cmd)  -- MEM_RETIRE_PAGE, R72
  | memRetireBank (c : Cmd) (errs : List (Nat × Nat))  -- MEM_RETIRE_BANK, R73
  | memRetireSlice (c : Cmd)  -- MEM_RETIRE_SLICE, R77
  | memClearPoison (c : Cmd)  -- MEM_CLEAR_POISON, R79
  | memScrubRange (c : Cmd) (errs : List (Nat × Nat))  -- MEM_SCRUB_RANGE, R79
  | memScrubConfig (c : Cmd)  -- MEM_SCRUB_CONFIG, R70
  | memArbConfig (c : Cmd)  -- MEM_ARB_CONFIG, R45
  | memListRetired (c : Cmd)  -- MEM_LIST_RETIRED, R80
  | memBankop (c : Cmd)  -- MEM_BANKOP, R128
  | workCollective (c : Cmd)  -- WORK_COLLECTIVE, R327
  | workTree (c : Cmd)  -- WORK_TREE, R308
  | workCancel (c : Cmd)  -- WORK_CANCEL, R364
  | pwrLimit (c : Cmd)  -- PWR_LIMIT, R414
  | pwrLadder (c : Cmd)  -- PWR_LADDER, R424
  | pwrFeed (c : Cmd)  -- PWR_FEED, R430
  | pwrOppoint (c : Cmd)  -- PWR_OPPOINT, R407
  | pwrCurrent (c : Cmd)  -- PWR_CURRENT, R415
  | pwrView (c : Cmd)  -- PWR_VIEW, R413
  | thmSensors (c : Cmd)  -- THM_SENSORS, R391
  | thmConfig (c : Cmd)  -- THM_CONFIG, R391
  | thmResume (c : Cmd)  -- THM_RESUME, R389
  | testMemory (c : Cmd) (fails : List CellFail)  -- TEST_MEMORY, R518
  | testKnownAnswer (c : Cmd) (fails : List Finding)  -- TEST_KNOWN_ANSWER, R519
  | calRegulator (c : Cmd) (lost : List (Nat × Nat))  -- CAL_REGULATOR, R520
  | calDeskew (c : Cmd) (failed : List Nat)  -- CAL_DESKEW, R520
  | calSensor (c : Cmd)  -- CAL_SENSOR, R520
  | calBridge (c : Cmd) (failedLanes : Nat)  -- CAL_BRIDGE, R520
  | fwQuery (c : Cmd)  -- FW_QUERY, R522
  | fwWrite (c : Cmd)  -- FW_WRITE, R522
  | fwVerify (c : Cmd) (sigOk : Bool)  -- FW_VERIFY, R522
  | fwActivate (c : Cmd)  -- FW_ACTIVATE, R522
  | fwMicrocode (c : Cmd) (sigOk : Bool) (version : Nat) (incomplete : List Nat)  -- FW_MICROCODE, R523
  | fwBroadcast (c : Cmd)  -- FW_BROADCAST, R563
  | fabQuery (c : Cmd)  -- FAB_QUERY, R565
  | fabRole (c : Cmd)  -- FAB_ROLE, R525
  | fabPort (c : Cmd)  -- FAB_PORT, R525
  | modePrepare (c : Cmd)  -- MODE_PREPARE, R526
  | modeCommit (c : Cmd)  -- MODE_COMMIT, R526
  | modeAbort (c : Cmd)  -- MODE_ABORT, R526
  | modeQuery (c : Cmd)  -- MODE_QUERY, R526
  | telSnapshot (c : Cmd)  -- TEL_SNAPSHOT, R528
  | errRead (c : Cmd)  -- ERR_READ, R529
  | errAck (c : Cmd)  -- ERR_ACK, R606
  | errInject (c : Cmd)  -- ERR_INJECT, R529
  | ctNop (d : Desc)  -- CT_NOP, R139
  | ctEnd (d : Desc)  -- CT_END, R151
  | ctLoop (d : Desc)  -- CT_LOOP, R142
  | ctBranch (d : Desc)  -- CT_BRANCH, R140
  | ctJump (d : Desc)  -- CT_JUMP, R139
  | ctCall (d : Desc)  -- CT_CALL, R141
  | ctRet (d : Desc)  -- CT_RET, R141
  | ctSetreg (d : Desc)  -- CT_SETREG, R139
  | ctAddreg (d : Desc)  -- CT_ADDREG, R139
  | ctPost (d : Desc)  -- CT_POST, R151
  | strLoad (d : Desc)  -- STR_LOAD, R152
  | strStore (d : Desc)  -- STR_STORE, R152
  | strCancel (d : Desc)  -- STR_CANCEL, R247
  | mxLoadw (d : Desc)  -- MX_LOADW, R181
  | mxRun (d : Desc)  -- MX_RUN, R183
  | mxDrain (d : Desc)  -- MX_DRAIN, R188
  | mxSplit (d : Desc)  -- MX_SPLIT, R160
  | mxElem (d : Desc)  -- MX_ELEM, R204
  | vxAdd (d : Desc)  -- VX_ADD, R157
  | vxSub (d : Desc)  -- VX_SUB, R157
  | vxMul (d : Desc)  -- VX_MUL, R157
  | vxFma (d : Desc)  -- VX_FMA, R157
  | vxMax (d : Desc)  -- VX_MAX, R157
  | vxMin (d : Desc)  -- VX_MIN, R157
  | vxUnary (d : Desc)  -- VX_UNARY, R157
  | vxReduce (d : Desc)  -- VX_REDUCE, R157
  | vxConvert (d : Desc)  -- VX_CONVERT, R222
  | vxCopy (d : Desc)  -- VX_COPY, R157
  | vxFill (d : Desc)  -- VX_FILL, R157
  | vxSelect (d : Desc)  -- VX_SELECT, R157
  | khRead (d : Desc)  -- KH_READ, R250
  | khWrite (d : Desc)  -- KH_WRITE, R250
  | khGather (d : Desc)  -- KH_GATHER, R252
  | khScatter (d : Desc)  -- KH_SCATTER, R252
  | bkRow (d : Desc)  -- BK_ROW, R99
  | bkStat (d : Desc)  -- BK_STAT, R105
  | nrSend (d : Desc)  -- NR_SEND, R316
  | nrReduce (d : Desc)  -- NR_REDUCE, R310
  | nrGather (d : Desc)  -- NR_GATHER, R315
  | nrBcast (d : Desc)  -- NR_BCAST, R316
  | syWait (d : Desc)  -- SY_WAIT, R144
  | sySignal (d : Desc)  -- SY_SIGNAL, R150
  | syFence (d : Desc)  -- SY_FENCE, R149
  | sySet (d : Desc)  -- SY_SET, R145
  | invalidOpcode (d : Desc)  -- INVALID_OPCODE, R138
  | fetchReturn (site thread : Nat) (check : Bool)  -- FETCH_RETURN, R132
  | waitRelease (site thread : Nat)  -- WAIT_RELEASE, R149
  | descriptorCompletion (site thread id : Nat) (check : Bool)  -- DESCRIPTOR_COMPLETION, R146
  | watchdogExpiry (site thread : Nat)  -- WATCHDOG_EXPIRY, R166
  | streamRequestIssue (site slot : Nat)  -- STREAM_REQUEST_ISSUE, R240
  | keyholeSectorIssue (site thread : Nat)  -- KEYHOLE_SECTOR_ISSUE, R250
  | tableWalkComplete (w : Walk)  -- TABLE_WALK_COMPLETE, R348
  | mxRunEntry (site half : Nat) (parityBad : Bool)  -- MX_RUN_ENTRY, R186
  | mxDrainStart (site half : Nat) (parityBad : Bool)  -- MX_DRAIN_START, R188
  | backgroundTestBankCycle (site : Nat) (wordBad : Option (Nat × Nat))  -- BACKGROUND_TEST_BANK_CYCLE, R237
  | bar2Read (fn off len : Nat)  -- BAR2_READ, R482
  | bar2Write (fn off : Nat) (data : List Byte)  -- BAR2_WRITE, R482
  | bar4Read (fn off len : Nat)  -- BAR4_READ, R482
  | bar4Write (fn off : Nat) (data : List Byte)  -- BAR4_WRITE, R231
  | unsupportedRequest (fn kind : Nat)  -- UNSUPPORTED_REQUEST, R483
  | poisonedTlpWrite (fn bar off : Nat) (data : List Byte)  -- POISONED_TLP_WRITE, R483
  | configurationRequest (fn : Nat) (write : Bool) (reg value : Nat)  -- CONFIGURATION_REQUEST, R499
  | bar0MisalignedAccess (fn off size : Nat) (write : Bool)  -- BAR0_MISALIGNED_ACCESS, R8
  | undecodedBar0Access (fn off size : Nat) (write : Bool)  -- UNDECODED_BAR0_ACCESS, R611
  | registerWrite (fn off size value : Nat)  -- REGISTER_WRITE, R9
  | lowerHalfRead (fn off : Nat)  -- LOWER_HALF_READ, R612
  | telSnapshotLatch (fn : Nat)  -- TEL_SNAPSHOT_LATCH, R620
  | devWindowWrite (fn value : Nat)  -- DEV_WINDOW_WRITE, R480
  | expertWindowWrite (fn value : Nat)  -- EXPERT_WINDOW_WRITE, R510
  | resetCore (fn site : Nat)  -- RESET_CORE, R169
  | resetThread0 (fn site : Nat)  -- RESET_THREAD0, R168
  | resetThread1 (fn site : Nat)  -- RESET_THREAD1, R168
  | stallLatch (fn site : Nat)  -- STALL_LATCH, R173
  | stallClear (fn site : Nat)  -- STALL_CLEAR, R173
  | coreFaultValidClear (fn site thread : Nat)  -- CORE_FAULT_VALID_CLEAR, R174
  | ltrCmdTailWrite (fn value : Nat)  -- LTR_CMD_TAIL_WRITE, R484
  | wrkSubTailWrite (fn part value : Nat)  -- WRK_SUB_TAIL_WRITE, R488
  | completionHeadWrite (fn : Nat) (ring : Ring) (value : Nat)  -- COMPLETION_HEAD_WRITE, R488
  | ringEnable (fn : Nat) (ring : Ring)  -- RING_ENABLE, R488
  | ringDisable (fn : Nat) (ring : Ring)  -- RING_DISABLE, R488
  | letterboxEntryTake (entry : Option (List Byte))  -- LETTERBOX_ENTRY_TAKE, R511
  | workPacketTake (part : Nat) (entry : Option (List Byte))  -- WORK_PACKET_TAKE, R493
  | claimGrant  -- CLAIM_GRANT, R511
  | workFenceReached (part : Nat)  -- WORK_FENCE_REACHED, R513
  | workFenceTimeout (part : Nat)  -- WORK_FENCE_TIMEOUT, R513
  | completionWrite (ring : Ring)  -- COMPLETION_WRITE, R486
  | program (part seq : Nat)  -- PROGRAM, R492
  | lengthTable (part seq : Nat)  -- LENGTH_TABLE, R262
  | copyIn (part seq : Nat)  -- COPY_IN, R494
  | copyOut (part seq : Nat)  -- COPY_OUT, R494
  | copyHostDataArrival (part : Nat) (data : Option (List Byte)) (ep : Bool)  -- COPY_HOST_DATA_ARRIVAL, R494
  | itemCreation (part seq : Nat)  -- ITEM_CREATION, R266
  | itemStart (site thread : Nat)  -- ITEM_START, R131
  | mergeItemCreation (part seq : Nat)  -- MERGE_ITEM_CREATION, R270
  | quantumExpiry (site thread : Nat)  -- QUANTUM_EXPIRY, R354
  | contextSwitch (site thread : Nat)  -- CONTEXT_SWITCH, R356
  | switchDeferral (site : Nat)  -- SWITCH_DEFERRAL, R355
  | switchRecheck (site : Nat)  -- SWITCH_RECHECK, R355
  | drainComplete (t : Target)  -- DRAIN_COMPLETE, R341
  | drainTimeout (t : Target)  -- DRAIN_TIMEOUT, R341
  | abortComplete (t : Target)  -- ABORT_COMPLETE, R341
  | layoutAckTimeout (missing : Nat)  -- LAYOUT_ACK_TIMEOUT, R337
  | layoutCommit  -- LAYOUT_COMMIT, R337
  | poolNodeRelocation (part extent : Nat)  -- POOL_NODE_RELOCATION, R345
  | columnTransactionGrant (site parityFails bitErrs : Nat)  -- COLUMN_TRANSACTION_GRANT, R44
  | readSector (r : MemReq)  -- READ_SECTOR, R47
  | readRow (r : MemReq)  -- READ_ROW, R47
  | writePacket (r : MemReq)  -- WRITE_PACKET, R46
  | mergeEntryAgeExpiry (site row : Nat)  -- MERGE_ENTRY_AGE_EXPIRY, R54
  | refreshInterval (site bank : Nat)  -- REFRESH_INTERVAL, R59
  | postponedRefreshForce (site bank : Nat)  -- POSTPONED_REFRESH_FORCE, R60
  | writeHoldDrain (site parityFails : Nat) (errs : List (Nat × Nat))  -- WRITE_HOLD_DRAIN, R61
  | overHostReadTimeout (site : Nat)  -- OVER_HOST_READ_TIMEOUT, R63
  | scrubRowVisit (site parityFails bitErrs : Nat)  -- SCRUB_ROW_VISIT, R70
  | bankopDelivery (deck : Nat)  -- BANKOP_DELIVERY, R108
  | bankopStepStart (site parityFails : Nat)  -- BANKOP_STEP_START, R110
  | bankopStepEnd (site : Nat) (parityBanks : List Nat)  -- BANKOP_STEP_END, R110
  | correctionDetour (site bank parityFails bitErrs : Nat)  -- CORRECTION_DETOUR, R112
  | bankopHoldLimit (site : Nat)  -- BANKOP_HOLD_LIMIT, R117
  | bankUnitTimeout (site bank : Nat)  -- BANK_UNIT_TIMEOUT, R125
  | bankopCompletion (id : Nat)  -- BANKOP_COMPLETION, R107
  | flitArrival (f : Flit)  -- FLIT_ARRIVAL, R299
  | dataPacket (src : Src)  -- DATA_PACKET, R301
  | accept (src : Src)  -- ACCEPT, R301
  | nrSendPacket (src dst : Nat)  -- NR_SEND_PACKET, R316
  | nrGatherPacket (src dst : Nat)  -- NR_GATHER_PACKET, R315
  | nrBcastPacket (src dst : Nat)  -- NR_BCAST_PACKET, R316
  | reduceFlit (deck tree cluster : Nat)  -- REDUCE_FLIT, R310
  | signalPacket (src dst : Nat)  -- SIGNAL_PACKET, R150
  | nrAck (src dst : Nat)  -- NR_ACK, R316
  | nrNack (src dst : Nat)  -- NR_NACK, R316
  | routeMark (src dst : Nat)  -- ROUTE_MARK, R326
  | routeLoss (router endpoint : Nat)  -- ROUTE_LOSS, R319
  | transom (deck : Nat) (id : Nat)  -- TRANSOM, R297
  | routerFence (cluster cause : Nat)  -- ROUTER_FENCE, R318
  | routeTableUpdate  -- ROUTE_TABLE_UPDATE, R318
  | halfFrequencyChange (half : Nat) (slow : Bool)  -- HALF_FREQUENCY_CHANGE, R307
  | halfSlowDecision (half : Nat)  -- HALF_SLOW_DECISION, R409
  | bridgeFrameReceive (bridge group dir seq : Nat) (crcOk : Bool)  -- BRIDGE_FRAME_RECEIVE, R322
  | laneFailure (bridge group dir lane : Nat)  -- LANE_FAILURE, R323
  | groupRetrainDone (bridge group dir : Nat) (ok : Bool)  -- GROUP_RETRAIN_DONE, R323
  | bridgeRetrain (bridge : Nat)  -- BRIDGE_RETRAIN, R324
  | fabricFlitReceive (port : Nat) (f : FabFlit)  -- FABRIC_FLIT_RECEIVE, R535
  | fabricAckTimeout (port : Nat)  -- FABRIC_ACK_TIMEOUT, R535
  | fecErrorThreshold (port : Nat) (uncorr corr : Nat)  -- FEC_ERROR_THRESHOLD, R532
  | portTraining (port : Nat) (lanesOk : Nat)  -- PORT_TRAINING, R547
  | portTrainRetry (port : Nat)  -- PORT_TRAIN_RETRY, R547
  | writeSp (port : Nat) (t : Trans)  -- WRITE_SP, R541
  | writeVa (port : Nat) (t : Trans)  -- WRITE_VA, R541
  | readVa (port : Nat) (t : Trans)  -- READ_VA, R541
  | dataTransaction (port : Nat) (t : Trans)  -- DATA_TRANSACTION, R538
  | ack (port : Nat) (t : Trans)  -- ACK, R540
  | nack (port : Nat) (t : Trans)  -- NACK, R541
  | step (port : Nat) (t : Trans)  -- STEP, R558
  | fwChunkTransaction (port : Nat) (t : Trans)  -- FW_CHUNK_TRANSACTION, R563
  | hello (port : Nat) (t : Trans)  -- HELLO, R547
  | beacon (port : Nat) (t : Trans)  -- BEACON, R549
  | topo (port : Nat) (t : Trans)  -- TOPO, R549
  | idAssign (port : Nat) (t : Trans)  -- ID_ASSIGN, R550
  | heartbeat (port : Nat) (t : Trans)  -- HEARTBEAT, R552
  | slow (port : Nat) (t : Trans)  -- SLOW, R561
  | holdReport (port : Nat) (t : Trans)  -- HOLD_REPORT, R562
  | modePrep (port : Nat) (t : Trans)  -- MODE_PREP, R554
  | modeAck (port : Nat) (t : Trans)  -- MODE_ACK, R554
  | modeCommitTransaction (port : Nat) (t : Trans)  -- MODE_COMMIT_TRANSACTION, R554
  | modeAbortTransaction (port : Nat) (t : Trans)  -- MODE_ABORT_TRANSACTION, R554
  | epochPoll (port : Nat) (t : Trans)  -- EPOCH_POLL, R553
  | epochInfo (port : Nat) (t : Trans)  -- EPOCH_INFO, R553
  | fwPoll (port : Nat) (t : Trans)  -- FW_POLL, R563
  | fwBitmap (port : Nat) (t : Trans)  -- FW_BITMAP, R563
  | fwCommit (port : Nat) (t : Trans)  -- FW_COMMIT, R563
  | nackRetransmit (tag : Nat)  -- NACK_RETRANSMIT, R542
  | nrAckTimeout (tag : Nat)  -- NR_ACK_TIMEOUT, R548
  | epochHoldPoll (k : Nat)  -- EPOCH_HOLD_POLL, R553
  | epochHoldTimeout (k : Nat)  -- EPOCH_HOLD_TIMEOUT, R553
  | stagedValuePoll (kind : Nat)  -- STAGED_VALUE_POLL, R554
  | stagedValueDiscard (kind : Nat)  -- STAGED_VALUE_DISCARD, R554
  | modeAckTimeout (kind : Nat)  -- MODE_ACK_TIMEOUT, R554
  | heartbeatSend  -- HEARTBEAT_SEND, R552
  | groupSummarySend  -- GROUP_SUMMARY_SEND, R552
  | managerLost  -- MANAGER_LOST, R552
  | actingManagerTakeover (group : Nat)  -- ACTING_MANAGER_TAKEOVER, R552
  | leadManagerTimeout  -- LEAD_MANAGER_TIMEOUT, R551
  | routingPauseDrained  -- ROUTING_PAUSE_DRAINED, R545
  | stepTimeout (tag part : Nat)  -- STEP_TIMEOUT, R560
  | slowSend  -- SLOW_SEND, R561
  | holdReportSend  -- HOLD_REPORT_SEND, R562
  | feedUndervoltage (feed volts : Nat)  -- FEED_UNDERVOLTAGE, R400
  | feedOvervoltage (feed volts : Nat)  -- FEED_OVERVOLTAGE, R400
  | feedOutOfRange (feed volts : Nat)  -- FEED_OUT_OF_RANGE, R400
  | feedRestore (feed volts : Nat)  -- FEED_RESTORE, R400
  | bothFeedsLost  -- BOTH_FEEDS_LOST, R401
  | powerApplied (feed volts : Nat)  -- POWER_APPLIED, R446
  | railFault (rail volts : Nat)  -- RAIL_FAULT, R404
  | cellFailure (cluster cell cause : Nat)  -- CELL_FAILURE, R411
  | boostSwitch (cluster cell : Nat)  -- BOOST_SWITCH, R405
  | shuntClamp (cluster cell : Nat)  -- SHUNT_CLAMP, R405
  | powerSample (wattsA wattsB avg100us : Nat)  -- POWER_SAMPLE, R414
  | powerLimitCheck (avg100ms avg1ms : Nat)  -- POWER_LIMIT_CHECK, R414
  | powerCapRaise  -- POWER_CAP_RAISE, R414
  | currentSample (samples : List (Nat × Nat × Nat))  -- CURRENT_SAMPLE, R415
  | operatingPointStep (cluster : Nat)  -- OPERATING_POINT_STEP, R408
  | rampHintExpiry (cluster : Nat)  -- RAMP_HINT_EXPIRY, R410
  | louvreClosure (cluster droopMv quadrantDa : Nat)  -- LOUVRE_CLOSURE, R417
  | clusterWakeComplete (cluster : Nat)  -- CLUSTER_WAKE_COMPLETE, R418
  | ajarIdleTimeout (cluster : Nat)  -- AJAR_IDLE_TIMEOUT, R421
  | shutterIdleTimeout (cluster : Nat)  -- SHUTTER_IDLE_TIMEOUT, R421
  | ajarExit (cluster : Nat)  -- AJAR_EXIT, R420
  | shutterQuiesceTimeout (site thread : Nat)  -- SHUTTER_QUIESCE_TIMEOUT, R422
  | sliceIslandReturn (cluster : Nat)  -- SLICE_ISLAND_RETURN, R425
  | sealedEntry  -- SEALED_ENTRY, R426
  | sealedExit  -- SEALED_EXIT, R428
  | sensorSample (samples : List Reading)  -- SENSOR_SAMPLE, R374
  | suspectPersistence (sensor : Nat)  -- SUSPECT_PERSISTENCE, R378
  | suspectRecovery (sensor : Nat)  -- SUSPECT_RECOVERY, R377
  | forecastEvaluation (peaks : List (Nat × Int))  -- FORECAST_EVALUATION, R379
  | capRelease (cluster : Nat)  -- CAP_RELEASE, R381
  | throttleStep (cluster : Nat)  -- THROTTLE_STEP, R382
  | throttleReleaseStep (cluster : Nat)  -- THROTTLE_RELEASE_STEP, R382
  | tripComparator (sensor : Nat)  -- TRIP_COMPARATOR, R375
  | flowTachPulse (sinceLastUs perSecond : Nat)  -- FLOW_TACH_PULSE, R630
  | coolantDegraded (condition : Nat)  -- COOLANT_DEGRADED, R386
  | coolantDegradedClear  -- COOLANT_DEGRADED_CLEAR, R386
  | moduleLimitLower  -- MODULE_LIMIT_LOWER, R387
  | moduleLimitRaise  -- MODULE_LIMIT_RAISE, R387
  | coolantStop (cause : Nat)  -- COOLANT_STOP, R388
  | pllLockLoss (pll : Pll)  -- PLL_LOCK_LOSS, R444
  | relockAttemptEnd (pll : Pll) (ok : Bool)  -- RELOCK_ATTEMPT_END, R444
  | columnDeskew (stack : Nat) (failedSites : List Nat)  -- COLUMN_DESKEW, R443
  | moduleReferenceLoss  -- MODULE_REFERENCE_LOSS, R445
  | refclkMgmtLoss  -- REFCLK_MGMT_LOSS, R445
  | refclkMgmtRestore  -- REFCLK_MGMT_RESTORE, R445
  | resetComplete (scope target : Nat)  -- RESET_COMPLETE, R446
  | perstNAssert (widthUs : Nat)  -- PERST_N_ASSERT, R446
  | perstNDeassert (refclkOk : Bool)  -- PERST_N_DEASSERT, R633
  | functionLevelResetVf (fn : Nat)  -- FUNCTION_LEVEL_RESET_VF, R338
  | functionLevelResetPf  -- FUNCTION_LEVEL_RESET_PF, R499
  | vfEnableClear (numVfs : Nat)  -- VF_ENABLE_CLEAR, R499
  | busMasterEnableClear (fn : Nat)  -- BUS_MASTER_ENABLE_CLEAR, R499
  | busMasterEnableSet (fn : Nat)  -- BUS_MASTER_ENABLE_SET, R499
  | memorySpaceDisable (fn : Nat) (d3hot : Bool)  -- MEMORY_SPACE_DISABLE, R499
  | linkDown (downUs : Nat)  -- LINK_DOWN, R499
  | linkRecovery (downUs width rate : Nat)  -- LINK_RECOVERY, R499
  | s0Standby (romOk : Bool) (controllerRev : Nat) (dur : Nat)  -- S0_STANDBY, R454
  | s1Firmware (info : FwInfo) (fs : List Finding) (dur : Nat)  -- S1_FIRMWARE, R459
  | s2Rails (fs : List Finding) (dur : Nat)  -- S2_RAILS, R460
  | s3Discovery (disc : Discovery) (deckRev : Nat) (fs : List Finding) (dur : Nat)  -- S3_DISCOVERY, R461
  | s4Calibration (fs : List Finding) (dur : Nat)  -- S4_CALIBRATION, R463
  | s5Memory (fails : List CellFail) (dur : Nat)  -- S5_MEMORY, R464
  | retentionHoldEnd (stack group ms : Nat) (fails : List CellFail)  -- RETENTION_HOLD_END, R464
  | coldWarmingEnd (durS : Nat)  -- COLD_WARMING_END, R385
  | s6Repair (fs : List Finding) (dur : Nat)  -- S6_REPAIR, R466
  | s7KnownAnswer (fs : List Finding) (dur : Nat)  -- S7_KNOWN_ANSWER, R468
  | s8HostReady (fs : List Finding) (dur : Nat)  -- S8_HOST_READY, R469
  | s9Fabric (fs : List Finding) (dur : Nat)  -- S9_FABRIC, R549
  | stageResume  -- STAGE_RESUME, R474
  | stageSuspendTimeout  -- STAGE_SUSPEND_TIMEOUT, R474
  | mgPrivateWrite (bytes : List Byte)  -- MG_PRIVATE_WRITE, R577
  | mgPrivateRead (len : Nat)  -- MG_PRIVATE_READ, R577
  | i2cTransfer (addr : Nat) (write : Bool) (bytes : List Byte) (len : Nat)  -- I2C_TRANSFER, R573
  | entdaa (addr : Nat) (enumInHigh : Bool)  -- ENTDAA, R574
  | rstdaa  -- RSTDAA, R573
  | enec  -- ENEC, R588
  | disec  -- DISEC, R571
  | getpid  -- GETPID, R572
  | getbcr  -- GETBCR, R572
  | getdcr  -- GETDCR, R572
  | getstatus  -- GETSTATUS, R588
  | getmwl  -- GETMWL, R571
  | getmrl  -- GETMRL, R571
  | setmwl (len : Nat)  -- SETMWL, R571
  | setmrl (len : Nat)  -- SETMRL, R571
  | mgmtResetN (lowUs : Nat)  -- MGMT_RESET_N, R576
  | mgLogSeqWrite (value : Nat)  -- MG_LOG_SEQ_WRITE, R586
  | mgFwBufWrite (off : Nat) (bytes : List Byte)  -- MG_FW_BUF_WRITE, R587
  | coldStart  -- COLD_START, R583
  | moduleReset  -- MODULE_RESET, R583
  | wake  -- WAKE, R583
  | board  -- BOARD, R583
  | unboard  -- UNBOARD, R583
  | feed  -- FEED, R583
  | limit  -- LIMIT, R583
  | role  -- ROLE, R583
  | resume  -- RESUME, R583
  | fwBegin  -- FW_BEGIN, R587
  | mgFwChunk  -- MG_FW_CHUNK, R587
  | mgFwVerify (sigOk : Bool)  -- MG_FW_VERIFY, R587
  | mgFwActivate  -- MG_FW_ACTIVATE, R587
  | fwEnd  -- FW_END, R587
  | fwSessionTimeout  -- FW_SESSION_TIMEOUT, R587
  | inBandInterrupt  -- IN_BAND_INTERRUPT, R588
  | bypass  -- BYPASS, R639
  | idcode  -- IDCODE, R639
  | sample (pins : Nat)  -- SAMPLE, R639
  | extest  -- EXTEST, R639
  | clamp  -- CLAMP, R639
  | peepUnlock (serial challenge : Nat) (sigOk : Bool)  -- PEEP_UNLOCK, R640
  | peepRead (off len : Nat)  -- PEEP_READ, R640
  | logEntryWrite  -- LOG_ENTRY_WRITE, R599
  | retireSliceHoldTimeout (site : Nat)  -- RETIRE_SLICE_HOLD_TIMEOUT, R77
  | bridgeRetrainEnd (bridge : Nat) (ok : Bool)  -- BRIDGE_RETRAIN_END, R324
  | completionTimeout (ring : Ring) (copy : Bool)  -- COMPLETION_TIMEOUT, R490
  | hostLinkLoss  -- HOST_LINK_LOSS, R499
  | aerUncorrectableError (status : Nat)  -- AER_UNCORRECTABLE_ERROR, R604
  | feedBackInRange (feed volts : Nat)  -- FEED_BACK_IN_RANGE, R399
deriving DecidableEq, Repr

end Sys2Proof
end

