-- ==== Sys2Proof/Machine/Bytes.lean ====
section
/-! DEFINITION. Byte order, bit fields and sparse maps: the helpers every record, register and table of the
spec is packed and unpacked with. Multi-byte fields are little-endian everywhere (R7). -/

namespace Sys2Proof.Machine

/-- The byte a number's field shows at place `i` (R7: least significant first). -/
def byteAt (v i : Nat) : Byte := BitVec.ofNat 8 (v / 2 ^ (8 * i))

/-- `n` bytes of a number, least significant first. -/
def leBytes : Nat → Nat → List Byte
  | 0, _ => []
  | n + 1, v => BitVec.ofNat 8 v :: leBytes n (v / 256)

/-- The number a byte list spells, least significant first. -/
def leNat : List Byte → Nat
  | [] => 0
  | b :: bs => b.toNat + 256 * leNat bs

/-- `len` bytes at `off` of a record, as a number; bytes past the end read 0. -/
def getLe (bs : List Byte) (off len : Nat) : Nat := leNat ((bs.drop off).take len)

/-- Bits `[hi:lo]` of a number. -/
def bitsOf (v hi lo : Nat) : Nat := v / 2 ^ lo % 2 ^ (hi + 1 - lo)

/-- Bit `i` of a number. -/
def bitOf (v i : Nat) : Bool := v / 2 ^ i % 2 == 1

/-- 1 for true, 0 for false. -/
def b2n (b : Bool) : Nat := if b then 1 else 0

/-- One field of a record: offset, size in bytes, value. -/
structure Field where
  off : Nat
  size : Nat
  val : Nat
deriving DecidableEq, Repr

/-- The byte at offset `i` of a record made of `fs`; 0 where no field lies (reserved bytes are 0, R10). -/
def fieldByte (fs : List Field) (i : Nat) : Byte :=
  match fs with
  | [] => 0
  | f :: rest => if f.off ≤ i ∧ i < f.off + f.size then byteAt f.val (i - f.off) else fieldByte rest i

/-- A record of `n` bytes with the fields `fs`, every other byte 0. -/
def packRec (n : Nat) (fs : List Field) : List Byte := (List.range n).map (fieldByte fs)

/-- One bit field of a register: lowest bit, width, value. -/
def packBits : List (Nat × Nat × Nat) → Nat
  | [] => 0
  | (lo, w, v) :: rest => (v % 2 ^ w) * 2 ^ lo + packBits rest

/-- A register word from its fields (reserved bits 0). -/
def regWord (fs : List (Nat × Nat × Nat)) : Word := BitVec.ofNat 64 (packBits fs)

/-- Sets or clears bit `i` of a mask. -/
def setBit (v i : Nat) (b : Bool) : Nat :=
  if bitOf v i = b then v else if b then v + 2 ^ i else v - 2 ^ i

/-- The numbers below `n` whose bit is set in a mask. -/
def maskList (v n : Nat) : List Nat := (List.range n).filter (bitOf v)

/-- A saturating 64-bit counter's next value (R83, R367, R437, R451, R567, R607). -/
def sat64 (v by_ : Nat) : Nat := min (v + by_) (2 ^ 64 - 1)

/-- A saturating 32-bit counter's next value. -/
def sat32 (v by_ : Nat) : Nat := min (v + by_) (2 ^ 32 - 1)

/-- R145: `a` is at or beyond `b` in modulo-2³² arithmetic. -/
def seqGe (a b : Nat) : Bool := (a + 2 ^ 32 - b % 2 ^ 32) % 2 ^ 32 < 2 ^ 31

/-- R145: `a` is newer than `b`. -/
def seqNewer (a b : Nat) : Bool := seqGe a b && a % 2 ^ 32 != b % 2 ^ 32

/-- A signed number in `w` bits, two's complement. -/
def signedBits (w : Nat) (v : Int) : Nat := (v % (2 ^ w : Nat)).toNat

/-- Reads `w` bits as a signed number. -/
def toSigned (w v : Nat) : Int :=
  if v % 2 ^ w < 2 ^ (w - 1) then ((v % 2 ^ w : Nat) : Int) else ((v % 2 ^ w : Nat) : Int) - (2 ^ w : Nat)

/-- One bit of the CRC-16 with generator polynomial 0x8BB7 (R50). -/
def crcBit (c : Nat) : Nat := if 0x8000 ≤ c then (c * 2 % 0x10000) ^^^ 0x8BB7 else c * 2

/-- One byte of it, most significant bit first, without reflection. -/
def crc16Byte (c : Nat) (b : Byte) : Nat := (List.range 8).foldl (fun x _ => crcBit x) (c ^^^ (b.toNat * 256))

/-- The CRC-16 of bytes in order, from 0 (R50). -/
def crc16 (bs : List Byte) : Nat := bs.foldl crc16Byte 0

/-! Sparse maps. -/

/-- What a sparse map holds at `k`; `d` is what an unlisted key reads as. -/
def SMap.get {α : Type} (d : α) : SMap α → Nat → α
  | [], _ => d
  | (k', v) :: rest, k => if k = k' then v else SMap.get d rest k

/-- Drops what stands at `k`. -/
def SMap.drop {α : Type} (m : SMap α) (k : Nat) : SMap α := m.filter (fun c => c.1 != k)

/-- Writes `v` at `k`: a list in canonical form (keys rising, nothing listed that equals the default) stays so. -/
def SMap.set {α : Type} [DecidableEq α] (d : α) : SMap α → Nat → α → SMap α
  | [], k, v => if v = d then [] else [(k, v)]
  | (k', v') :: rest, k, v =>
    if k = k' then (if v = d then SMap.drop rest k else (k, v) :: rest)
    else if k < k' then (if v = d then (k', v') :: SMap.drop rest k else (k, v) :: (k', v') :: rest)
    else (k', v') :: SMap.set d rest k v

/-- Changes what stands at `k`. -/
def SMap.upd {α : Type} [DecidableEq α] (d : α) (m : SMap α) (k : Nat) (f : α → α) : SMap α :=
  SMap.set d m k (f (SMap.get d m k))

/-- Changes what stands at each of several keys. -/
def SMap.updAll {α : Type} [DecidableEq α] (d : α) (m : SMap α) (ks : List Nat) (f : α → α) : SMap α :=
  ks.foldl (fun acc k => SMap.upd d acc k f) m

/-- The canonical form of a sparse map. -/
def SMap.wf {α : Type} [DecidableEq α] (d : α) : SMap α → Bool
  | [] => true
  | [(_, v)] => decide (v ≠ d)
  | (k, v) :: (k', v') :: rest => decide (v ≠ d) && decide (k < k') && SMap.wf d ((k', v') :: rest)

/-! Small list operations. -/

/-- The entry at `i`, or the default given. -/
def nth {α : Type} (d : α) (l : List α) (i : Nat) : α := l.getD i d

/-- Replaces the entry at `i`, if there is one. -/
def setNth {α : Type} (l : List α) (i : Nat) (v : α) : List α := l.set i v

/-- Changes the entry at `i`, if there is one. -/
def modNth {α : Type} : List α → Nat → (α → α) → List α
  | [], _, _ => []
  | a :: l, 0, f => f a :: l
  | a :: l, i + 1, f => a :: modNth l i f

/-- Adds `x` to a list used as a set. -/
def insertNew {α : Type} [DecidableEq α] (x : α) (l : List α) : List α := if x ∈ l then l else l ++ [x]

/-- Counts the elements that satisfy `p`. -/
def countOf {α : Type} (p : α → Bool) (l : List α) : Nat := (l.filter p).length

/-- The first element that satisfies `p`, and the list without it. -/
def takeFirst {α : Type} (p : α → Bool) : List α → Option (α × List α)
  | [] => none
  | a :: l => if p a then some (a, l) else (takeFirst p l).map (fun r => (r.1, a :: r.2))

/-- Changes the first element that satisfies `p`. -/
def modFirst {α : Type} (p : α → Bool) (f : α → α) : List α → List α
  | [] => []
  | a :: l => if p a then f a :: l else a :: modFirst p f l

/-- Writes `new` over a byte list from `off` on; the length is kept. -/
def overlay (old : List Byte) (off : Nat) (new : List Byte) : List Byte :=
  old.take off ++ (new.take (old.length - off)) ++ old.drop (off + new.length)

end Sys2Proof.Machine
end

