-- ==== Sys2Proof/Config.lean ====
section
/-! DEFINITION. What one implementation or one module fixes, and the values the spec leaves open. The free
values are opaque: no proof can see them, so whatever is proved holds for every value of them. -/

namespace Sys2Proof.Config

/-- Sizes of the module (R13, R27, R29, R373): decks, clusters, core sites, stacks, bridges, sensors. -/
def decks : Nat := 10
def clusters : Nat := 640
def sites : Nat := 10240
def stackCount : Nat := 40
def bridges : Nat := 13
def sensors : Nat := 3843
def partitions : Nat := 64
def functions : Nat := 64
def ports : Nat := 4

/-- The smallest counts of each grade (R1): enabled cores and usable slices. -/
def minCores (grade : Nat) : Nat := if grade = 0 then 9984 else 9728
def minSlices (grade : Nat) : Nat := if grade = 0 then 10176 else 10112

/-- The module's serial number (R517, R572): 16 ASCII bytes as a number; the spec gives none. -/
opaque serial : BitVec 128

/-- MGMT_SA[2:0], the strap pins of the module's place in the rack (R573). -/
opaque mgmtSa : BitVec 3

/-- The fuse repair map of the module's decks (R466): kind code, unit, detail; each module has its own. -/
opaque fuseMap : List (Nat × Nat × Nat)

/-- The physical row of a site's array that the fuse repair map names, for the spare row to replace (R195, R466). -/
opaque spareRow : Nat → Option (Fin 32)

/-- What an image slot of module flash holds from the factory: slot and place (R521); each module has its own images. -/
opaque factoryByte : Nat → Nat → BitVec 8

/-! Free values. Each takes the operands it depends on, or the state's own counter for a fresh value. -/

/-- Place `i` of the BCH parity of a row at a strength code over the bytes it covers (R48, R49): the spec fixes the code's field
and length, not its generator polynomial nor the order of its bits. -/
opaque bchParity : Nat → List (BitVec 8) → Nat → BitVec 8

/-- Where in the slice-log part of the reserved area the retired-page bitmap begins (R38); the spec gives the part only. -/
opaque bitmapOff : Fin (0x1E0000 - 1008)

/-- A byte of the slice-log part that is not the bitmap: what the slice keeps there, by its place (R38). -/
opaque sliceLogByte : List Nat → Nat → BitVec 8

/-- A byte of the core microcode of a version, as the microcode copy holds it (R38, R467); each image has its own. -/
opaque microByte : Nat → Nat → BitVec 8

/-- A byte whose value the spec leaves undefined at the moment it is read or left behind (R312, R427, R518). -/
opaque freeByte : Nat → BitVec 8

/-- A register value the spec leaves undefined. -/
opaque freeWord : Nat → BitVec 64

/-- The 32-bit result of a vector or bank function that the spec bounds but does not state (R101, R105, R157):
the function's number and the operands. -/
opaque approx : Nat → BitVec 32 → BitVec 32

/-- The lane of an engine's reduction that term `i` of `n` falls in, and the two terms its tree adds next when `k` of `n` are left
(R101, R105, R157): the spec says lane by lane and then through a fixed tree, and gives neither. The engine's number first. -/
opaque sumLane : Nat → Nat → Nat → Nat
opaque sumTree : Nat → Nat → Nat → Nat × Nat

/-- Whether a lane of squares adds each square with one rounding or rounds the square first (R101, R157). -/
opaque fusedSquares : Bool

/-- The entries of a combine over a group with a failed bank (R125): poisoned, of no stated value. -/
opaque hurtSum : List (BitVec 32) → BitVec 32

end Sys2Proof.Config
end

