-- ==== Sys2Proof/Machine/State.lean ====
section
/-! DEFINITION. The whole state of the block, as plain data: every register, queue, counter, mode and pin the
spec gives the module, and the queue of commands waiting. A sparse map (SMap) lists only what differs from the
default of its record, so equal machines are equal data. Reset values are the spec's where it gives one; where
it gives none they are named in notes/assumptions. -/

namespace Sys2Proof.Machine

/-! ## The error log (chapter 20) -/

/-- An entry of the error log: header (R597) and the 48 bytes 16 to 63 of its family's layout. `key` holds the
unit fields that R600's folding compares. -/
structure Entry where
  seq : Nat := 0
  cls : Nat := 0
  event : Nat := 0
  flags : Nat := 0
  part : Nat := 0xFF
  time : Nat := 0
  repeats : Nat := 0
  key : List Nat := []
  body : List Byte := []
deriving DecidableEq, Repr

/-- The log's registers and ring (R596, R606 to R609); `pend` holds what was detected and not yet written
(R599), `recent` the times of corrected occurrences in the last second (R600). -/
structure Log where
  entries : List Entry := []
  newest : Nat := 0
  acked : Nat := 0
  ackedOnce : Bool := false
  intStatus : Nat := 0
  intEnable : Nat := 0
  threshold : Nat := 1
  counts : List Nat := [0, 0, 0, 0]
  lost : Nat := 0
  suppressed : Nat := 0
  shutdownRecord : Bool := false
  pend : List Entry := []
  recent : List (Nat × Nat) := []
  logged : Nat := 0
  accessAt : SMap Nat := []
  heldAt : SMap Nat := []
deriving DecidableEq, Repr

/-! ## The host port (chapter 16) -/

/-- A letterbox or a work ring: its registers (R489) and what is in flight. -/
structure RingRegs where
  base : Nat := 0
  size : Nat := 0
  tail : Nat := 0
  head : Nat := 0
  cplBase : Nat := 0
  cplSize : Nat := 0
  cplHead : Nat := 0
  cplTail : Nat := 0
  enable : Bool := false
  error : Bool := false
  mirrorOn : Bool := false
  mirror : Nat := 0
  taken : Nat := 0
  drops : Nat := 0
  seq : Nat := 0
deriving DecidableEq, Repr

/-- One MSI-X vector: table entry and pending bit. Vectors are masked at reset, as PCI Express has them. -/
structure Vector where
  addr : Nat := 0
  data : Nat := 0
  masked : Bool := true
  pending : Bool := false
deriving DecidableEq, Repr

/-- What leaves the host port, in order. -/
inductive HostTx where
  | readData (fn : Nat) (data : List Byte) (ep : Bool)      -- a read completion (SC)
  | unsupported (fn : Nat)                                  -- Unsupported Request
  | abort (fn : Nat)                                        -- Completer Abort
  | retry (fn : Nat)                                        -- Configuration Request Retry Status
  | memWrite (fn addr : Nat) (data : List Byte) (ep : Bool) -- a write to host memory
  | memRead (fn addr len : Nat)                             -- a read of host memory
  | msix (fn vec addr data : Nat)                           -- an MSI-X message
  | aer (fn kind : Nat)                                     -- a report through AER
deriving DecidableEq, Repr

/-- One function of the port: DEV_WINDOW (R480), the PCI Express enables (R499), Max Payload Size and Max Read Request Size as
codes of 128 bytes times a power of two (R477), MSI-X (R498), the upper-half latch (R612). -/
structure Func where
  window : Nat := 0
  busMaster : Bool := false
  memSpace : Bool := false
  d3hot : Bool := false
  maxPayload : Nat := 0
  maxRead : Nat := 2
  msixEnable : Bool := false
  vectors : SMap Vector := []
  latch : Option (Nat × Nat) := none
  held : List HostTx := []
deriving DecidableEq, Repr

/-- A completion waiting for its ring (R486): its bytes and the vector its notify asks for. -/
structure Cpl where
  ring : Ring
  bytes : List Byte
  vector : Option Nat
  reserved : Bool
deriving DecidableEq, Repr

/-- A host read waiting for its pieces (R482): each has the id of its own request; bytes still missing are `none`.
The read returns `len` bytes from `skip` on. -/
structure HostRead where
  fn : Nat
  skip : Nat
  len : Nat
  pieces : List (Nat × Option (List Byte))
  ep : Bool
deriving DecidableEq, Repr

/-- The port as a whole. `bells` are doorbell writes that wait for earlier posted writes of their function (R484). -/
structure Port where
  funcs : SMap Func := []
  letters : SMap RingRegs := []
  works : SMap RingRegs := []
  bar2Size : Nat := 64 * 2 ^ 30
  vfBar2Size : Nat := 64 * 2 ^ 30
  numVfs : Nat := 0
  linkUp : Bool := false
  linkLost : Bool := false
  width : Nat := 0
  rate : Nat := 0
  perst : Bool := true
  cfgReady : Bool := false
  creditsHeld : Bool := false
  out : List HostTx := []
  cpls : List Cpl := []
  reads : List HostRead := []
  bells : List (Ring × Nat) := []
  nextId : Nat := 0
  telLatch : Option (List Byte) := none
deriving DecidableEq, Repr

/-! ## Commands (chapter 17) -/

/-- The objects a command claims (R511). -/
inductive Claim where
  | partition (n : Nat)
  | tables (n : Nat)
  | slice (s : Nat)
  | tree (deck t : Nat)
  | epoch
  | slots
  | record
  | power
  | stack (k : Nat)
  | group (bridge g : Nat)
deriving DecidableEq, Repr

/-- Where a taken command stands: not yet begun, waiting for claims or its fence, waiting for a work fence
(R513), or running on until a later step ends it. -/
inductive Phase where
  | taken
  | waiting
  | fenceWait
  | running
deriving DecidableEq, Repr

/-- One command taken from a letterbox (R511). -/
structure CmdSlot where
  id : Nat
  fn : Nat
  opcode : Nat
  tag : Nat
  flags : Nat
  partition : Nat
  phase : Phase
  instr : Option Instr
  claims : List Claim
  cplFlags : Nat
  reserved : Bool
  effect : Bool
  info : List Nat
deriving DecidableEq, Repr

/-- The firmware's command engine: the commands in the order taken, the letterbox the rotation looks at next
(R511), expert rights (R510). -/
structure Engine where
  cmds : List CmdSlot := []
  nextId : Nat := 0
  rotation : Nat := 0
  rights : Nat := 0
  expertWindow : Bool := false
deriving DecidableEq, Repr

/-! ## Identity, epochs, images (chapters 15, 17, 21) -/

/-- An image slot (R459, R521): its state bits, the versions of its images, the 4 KiB chunks written since it left the factory. -/
structure Slot where
  valid : Bool := false
  active : Bool := false
  moduleVer : Nat := 0
  deckVer : Nat := 0
  microVer : Nat := 0
  chunks : SMap (List Byte) := []
deriving DecidableEq, Repr

/-- A value staged by MODE.PREPARE or by the fabric (R526, R554): kind (255: the default records of S9), scope, the bytes, the
manager it came from, whether this module issued it, whether it commits by itself once acknowledged (S9, a change of routes),
the modules whose acknowledgement is expected and those that came with
their epochs, the pause of a routing commit (R545): the epoch it will apply and the modules that have drained; the commands
that prepared it and that commit it. -/
structure Staged where
  kind : Nat
  scope : Nat
  value : List Byte
  manager : Nat
  mine : Bool
  auto : Bool
  expect : List Nat
  acks : List (Nat × Nat)
  pausing : Option Nat
  drained : List Nat
  cmd : Option Nat
  commit : Option Nat
deriving DecidableEq, Repr

/-- A stage report (R456). -/
structure Report where
  quick : Bool := false
  result : Nat := 0
  attempt : Nat := 0
  duration : Nat := 0
  fenced : Nat := 0
  cause : Nat := 0
  unit : Nat := 0
  detail : Nat := 0
deriving DecidableEq, Repr

/-- A unit out of service, as MEM.LIST_RETIRED lists it (R80). -/
structure RecEntry where
  kind : Nat
  source : Nat
  cause : Nat
  unit : Nat
  detail : Nat
deriving DecidableEq, Repr

/-- The bring-up engine and what module flash keeps (chapter 15); `macrosOff` are the deck edges, by deck × 4 + edge, whose macros stay
powered down (R30). -/
structure Bring where
  stage : Nat := 0
  active : Bool := false
  quick : Bool := false
  suspended : Bool := false
  stageFailed : Bool := false
  shortfall : Bool := false
  ready : Bool := false
  fabricReady : Bool := false
  reports : SMap Report := []
  fuse : List RecEntry := []
  record : List RecEntry := []
  recordValid : Bool := true
  imagesChanged : Bool := false
  orderly : Bool := true
  findings : List RecEntry := []
  shutdown : List Entry := []
  shutdownPending : Bool := false
  lossWritten : Bool := false
  lastTrip : Bool := false
  lastRail : Bool := false
  lastFeeds : Bool := false
  slots : List Slot := [{ valid := true, active := true }, {}]
  runModule : Nat := 0
  runDeck : Nat := 0
  micro : Nat := 0
  grade : Nat := 0
  deckRev : Nat := 0
  controllerRev : Nat := 0
  moduleRev : Nat := 0
  singleBond : Nat := 0
  macrosOff : List Nat := []
  decksFenced : List Nat := []
  warming : Bool := false
  weakRows : Nat := 0
  fails : List CellFail := []
deriving DecidableEq, Repr

/-- Epoch-governed settings (R526, R553 to R557). -/
structure Epochs where
  epoch : Nat := 0
  staged : List Staged := []
  algRecord : List Byte := []
  algEpoch : Nat := 0
  routeRecord : List Byte := []
  routeEpoch : Nat := 0
  powerEpoch : Nat := 0
  microEpoch : Nat := 0
  layoutEpoch : Nat := 0
deriving DecidableEq, Repr

/-! ## Power (chapter 13) -/

/-- One 48 V feed (R399, R400, R435): volts in 0.1 V, watts. -/
structure Feed where
  volts : Nat := 0
  watts : Nat := 0
  connected : Bool := false
  opened : Bool := false
  held : Bool := false
  ok : Bool := false
  outAt : Option Nat := none
deriving DecidableEq, Repr

/-- One cluster: operating point and its bounds (R407), cells (R411), ladder state (R419), louvres (R417),
thermal caps (R381, R382), its owner (R330). A bound of 7 binds nothing.
`pointHeld` keeps the operating point from rising at 97 °C and above, `clockStopped` is the thermal stop (R382), `off` a stop by a fatal
event or a fence (R593, R411). -/
structure Cluster where
  owner : Option Nat := none
  point : Nat := 4
  target : Nat := 4
  powerCap : Nat := 7
  thermalCap : Nat := 7
  throttleCap : Nat := 7
  pointHeld : Bool := false
  throttled : Bool := false
  clockStopped : Bool := false
  off : Bool := false
  guard : Bool := false
  lostCells : Nat := 0
  limp : Bool := false
  cellFenced : Bool := false
  routerFenced : Bool := false
  functionView : Bool := true
  hintRaised : Bool := false
  current : Nat := 0
  boosts : Nat := 0
  ladder : Nat := 0
  waking : Bool := false
  louvres : Nat := 8
  louvreAt : Nat := 0
  interval : Nat := 1
  sliceIsland : Bool := false
  marginSince : Option Nat := none
  logicMv : Nat := 0
  memMv : Nat := 0
deriving DecidableEq, Repr

/-- The power manager and the PWR block. `moduleState` is 3 in Sealed, 4 in Boarded, else 0. -/
structure Power where
  feedA : Feed := {}
  feedB : Feed := {}
  vib : Bool := false
  vdram : Bool := false
  vpp : Bool := false
  vlink : Bool := false
  standby : Bool := false
  pwrGood : Bool := false
  limit : Nat := 4400
  brake : Bool := false
  limited : Bool := false
  overSince : Option Nat := none
  brakeLow : Option Nat := none
  underSince : Option Nat := none
  inputW : Nat := 0
  hint : Bool := false
  autoAjar : Bool := true
  halfSlowOn : Bool := true
  idleAjar : Nat := 50
  idleShutter : Nat := 0
  rings : SMap (List Nat) := []
  ringTime : Nat := 0
  intStatus : Nat := 0
  intEnable : Nat := 0
  brakes : Nat := 0
  stretches : Nat := 0
  select : Nat := 0
  hold : Nat := 0
  moduleState : Nat := 0
  eighths : Nat := 0
  sealing : Bool := false
deriving DecidableEq, Repr

/-! ## Heat (chapter 12) -/

/-- One sensor (R373 to R378, R397); temperatures in 1/8 °C. -/
structure Sensor where
  reading : Int := 0
  prev : Int := 0
  est : Int := 0
  forecast : Int := 0
  valid : Bool := false
  suspect : Bool := false
  suspectAt : Nat := 0
  calm : Option Nat := none
  disarmed : Bool := false
  period : Nat := 0
  risen : Option Nat := none
  sampledAt : Nat := 0
deriving DecidableEq, Repr

/-- The thermal manager and the THM block. -/
structure Thermal where
  sensors : SMap Sensor := []
  bands : SMap Nat := []
  groupTemp : SMap Int := []
  peaks : SMap Int := []
  flow : Nat := 0
  flowPresent : Bool := false
  pulses : Nat := 0
  thermalLimit : Nat := 4400
  alert : Bool := false
  tripPin : Bool := false
  tripSeen : Bool := false
  tripAt : Option Nat := none
  tripSensor : Nat := 0xFFFF
  degraded : Bool := false
  stop : Bool := false
  stopAt : Nat := 0
  flowMin : Nat := 450
  riseMargin : Nat := 3
  pulsesPerLitre : Nat := 600
  intStatus : Nat := 0
  intEnable : Nat := 0
  select : Nat := 0
  moduleHold : Bool := false
  holdSince : Option Nat := none
  flowOkSince : Option Nat := none
  coolSince : Option Nat := none
deriving DecidableEq, Repr

/-! ## Clocks and resets (chapter 14) -/

/-- A reset in progress: scope as CLK_RESET codes it, target, cause, and the command it answers. -/
structure ResetRun where
  scope : Nat
  target : Nat
  cause : Nat
  cmd : Option Nat
deriving DecidableEq, Repr

/-- The CLK block. -/
structure Clocks where
  refOk : Bool := true
  mgmtRefOk : Bool := false
  hostRefOk : Bool := false
  halfSlow : Nat := 0
  relocks : List (Pll × Nat) := []
  deskewAt : SMap Nat := []
  deskewWanted : Nat := 0
  lockLosses : Nat := 0
  deskews : Nat := 0
  intStatus : Nat := 0
  intEnable : Nat := 0
  resetScope : Nat := 0
  resetCause : Nat := 0
  resetTarget : Nat := 0
  resets : List ResetRun := []
deriving DecidableEq, Repr

/-! ## Memory slices and banks (chapters 2 and 3) -/

/-- One row's metadata (R51): the poison bit and the poison's source; the strength code and the owning partition at the last
write, each plus 1 (0: not written since the slice's last zero fill, whose strength and partition the slice keeps); `fresh`
marks a row written since its eighth last lost its content (R427). -/
structure RowMeta where
  poison : Bool := false
  source : Nat := 0
  strength : Nat := 0
  part : Nat := 0
  fresh : Bool := false
deriving DecidableEq, Repr

/-- An entry of the merge buffer or a slot of the write-hold queue (R53, R61): the row (row × 64 + bank), its valid
bytes as value + 1 (0: not valid), the poison flag, the class its flush competes in (8: a host slot), whether its
flush is due, the event type that a poison write-back carries (0: none, the poison came with a write). -/
structure MergeEntry where
  row : Nat
  bytes : SMap Nat
  poison : Bool
  cls : Nat
  due : Bool
  source : Nat := 0
deriving DecidableEq, Repr

/-- A waiting access at a slice (R43) and when it arrived. -/
structure Waiting where
  req : MemReq
  at_ : Nat
deriving DecidableEq, Repr

/-- A bank-op sequence queued at a slice (R108): which, its next step, whether that step runs and is in its second part
(R76), the banks whose correction detour waits for its grant with the bit errors found (R112), how many microseconds its steps
have been held here (R117). -/
structure SliceSeq where
  id : Nat
  step : Nat
  inStep : Bool
  second : Bool := false
  detours : List (Nat × Nat) := []
  held : Nat := 0
deriving DecidableEq, Repr

/-- A row that a MEM.SCRUB_RANGE has named and that waits for its grant (R79): the row, the bit errors it shows, the class, the
command. -/
structure ScrubJob where
  row : Nat
  errs : Nat
  cls : Nat
  cmd : Nat
deriving DecidableEq, Repr

/-- One slice controller. `state` 0 usable, 1 orphan, 2 unusable (R90). Bit e of `undef` marks eighth e's rows below
4,032 as of undefined content after Sealed, bit 8 the reserved area's (R427). `filled` is the partition of the last zero fill
(R51, R52); `scrubDue` says that the scrub read in turn waits for its grant, `scrubQueue` holds the rows of MEM.SCRUB_RANGE
(R43); `stepEndAt` is the time the last bank-op step ended (R116). -/
structure Slice where
  state : Nat := 2
  strength : Nat := 1
  merge : List MergeEntry := []
  rowQueue : List Waiting := []
  holdQueue : List MergeEntry := []
  waiting : List Waiting := []
  grants : List Nat := []
  mins : List Nat := [1, 1, 1, 1]
  owed : SMap Nat := []
  corrected : Nat := 0
  uncorrectable : Nat := 0
  sinceScrub : List Nat := []
  retiredPages : List Nat := []
  retiredBank : Option Nat := none
  retries : List Nat := []
  parityRetries : Nat := 0
  bankSeqs : List SliceSeq := []
  stepEndAt : Nat := 0
  holdSlots : List Waiting := []
  failedUnits : List Nat := []
  scrubRow : Nat := 0
  scrubDue : Bool := false
  scrubQueue : List ScrubJob := []
  skipped : List Nat := []
  passes : Nat := 0
  filled : Nat := 0
  selfRefresh : Bool := false
  undef : Nat := 0
deriving DecidableEq, Repr

/-- A pane's 64-byte sector, or a statistic entry: its bytes, valid and poison bits. -/
structure Cell64 where
  bytes : List Byte := []
  valid : Bool := false
  poison : Bool := false
deriving DecidableEq, Repr

/-- One bank's arithmetic unit (R91, R93): panes A and B, statistic registers S0 to S3, and their issuers. -/
structure BankUnit where
  paneA : SMap Cell64 := []
  paneB : SMap Cell64 := []
  issuerA : Option Nat := none
  issuerB : Option Nat := none
  stats : SMap Cell64 := []
  statIssuer : List (Option Nat) := [none, none, none, none]
deriving DecidableEq, Repr

/-- A bank-op record in flight: the partition it acts for, its issuer as R93 tells issuers apart (core site × 65,536 +
context number, or 2^40 + function), the core's site, thread and descriptor or the command its completion goes to, its
32 bytes, the slices in scope, those still at work, the decks whose transom still holds it, what it reports (R128), and the
hold limit in ms (R117). -/
structure BankSeq where
  id : Nat
  part : Nat
  issuer : Nat
  core : Option (Nat × Nat × Nat)
  cmd : Option Nat
  record : List Byte
  targets : List Nat
  pending : List Nat
  undelivered : List Nat
  stop : Bool
  status : Nat
  finished : Nat
  stopped : Nat
  steps : Nat
  skipped : Nat
  poisoned : Nat
  holdLimit : Nat
deriving DecidableEq, Repr

/-- A response on its way to its requester (R301): the request it answers, without the data of a write; `accept` a write acceptance,
else data with their poison, none for an address fault. -/
structure Response where
  req : MemReq
  accept : Bool
  data : List Byte
  poison : Bool
deriving DecidableEq, Repr

/-- The memory system: bytes at 48-bit device physical addresses in one canonical form (an unlisted byte reads
0), row metadata by row address / 2048, slices, bank units, and the MEM block's registers. -/
structure Mem where
  bytes : List Host.Cell := []
  meta_ : SMap RowMeta := []
  slices : SMap Slice := []
  units : SMap BankUnit := []
  seqs : List BankSeq := []
  transom : SMap (List Nat) := []
  responses : List Response := []
  nextSeq : Nat := 0
  corrCount : Nat := 0
  uncorrCount : Nat := 0
  poisonReads : Nat := 0
  parityRetries : Nat := 0
  wbDrops : Nat := 0
  intStatus : Nat := 0
  intEnable : Nat := 0
  scrubHours : Nat := 24
  select : Nat := 0
  bkSteps : Nat := 0
  failedCount : Nat := 0
  stateFaults : Nat := 0
deriving DecidableEq, Repr

/-! ## Cores (chapters 4 to 7) -/

/-- A control-stack entry (R141). -/
inductive Frame where
  | loop (start stop left : Nat) (incs : List (Nat × Nat))
  | call (ret : Nat)
deriving DecidableEq, Repr

/-- One memory request of a descriptor that is on its way (R240, R250): its number, where its bytes stand in the
descriptor's sequence, how many they are, where they begin in the data that return, whether it is a demand request (R245),
the address it goes to, and, for a feed stream, the bytes that have arrived before their turn. -/
structure Piece where
  seq : Nat
  pos : Nat
  len : Nat
  skip : Nat
  demand : Bool
  addr : Nat := 0
  data : Option (List Byte × Bool)
deriving DecidableEq, Repr

/-- A descriptor that was issued and has not completed: its class (0 STR, 1 KH, 2 MX, 3 VX, 4 BK, 5 NR, as SY.FENCE
numbers them), its bytes and program address; for a KH or NR descriptor how far its requests have been issued and which
are on their way; whether all its effects have taken place. -/
structure InFlight where
  id : Nat
  cls : Nat
  bytes : List Byte
  pc : Nat
  next : Nat
  pieces : List Piece
  done : Bool
deriving DecidableEq, Repr

/-- What the fetch unit holds for one program position: a descriptor, or the fault its decoding will raise, with
the address of a malformed table entry (R132, R348). -/
inductive Fetched where
  | desc (bytes : List Byte)
  | fail (code cause addr : Nat) (bad : Option Nat)
deriving DecidableEq, Repr

/-- The work item a thread holds (R131, R267). -/
structure Item where
  part : Nat
  seq : Nat
  ctx : Nat
  pc : Nat
  args : List Word
  thread : Nat
  epoch : Nat
  merge : Bool
  triple : Nat
  hint : Nat
deriving DecidableEq, Repr

/-- One thread (chapter 4). Register X0 is not stored: it reads 0 (R135). `fetchBuf` holds what was fetched from `pc` on,
`fetchSeen` what the fetch buffer still holds from before `pc`, with its addresses, `fetchPos` the next address to fetch, `fetching` the
sectors on their way in program order, with what a later one brought ahead of an earlier, `wait` the descriptor that waits at issue. -/
structure Thread where
  pc : Nat := 0
  regs : SMap Word := []
  status : Nat := 0
  stack : List Frame := []
  fetchBuf : List Fetched := []
  fetchSeen : List (Nat × Fetched) := []
  fetchPos : Nat := 0
  fetching : List (Nat × Option (List Fetched)) := []
  item : Option Item := none
  halted : Bool := false
  wait : Option (List Byte) := none
  flight : List InFlight := []
  faultCode : Nat := 0
  faultCause : Nat := 0
  faultOp : Nat := 0
  faultValid : Bool := false
  faultDesc : Nat := 0
  faultAddr : Nat := 0
  nextId : Nat := 0
deriving DecidableEq, Repr

/-- A stream slot (R240): the descriptor with its base and scratchpad offset as issued, its thread and the number of its
InFlight, the next byte of its sequence to request, the requests on their way, a feed stream's bytes that wait for the
array with their poison, whether it stopped at `pos` on a prefetch fault (R245), whether it was cancelled (R247). -/
structure Stream where
  desc : List Byte := []
  thread : Nat := 0
  id : Nat := 0
  base : Nat := 0
  off : Nat := 0
  pos : Nat := 0
  pieces : List Piece := []
  feed : List (Byte × Bool) := []
  stopped : Bool := false
  cancelled : Bool := false
deriving DecidableEq, Repr

/-- A half of the matrix array (chapter 5), the whole array in whole mode: weights as code words by row × 32 + column,
column scales from key 1,024 on; the tile records [format, rows, columns]; whether the shadow buffer waits for its swap; the
three queues (descriptor number and bytes); the feeder queues, 16 entries to a row, by the packed vectors that they hold of the run at
the head of its queue (R179); accumulators by lane × 32 + entry, and per bank from key bank × 64 on the number type of its last
overwriting run (0 none yet, 1 FP32, 2 INT32), the latched in_scale, the 32 latched column scales, and the number type of each entry
(R180). -/
structure ArrayHalf where
  active : SMap Word := []
  shadow : SMap Word := []
  activeInfo : List Nat := []
  shadowInfo : List Nat := []
  shadowFull : Bool := false
  weights : List (Nat × List Byte) := []
  runs : List (Nat × List Byte) := []
  drains : List (Nat × List Byte) := []
  feeder : List Byte := []
  acc : SMap Word := []
  accInfo : SMap Nat := []
  fenced : Bool := false
deriving DecidableEq, Repr

/-- The scratchpad (chapter 7). Bytes by physical offset; bad-parity bytes and poisoned 64-byte lines by number; the
background test's region and the bank cycle it is in (0 to 87; 100: the core is marked for fencing, R239). The test's shadow
serves every access to its region (R236), so the bytes here are what every requester sees. -/
structure Scratch where
  bytes : SMap Byte := []
  badParity : List Nat := []
  poison : List Nat := []
  region : Nat := 0
  phase : Nat := 0
deriving DecidableEq, Repr

/-- A saved context (R356): the thread with its registers, stack and queued descriptors, its event counters, suspended
streams and MX state with the array mode, the poison bits of its scratchpad lines. The image itself lies in the slice's
reserved area. -/
structure SavedCtx where
  th : Thread
  counters : SMap Nat
  streams : SMap Stream
  half : ArrayHalf
  split : Bool
  poison : List Nat
deriving DecidableEq, Repr

/-- One core site. Event counters belong to the core (R145, R170); `switching` lists the threads whose switch is under way,
`due` those whose switch waits for the slice's layer groups (R355), `saved0` and `saved1` their saved contexts; `spare` is the physical
row the spare row replaces, loaded at a core reset (R195); `lastSlot` is the stream slot served last (R240), `late` the keyhole reads still on their way after a
fault that stopped the path: thread, request number, scratchpad offset (R251). -/
structure Core where
  enabled : Bool := false
  fenced : Bool := false
  t0 : Thread := {}
  t1 : Thread := {}
  counters : SMap Nat := []
  split : Bool := false
  wholePending : Bool := false
  half0 : ArrayHalf := {}
  half1 : ArrayHalf := {}
  streams : SMap Stream := []
  lastSlot : Nat := 15
  late : List (Nat × Nat × Nat) := []
  scratch : Scratch := {}
  queue : List Item := []
  spare : Option Nat := none
  micro : Nat := 0
  holdOnFault : Bool := false
  stallSelect : Nat := 0
  stalls : SMap Nat := []
  cycles : Nat := 0
  latched : SMap Nat := []
  latchedCycles : Nat := 0
  prefetchDrops : Nat := 0
  switching : List Nat := []
  due : List Nat := []
  saved0 : Option SavedCtx := none
  saved1 : Option SavedCtx := none
deriving DecidableEq, Repr

/-! ## Partitions and the dispatcher (chapters 8, 9, 11) -/

/-- A stop in progress (R340, R341): its target, the partition it lies in, whether it has become an ABORT, the commands it
answers, whether a teardown follows, and the items it cancelled and saw completed. -/
structure Stop where
  target : Target
  part : Nat
  abort : Bool
  timeoutMs : Nat
  cmds : List Nat
  destroy : Bool
  cancelled : Nat
  completed : Nat
deriving DecidableEq, Repr

/-- The chunk items of one row of a length table that a merge item combines (R270): how many have still to end, whether all
that ended did so well, the core and the merge item itself. -/
structure Chunk where
  triple : Nat
  left : Nat
  ok : Bool
  site : Nat
  item : Item
deriving DecidableEq, Repr

/-- A work packet taken from a ring (R493). `header` and `lists` are what the dispatcher read of a length table: the header and
each head group's core list; `pos` is where creation stands: entry, tile, group, chunk; of a copy: the bytes on their way and
their device address, and whether they are already at the slice. `at_` is the address of its ring entry. -/
structure Packet where
  seq : Nat
  bytes : List Byte
  started : Bool
  done : Bool
  status : Nat
  created : Nat
  ok : Nat
  faulted : Nat
  cancelled : Nat
  skipped : Nat
  moved : Nat
  pos : List Nat
  fault : List Byte
  result : Nat
  running : Nat
  info : List Nat
  chunks : List Chunk
  header : List Byte
  lists : List (List Nat)
  at_ : Nat
deriving DecidableEq, Repr

/-- A context (R353): which item, where its image is saved. -/
structure Ctx where
  num : Nat
  site : Nat
  item : Item
  saved : Bool
deriving DecidableEq, Repr

/-- One partition (R333, R370); `nodes` are the live nodes of its table pool: address, size, and level 0 to 3 or 4 for a
stripe record. State 0 Empty, 1 Creating, 2 Active, 3 Draining, 4 Aborting, 5 Disabled,
6 Tearing down. -/
structure Part where
  state : Nat := 0
  strength : Nat := 1
  share : Nat := 0
  quantum : Nat := 10
  watchdog : Nat := 1000
  priority : Nat := 0
  root : Nat := 0
  pool : List (Nat × Nat) := []
  nodes : List (Nat × Nat × Nat) := []
  nextCtx : Nat := 0
  ctxWrapped : Bool := false
  contexts : List Ctx := []
  packets : List Packet := []
  hold : Bool := false
  switches : Nat := 0
  faults : Nat := 0
  walks : Nat := 0
  deferred : Nat := 0
  layoutEpoch : Nat := 0
deriving DecidableEq, Repr

/-- A layout change on its way (R337): creation or teardown with these clusters, its command, and the disable commands that
complete with it (R342). -/
structure LayoutRun where
  part : Nat
  clusters : List Nat
  create : Bool
  cmd : Nat
  cancelled : Nat
  completed : Nat
  joined : List Nat := []
deriving DecidableEq, Repr

/-- The partitions and the PRT block. `lastTake`, `lastCreate`, `lastCopy` are the partitions whose ring was served last, of which a packet's
item was created last, whose copy was given a slot last (R357). -/
structure Parts where
  parts : SMap Part := []
  intStatus : Nat := 0
  intEnable : Nat := 0
  layout : Option LayoutRun := none
  stops : List Stop := []
  lastTake : Nat := 63
  lastCreate : Nat := 63
  lastCopy : Nat := 63
deriving DecidableEq, Repr

/-! ## The deck network (chapter 10) -/

/-- A packet between cores in flight in the network (R300, R301): its kind (1 NR_SEND, 2 NR_GATHER, 3 NR_BCAST, 4 SIGNAL,
5 NR_ACK, 6 NR_NACK), where it comes from and goes to (a core site, or 65,536 + deck for a collective engine), the thread and
descriptor it answers to, the landing offset (of a NACK: the program address), its data and the numbers of its poisoned flits,
whether it is the last of its transfer, the counter it increments, the tag (of a signal: the context; of an engine's copy: the
issuing site), the parts (of an ACK: the count; of a NACK: the cause), the partition, whether it is held for its route (R326). -/
structure NetPkt where
  kind : Nat
  src : Nat
  thread : Nat
  id : Nat
  dst : Nat
  off : Nat
  data : List Byte
  bad : List Nat
  last : Bool
  counter : Nat
  countOn : Bool
  tag : Nat
  parts : Nat
  part : Nat
  held : Bool
deriving DecidableEq, Repr

/-- A reduction tree of a deck (R308): its partition, root site and member sites. -/
structure Tree where
  part : Nat
  root : Nat
  members : List Nat
  broken : Bool
deriving DecidableEq, Repr

/-- One member's contribution to a 64-byte address of an instance: its place among those its member sent on the tree's lane, format 0
FP32 or 1 BF16 (R310, R313). -/
structure Contribution where
  site : Nat
  order : Nat
  fmt : Nat
  data : List Byte
  poison : Bool
deriving DecidableEq, Repr

/-- What routers and engines hold for one 64-byte address of a reduction instance (R310); `spoiled` after a mismatch (R312). -/
structure Reduction where
  root : Nat
  part : Nat
  tree : Nat
  tag : Nat
  off : Nat
  spoiled : Bool
  got : List Contribution
deriving DecidableEq, Repr

/-- An instance as its root sees it (R312): the counter byte of the root's descriptor, the addresses still to arrive, whether
one has arrived. -/
structure RootInst where
  root : Nat
  part : Nat
  tree : Nat
  tag : Nat
  remote : Nat
  left : List Nat
  tracked : Bool
deriving DecidableEq, Repr

/-- A gather at its root: where the last packets seen of a tag landed, one place for each rank (R315). -/
structure Gather where
  root : Nat
  tag : Nat
  seen : List Nat
deriving DecidableEq, Repr

/-- A broadcast at a deck's collective engine (R316): whose it is, the cores it copies to, the acknowledgements counted. -/
structure DeckCast where
  deck : Nat
  src : Nat
  thread : Nat
  id : Nat
  cores : List Nat
  acks : Nat
deriving DecidableEq, Repr

/-- A bridge's lane group in one direction (R321 to R323): the receiver's next frame, whether it waits for a replay, the times
of its retries. -/
structure LaneGroup where
  live : Bool := true
  retraining : Bool := false
  sparesUsed : Nat := 0
  nextSeq : Nat := 0
  replaying : Bool := false
  retries : List Nat := []
deriving DecidableEq, Repr

/-- A bridge (R324): down, being retrained whole, the times its groups failed. -/
structure Bridge where
  down : Bool := false
  retraining : Bool := false
  groupFails : List Nat := []
deriving DecidableEq, Repr

/-- A packet that a router discarded; the loss is still to be reported (R302). -/
inductive LostPkt where
  | core (p : NetPkt)
  | request (r : MemReq)
  | response (r : Response)
deriving DecidableEq, Repr

/-- The network. `lost` lists discarded packets with the router that found them (R302), `heldCmds` requests of the host and of other
modules that wait for a route, each with the number of the host request that would come next (R318).
`trees` lists deck, number and tree; `groups` by bridge × 32 + direction × 16 + group; `ctrlErrs` the times of
control errors by cluster × 8 + port (R302); `newFences` the routers fenced since the tables in force were computed, and
whether event 0x33 is still to be logged (R318); `heldPairs` the endpoint pairs whose marker is on its way (R326);
`halfFreqAt` the time of each half's last change plus 1, `slowWanted` the halves to be clocked down (R307, R409); `transom`
the bank-ops that a deck's engine has sent on to another deck (R327). -/
structure Net where
  pkts : List NetPkt := []
  trees : List (Nat × Nat × Tree) := []
  reductions : List Reduction := []
  insts : List RootInst := []
  gathers : List Gather := []
  casts : List DeckCast := []
  groups : SMap LaneGroup := []
  bridges : SMap Bridge := []
  ctrlErrs : SMap (List Nat) := []
  newFences : List (Nat × Bool) := []
  heldPairs : List (Nat × Nat) := []
  halfFreqAt : SMap Nat := []
  slowWanted : List Nat := []
  transom : SMap (List Nat) := []
  lost : List (Nat × LostPkt) := []
  heldCmds : List (Nat × Instr) := []
deriving DecidableEq, Repr

/-! ## The fabric (chapter 18) -/

/-- One Dupieno port (R547, R548, R569). State 0 down, 1 training, 2 up x8, 3 up x4, 4 disabled. The link's two ends: the next
sequence number to send and to receive, credits by channel × 2 + dateline class (R536), transactions sent and not yet
acknowledged under the number of their last flit, transactions waiting with their class; replays without progress (R535),
training attempts, whether a nak is due. -/
structure FabPort where
  state : Nat := 0
  wrap : Bool := false
  peerId : Nat := 0
  peerPort : Nat := 0
  peerValid : Bool := false
  peerSerial : Nat := 0
  peerRole : Nat := 0
  retrains : Nat := 0
  corrected : Nat := 0
  uncorr : Nat := 0
  replays : Nat := 0
  txSeq : Nat := 0
  rxSeq : Nat := 0
  replayBuf : List (Nat × Trans) := []
  sameReplays : Nat := 0
  credits : List Nat := [0, 0, 0, 0, 0, 0, 0, 0]
  attempts : Nat := 0
  nakSent : Bool := false
  queue : List (Nat × Trans) := []
deriving DecidableEq, Repr

/-- An NR transfer that left through the fabric and waits for its ACK (R540, R548), with what was refused for a hold (R542). -/
structure FabXfer where
  tag : Nat
  dest : Nat
  site : Nat
  thread : Nat
  id : Nat
  held : List Trans
deriving DecidableEq, Repr

/-- A remote read or write of memory that this module serves (R541): whose it is, the pieces still at the slices, what has
come back. -/
structure RemoteOp where
  num : Nat
  port : Nat
  t : Trans
  left : List Nat
  data : List (Nat × List Byte)
  poison : Bool
deriving DecidableEq, Repr

/-- One STEP's payload as it arrived: step, chunk, the sender's place among the participants, bytes, poison, last (R558). -/
structure StepData where
  step : Nat
  chunk : Nat
  src : Nat
  data : List Byte
  poison : Bool
  last : Bool
deriving DecidableEq, Repr

/-- A collective instance of the engines (R327, R557 to R561): its tag, partition, op, lane, command, format 0 FP32 or 1 BF16,
algorithm epoch and algorithm; this module's place among the participants `devs` and who forms each chunk; the values this
module brings to each chunk (FP32 bits and poison); what has arrived and what has been sent (step, receiver, chunk); the moment
to which SLOW moved its deadline and its last progress; the output elements this module writes (device, chunk, place in the
chunk, address), whether they are written, and the WRITE_VAs not yet acknowledged, with those a hold refused. -/
structure Collective where
  tag : Nat
  part : Nat
  op : Nat
  lane : Nat
  cmd : Nat
  fmt : Nat
  epoch : Nat
  alg : Nat
  me : Nat
  devs : List Nat
  owners : List Nat
  own : List (List (Nat × Bool))
  got : List StepData
  sent : List (Nat × Nat × Nat)
  deadline : Nat
  progress : Nat
  outs : List (Nat × Nat × Nat × Nat)
  wrote : Bool
  writes : List (Trans × Bool)
deriving DecidableEq, Repr

/-- A firmware broadcast under way at its sender (R563): its number, the slot, the scope, whether it activates, its command, the
round of repair, and each receiver with its bitmap's missing chunks and its report (0 incomplete, 1 complete, 2 failed, 3 polled
and not heard). -/
structure Broadcast where
  num : Nat
  slot : Nat
  scope : Nat
  activate : Bool
  cmd : Nat
  round : Nat
  receivers : List (Nat × List Nat × Nat)
deriving DecidableEq, Repr

/-- A module as the lead manager knows it (R549): serial number, role, and for each live port the peer's serial number and
port. -/
structure TopoNode where
  serial : Nat
  role : Nat
  links : List (Nat × Nat × Nat)
deriving DecidableEq, Repr

/-- The fabric side of the module and the FAB block. `routes` and `nextRoutes` hold the table in force and the one for the next
commit, by device ID: 0 none, 1 to 4 port + 1, 5 local; `roster` the member numbers the lead manager's flash keeps (serial,
device ID), `members` the device IDs it has assigned since S9, `replan` that new tables wait for the epoch; `parent` is port + 1, 0 none; `lostAt` a time plus 1. -/
structure Fabric where
  ports : List FabPort := [{}, {}, {}, {}]
  deviceId : Nat := 0
  idValid : Bool := false
  manager : Nat := 0
  lead : Nat := 0
  x : Nat := 0
  y : Nat := 0
  role : Nat := 0
  roleConfig : Nat := 0
  scheme : Nat := 0
  routes : SMap Nat := []
  nextRoutes : SMap Nat := []
  nextScheme : Nat := 0
  roster : List (Nat × Nat) := []
  members : List Nat := []
  replan : Bool := false
  parent : Nat := 0
  hop : Nat := 0
  leadSerial : Option Nat := none
  conflict : Bool := false
  managerLost : Bool := false
  lostAt : Nat := 0
  acting : Bool := false
  actingGroup : Nat := 0
  paused : Bool := false
  drained : Bool := false
  slowTx : Bool := false
  admission : Nat := 0
  intStatus : Nat := 0
  intEnable : Nat := 0
  epochStalls : Nat := 0
  slowRx : Nat := 0
  slowAt : Option Nat := none
  ctlSeq : Nat := 0
deriving DecidableEq, Repr

/-- What is in flight on the fabric: what has left (port and transaction), transfers waiting for ACK, remote accesses served,
collectives, STEPs before their instance or held for an epoch (R553, R559), unanswered heartbeats, the latest records of
members, the latest hold report, the receiver's bitmap of a broadcast, the sender's broadcast, the topology reported, a value
being received in parts and from whom (R554). -/
structure FabFlight where
  out : List (Nat × Trans) := []
  xfers : List FabXfer := []
  serving : List RemoteOp := []
  colls : List Collective := []
  early : List Trans := []
  heldPkts : List (Nat × Trans) := []
  hbMissed : Nat := 0
  heartbeats : SMap (List Byte) := []
  holdReport : List Byte := []
  rxBitmap : List Nat := []
  rxState : Nat := 0
  rxFrom : Nat × Nat := (0, 0)
  tx : Option Broadcast := none
  topo : List TopoNode := []
  prep : List Byte := []
  prepFrom : Nat := 0
  nextOp : Nat := 0
  nextTag : Nat := 0
deriving DecidableEq, Repr

/-! ## The translation caches (R350) -/

/-- Whose translation cache: a core's, the host port's, the dispatcher's, a deck collective engine's. -/
inductive CacheOf where
  | core (site : Nat)
  | host
  | dispatcher
  | engine (deck : Nat)
deriving DecidableEq, Repr

/-- A leaf as a walk found it: the partition, the first address it maps, its level, where its entry stands, the entry, and the stripe
record of a striped one. -/
structure CachedLeaf where
  part : Nat
  va : Nat
  level : Nat
  at_ : Nat
  ent : Nat
  record : List Byte
deriving DecidableEq, Repr

/-- An upper-level entry of a core's walk cache: the node of `level` that maps addresses from `va` on. -/
structure CachedNode where
  part : Nat
  va : Nat
  level : Nat
  node : Nat
deriving DecidableEq, Repr

/-- What the caches hold, oldest first. -/
structure Tlbs where
  leaves : List (CacheOf × CachedLeaf) := []
  nodes : List (Nat × CachedNode) := []
deriving DecidableEq, Repr

/-- MODULE: everything but the two service ports and the queue. -/
structure Module where
  time : Nat := 0
  free : Nat := 0
  log : Log := {}
  port : Port := {}
  engine : Engine := {}
  bring : Bring := {}
  epochs : Epochs := {}
  power : Power := {}
  clusters : SMap Cluster := []
  thermal : Thermal := {}
  clocks : Clocks := {}
  mem : Mem := {}
  cores : SMap Core := []
  parts : Parts := {}
  net : Net := {}
  fab : Fabric := {}
  flight : FabFlight := {}
  tlb : Tlbs := {}
  telAlarm : Nat := 0
  telStatus : Nat := 0
  telEnable : Nat := 0
  telPrev : List Nat := [0, 0, 0]
  ibiCauses : List Nat := []
  fwSession : Bool := false
deriving DecidableEq, Repr

/-! ## The management port (chapter 19) and the test port (chapter 22) -/

/-- The I3C target and its registers. `up` says that the port answers (R589); `strap` is MGMT_SA as the standby rail came up (R573);
`seqAt` the time plus 1 of the last write of MG_LOG_SEQ (R579), `cursor` the sequence number the log cursor seeks (R586);
`answer`, `acked` and `ibiSent` what the last transfer brought, and the last in-band interrupt's byte. -/
structure Mgmt where
  up : Bool := false
  dynAddr : Option Nat := none
  enumOut : Bool := false
  strap : Nat := 0
  maxWrite : Nat := 256
  maxRead : Nat := 256
  ibiOn : Bool := false
  offset : Nat := 0
  errors : Nat := 0
  reqArg : Nat := 0
  reqBusy : Bool := false
  reqOp : Nat := 0
  reqTag : Nat := 0
  overrun : Bool := false
  doneTag : Nat := 0
  status : Nat := 0
  detail : Nat := 0
  cursor : Nat := 0
  seqAt : Nat := 0
  telLatch : List Byte := []
  entryLatch : List Byte := []
  fwBuf : SMap Byte := []
  sessionAt : Nat := 0
  answer : List Byte := []
  acked : Bool := false
  ibiSent : Option Nat := none
deriving DecidableEq, Repr

/-- The IEEE 1149.1 port (R639, R640): the instruction selected, the boundary register, whether the peephole trace is unlocked,
the challenge issued plus 1 (0: none), what the last data register shifted out. -/
structure Jtag where
  instr : Nat := 0xFF
  boundary : Nat := 0
  unlocked : Bool := false
  challenge : Nat := 0
  out : List Byte := []
deriving DecidableEq, Repr

/-- THE STATE: the queue of waiting commands, the two service ports, and the module. -/
structure State where
  pending : List Instr := []
  mgmt : Mgmt := {}
  jtag : Jtag := {}
  m : Module := {}
deriving DecidableEq, Repr

/-- Why a command stops the model. -/
inductive Fault where
  /-- Raised by every meaning when its command is ill-formed (a unit number outside R13's ranges, a record of
  the wrong length): no such command exists on the hardware. Safe: the model stops, it claims nothing. -/
  | illFormed
deriving DecidableEq, Repr

/-- Why a command is refused. -/
inductive Refusal where
  /-- Raised by an arm of exec whose meaning is not written. Safe: nothing is claimed. -/
  | notModelled (mnemonic : String)
deriving DecidableEq, Repr

/-- The machine right after reset: every field at the value the spec states, or that notes/assumptions name. -/
def State.reset : State := {}

end Sys2Proof.Machine
end

