-- ==== Sys2Proof/Machine/Ops.lean ====
section
/-! DEFINITION. The named operations every meaning is built from: access to the units of the module, its
geometry, the error log, the block interrupts, what leaves the host port. -/

namespace Sys2Proof.Machine

/-! ## Units -/

/-- Cluster `c` (deck × 64 + cluster, R13). -/
def Module.cl (m : Module) (c : Nat) : Cluster := SMap.get {} m.clusters c
/-- Changes cluster `c`. -/
def Module.updCl (m : Module) (c : Nat) (f : Cluster → Cluster) : Module :=
  { m with clusters := SMap.upd {} m.clusters c f }
/-- Changes every cluster of a list. -/
def Module.updCls (m : Module) (cs : List Nat) (f : Cluster → Cluster) : Module :=
  { m with clusters := SMap.updAll {} m.clusters cs f }
/-- Core site `s`. -/
def Module.core (m : Module) (s : Nat) : Core := SMap.get {} m.cores s
/-- Changes core site `s`. -/
def Module.updCore (m : Module) (s : Nat) (f : Core → Core) : Module :=
  { m with cores := SMap.upd {} m.cores s f }
/-- Changes every core of a list. -/
def Module.updCores (m : Module) (ss : List Nat) (f : Core → Core) : Module :=
  { m with cores := SMap.updAll {} m.cores ss f }
/-- Slice `s`. -/
def Module.slice (m : Module) (s : Nat) : Slice := SMap.get {} m.mem.slices s
/-- Changes slice `s`. -/
def Module.updSlice (m : Module) (s : Nat) (f : Slice → Slice) : Module :=
  { m with mem := { m.mem with slices := SMap.upd {} m.mem.slices s f } }
/-- Changes every slice of a list. -/
def Module.updSlices (m : Module) (ss : List Nat) (f : Slice → Slice) : Module :=
  { m with mem := { m.mem with slices := SMap.updAll {} m.mem.slices ss f } }
/-- Partition `n`. -/
def Module.part (m : Module) (n : Nat) : Part := SMap.get {} m.parts.parts n
/-- Changes partition `n`. -/
def Module.updPart (m : Module) (n : Nat) (f : Part → Part) : Module :=
  { m with parts := { m.parts with parts := SMap.upd {} m.parts.parts n f } }
/-- Function `fn` of the host port; 0 is the physical function. -/
def Module.func (m : Module) (fn : Nat) : Func := SMap.get {} m.port.funcs fn
/-- Changes function `fn`. -/
def Module.updFunc (m : Module) (fn : Nat) (f : Func → Func) : Module :=
  { m with port := { m.port with funcs := SMap.upd {} m.port.funcs fn f } }
/-- A ring's registers. -/
def Module.ring (m : Module) : Ring → RingRegs
  | .letter fn => SMap.get {} m.port.letters fn
  | .work n => SMap.get {} m.port.works n
/-- Changes a ring's registers. -/
def Module.updRing (m : Module) (r : Ring) (f : RingRegs → RingRegs) : Module :=
  match r with
  | .letter fn => { m with port := { m.port with letters := SMap.upd {} m.port.letters fn f } }
  | .work n => { m with port := { m.port with works := SMap.upd {} m.port.works n f } }
/-- Sensor `i` (R373). -/
def Module.sensor (m : Module) (i : Nat) : Sensor := SMap.get {} m.thermal.sensors i
/-- Changes sensor `i`. -/
def Module.updSensor (m : Module) (i : Nat) (f : Sensor → Sensor) : Module :=
  { m with thermal := { m.thermal with sensors := SMap.upd {} m.thermal.sensors i f } }
/-- Dupieno port `p`. -/
def Module.fport (m : Module) (p : Nat) : FabPort := nth {} m.fab.ports p
/-- Changes Dupieno port `p`. -/
def Module.updFport (m : Module) (p : Nat) (f : FabPort → FabPort) : Module :=
  { m with fab := { m.fab with ports := modNth m.fab.ports p f } }

/-! ## Geometry (R13, R27, R29, R373) -/

/-- The cluster a site belongs to; the deck of a cluster; the sites of a cluster. -/
def clusterOf (site : Nat) : Nat := site / 16
def deckOf (cluster : Nat) : Nat := cluster / 64
def sitesOf (cluster : Nat) : List Nat := (List.range 16).map (fun k => cluster * 16 + k)
/-- The clusters of a deck. -/
def clustersOf (deck : Nat) : List Nat := (List.range 64).map (fun k => deck * 64 + k)
/-- Column and row of a cluster on its deck. -/
def xOf (cluster : Nat) : Nat := cluster % 64 % 8
def yOf (cluster : Nat) : Nat := cluster % 64 / 8
/-- The cluster's half, numbered deck × 2 + half, west 0 and east 1 (R451). -/
def halfOf (cluster : Nat) : Nat := deckOf cluster * 2 + xOf cluster / 4
/-- The stack above a cluster: deck × 4 + quadrant (R29). -/
def stackOf (cluster : Nat) : Nat := deckOf cluster * 4 + yOf cluster / 4 * 2 + xOf cluster / 4
/-- The sub-quadrant of the stack a cluster lies under (R373). -/
def subQuadOf (cluster : Nat) : Nat := yOf cluster % 4 / 2 * 2 + xOf cluster % 4 / 2
/-- The 16 clusters under a stack. -/
def clustersUnder (stack : Nat) : List Nat := (clustersOf (stack / 4)).filter (fun c => stackOf c == stack)
/-- The clusters of a deck half. -/
def clustersOfHalf (half : Nat) : List Nat := (clustersOf (half / 2)).filter (fun c => halfOf c == half)
/-- All clusters, all sites. -/
def allClusters : List Nat := List.range Config.clusters
def allSites : List Nat := List.range Config.sites
/-- The stack a site's slice is in. -/
def stackOfSite (site : Nat) : Nat := stackOf (clusterOf site)
/-- Slice offset fields (R37): row, layer, bank (layer × 4 + bank in layer), sector. -/
def rowOf (off : Nat) : Nat := off / 2 ^ 17 % 4096
def layerOf (off : Nat) : Nat := off / 2 ^ 13 % 16
def bankOf (off : Nat) : Nat := off / 2 ^ 11 % 64
def sectorOf (off : Nat) : Nat := off / 64 % 32
/-- The slice offset of a row of a bank. -/
def rowOffset (bank row : Nat) : Nat := row * 2 ^ 17 + bank * 2 ^ 11
/-- The device physical address of a slice offset: site × 512 MiB (R14). -/
def devAddr (site off : Nat) : Nat := site * 2 ^ 29 + off
/-- The layer group of a site's row, numbered stack × 4 + group (R57). -/
def groupOf (site off : Nat) : Nat := stackOfSite site * 4 + layerOf off / 4

/-! ## The rows of a retired bank (R73) -/

/-- The donor bank of row `i` of retired bank `p`: the (i mod 63)-th bank other than `p`, counted from 0. -/
def donorBank (p i : Nat) : Nat := if i % 63 < p then i % 63 else i % 63 + 1
/-- Where a row, numbered row × 64 + bank, stands in the slice: rows of a retired bank stand in their donor rows, its reserved
rows 4,032 to 4,094 in row 4,095 of the other banks (R73). -/
def physRow (retired : Option Nat) (r : Nat) : Nat :=
  match retired with
  | none => r
  | some p =>
    if r % 64 ≠ p then r
    else if r / 64 < 4032 then (3968 + r / 64 / 63) * 64 + donorBank p (r / 64)
    else if r / 64 < 4095 then 4095 * 64 + donorBank p (r / 64 - 4032)
    else r
/-- The bank and the layer group that serve a row (R57, R73). -/
def Module.physBank (m : Module) (site r : Nat) : Nat := physRow (m.slice site).retiredBank r % 64
def Module.rowGroup (m : Module) (site r : Nat) : Nat := groupOf site (physRow (m.slice site).retiredBank r * 2048)

/-! ## Thermal state of a layer group (R57) -/

/-- The band of group `g`: 0 Cold, 1 Cool, 2 Warm, 3 Hot, 4 Over (R82). -/
def Module.band (m : Module) (g : Nat) : Nat := SMap.get 0 m.thermal.bands g
/-- A group is under write hold in Cold, Hot and Over (R57), or while a module-wide hold is in force (R64). -/
def Module.held (m : Module) (g : Nat) : Bool :=
  m.thermal.moduleHold || m.band g == 0 || m.band g == 3 || m.band g == 4
/-- A group in Over halts every access but refresh (R63). -/
def Module.halted (m : Module) (g : Nat) : Bool := m.band g == 4

/-! ## What leaves the host port -/

/-- A completion of a host request leaves at once. -/
def Module.answer (m : Module) (t : HostTx) : Module := { m with port := { m.port with out := m.port.out ++ [t] } }

/-- A request of the port's own: held while the function's Bus Master Enable is clear, or it is in D3hot (R499). -/
def Module.emit (m : Module) (fn : Nat) (t : HostTx) : Module :=
  if (m.func fn).busMaster ∧ !(m.func fn).d3hot then m.answer t else m.updFunc fn (fun f => { f with held := f.held ++ [t] })

/-- Sends MSI-X vector `v` of function `fn`, or leaves it pending while masked (R498). Before ready nothing
raises an interrupt (R473). -/
def Module.sendMsix (m : Module) (fn v : Nat) : Module :=
  let f := m.func fn
  let e := SMap.get {} f.vectors v
  if !m.bring.ready then m
  else if f.msixEnable && !e.masked then m.emit fn (.msix fn v e.addr e.data)
  else m.updFunc fn (fun f => { f with vectors := SMap.upd {} f.vectors v (fun e => { e with pending := true }) })

/-! ## Block interrupts (R498, R613) -/

/-- The blocks with a cause register. -/
inductive Blk where
  | err | mem | prt | thm | pwr | clk | fab | tel
deriving DecidableEq, Repr

/-- The physical function's vector of a block (R498). -/
def Blk.vector : Blk → Nat
  | .err => 1 | .mem => 2 | .prt => 3 | .thm => 4 | .pwr => 5 | .clk => 6 | .fab => 7 | .tel => 8

/-- The block's *_INT_STATUS. -/
def Module.status (m : Module) : Blk → Nat
  | .err => m.log.intStatus | .mem => m.mem.intStatus | .prt => m.parts.intStatus | .thm => m.thermal.intStatus
  | .pwr => m.power.intStatus | .clk => m.clocks.intStatus | .fab => m.fab.intStatus | .tel => m.telStatus

/-- The block's *_INT_ENABLE. -/
def Module.enables (m : Module) : Blk → Nat
  | .err => m.log.intEnable | .mem => m.mem.intEnable | .prt => m.parts.intEnable | .thm => m.thermal.intEnable
  | .pwr => m.power.intEnable | .clk => m.clocks.intEnable | .fab => m.fab.intEnable | .tel => m.telEnable

/-- Writes the block's *_INT_STATUS. -/
def Module.putStatus (m : Module) (b : Blk) (v : Nat) : Module :=
  match b with
  | .err => { m with log := { m.log with intStatus := v } }
  | .mem => { m with mem := { m.mem with intStatus := v } }
  | .prt => { m with parts := { m.parts with intStatus := v } }
  | .thm => { m with thermal := { m.thermal with intStatus := v } }
  | .pwr => { m with power := { m.power with intStatus := v } }
  | .clk => { m with clocks := { m.clocks with intStatus := v } }
  | .fab => { m with fab := { m.fab with intStatus := v } }
  | .tel => { m with telStatus := v }

/-- Writes the block's *_INT_ENABLE. -/
def Module.putEnables (m : Module) (b : Blk) (v : Nat) : Module :=
  match b with
  | .err => { m with log := { m.log with intEnable := v } }
  | .mem => { m with mem := { m.mem with intEnable := v } }
  | .prt => { m with parts := { m.parts with intEnable := v } }
  | .thm => { m with thermal := { m.thermal with intEnable := v } }
  | .pwr => { m with power := { m.power with intEnable := v } }
  | .clk => { m with clocks := { m.clocks with intEnable := v } }
  | .fab => { m with fab := { m.fab with intEnable := v } }
  | .tel => { m with telEnable := v }

/-- How many cause bits the block has (R87, R368, R396, R436, R452, R570, R609, R619). -/
def Blk.width : Blk → Nat
  | .err => 10 | .mem => 10 | .prt => 7 | .thm => 8 | .pwr => 6 | .clk => 5 | .fab => 11 | .tel => 3

/-- Sets cause bit `i`; a bit that becomes set while enabled sends the block's message once (R498). -/
def Module.setCause (m : Module) (b : Blk) (i : Nat) : Module :=
  let m1 := m.putStatus b (setBit (m.status b) i true)
  if !bitOf (m.status b) i && bitOf (m.enables b) i then m1.sendMsix 0 b.vector else m1

/-- A W1C write: each 1 clears its bit (R9). -/
def w1c (old value : Nat) : Nat := old - (old &&& value)

/-- A write of *_INT_ENABLE: an enable set while its cause stands sends one message (R498, R615). -/
def Module.writeEnables (m : Module) (b : Blk) (v : Nat) : Module :=
  let fresh := (List.range b.width).any (fun i => bitOf v i && !bitOf (m.enables b) i && bitOf (m.status b) i)
  let m1 := m.putEnables b (v % 2 ^ b.width)
  if fresh then m1.sendMsix 0 b.vector else m1

/-! ## In-band interrupt causes of the management port (R588) -/

/-- A cause is pending once, however often it occurred; kept in ascending order. -/
def Module.ibi (m : Module) (cause : Nat) : Module :=
  if cause ∈ m.ibiCauses then m
  else { m with ibiCauses := m.ibiCauses.filter (· < cause) ++ [cause] ++ m.ibiCauses.filter (cause < ·) }

/-! ## The error log (R596 to R608) -/

/-- An entry is detected: it joins the entries the module controller has still to write, in the order of
detection (R599). The header's time is the moment of detection. -/
def Module.detect (m : Module) (cls event part : Nat) (key : List Nat) (fs : List Field) : Module :=
  { m with log := { m.log with pend := m.log.pend ++
      [{ cls := cls, event := event, part := part, time := m.time % 2 ^ 48, key := key,
         body := (packRec 64 fs).drop 16 }] } }

/-- Which block's cause register an event sets, and which bit (R598, R87, R368, R396, R436, R452, R570). -/
def eventCause (e : Nat) : Option (Blk × Nat) :=
  match e with
  | 0x02 => some (.mem, 2) | 0x03 => some (.mem, 0) | 0x05 => some (.mem, 3) | 0x06 => some (.mem, 4)
  | 0x07 => some (.mem, 1) | 0x08 => some (.mem, 0) | 0x09 => some (.mem, 6) | 0x0D => some (.mem, 8)
  | 0x40 => some (.prt, 2) | 0x42 => some (.prt, 1) | 0x43 => some (.prt, 4) | 0x44 => some (.prt, 5)
  | 0x45 => some (.prt, 6) | 0x48 => some (.prt, 6)
  | 0x50 => some (.thm, 2) | 0x51 => some (.thm, 3) | 0x52 => some (.thm, 1) | 0x53 => some (.thm, 1)
  | 0x54 => some (.thm, 4) | 0x55 => some (.thm, 5)
  | 0x60 => some (.pwr, 0) | 0x61 => some (.pwr, 1) | 0x62 => some (.pwr, 2) | 0x63 => some (.pwr, 2)
  | 0x64 => some (.pwr, 2) | 0x65 => some (.pwr, 3)
  | 0x70 => some (.clk, 0) | 0x71 => some (.clk, 1) | 0x73 => some (.clk, 2) | 0x74 => some (.clk, 3)
  | 0x75 => some (.clk, 4)
  | 0x90 => some (.fab, 0) | 0x91 => some (.fab, 1) | 0x92 => some (.fab, 2) | 0x94 => some (.fab, 3)
  | 0x95 => some (.fab, 4) | 0x96 => some (.fab, 5) | 0x97 => some (.fab, 6) | 0x98 => some (.fab, 7)
  | 0x99 => some (.fab, 7) | 0x9A => some (.fab, 8) | 0x9B => some (.fab, 9)
  | 0xA0 => some (.err, 4)
  | _ =>
    if 0xA1 ≤ e ∧ e ≤ 0xA9 then some (.err, 5)
    else if 0x20 ≤ e ∧ e ≤ 0x25 then some (.err, 6)
    else if 0x30 ≤ e ∧ e ≤ 0x3C then some (.err, 7)
    else none

/-- The sequence number after `n`: upward from 1, 0 left out (R596). -/
def nextSeqNo (n : Nat) : Nat := if n ≥ 0xFFFFFFFF then 1 else n + 1

/-- How many entries the ring holds (R596). -/
def logCapacity : Nat := 4096

/-- An entry counts as unread while no acknowledgement has reached its number (R606). -/
def Log.isUnread (l : Log) (e : Entry) : Bool := !l.ackedOnce || seqNewer e.seq l.acked

/-- Entries newer than ERR_SEQ.acked that are still held (R608). -/
def Log.unread (l : Log) : Nat := (l.entries.filter l.isUnread).length

/-- Oldest sequence number held; 0 while the log is empty (R581, R608). -/
def Log.oldest (l : Log) : Nat := match l.entries with | [] => 0 | e :: _ => e.seq

/-- R606: a full ring overwrites its oldest entry; an unread one counts as lost. -/
def Log.dropOldest (l : Log) : Log × Bool :=
  match l.entries with
  | [] => (l, false)
  | e :: rest =>
    if l.entries.length < logCapacity then (l, false)
    else if l.isUnread e then ({ l with entries := rest, lost := sat64 l.lost 1 }, true)
    else ({ l with entries := rest }, false)

/-- The causes an entry raises once it is written: its class, its family, the threshold (R603, R608). -/
def Module.entryCauses (m : Module) (e : Entry) : Module :=
  let m1 := m.setCause .err e.cls
  let m2 := match eventCause e.event with | some (b, i) => m1.setCause b i | none => m1
  let m3 := if m2.log.threshold ≠ 0 ∧ m2.log.unread = m2.log.threshold then m2.setCause .err 8 else m2
  let m4 := if 1 ≤ e.part ∧ e.part < 64 ∧ 1 ≤ e.cls then m3.sendMsix e.part 1 else m3
  if 2 ≤ e.cls then m4.ibi 2 else m4

/-- Writes an entry at the newest end of the log (R596, R606). -/
def Module.writeEntry (m : Module) (e : Entry) : Module :=
  let r := m.log.dropOldest
  let s := nextSeqNo r.1.newest
  let e1 := { e with seq := s, flags := if r.2 then setBit e.flags 2 true else e.flags }
  let m1 := { m with log := { r.1 with
    entries := r.1.entries ++ [e1], newest := s, logged := r.1.logged + 1,
    counts := modNth r.1.counts e.cls (fun c => sat64 c 1) } }
  let m2 := if r.2 then m1.setCause .err 9 else m1
  m2.entryCauses e1

/-- R600: occurrences of a corrected type within the last second of module time. -/
def Log.recentOf (l : Log) (event now : Nat) : Nat :=
  (l.recent.filter (fun p => p.1 == event && now < p.2 + 1000000)).length

/-- The newest entry held with an occurrence's event type and unit fields (R600). -/
def Log.alike (l : Log) (e : Entry) : Option Entry := l.entries.reverse.find? (fun n => n.event == e.event && n.key == e.key)

/-- R600: the newest entry of the same type and unit folds an occurrence while it is less than 1 ms old and more
than 100 occurrences of the type arose in the last second. Only corrected entries fold. -/
def Log.folds (l : Log) (e : Entry) (now : Nat) : Bool :=
  match l.alike e with
  | none => false
  | some n => e.cls == 0 && n.cls == 0 && decide (now < n.time + 1000) && decide (100 < l.recentOf e.event now)

/-- Adds one to the repeats of the newest entry alike, saturating in 16 bits (R597, R600). -/
def Log.foldInto (l : Log) (e : Entry) : Log :=
  match l.alike e with
  | none => l
  | some n => { l with
      entries := l.entries.map (fun x => if x.seq = n.seq then { x with repeats := min (x.repeats + 1) 0xFFFF } else x),
      suppressed := sat64 l.suppressed 1 }

/-- The module controller writes one entry, or folds it (R599, R600). -/
def Module.logOne (m : Module) (e : Entry) : Module :=
  let l := if e.cls = 0 then
      { m.log with recent := (m.log.recent.filter (fun p => decide (m.time < p.2 + 1000000))) ++ [(e.event, m.time)] }
    else m.log
  let m1 := { m with log := l }
  if l.folds e m.time then { m1 with log := l.foldInto e } else m1.writeEntry e

/-- Takes the oldest entry that waits to be written (R599). -/
def Module.logFront (m : Module) : Module :=
  match m.log.pend with
  | [] => m
  | e :: rest => ({ m with log := { m.log with pend := rest } }).logOne e

/-- Writes everything that waits, oldest first. -/
def Module.logAll (m : Module) : Module :=
  m.log.pend.foldl (fun acc e => acc.logOne e) { m with log := { m.log with pend := [] } }

/-- The 64 bytes of an entry (R597). -/
def Entry.bytes (e : Entry) : List Byte :=
  packRec 16 [⟨0, 4, e.seq⟩, ⟨4, 1, e.cls⟩, ⟨5, 1, e.event⟩, ⟨6, 1, e.flags⟩, ⟨7, 1, e.part⟩, ⟨8, 6, e.time⟩,
    ⟨14, 2, e.repeats⟩] ++ e.body

/-! ## Families of entries -/

/-- The class of each event type (the event tables R82, R124, R254, R329, R366, R393, R432, R450, R476, R566,
R601, R602); none: no chapter defines the type (R598). -/
def eventClass (e : Nat) : Option Nat :=
  if e ∈ [0x01, 0x02, 0x04, 0x05, 0x09, 0x0A, 0x0B, 0x0C, 0x0D, 0x0E, 0x25, 0x31, 0x35, 0x36, 0x38, 0x3C,
      0x40, 0x42, 0x43, 0x46, 0x47, 0x50, 0x51, 0x52, 0x54, 0x57, 0x58, 0x59, 0x60, 0x61, 0x62, 0x63, 0x65,
      0x70, 0x73, 0x74, 0x75, 0x82, 0x83, 0x84, 0x90, 0x92, 0x95, 0x97, 0x98, 0x9A, 0x9C,
      0xA1, 0xA2, 0xA3, 0xA4, 0xA6, 0xA7] then some 0
  else if e ∈ [0x03, 0x07, 0x08, 0x0F, 0x11, 0x21, 0x24, 0x30, 0x39] then some 1
  else if e ∈ [0x06, 0x10, 0x20, 0x22, 0x23, 0x32, 0x33, 0x34, 0x37, 0x3A, 0x44, 0x45, 0x48, 0x53, 0x55, 0x64,
      0x66, 0x71, 0x81, 0x91, 0x94, 0x96, 0x99, 0x9B, 0xA0, 0xA5, 0xA8, 0xA9] then some 2
  else if e ∈ [0x56, 0x67, 0x68, 0x72, 0x80, 0x85, 0xAA] then some 3
  else none

/-- The class of a type, corrected where the table gives none. -/
def clsOf (e : Nat) : Nat := (eventClass e).getD 0

/-- The partition an event at a cluster concerns (R597). -/
def Module.partAt (m : Module) (cluster : Nat) : Nat := ((m.cl cluster).owner).getD 0xFF

/-- A host-side entry (R602). -/
def Module.hostEvent (m : Module) (event bar fn opcode status id addr detail : Nat) : Module :=
  m.detect (clsOf event) event (if fn < 64 then fn else 0xFF) [bar, fn, opcode]
    [⟨16, 1, event⟩, ⟨17, 1, bar⟩, ⟨18, 2, fn⟩, ⟨20, 1, opcode⟩, ⟨22, 2, status⟩, ⟨24, 8, id⟩, ⟨32, 8, addr⟩,
     ⟨40, 4, detail⟩]

/-- An entry of the link or of the module as a whole: it concerns no partition (R597, R602). -/
def Module.linkEvent (m : Module) (event detail : Nat) : Module :=
  m.detect (clsOf event) event 0xFF [0xFF, 0, 0xFF] [⟨16, 1, event⟩, ⟨17, 1, 0xFF⟩, ⟨20, 1, 0xFF⟩, ⟨40, 4, detail⟩]

/-- An error is raised to fatal: event 0xAA names the event it escalates, with flag [3] (R592, R597). -/
def Module.escalate (m : Module) (event : Nat) : Module :=
  let m1 := m.linkEvent 0xAA event
  { m1 with log := { m1.log with
    pend := m.log.pend ++ (m1.log.pend.drop m.log.pend.length).map (fun e => { e with flags := setBit e.flags 3 true }) } }

/-- A host access error, event 0xA1, at most once per 100 ms per BAR (R472, R483). -/
def Module.accessError (m : Module) (fn bar addr size : Nat) : Module :=
  let k := fn * 8 + bar
  let last := SMap.get 0 m.log.accessAt k
  if last ≠ 0 ∧ m.time < last - 1 + 100000 then m
  else ({ m with log := { m.log with accessAt := SMap.set 0 m.log.accessAt k (m.time + 1) } }).hostEvent
    0xA1 bar fn 0xFF 0 0 addr size

/-- Ring misuse is logged as a host access error and sets CONTROL.error (R490). -/
def Module.ringMisuse (m : Module) (r : Ring) (fn off : Nat) : Module :=
  (m.updRing r (fun q => { q with error := true })).accessError fn 0 off 8

/-- The strength code of a row (R51, R52): the slice's, or t = 32 in the reserved area. -/
def Module.strengthAt (m : Module) (site off : Nat) : Nat :=
  if 4032 ≤ rowOf off then 2 else (m.slice site).strength

/-- A memory entry (R82); layer, bank and row are the logical ones, the band is that of the group that serves the row. Which
sectors held an error is a physical fact the model does not have: a free value for the events a decode raises, else none. -/
def Module.memEntry (m : Module) (event site off bits cls flags req : Nat) : Module :=
  let c := clusterOf site
  let sectors := if event ∈ [0x01, 0x02, 0x03, 0x04, 0x08] then (Config.freeWord m.free).toNat % 2 ^ 32 else 0
  let moved := if (m.slice site).retiredBank = some (bankOf off) then 8 else 0
  ({ m with free := m.free + 1 }).detect (clsOf event) event (m.partAt c) [site, bankOf off, rowOf off]
    [⟨16, 2, site⟩, ⟨18, 1, layerOf off⟩, ⟨19, 1, bankOf off⟩, ⟨20, 2, rowOf off⟩, ⟨22, 1, event⟩,
     ⟨23, 1, m.strengthAt site off⟩, ⟨24, 2, bits⟩, ⟨26, 1, cls⟩,
     ⟨27, 1, m.band (m.rowGroup site (off / 2048))⟩, ⟨28, 4, sectors⟩, ⟨32, 8, devAddr site (off / 2048 * 2048)⟩,
     ⟨40, 2, if m.partAt c = 0xFF then 0xFFFF else m.partAt c⟩, ⟨42, 1, flags % 8 + moved⟩,
     ⟨44, 4, (m.slice site).corrected⟩, ⟨48, 2, req⟩]

/-- A memory entry that no core and no function asked for: the requester field reads 0xFFFF. -/
def Module.memEvent (m : Module) (event site off bits cls flags : Nat) : Module :=
  m.memEntry event site off bits cls flags 0xFFFF

/-- A scratchpad entry (R254). -/
def Module.padEvent (m : Module) (event cls site off mask requester thread flags source : Nat) : Module :=
  m.detect cls event (m.partAt (clusterOf site)) [site, off]
    [⟨16, 2, site⟩, ⟨18, 1, off / 8 % 16⟩, ⟨19, 1, event⟩, ⟨20, 4, off⟩, ⟨24, 1, mask⟩, ⟨25, 1, requester⟩,
     ⟨26, 1, thread⟩, ⟨27, 1, flags⟩, ⟨28, 2, source⟩, ⟨32, 8, 2 ^ 47 + site * 2 ^ 23 + off⟩]

/-- A network or bridge entry (R329). -/
def Module.netEvent (m : Module) (event deck cluster port bridge group lane vc tree live count tag addr src dest : Nat) :
    Module :=
  m.detect (clsOf event) event (if cluster < 64 then m.partAt (deck * 64 + cluster) else 0xFF)
    [deck, cluster, port, bridge, group, lane]
    [⟨16, 1, event⟩, ⟨17, 1, deck⟩, ⟨18, 1, cluster⟩, ⟨19, 1, port⟩, ⟨20, 1, bridge⟩, ⟨21, 1, group⟩,
     ⟨22, 1, lane⟩, ⟨23, 1, vc⟩, ⟨24, 1, tree⟩, ⟨25, 1, live⟩, ⟨26, 2, count⟩, ⟨28, 4, tag⟩, ⟨32, 8, addr⟩,
     ⟨40, 2, src⟩, ⟨42, 2, dest⟩]

/-- A partition entry (R366). -/
def Module.prtEvent (m : Module) (event part cause fn site va pa ctx count : Nat) : Module :=
  m.detect (clsOf event) event part [part, fn, site]
    [⟨16, 2, part⟩, ⟨18, 1, event⟩, ⟨19, 1, cause⟩, ⟨20, 2, fn⟩, ⟨22, 2, site⟩, ⟨24, 8, va⟩, ⟨32, 8, pa⟩,
     ⟨40, 2, ctx⟩, ⟨42, 2, count⟩]

/-- The module limit in force: the lower of the programmed and the thermal limit (R414). -/
def Module.effLimit (m : Module) : Nat := min m.power.limit m.thermal.thermalLimit

/-- A thermal entry (R393). -/
def Module.thermEvent (m : Module) (event sensor partner stack layer deck cluster : Nat) (expected : Int)
    (durationMs : Nat) : Module :=
  let s := m.sensor sensor
  let g := if stack < 40 then stack * 4 + layer / 4 else 0
  m.detect (clsOf event) event (if cluster < 64 ∧ deck < 10 then m.partAt (deck * 64 + cluster) else 0xFF)
    [sensor, stack, layer, deck, cluster]
    [⟨16, 2, sensor⟩, ⟨18, 1, event⟩, ⟨19, 1, if stack < 40 then m.band g else 0xFF⟩,
     ⟨20, 2, signedBits 16 s.reading⟩, ⟨22, 2, partner⟩,
     ⟨24, 2, if partner = 0xFFFF then 0 else signedBits 16 (m.sensor partner).reading⟩,
     ⟨26, 2, signedBits 16 expected⟩, ⟨28, 2, signedBits 16 s.forecast⟩, ⟨30, 1, stack⟩, ⟨31, 1, layer⟩,
     ⟨32, 1, deck⟩, ⟨33, 1, cluster⟩, ⟨34, 2, m.thermal.flow⟩,
     ⟨36, 2, signedBits 16 (m.sensor 3840).reading⟩, ⟨38, 2, signedBits 16 (m.sensor 3841).reading⟩,
     ⟨40, 2, m.effLimit⟩, ⟨44, 4, durationMs⟩]

/-- The shallowest ladder state of any cluster, or Sealed or Boarded (R419). -/
def Module.ladderState (m : Module) : Nat :=
  if 3 ≤ m.power.moduleState then m.power.moduleState
  else if (allClusters.any fun c => (m.cl c).ladder == 0) then 0
  else if (allClusters.any fun c => (m.cl c).ladder == 1) then 1
  else 2

/-- A power entry (R432). -/
def Module.powerEvent (m : Module) (event feed cluster cause volts before after durUs : Nat) : Module :=
  m.detect (clsOf event) event (if cluster < 640 then m.partAt cluster else 0xFF) [feed, cluster]
    [⟨16, 1, event⟩, ⟨17, 1, feed⟩, ⟨18, 1, if cluster < 640 then cluster / 64 else 0xFF⟩,
     ⟨19, 1, if cluster < 640 then cluster % 64 else 0xFF⟩,
     ⟨20, 1, if cluster < 640 then (maskList (m.cl cluster).lostCells 4).length else 0⟩, ⟨21, 1, cause⟩,
     ⟨22, 2, volts⟩, ⟨24, 2, m.power.inputW⟩, ⟨26, 2, m.effLimit⟩, ⟨28, 1, before⟩, ⟨29, 1, after⟩,
     ⟨30, 1, if cluster < 640 then (m.cl cluster).ladder else m.ladderState⟩, ⟨32, 4, durUs⟩]

/-- A clock entry (R450). -/
def Module.clockEvent (m : Module) (event kind deck unit attempts scope durUs : Nat) : Module :=
  m.detect (clsOf event) event (if kind = 0 ∧ unit < 640 then m.partAt unit else 0xFF) [kind, deck, unit]
    [⟨16, 1, event⟩, ⟨17, 1, kind⟩, ⟨18, 1, deck⟩, ⟨20, 2, unit⟩, ⟨22, 1, attempts⟩, ⟨23, 1, scope⟩,
     ⟨24, 4, durUs⟩]

/-- The number of a unit kind in R476 and R80. -/
def UnitKind.code : UnitKind → Nat
  | .core => 0 | .arrayHalf => 1 | .slice => 2 | .page => 3 | .bank => 4 | .router => 5 | .cluster => 6
  | .stack => 7 | .deck => 8 | .bridgeLane => 9 | .bridgeGroup => 10 | .cell => 11 | .sensor => 12
  | .bankUnit => 13 | .imageSlot => 14 | .none => 0xFF

/-- A bring-up entry (R476). -/
def Module.bringEvent (m : Module) (event cause kind source unit detail : Nat) : Module :=
  m.detect (clsOf event) event 0xFF [cause, kind, unit]
    [⟨16, 1, event⟩, ⟨17, 1, m.bring.stage⟩, ⟨18, 2, cause⟩, ⟨20, 1, kind⟩, ⟨21, 1, source⟩, ⟨24, 4, unit⟩,
     ⟨28, 4, detail⟩]

/-- The module's own device ID as records show it: 0xFFFF before assignment (R517, R565). -/
def Module.ownId (m : Module) : Nat := if m.fab.idValid then m.fab.deviceId else 0xFFFF

/-- A fabric entry (R566). -/
def Module.fabEvent (m : Module) (event part port peer reason typ tag epoch addr count durMs : Nat) : Module :=
  m.detect (clsOf event) event part [port, peer, typ]
    [⟨16, 1, event⟩, ⟨17, 1, port⟩, ⟨18, 2, peer⟩, ⟨20, 2, m.ownId⟩, ⟨22, 1, reason⟩, ⟨23, 1, typ⟩,
     ⟨24, 4, tag⟩, ⟨28, 4, epoch⟩, ⟨32, 8, addr⟩, ⟨40, 4, count⟩, ⟨44, 4, durMs⟩]

/-! ## Fatal events (R593) -/

/-- The entry and the 16 newest before it go to the shutdown record, and every cluster stops (R593). Entries
still waiting are written first, so that the record's order is the log's. -/
def Module.fatalRecord (m : Module) : Module :=
  let m1 := m.logAll
  let n := m1.log.entries.length
  { m1 with
    bring := { m1.bring with shutdown := m1.log.entries.drop (n - 17), shutdownPending := true, orderly := false },
    clusters := SMap.updAll {} m1.clusters allClusters (fun c => { c with off := true }) }

/-- A free byte, and the counter moved on: the model's stand-in for a value the spec leaves undefined. -/
def Module.freeByte (m : Module) : Byte × Module := (Config.freeByte m.free, { m with free := m.free + 1 })
/-- A free register value. -/
def Module.freeWord (m : Module) : Word × Module := (Config.freeWord m.free, { m with free := m.free + 1 })

/-! ## The uniform shape of a meaning -/

/-- A well-formed command has its effect on the module; an ill-formed one is no command of the hardware. -/
def onModule (ok : Bool) (f : Module → Module) (s : State) : Host.Outcome State Fault Refusal :=
  if ok then .next { s with m := f s.m } else .fault .illFormed

/-- The same for commands that act on the service ports too. -/
def onState (ok : Bool) (f : State → State) (s : State) : Host.Outcome State Fault Refusal :=
  if ok then .next (f s) else .fault .illFormed

end Sys2Proof.Machine
end

