-- ==== Sys2Proof/Machine/Units.lean ====
section
/-! DEFINITION. Operations on the module's units that many commands share: how a work item and its packet end,
what a DRAIN or an ABORT stops, how a core, slice, cluster, router or deck goes out of service, the power ladder,
the operating point, the module's status bits. -/

namespace Sys2Proof.Machine

/-! ## Status codes (R508) -/

def stOk : Nat := 0x0000
def stPartial : Nat := 0x0001
def stBusy : Nat := 0x0100
def stNotReady : Nat := 0x0101
def stBadOpcode : Nat := 0x0200
def stBadParam : Nat := 0x0201
def stExpert : Nat := 0x0202
def stNotPermitted : Nat := 0x0203
def stLimit : Nat := 0x0204
def stBankState : Nat := 0x0205
def stProgramFault : Nat := 0x0206
def stBadImage : Nat := 0x0207
def stThermalHold : Nat := 0x0300
def stEpoch : Nat := 0x0400
def stFenced : Nat := 0x0500
def stCancelled : Nat := 0x0600
def stHwError : Nat := 0x0700
def stPoisoned : Nat := 0x0701
def stHostError : Nat := 0x0702

/-- R271's order of severity, the most severe highest. -/
def severity (st : Nat) : Nat :=
  if st = stHwError then 10 else if st = stPoisoned then 9 else if st = stProgramFault then 8
  else if st = stBadOpcode then 7 else if st = stBankState then 6 else if st = stFenced then 5
  else if st = stCancelled then 4 else if st = stThermalHold then 3 else if st = stPartial then 2
  else if st = stOk then 1 else 8

/-- The more severe of two statuses (R271). -/
def worst (a b : Nat) : Nat := if severity a < severity b then b else a

/-! ## Work completions (R496) -/

/-- A packet's kind: 0 PROGRAM, 1 LENGTH_TABLE, 2 COPY_IN, 3 COPY_OUT (R491). -/
def Packet.kind (p : Packet) : Nat := getLe p.bytes 0 1
/-- The packet's flags: barrier, notify, ramp hint (R491). -/
def Packet.flags (p : Packet) : Nat := getLe p.bytes 1 1
/-- The vector its completions raise, when notify is set (R491, R498). -/
def Packet.vector (p : Packet) : Option Nat := if bitOf p.flags 1 then some (getLe p.bytes 2 1) else none

/-- The 16-byte summary of a work completion (R496). -/
def Packet.summary (p : Packet) : List Byte :=
  if p.kind = 0 then packRec 16 [⟨0, 2, nth 0 p.info 0⟩, ⟨2, 1, nth 0 p.info 1⟩, ⟨4, 2, nth 0 p.info 2⟩]
  else if p.kind = 1 then packRec 16 [⟨0, 4, p.created⟩, ⟨4, 4, p.ok⟩, ⟨8, 4, p.faulted⟩, ⟨12, 4, p.cancelled⟩]
  else packRec 16 [⟨0, 8, p.moved⟩]

/-- The 64 bytes of a work completion (R496): type 0 final, 1 progress. -/
def Packet.completion (p : Packet) (typ result : Nat) : List Byte :=
  packRec 16 [⟨0, 8, p.seq⟩, ⟨8, 2, if typ = 0 then p.status else 0⟩, ⟨10, 1, typ⟩, ⟨11, 1, p.kind⟩,
    ⟨12, 4, if typ = 0 ∧ p.kind = 1 then p.skipped else result⟩] ++ p.summary ++
  (if typ = 0 then (p.fault ++ packRec 32 []).take 32 else packRec 32 [])

/-- Queues a work completion for the ring of partition `part` (R486). -/
def Module.queueWork (m : Module) (part : Nat) (bytes : List Byte) (vector : Option Nat) (reserved : Bool) : Module :=
  { m with port := { m.port with cpls := m.port.cpls ++ [⟨.work part, bytes, vector, reserved⟩] } }

/-- A packet posts its final completion and is gone (R271, R496). -/
def Module.finishPacket (m : Module) (part : Nat) (p : Packet) : Module :=
  (m.updPart part (fun q => { q with packets := q.packets.filter (fun x => x.seq != p.seq) })).queueWork part
    (p.completion 0 p.result) p.vector true

/-- The packet of partition `part` with sequence number `seq`. -/
def Module.packet (m : Module) (part seq : Nat) : Option Packet :=
  (m.part part).packets.find? (fun p => p.seq == seq)

/-- Changes a packet. -/
def Module.updPacket (m : Module) (part seq : Nat) (f : Packet → Packet) : Module :=
  m.updPart part (fun q => { q with packets := modFirst (fun p => p.seq == seq) f q.packets })

/-- A packet whose creation has ended and none of whose items is alive completes. A merge that still waits for
its chunks keeps the packet open (R270, R271). -/
def Module.settle (m : Module) (part seq : Nat) : Module :=
  match m.packet part seq with
  | none => m
  | some p => if p.done && p.running == 0 && p.chunks.isEmpty then m.finishPacket part p else m

/-! ## Threads -/

/-- Thread 0 or 1 of a core. -/
def Core.th (c : Core) (t : Nat) : Thread := if t = 0 then c.t0 else c.t1
/-- Changes a thread. -/
def Core.updTh (c : Core) (t : Nat) (f : Thread → Thread) : Core :=
  if t = 0 then { c with t0 := f c.t0 } else { c with t1 := f c.t1 }
/-- A half of the array: 0 upper, 1 lower. -/
def Core.half (c : Core) (h : Nat) : ArrayHalf := if h = 0 then c.half0 else c.half1
/-- Changes a half of the array. -/
def Core.updHalf (c : Core) (h : Nat) (f : ArrayHalf → ArrayHalf) : Core :=
  if h = 0 then { c with half0 := f c.half0 } else { c with half1 := f c.half1 }

/-- A thread's saved context. -/
def Core.savedOf (c : Core) (t : Nat) : Option SavedCtx := if t = 0 then c.saved0 else c.saved1
/-- Replaces a thread's saved context. -/
def Core.putSaved (c : Core) (t : Nat) (k : Option SavedCtx) : Core := if t = 0 then { c with saved0 := k } else { c with saved1 := k }

/-- A position whose fetch failed. -/
def Fetched.failed : Fetched → Bool
  | .fail .. => true
  | .desc _ => false

/-- Faults of read-ahead that the fetch unit holds and has not raised (R132). -/
def Thread.failsAhead (t : Thread) : Nat :=
  countOf Fetched.failed (t.fetchBuf ++ (t.fetching.filterMap (fun p => p.2)).flatten)

/-- The fetch unit lets everything go; faults of read-ahead are dropped and counted (R132, R174). -/
def Core.clearFetch (c : Core) (t : Nat) : Core :=
  let c1 := c.updTh t (fun x => { x with fetchBuf := [], fetchSeen := [], fetching := [] })
  { c1 with prefetchDrops := sat64 c1.prefetchDrops (c.th t).failsAhead }

/-- Step 2 of R163: every descriptor the thread has in flight is abandoned; its streams stop, its MX queues
empty, its waits end. Bytes already written stay. -/
def Core.abandon (c : Core) (t : Nat) : Core :=
  let c1 := (c.clearFetch t).updTh t (fun th => { th with flight := [], wait := none })
  let c2 := c1.updHalf t (fun h => { h with weights := [], runs := [], drains := [], feeder := [] })
  { c2 with streams := c2.streams.filter (fun p => p.2.thread != t), wholePending := c2.wholePending && t != 0 }

/-- The status a sequence that stops early will complete with: an ABORT makes it ST_CANCELLED whatever ran before (R127). -/
def stopStatus (old st : Nat) : Nat := if st = stCancelled then st else worst old st

/-- Bank-op sequences stop with a status (R127, R388): at once where no step of theirs runs, else at the step's end; a
deck whose transom still holds one lets it go. -/
def Module.stopSeqs (m : Module) (sel : BankSeq → Bool) (st : Nat) : Module :=
  let ids := (m.mem.seqs.filter sel).map (·.id)
  let gone (q : SliceSeq) : Bool := decide (q.id ∈ ids) && !q.inStep
  let mark (b : BankSeq) : BankSeq :=
    if b.id ∈ ids then
      let left := b.pending.filter (fun s => (m.slice s).bankSeqs.any (fun q => q.id == b.id && q.inStep))
      let ran := m.mem.slices.map (fun p => p.2.bankSeqs.foldl (fun n q => if q.id = b.id then q.step else n) 0)
      { b with
        stop := true, status := stopStatus b.status st, pending := left, undelivered := [],
        stopped := b.stopped + (b.pending.length - left.length), steps := ran.foldl max b.steps }
    else b
  { m with
    mem := { m.mem with
      slices := m.mem.slices.map (fun p => (p.1, { p.2 with bankSeqs := p.2.bankSeqs.filter (fun q => !gone q) })),
      seqs := m.mem.seqs.map mark,
      transom := m.mem.transom.map (fun p => (p.1, p.2.filter (fun i => !(i ∈ ids)))) },
    net := { m.net with transom := m.net.transom.map (fun p => (p.1, p.2.filter (fun i => !(i ∈ ids)))) } }

/-- Sequences stop as cancelled (R127). -/
def Module.cancelSeqs (m : Module) (sel : BankSeq → Bool) : Module := m.stopSeqs sel stCancelled

/-- What an item's end adds to its packet (R271). -/
def Packet.itemEnd (p : Packet) (st result : Nat) (fault : List Byte) (it : Item) : Packet :=
  let hasFault := fault.any (· != 0)
  { p with
    running := p.running - 1,
    status := worst p.status st,
    result := if p.kind = 0 then result else p.result,
    ok := if st = stOk then p.ok + 1 else p.ok,
    faulted := if hasFault then p.faulted + 1 else p.faulted,
    cancelled := if st = stCancelled then p.cancelled + 1 else p.cancelled,
    fault := if hasFault && p.fault.all (· == 0) then fault else p.fault,
    chunks := if it.merge then p.chunks else
      modFirst (fun (k : Chunk) => k.triple == it.triple)
        (fun k => { k with left := k.left - 1, ok := k.ok && (st == stOk || st == stPartial) }) p.chunks }

/-- A stop's target covers an item that runs or waits at a site and thread (R340). -/
def targetCovers (t : Target) (site thread : Nat) (it : Item) : Bool :=
  match t with
  | .packet p s => it.part == p && it.seq == s
  | .context p c => it.part == p && it.ctx == c
  | .thread s k => s == site && k == thread
  | .partition p => it.part == p
  | .slice s => s == site
  | .bankop _ => false
  | .port _ => false

/-- The stops that cover an item count its end (R341). -/
def Module.countStop (m : Module) (site thread : Nat) (it : Item) (st : Nat) : Module :=
  let note (q : Stop) : Stop :=
    if targetCovers q.target site thread it then
      (if st = stCancelled then { q with cancelled := q.cancelled + 1 } else { q with completed := q.completed + 1 })
    else q
  { m with parts := { m.parts with stops := m.parts.stops.map note } }

/-- An item ends with a status: its packet takes note, its context is gone, and its packet completes if it was
the last (R163, R271). -/
def Module.itemDone (m : Module) (site thread : Nat) (it : Item) (st result : Nat) (fault : List Byte) : Module :=
  (((m.countStop site thread it st).updPacket it.part it.seq (fun p => p.itemEnd st result fault it)).updPart it.part
    (fun q => { q with contexts := q.contexts.filter (fun c => c.num != it.ctx) })).settle it.part it.seq

/-- The thread lets go of its item, which ends with a status. -/
def Module.endItem (m : Module) (site t st result : Nat) (fault : List Byte) : Module :=
  match ((m.core site).th t).item with
  | none => m
  | some it =>
    (m.updCore site (fun c =>
      let d := c.updTh t (fun th => { th with item := none })
      { d with switching := d.switching.filter (· != t), due := d.due.filter (· != t) })).itemDone site t it st result fault

/-- Items queued at a core that `sel` names never run (R271, R341). -/
def Module.cancelQueued (m : Module) (sel : Nat → Item → Bool) (site st : Nat) : Module :=
  let gone := (m.core site).queue.filter (fun it => sel it.thread it)
  let m1 := m.updCore site (fun c => { c with queue := c.queue.filter (fun it => !sel it.thread it) })
  gone.foldl (fun acc it => acc.itemDone site it.thread it st 0 []) m1

/-- Items of a core that `sel` names are cancelled: running ones are abandoned, queued and saved ones never
run (R341). -/
def Module.cancelAt (m : Module) (sel : Nat → Item → Bool) (site st : Nat) : Module :=
  let step (m : Module) (t : Nat) : Module :=
    match ((m.core site).th t).item with
    | none => m
    | some it => if sel t it then
        ((m.updCore site (fun c => c.abandon t)).cancelSeqs (fun q =>
          match q.core with | some (s, th, _) => s == site && th == t | none => false)).endItem site t st 0 []
      else m
  let m3 := (step (step m 0) 1).cancelQueued sel site st
  let drop (m : Module) (t : Nat) : Module :=
    match ((m.core site).savedOf t).bind (fun k => k.th.item) with
    | some it => if sel it.thread it then
        (m.updCore site (fun c => c.putSaved t none)).itemDone site it.thread it st 0 [] else m
    | none => m
  drop (drop m3 0) 1

/-- Cancels matching items on every core. -/
def Module.cancelItems (m : Module) (sel : Nat → Nat → Item → Bool) (st : Nat) : Module :=
  (m.cores.map (·.1)).foldl (fun acc s => acc.cancelAt (sel s) s st) m

/-- A packet that is stopped: a merge item it still owes counts as cancelled; one that has created no item counts nothing (R270,
R271). -/
def Packet.stopped (p : Packet) (st : Nat) : Packet :=
  let q := { p with
    done := true, chunks := [], cancelled := p.cancelled + p.chunks.length,
    status := if p.done && p.chunks.isEmpty then p.status else worst p.status st }
  if p.kind = 1 ∧ p.created = 0 then { q with status := st, cancelled := 0, skipped := 0 } else q

/-- Packets of a partition that `sel` names create nothing more; those with no item alive complete (R341). -/
def Module.stopPackets (m : Module) (part : Nat) (sel : Packet → Bool) (st : Nat) : Module :=
  let seqs := ((m.part part).packets.filter sel).map (·.seq)
  let m1 := m.updPart part (fun q => { q with packets := q.packets.map (fun p => if p.seq ∈ seqs then p.stopped st else p) })
  seqs.foldl (fun acc s => acc.settle part s) m1

/-- Items a partition has alive: running and not halted, queued, or saved (R340, R513). -/
def Module.itemsOf (m : Module) (part : Nat) : Nat :=
  let one (it : Option Item) : Nat := match it with | some i => if i.part = part then 1 else 0 | none => 0
  let kept (c : Core) : Nat := one (c.saved0.bind (fun k => k.th.item)) + one (c.saved1.bind (fun k => k.th.item))
  let of (c : Core) : Nat :=
    one c.t0.item + one c.t1.item + (c.queue.filter (fun i => i.part == part)).length + kept c
  (m.cores.map (fun p => of p.2)).foldl (· + ·) 0

/-- Nothing of the partition is in flight: no packet, no item, no bank-op sequence (R340, R513). -/
def Module.atWorkFence (m : Module) (part : Nat) : Bool :=
  (m.part part).packets.isEmpty && m.itemsOf part == 0 && !(m.mem.seqs.any (fun q => q.part == part))

/-- ABORT of a whole partition's work (R341). -/
def Module.abortPart (m : Module) (part : Nat) : Module :=
  ((m.cancelItems (fun _ _ it => it.part == part) stCancelled).stopPackets part (fun _ => true) stCancelled).cancelSeqs
    (fun q => q.part == part)

/-- The stops of a partition go on as aborts; ABORT_COMPLETE answers their commands (R341). -/
def Module.stopsToAbort (m : Module) (part : Nat) : Module :=
  let turn (q : Stop) : Stop := if q.part = part then { q with abort := true } else q
  { m with parts := { m.parts with stops := m.parts.stops.map turn } }

/-! ## Out of service -/

/-- The field repair record takes an entry; it is never removed (R78, R466). -/
def Module.addRecord (m : Module) (e : RecEntry) : Module :=
  if m.bring.record.any (fun r => r.kind == e.kind && r.unit == e.unit && r.detail == e.detail) then m
  else { m with bring := { m.bring with record := m.bring.record ++ [e] } }

/-- A unit that goes out of service while the module runs is recorded with 0x8000 plus the event type (R80). -/
def Module.recordUnit (m : Module) (kind : UnitKind) (unit detail event : Nat) : Module :=
  m.addRecord ⟨UnitKind.code kind, 1, 0x8000 + event, unit, detail⟩

/-- Room in the record for a page (kind 3) or a bank or slice entry (R78). -/
def Module.recordRoom (m : Module) (kind : Nat) : Bool :=
  if kind = 3 then decide ((m.bring.record.filter (fun r => r.kind == 3)).length < 65536)
  else decide ((m.bring.record.filter (fun r => r.kind == 2 || r.kind == 4)).length < 1024)

/-- Counts of DEV_CORES and MEM_STATUS (R84, R616). -/
def Module.enabledCores (m : Module) : Nat := (m.cores.filter (fun p => p.2.enabled)).length
def Module.usableSlices (m : Module) : Nat := (m.mem.slices.filter (fun p => p.2.state != 2)).length
def Module.orphanSlices (m : Module) : Nat := (m.mem.slices.filter (fun p => p.2.state == 1)).length
def Module.decksInService (m : Module) : Nat :=
  if m.bring.stage < 3 then 0 else Config.decks - m.bring.decksFenced.length

/-- The scratchpad's background test restores its region first (R168, R238); a core marked for fencing stays marked (R239). -/
def Scratch.restored (s : Scratch) : Scratch := { s with phase := if s.phase = 100 then 100 else 0 }

/-- What routers, engines and the root hold of a tree's instances is discarded (R308, R309). -/
def Net.discard (n : Net) (root tree : Nat) : Net :=
  { n with
    reductions := n.reductions.filter (fun r => !(r.root == root && r.tree == tree)),
    insts := n.insts.filter (fun r => !(r.root == root && r.tree == tree)) }

/-- Trees with a member or root among cores that went out of service are broken (R308). -/
def Net.breakTrees (n : Net) (gone : Nat → Bool) : Net :=
  let hurt (t : Nat × Nat × Tree) : Bool := t.2.2.members.any gone || gone t.2.2.root
  let n1 := { n with trees := n.trees.map (fun t => if hurt t then (t.1, t.2.1, { t.2.2 with broken := true }) else t) }
  (n.trees.filter hurt).foldl (fun (acc : Net) t => acc.discard t.2.2.root t.2.1) n1

/-- A core goes out of service; its items end with `st`; a usable slice becomes an orphan (R20, R22). Its queued
items end with ST_FENCED. -/
def Module.fenceCore (m : Module) (site st : Nat) : Module :=
  let m1 := m.cancelAt (fun _ _ => true) site st
  let off (c : Core) : Core := let d := (c.abandon 0).abandon 1; { d with enabled := false, fenced := true, scratch := d.scratch.restored }
  let orphan (s : Slice) : Slice := if s.state = 0 then { s with state := 1 } else s
  let m2 := (m1.updCore site off).updSlice site orphan
  { m2 with net := m2.net.breakTrees (· == site) }

/-- `n` bytes nobody can know: the model's free values for content the spec leaves undefined. -/
def Module.unknown (m : Module) (n : Nat) : List Byte := (List.range n).map (fun i => Config.freeByte (m.free * 2 ^ 20 + i))

/-- What waits at a slice that can serve it no more: reads complete with poisoned data, which MEM_POISON_READS counts (R83),
writes are dropped (R42). -/
def Module.failWaiting (m : Module) (l : List Waiting) : Module :=
  let answer (w : Waiting) : Response :=
    if w.req.write then ⟨{ w.req with data := [] }, true, [], false⟩ else ⟨w.req, false, m.unknown (if w.req.row then 2048 else 64), true⟩
  { m with
    free := m.free + 1,
    mem := { m.mem with
      responses := m.mem.responses ++ l.map answer,
      poisonReads := sat64 m.mem.poisonReads (countOf (fun (w : Waiting) => !w.req.write) l) } }

/-- The requester field of R82: the requesting core's site, or the host function with bit 15 set; 0xFFFF where neither asked. -/
def srcReq : Src → Nat
  | .host fn _ => 0x8000 + fn
  | .stream s _ _ => s
  | .keyhole s _ _ => s
  | .fetch s _ _ => s
  | .nr s _ _ => s
  | _ => 0xFFFF

/-- Writes to a slice that has left service are dropped, each with event 0x06 (R42). -/
def Module.logDropped (m : Module) (l : List Waiting) : Module :=
  (l.filter (fun w => w.req.write)).foldl (fun acc w => acc.memEntry 0x06 w.req.site w.req.off 0 w.req.cls 0 (srcReq w.req.src)) m

/-- A bank-op sequence stops early at slices that no longer hold it (R107, R128). -/
def BankSeq.leave (q : BankSeq) (ss : List Nat) : BankSeq :=
  { q with pending := q.pending.filter (fun s => !(s ∈ ss)), stopped := q.stopped + countOf (fun s => decide (s ∈ ss)) q.pending }

/-- A slice goes out of service, and its core with it (R20, R42). What it queued is gone. -/
def Module.loseSlice (m : Module) (site st : Nat) : Module :=
  let s := m.slice site
  let gone (s : Slice) : Slice :=
    { s with
      state := 2, merge := [], rowQueue := [], holdQueue := [], bankSeqs := [], holdSlots := [], waiting := [], scrubDue := false }
  let m1 := ((m.fenceCore site st).failWaiting (s.holdSlots ++ s.waiting)).logDropped s.waiting
  ({ m1 with mem := { m1.mem with seqs := m1.mem.seqs.map (fun (q : BankSeq) => q.leave [site]) } }).updSlice site gone

/-- Every core and slice of a cluster goes out of service (R26). -/
def Module.fenceCluster (m : Module) (c st : Nat) : Module :=
  (sitesOf c).foldl (fun acc s => acc.loseSlice s st) m

/-- A router is out of service: its cluster with it, the trees of its cores are broken, routes must be computed again
(R26, R308, R317). `log`: event 0x33 follows with the new tables (R318). -/
def Module.dropRouter (m : Module) (c st : Nat) (log : Bool) : Module :=
  let m2 := (m.updCl c (fun k => { k with routerFenced := true })).fenceCluster c st
  { m2 with net := { m2.net.breakTrees (fun s => clusterOf s == c) with newFences := m2.net.newFences ++ [(c, log)] } }

/-- A router is fenced in service, with an entry of the field repair record (R317, R318). -/
def Module.fenceRouter (m : Module) (c : Nat) : Module :=
  if (m.cl c).routerFenced then m else (m.recordUnit .router c 0 0x33).dropRouter c stHwError true

/-- A deck goes out of service as in R31; losing deck 0 would stop the host port, so it is fatal (R592). -/
def Module.fenceDeck (m : Module) (d escalated : Nat) : Module :=
  let m1 := { m with bring := { m.bring with decksFenced := insertNew d m.bring.decksFenced } }
  let m2 := (clustersOf d).foldl (fun acc c => acc.dropRouter c stHwError false) m1
  if d = 0 then (m2.escalate escalated).fatalRecord else m2

/-- A saved context can take the thread: a whole-mode context only where thread 1 holds none (R159, R353). -/
def Core.canResume (c : Core) (t : Nat) (k : SavedCtx) : Bool :=
  if t = 0 then k.split || (c.t1.item.isNone && c.saved1.isNone) else c.split && k.split

/-- An array half is fenced: the core runs in split mode with its healthy half only, which that change empties. The work of the
fenced half's thread ends with `st`, queued items of it too; in whole mode the work that used both halves ends, with ST_CANCELLED where
its own half is healthy (R203, R468). With both halves gone the core is fenced. -/
def Module.fenceHalf (m : Module) (site h st : Nat) : Module :=
  let ended := if h = 0 then st else stCancelled
  let m0 := if (m.core site).split then m
    else ((m.cancelSeqs (fun q => match q.core with | some (s, k, _) => s == site && k == 0 | none => false)).updCore site
      (fun c => c.abandon 0)).endItem site 0 ended 0 []
  let m1 := m0.cancelAt (fun t _ => t == h) site st
  let wipe (a : ArrayHalf) : ArrayHalf := { fenced := a.fenced }
  let empty (c : Core) : Core := if c.split then c.updHalf h wipe else { c with half0 := wipe c.half0, half1 := wipe c.half1 }
  let m3 := m1.updCore site (fun c => { ((empty c).updHalf h (fun a => { a with fenced := true })) with split := true })
  let m2 := match (m3.core site).saved0 with
    | some k => match k.split, k.th.item with
      | false, some it => (m3.updCore site (fun c => c.putSaved 0 none)).itemDone site 0 it ended 0 []
      | _, _ => m3
    | none => m3
  if (m2.core site).half0.fenced && (m2.core site).half1.fenced then m2.fenceCore site st else m2

/-! ## The ladder (R419 to R428) -/

/-- Runs `f`; a change of the module's ladder state raises PWR_INT_STATUS.ladder and the management cause (R436, R588). -/
def Module.watchLadder (m : Module) (f : Module → Module) : Module :=
  let m1 := f m
  if m1.ladderState = m.ladderState then m1 else (m1.setCause .pwr 5).ibi 6

/-- The state every cluster is to reach: by the hold of R424 or by a coolant stop (R388). -/
def Module.ladderGoal (m : Module) : Nat := if m.thermal.stop then 2 else m.power.hold

/-- Steps 1 and 2 of R355 are done: nothing is in flight but streams, and MX descriptors whose first group has not entered
the array (R207). -/
def Thread.quiet (t : Thread) : Bool := t.flight.all (fun f => f.cls == 0 || (f.cls == 2 && !f.done))
/-- A thread of a core can be suspended: it is quiet and the writes its stores issued have been accepted (R355). -/
def Core.quiet (c : Core) (t : Nat) : Bool :=
  (c.th t).quiet && c.streams.all (fun p => p.2.thread != t || getLe p.2.desc 0 1 != 0x11 || p.2.pieces.isEmpty)

/-- Clusters enter Ajar: core clocks stop (R420). -/
def Module.toAjar (m : Module) (cs : List Nat) : Module :=
  m.watchLadder (fun m => m.updCls cs (fun k => if k.ladder = 0 then { k with ladder := 1 } else k))

/-- Clusters leave Ajar at once (R420); one under a thermal clock stop stays (R382). -/
def Module.leaveAjar (m : Module) (cs : List Nat) : Module :=
  m.watchLadder (fun m => m.updCls cs (fun k => if k.ladder = 1 ∧ !k.clockStopped then { k with ladder := 0 } else k))

/-- A cause wakes a cluster (R421): Ajar opens at once, Shuttered begins its louvre sequence (R417). While a hold
of R424 or a coolant stop is in force the hold decides (R425). -/
def Module.wake (m : Module) (c : Nat) : Module :=
  if m.power.hold ≠ 0 ∨ m.thermal.stop then m
  else if (m.cl c).ladder = 1 then m.leaveAjar [c]
  else if (m.cl c).ladder = 2 then m.updCl c (fun k => { k with waking := true })
  else m

/-- A slice access wakes a Shuttered cluster (R421); in a held one the same louvres close for the slice islands
alone (R425), which CLUSTER_WAKE_COMPLETE tells apart. -/
def Module.wakeSlice (m : Module) (c : Nat) : Module :=
  if (m.cl c).ladder = 2 ∧ !(m.cl c).sliceIsland then m.updCl c (fun k => { k with waking := true }) else m

/-! ## The operating point (R406, R407) -/

/-- The bound a cluster's lost cells set (R411): 5 with one lost, 1 with two. -/
def Cluster.cellCap (k : Cluster) : Nat :=
  match (maskList k.lostCells 4).length with | 0 => 7 | 1 => 5 | 2 => 1 | _ => 0
/-- The guard level of R377. -/
def Cluster.guardCap (k : Cluster) : Nat := if k.guard then 1 else 7
/-- The thermal caps of R381 and R382 together. -/
def Cluster.heatCap (k : Cluster) : Nat := min k.thermalCap k.throttleCap
/-- The lowest of the bounds of R407. -/
def Cluster.goal (k : Cluster) : Nat := min k.target (min k.powerCap (min k.heatCap (min k.guardCap k.cellCap)))
/-- Which bound sets the point (R437): 0 target, 1 power cap, 2 thermal cap, 3 guard level, 4 cell cap. -/
def Cluster.limiter (k : Cluster) : Nat :=
  let g := k.goal
  if k.target = g then 0 else if k.powerCap = g then 1 else if k.heatCap = g then 2 else if k.guardCap = g then 3 else 4
/-- Held by a forecast cap, a throttle step, a clock stop or the guard level (R398). -/
def Cluster.capped (k : Cluster) : Bool := k.thermalCap < 7 || k.throttleCap < 7 || k.clockStopped || k.guard

/-- Every cluster's point is brought to its goal, when a bound moved it (R407). One point at a time is the
business of OPERATING_POINT_STEP; a bound that R411 applies at once uses this. -/
def Module.lowerNow (m : Module) (c : Nat) : Module :=
  m.updCl c (fun k => { k with point := min k.point k.goal })

/-! ## Status bits and alerts -/

/-- THERM_ALERT_N is asserted while a group is Hot or Over, a logic temperature is at least 105 °C, or a coolant
stop stands (R384); a change is a management cause, an assertion a THM cause (R396, R588). -/
def Module.alertWanted (m : Module) : Bool :=
  m.thermal.bands.any (fun p => p.2 == 3 || p.2 == 4) ||
  m.thermal.sensors.any (fun p => decide (2560 ≤ p.1 ∧ p.1 < 3840) && p.2.valid && decide (105 * 8 ≤ p.2.reading)) ||
  m.thermal.stop

def Module.refreshAlert (m : Module) : Module :=
  if m.alertWanted = m.thermal.alert then m
  else
    let m1 := ({ m with thermal := { m.thermal with alert := m.alertWanted } }).ibi 3
    if m1.thermal.alert then m1.setCause .thm 6 else m1

/-- Sets DEV_STATUS.ready (R469, R470). -/
def Module.setReady (m : Module) (b : Bool) : Module :=
  if m.bring.ready = b then m else ({ m with bring := { m.bring with ready := b } }).ibi 5
/-- Sets DEV_STATUS.fabric_ready (R549). -/
def Module.setFabricReady (m : Module) (b : Bool) : Module :=
  if m.bring.fabricReady = b then m else ({ m with bring := { m.bring with fabricReady := b } }).ibi 5
/-- Sets DEV_STATUS.stage_failed (R475). -/
def Module.setStageFailed (m : Module) (b : Bool) : Module :=
  if m.bring.stageFailed = b then m else ({ m with bring := { m.bring with stageFailed := b } }).ibi 5

/-! ## Scratchpad wipes and memory wipes -/

/-- A scratchpad of zeros with good parity and no poison (R228). -/
def Module.zeroPads (m : Module) (ss : List Nat) : Module :=
  m.updCores ss (fun c => { c with scratch := { c.scratch with bytes := [], badParity := [], poison := [] } })

/-- The rows a zero-fill of a slice reaches: rows 0 to 4,031 outside retired pages, the listed cells of which
then read 0 (R335, R464). -/
def fillHits (site : Nat) (retired : List Nat) (a : Nat) : Bool :=
  decide (devAddr site 0 ≤ a) && decide (a < devAddr site (4032 * 2 ^ 17)) && !((a - devAddr site 0) / 65536 ∈ retired)

/-- Rows 0 to 4,031 of a slice become zeros at a strength, poison cleared; retired pages are skipped (R335,
R336, R464, R69); `part` is the partition the fill is made for (R51). -/
def Module.zeroSlice (m : Module) (site part strength : Nat) : Module :=
  let r := (m.slice site).retiredPages
  let m1 := { m with mem := { m.mem with
      bytes := m.mem.bytes.filter (fun c => !fillHits site r c.1),
      meta_ := m.mem.meta_.filter (fun p => !fillHits site r (p.1 * 2048)) } }
  m1.updSlice site (fun s => { s with strength := strength, filled := part, undef := s.undef / 256 * 256 })

end Sys2Proof.Machine
end

