-- ==== Sys2Proof/Machine/Flags.lean ====
section
/-! DEFINITION. What every register and status record reads: the status words and flags the device computes
from its state. BAR0 of the physical function (R610, R621), of the virtual functions (R624), the core blocks
(R170 to R174), the TEL.SNAPSHOT record (R528). -/

namespace Sys2Proof.Machine

/-- A mask from a predicate on bit numbers below `n`. -/
def maskOf (n : Nat) (p : Nat → Bool) : Nat :=
  ((List.range n).map (fun i => if p i then 2 ^ i else 0)).foldl (· + ·) 0

/-! ## DEV -/

/-- DEV_IDENT (R616). -/
def Module.devIdent (m : Module) : Word := regWord [(0, 16, 0x1040), (16, 1, m.bring.grade), (24, 12, 0x3A5)]
/-- DEV_REVISION (R616). -/
def Module.devRevision (m : Module) : Word :=
  regWord [(0, 8, m.bring.deckRev), (8, 8, m.bring.controllerRev), (16, 8, m.bring.moduleRev)]
/-- DEV_STATUS (R617). -/
def Module.devStatus (m : Module) : Word := regWord
  [(0, 1, b2n m.bring.ready), (1, 1, b2n m.bring.fabricReady), (2, 5, m.bring.stage), (7, 1, b2n m.bring.stageFailed),
   (8, 1, b2n m.bring.shortfall), (9, 1, b2n m.thermal.alert), (10, 1, b2n m.thermal.degraded),
   (11, 1, b2n m.power.feedA.ok), (12, 1, b2n m.power.feedB.ok), (13, 1, b2n (m.engine.rights != 0)),
   (16, 3, m.ladderState)]
/-- DEV_CONTROL (R616). -/
def Module.devControl (m : Module) : Word := regWord [(0, 1, b2n m.engine.expertWindow)]
/-- DEV_CORES (R616). -/
def Module.devCores (m : Module) : Word := regWord
  [(0, 14, m.enabledCores), (14, 14, m.usableSlices), (28, 14, m.orphanSlices), (42, 4, m.decksInService)]
/-- DEV_EPOCH (R616). -/
def Module.devEpoch (m : Module) : Word := regWord [(0, 32, m.epochs.epoch)]
/-- DEV_STAGE_LOG word 0 of stage `n` (R456). -/
def Module.stageWord0 (m : Module) (n : Nat) : Word :=
  let r := SMap.get {} m.bring.reports n
  regWord [(0, 4, n), (4, 1, b2n r.quick), (5, 3, r.result), (8, 8, r.attempt), (16, 32, min r.duration (2 ^ 32 - 1)),
    (48, 16, r.fenced)]
/-- DEV_STAGE_LOG word 1 of stage `n` (R456). -/
def Module.stageWord1 (m : Module) (n : Nat) : Word :=
  let r := SMap.get {} m.bring.reports n
  regWord [(0, 16, r.cause), (16, 16, r.unit), (32, 32, r.detail)]

/-- A function's DEV_WINDOW (R480). -/
def Module.devWindow (m : Module) (fn : Nat) : Word := regWord [(30, 18, (m.func fn).window / 2 ^ 30)]

/-- The DEV block (offset in the block). -/
def Module.readDev (m : Module) (fn off : Nat) : Word :=
  if off = 0x00 then m.devIdent else if off = 0x08 then m.devRevision else if off = 0x10 then m.devStatus
  else if off = 0x18 then m.devControl else if off = 0x20 then m.devCores else if off = 0x30 then m.devEpoch
  else if off = 0x38 then m.devWindow fn
  else if 0x100 ≤ off ∧ off < 0x1A0 then
    (if off % 16 = 0 then m.stageWord0 ((off - 0x100) / 16) else m.stageWord1 ((off - 0x100) / 16))
  else 0

/-! ## Rings (R489, R618) -/

/-- CONTROL.busy: entries taken and not completed (R488). -/
def RingRegs.busy (q : RingRegs) : Bool := q.taken != 0

/-- A ring's registers, at the relative offsets of R489. -/
def RingRegs.read (q : RingRegs) (work : Bool) (off : Nat) : Word :=
  if off = 0x00 then regWord [(12, 52, q.base / 4096)] else if off = 0x08 then regWord [(0, 13, q.size)]
  else if off = 0x10 then regWord [(0, 12, q.tail)] else if off = 0x18 then regWord [(0, 12, q.head)]
  else if off = 0x20 then regWord [(12, 52, q.cplBase / 4096)] else if off = 0x28 then regWord [(0, 13, q.cplSize)]
  else if off = 0x30 then regWord [(0, 12, q.cplHead)] else if off = 0x38 then regWord [(0, 12, q.cplTail)]
  else if off = 0x40 then regWord [(0, 1, b2n q.enable), (1, 1, b2n q.busy), (2, 1, b2n q.error)]
  else if off = 0x48 then regWord [(0, 1, b2n q.mirrorOn), (3, 61, q.mirror / 8)]
  else if work ∧ off = 0x50 then regWord [(0, 32, q.drops), (32, 16, q.taken)]
  else if work ∧ off = 0x58 then regWord [(0, 64, q.seq)]
  else 0

/-! ## MSI-X (R498, R618) -/

/-- One quadword of the MSI-X table. -/
def Module.readVector (m : Module) (fn off : Nat) : Word :=
  let e := SMap.get {} (m.func fn).vectors (off / 16)
  if off % 16 = 0 then BitVec.ofNat 64 e.addr else regWord [(0, 32, e.data), (32, 1, b2n e.masked)]
/-- The pending bit array. -/
def Module.readPending (m : Module) (fn n : Nat) : Word :=
  BitVec.ofNat 64 (maskOf n (fun v => (SMap.get {} (m.func fn).vectors v).pending))
/-- How many vectors a function has (R477). -/
def vectorCount (fn : Nat) : Nat := if fn = 0 then 64 else 16

/-! ## TEL -/

/-- The hottest valid reading among sensors from `lo` to below `hi`; 0 with none valid (R394, R528). -/
def Module.hottest (m : Module) (lo hi : Nat) : Int :=
  (m.thermal.sensors.filter (fun p => decide (lo ≤ p.1 ∧ p.1 < hi) && p.2.valid)).foldl
    (fun acc p => if acc.1 then (true, max acc.2 p.2.reading) else (true, p.2.reading)) ((false, 0) : Bool × Int) |>.2

/-- Stacks with any cluster capped (R528). -/
def Module.stackCapped (m : Module) (s : Nat) : Bool := (clustersUnder s).any (fun c => (m.cl c).capped)

/-- The TEL.SNAPSHOT record (R528). -/
def Module.snapshot (m : Module) : List Byte := packRec 64
  [⟨0, 8, m.time / 1000⟩, ⟨8, 2, m.power.inputW⟩, ⟨10, 2, m.effLimit⟩,
   ⟨12, 2, signedBits 16 (m.sensor 3840).reading⟩, ⟨14, 2, signedBits 16 (m.sensor 3841).reading⟩,
   ⟨16, 2, m.thermal.flow⟩, ⟨18, 2, signedBits 16 (m.hottest 0 2560)⟩, ⟨20, 2, signedBits 16 (m.hottest 2560 3840)⟩,
   ⟨22, 1, m.ladderState⟩, ⟨23, 1, countOf m.stackCapped (List.range Config.stackCount)⟩, ⟨24, 2, m.enabledCores⟩,
   ⟨26, 2, m.usableSlices⟩, ⟨28, 4, m.log.logged⟩, ⟨32, 8, m.devStatus.toNat⟩, ⟨40, 4, m.epochs.epoch⟩]

/-- The TEL block. Reads inside TEL_SNAPSHOT return the latched copy once there is one (R620). -/
def Module.readTel (m : Module) (off : Nat) : Word :=
  if off = 0x00 then regWord [(0, 48, m.time)] else if off = 0x08 then BitVec.ofNat 64 m.telAlarm
  else if off = 0x10 then BitVec.ofNat 64 m.telStatus else if off = 0x18 then BitVec.ofNat 64 m.telEnable
  else if 0x100 ≤ off ∧ off < 0x140 then
    BitVec.ofNat 64 (getLe (m.port.telLatch.getD m.snapshot) (off - 0x100) 8)
  else 0

/-! ## ERR (R607, R608, R609) -/

/-- The ERR block. -/
def Module.readErr (m : Module) (off : Nat) : Word :=
  let l := m.log
  if off = 0x00 then regWord [(0, 13, l.unread), (13, 1, b2n (decide (logCapacity ≤ l.entries.length))),
    (14, 1, b2n l.shutdownRecord)]
  else if off = 0x08 then regWord [(0, 32, l.newest), (32, 32, l.acked)]
  else if off = 0x10 then BitVec.ofNat 64 l.intStatus else if off = 0x18 then BitVec.ofNat 64 l.intEnable
  else if off = 0x20 then regWord [(0, 13, l.threshold)]
  else if 0x28 ≤ off ∧ off < 0x48 then BitVec.ofNat 64 (nth 0 l.counts ((off - 0x28) / 8))
  else if off = 0x48 then BitVec.ofNat 64 l.lost else if off = 0x50 then BitVec.ofNat 64 l.suppressed
  else 0

/-! ## PWR (R433 to R437) -/

/-- Cells lost in a cluster. -/
def Cluster.cells (k : Cluster) : Nat := (maskList k.lostCells 4).length

/-- PWR_FEED (R435). -/
def Module.pwrFeed (m : Module) : Word :=
  let a := m.power.feedA
  let b := m.power.feedB
  regWord [(0, 10, a.volts), (10, 10, b.volts), (20, 13, a.watts), (33, 13, b.watts), (46, 1, b2n a.opened),
    (47, 1, b2n b.opened), (48, 1, b2n a.held), (49, 1, b2n b.held)]

/-- The PWR block. -/
def Module.readPwr (m : Module) (off : Nat) : Word :=
  let p := m.power
  if off = 0x000 then regWord
    [(0, 3, m.ladderState), (3, 1, b2n p.feedA.ok), (4, 1, b2n p.feedB.ok), (5, 1, b2n p.limited), (6, 1, b2n p.brake),
     (7, 1, b2n (allClusters.any (fun c => (m.cl c).functionView))),
     (8, 12, (m.clusters.map (fun k => k.2.cells)).foldl (· + ·) 0), (20, 10, countOf (fun k => k.2.limp) m.clusters),
     (30, 10, countOf (fun k => k.2.cellFenced) m.clusters)]
  else if off = 0x008 then regWord [(0, 1, b2n p.hint), (1, 1, b2n p.autoAjar), (2, 1, b2n p.halfSlowOn),
    (8, 8, p.idleAjar), (16, 12, p.idleShutter)]
  else if off = 0x010 then regWord [(0, 13, p.limit), (13, 13, m.effLimit), (26, 13, m.effLimit + 400)]
  else if off = 0x018 then m.pwrFeed
  else if off = 0x020 then BitVec.ofNat 64 p.intStatus else if off = 0x028 then BitVec.ofNat 64 p.intEnable
  else if off = 0x030 then BitVec.ofNat 64 p.brakes else if off = 0x038 then BitVec.ofNat 64 p.stretches
  else if 0x100 ≤ off ∧ off < 0x150 then
    BitVec.ofNat 64 (maskOf 64 (fun c => (m.cl ((off - 0x100) / 8 * 64 + c)).ladder == 1))
  else if 0x180 ≤ off ∧ off < 0x1D0 then
    BitVec.ofNat 64 (maskOf 64 (fun c => (m.cl ((off - 0x180) / 8 * 64 + c)).ladder == 2))
  else if off = 0x200 then regWord [(0, 10, p.select)]
  else if off = 0x208 then
    if 639 < p.select then BitVec.allOnes 64
    else
      let k := m.cl p.select
      regWord [(0, 3, k.point), (3, 3, k.target), (6, 3, k.limiter), (9, 2, k.ladder), (11, 3, k.cells),
        (14, 1, b2n k.limp), (15, 1, b2n k.cellFenced), (16, 1, b2n k.functionView), (17, 1, b2n k.hintRaised),
        (18, 16, k.current), (34, 16, k.boosts)]
  else 0

/-! ## THM (R394 to R398) -/

/-- The THM block. -/
def Module.readThm (m : Module) (off : Nat) : Word :=
  let t := m.thermal
  if off = 0x000 then regWord
    [(0, 1, b2n t.alert), (1, 1, b2n t.degraded), (2, 1, b2n t.stop), (3, 1, b2n (m.clusters.any (fun k => k.2.capped))),
     (4, 1, b2n (decide (t.thermalLimit < m.power.limit))), (5, 1, b2n t.tripSeen),
     (6, 12, signedBits 12 (m.hottest 0 2560)), (18, 12, signedBits 12 (m.hottest 2560 3840)),
     (30, 12, countOf (fun s => s.2.suspect) t.sensors)]
  else if off = 0x008 then regWord [(0, 12, signedBits 12 (m.sensor 3840).reading),
    (12, 12, signedBits 12 (m.sensor 3841).reading), (24, 16, t.flow), (40, 1, b2n t.flowPresent)]
  else if off = 0x010 then regWord [(0, 13, m.effLimit), (13, 13, t.thermalLimit)]
  else if off = 0x018 then regWord [(0, 10, t.flowMin), (10, 4, t.riseMargin), (14, 11, t.pulsesPerLitre)]
  else if off = 0x020 then BitVec.ofNat 64 t.intStatus else if off = 0x028 then BitVec.ofNat 64 t.intEnable
  else if off = 0x100 then regWord [(0, 12, t.select)]
  else if off = 0x108 then
    if 3842 < t.select then BitVec.allOnes 64
    else if t.select = 3842 then regWord [(0, 12, min t.flow 0xFFF), (24, 1, b2n t.flowPresent)]
    else
      let s := m.sensor t.select
      regWord [(0, 12, signedBits 12 s.reading), (12, 12, signedBits 12 s.forecast), (24, 1, b2n s.valid),
        (25, 1, b2n s.suspect), (26, 1, b2n s.disarmed), (27, 2, s.period)]
  else if 0x200 ≤ off ∧ off < 0x340 then
    let s := (off - 0x200) / 8
    let g (k : Nat) : Nat := signedBits 12 (SMap.get 0 t.groupTemp (s * 4 + k))
    regWord [(0, 12, g 0), (12, 12, g 1), (24, 12, g 2), (36, 12, g 3), (48, 12, signedBits 12 (SMap.get 0 t.peaks s)),
      (60, 1, b2n (m.stackCapped s))]
  else if 0x400 ≤ off ∧ off < 0x450 then
    BitVec.ofNat 64 (maskOf 64 (fun c => (m.cl ((off - 0x400) / 8 * 64 + c)).capped))
  else 0

/-! ## CLK (R451 to R453) -/

/-- The CLK block. A deskew is one indivisible command of the model, so deskew_active is never seen set. -/
def Module.readClk (m : Module) (off : Nat) : Word :=
  let c := m.clocks
  if off = 0x00 then regWord [(0, 1, b2n c.refOk), (1, 1, b2n c.mgmtRefOk), (2, 1, b2n c.hostRefOk), (3, 20, c.halfSlow),
    (23, 1, b2n (!c.relocks.isEmpty))]
  else if off = 0x08 then BitVec.ofNat 64 c.intStatus else if off = 0x10 then BitVec.ofNat 64 c.intEnable
  else if off = 0x18 then BitVec.ofNat 64 c.lockLosses else if off = 0x20 then BitVec.ofNat 64 c.deskews
  else if off = 0x28 then regWord [(0, 4, c.resetScope), (4, 4, c.resetCause), (8, 14, c.resetTarget)]
  else 0

/-! ## MEM (R83 to R90, R129) -/

/-- Slots of the write-hold queue kept for the host (R61): entries of class 5 and up are host rows. -/
def Slice.hostRows (s : Slice) : Nat := countOf (fun e => e.cls == 8) s.holdQueue
/-- Rows the device-side slots hold. -/
def Slice.deviceRows (s : Slice) : Nat := countOf (fun e => e.cls != 8) s.holdQueue

/-- MEM_SLICE_INFO (R90). -/
def Module.sliceInfo (m : Module) (site : Nat) : Word :=
  let s := m.slice site
  regWord [(0, 2, s.state), (2, 2, s.strength), (4, 1, b2n s.retiredBank.isSome), (5, 6, s.retiredBank.getD 0),
    (11, 4, s.merge.length), (15, 7, s.holdQueue.length), (22, 1, b2n (s.hostRows == 8)), (23, 13, s.retiredPages.length)]
/-- MEM_SLICE_CORR (R90). -/
def Module.sliceCorr (m : Module) (site : Nat) : Word :=
  regWord [(0, 32, (m.slice site).corrected), (32, 32, (m.slice site).uncorrectable)]

/-- Some slice has a minimum other than 1 (R86). -/
def Module.arbNonDefault (m : Module) : Bool := m.mem.slices.any (fun s => s.2.mins != [1, 1, 1, 1])

/-- Row reached by the slowest usable slice: the least row in turn among those with the fewest passes (R85). -/
def Module.scrubRow (m : Module) : Nat :=
  let l := (m.mem.slices.filter (fun s => s.2.state != 2)).map (fun s => (s.2.passes, min 4095 (s.2.scrubRow / 64)))
  match l with
  | [] => 0
  | x :: xs => (xs.foldl (fun a b => if b.1 < a.1 ∨ (b.1 = a.1 ∧ b.2 < a.2) then b else a) x).2

/-- Passes every usable slice has completed (R85). -/
def Module.scrubPasses (m : Module) : Nat :=
  (m.mem.slices.filter (fun s => s.2.state != 2)).foldl (fun acc s => if acc.1 then (true, min acc.2 s.2.passes) else (true, s.2.passes))
    ((false, 0) : Bool × Nat) |>.2

/-- Stack groups of the module. -/
def allGroups : List Nat := List.range 160

/-- The MEM block. -/
def Module.readMem (m : Module) (off : Nat) : Word :=
  let e := m.mem
  if off = 0x000 then regWord
    [(0, 14, m.usableSlices), (14, 14, m.orphanSlices), (28, 11, countOf (fun s => s.2.retiredBank.isSome) e.slices),
     (39, 11, countOf (fun r => r.kind == 2) m.bring.record),
     (50, 1, b2n (m.bring.ready && e.scrubHours != 0)), (51, 1, b2n (allGroups.any m.held)),
     (52, 1, b2n (allGroups.any m.halted))]
  else if off = 0x008 then regWord [(0, 8, e.scrubHours)]
  else if off = 0x010 then regWord [(0, 12, m.scrubRow), (32, 16, min m.scrubPasses 0xFFFF)]
  else if off = 0x018 then
    let a := (m.slice 0).mins
    regWord [(0, 4, nth 1 a 0), (4, 4, nth 1 a 1), (8, 4, nth 1 a 2), (12, 4, nth 1 a 3), (16, 1, b2n m.arbNonDefault)]
  else if off = 0x020 then BitVec.ofNat 64 e.corrCount else if off = 0x028 then BitVec.ofNat 64 e.uncorrCount
  else if off = 0x030 then BitVec.ofNat 64 e.poisonReads else if off = 0x038 then BitVec.ofNat 64 e.parityRetries
  else if off = 0x040 then BitVec.ofNat 64 e.wbDrops else if off = 0x048 then BitVec.ofNat 64 e.intStatus
  else if off = 0x050 then BitVec.ofNat 64 e.intEnable else if off = 0x058 then BitVec.ofNat 64 e.bkSteps
  else if off = 0x060 then regWord [(0, 20, e.failedCount), (32, 32, e.stateFaults)]
  else if 0x100 ≤ off ∧ off < 0x150 then
    let d := (off - 0x100) / 8
    regWord ((List.range 16).map (fun k => (3 * k, 3, m.band (d * 16 + k))))
  else if 0x180 ≤ off ∧ off < 0x1D0 then
    let d := (off - 0x180) / 8
    let full (q : Nat) : Bool := (clustersUnder (d * 4 + q)).any (fun c => (sitesOf c).any (fun s => (m.slice s).hostRows == 8))
    regWord [(0, 16, maskOf 16 (fun k => m.held (d * 16 + k))), (16, 4, maskOf 4 full)]
  else if off = 0x200 then regWord [(0, 14, e.select)]
  else if off = 0x208 then if 10239 < e.select then BitVec.allOnes 64 else m.sliceInfo e.select
  else if off = 0x210 then if 10239 < e.select then BitVec.allOnes 64 else m.sliceCorr e.select
  else 0

/-! ## FAB (R567 to R570) -/

/-- FAB_PORT[p] (R569). -/
def FabPort.word (p : FabPort) : Word := regWord
  [(0, 3, p.state), (3, 1, b2n p.wrap), (4, 12, p.peerId), (16, 2, p.peerPort), (18, 1, b2n p.peerValid),
   (32, 16, min p.retrains 0xFFFF)]

/-- The FAB block. -/
def Module.readFab (m : Module) (off : Nat) : Word :=
  let f := m.fab
  if off = 0x000 then regWord
    [(0, 1, b2n m.bring.fabricReady), (1, 2, f.role), (3, 2, f.roleConfig), (5, 1, b2n f.managerLost), (6, 1, b2n f.acting),
     (7, 1, b2n (!m.epochs.staged.isEmpty)), (8, 1, b2n f.paused), (9, 2, f.scheme),
     (11, 4, maskOf 4 (fun p => (m.fport p).state == 2 || (m.fport p).state == 3)), (15, 1, b2n f.slowTx)]
  else if off = 0x008 then regWord [(0, 12, f.deviceId), (12, 1, b2n f.idValid), (16, 12, f.manager), (32, 12, f.lead),
    (44, 6, f.x), (50, 6, f.y)]
  else if off = 0x010 then BitVec.ofNat 64 f.admission
  else if off = 0x018 then regWord [(0, 32, m.epochs.algEpoch), (32, 32, m.epochs.routeEpoch)]
  else if off = 0x020 then regWord [(0, 32, m.epochs.powerEpoch)]
  else if off = 0x028 then BitVec.ofNat 64 f.intStatus else if off = 0x030 then BitVec.ofNat 64 f.intEnable
  else if off = 0x038 then BitVec.ofNat 64 f.epochStalls else if off = 0x040 then BitVec.ofNat 64 f.slowRx
  else if 0x100 ≤ off ∧ off < 0x120 then (m.fport ((off - 0x100) / 8)).word
  else if 0x140 ≤ off ∧ off < 0x160 then BitVec.ofNat 64 (m.fport ((off - 0x140) / 8)).corrected
  else if 0x180 ≤ off ∧ off < 0x1A0 then BitVec.ofNat 64 (m.fport ((off - 0x180) / 8)).replays
  else if 0x1C0 ≤ off ∧ off < 0x1E0 then BitVec.ofNat 64 (m.fport ((off - 0x1C0) / 8)).uncorr
  else 0

/-! ## PRT (R367 to R371) -/

/-- Clusters and sites a partition owns. -/
def Module.clustersOfPart (m : Module) (n : Nat) : List Nat := allClusters.filter (fun c => (m.cl c).owner == some n)
def Module.sitesOfPart (m : Module) (n : Nat) : List Nat := (m.clustersOfPart n).flatMap sitesOf
/-- Its enabled cores, its usable slices, its orphan slices (R330). -/
def Module.coresOfPart (m : Module) (n : Nat) : List Nat := (m.sitesOfPart n).filter (fun s => (m.core s).enabled)
def Module.slicesOfPart (m : Module) (n : Nat) : List Nat := (m.sitesOfPart n).filter (fun s => (m.slice s).state != 2)
def Module.orphansOfPart (m : Module) (n : Nat) : List Nat := (m.sitesOfPart n).filter (fun s => (m.slice s).state == 1)

/-- One register of partition `n`'s 64-byte group (R370, R371, R367). -/
def Module.readPart (m : Module) (n off : Nat) : Word :=
  let p := m.part n
  if off = 0x00 then regWord [(0, 3, p.state), (3, 2, p.strength), (5, 10, (m.clustersOfPart n).length),
    (15, 14, (m.coresOfPart n).length), (29, 14, (m.slicesOfPart n).length), (43, 14, (m.orphansOfPart n).length)]
  else if off = 0x08 then regWord [(0, 10, p.share), (10, 8, p.quantum), (18, 16, p.watchdog), (34, 2, p.priority)]
  else if off = 0x10 then regWord [(0, 48, p.root)]
  else if off = 0x18 then regWord [(0, 16, countOf (fun c => !c.saved) p.contexts), (16, 16, countOf (fun c => c.saved) p.contexts),
    (32, 16, (m.cores.map (fun c => countOf (fun i => i.part == n) c.2.queue)).foldl (· + ·) 0)]
  else if off = 0x20 then BitVec.ofNat 64 p.switches else if off = 0x28 then BitVec.ofNat 64 p.faults
  else if off = 0x30 then BitVec.ofNat 64 p.walks else if off = 0x38 then BitVec.ofNat 64 p.deferred
  else 0

/-- The PRT block. -/
def Module.readPrt (m : Module) (off : Nat) : Word :=
  if off = 0x00 then BitVec.ofNat 64 (maskOf 64 (fun n => (m.part n).state == 2))
  else if off = 0x08 then BitVec.ofNat 64 (maskOf 64 (fun n => let s := (m.part n).state; s == 3 || s == 4 || s == 6))
  else if off = 0x10 then BitVec.ofNat 64 m.parts.intStatus else if off = 0x18 then BitVec.ofNat 64 m.parts.intEnable
  else if off = 0x20 then regWord [(0, 32, m.epochs.layoutEpoch),
    (32, 10, if m.bring.stage < 8 then 0 else countOf (fun c => (m.cl c).owner == none) allClusters)]
  else if 0x1000 ≤ off ∧ off < 0x2000 then m.readPart ((off - 0x1000) / 64) ((off - 0x1000) % 64)
  else 0

/-! ## Core blocks (R170 to R174) -/

/-- A thread without work has a saved context that comes back (R354). -/
def Core.restoring (c : Core) (t : Nat) : Bool :=
  (c.th t).item.isNone && (match c.savedOf t with | some k => c.canResume t k | none => false)

/-- CORE_STATUS.state (R172). The spec gives no precedence where the threads differ (DESIGN CHOICE): resetting, in a reset of any scope
that includes the core; then saving, restoring, halted, running. -/
def Module.coreState (m : Module) (site : Nat) : Nat :=
  let c := m.core site
  let cl := clusterOf site
  let covers (r : ResetRun) : Bool :=
    r.scope == 6 && r.target == site || r.scope == 5 && r.target == cl || r.scope == 4 && (m.cl cl).owner == some r.target ||
    r.scope == 3 && r.target == deckOf cl
  if !c.enabled then 0
  else if m.clocks.resets.any covers then 6
  else if !c.switching.isEmpty then 4
  else if c.restoring 0 || c.restoring 1 then 5
  else if c.t0.halted || c.t1.halted then 3
  else if c.t0.item.isSome || c.t1.item.isSome then 2
  else 1

/-- CORE_INFO (R171). The site reads 0 before S3. -/
def Module.coreInfo (m : Module) (site : Nat) : Word :=
  let c := m.core site
  regWord [(0, 14, if m.bring.stage < 3 then 0 else site), (14, 1, b2n c.enabled), (15, 1, b2n c.spare.isSome),
    (16, 5, c.spare.getD 0), (21, 6, if c.spare.isSome then 33 else 32), (27, 8, c.micro)]

/-- An index register; X0 reads 0 (R135). -/
def Thread.reg (t : Thread) (x : Nat) : Word := if x = 0 then 0 else SMap.get 0 t.regs x
/-- Writes an index register; writes of X0 are discarded (R135). -/
def Thread.setReg (t : Thread) (x : Nat) (v : Word) : Thread :=
  if x = 0 then t else { t with regs := SMap.set 0 t.regs x v }

/-- CORE_FAULT[t] (R174). -/
def Thread.faultWord (t : Thread) : Word :=
  regWord [(0, 8, t.faultCode), (8, 8, t.faultCause), (16, 8, t.faultOp), (24, 1, b2n t.faultValid)]

/-- One register of a core's block. -/
def Module.readCore (m : Module) (site off : Nat) : Word :=
  let c := m.core site
  if off = 0x000 then m.coreInfo site
  else if off = 0x008 then regWord
    [(0, 3, m.coreState site), (3, 1, b2n c.split), (4, 1, b2n c.t0.item.isSome), (5, 1, b2n c.t1.item.isSome),
     (6, 1, b2n c.t0.halted), (7, 1, b2n c.t1.halted), (8, 1, b2n c.wholePending), (9, 1, b2n c.half1.fenced),
     (10, 1, b2n c.half0.fenced)]
  else if off = 0x010 then regWord [(3, 1, b2n c.holdOnFault), (4, 2, c.stallSelect)]
  else if off = 0x020 then regWord [(0, 48, c.t0.pc)] else if off = 0x028 then regWord [(0, 48, c.t1.pc)]
  else if off = 0x030 then regWord [(0, 16, c.t0.status)] else if off = 0x038 then regWord [(0, 16, c.t1.status)]
  else if off = 0x040 then c.t0.faultWord else if off = 0x048 then c.t1.faultWord
  else if off = 0x050 then regWord [(0, 48, c.t0.faultDesc)] else if off = 0x058 then regWord [(0, 48, c.t1.faultDesc)]
  else if off = 0x060 then regWord [(0, 48, c.t0.faultAddr)] else if off = 0x068 then regWord [(0, 48, c.t1.faultAddr)]
  else if 0x080 ≤ off ∧ off < 0x100 then
    let n := (off - 0x80) / 8
    regWord [(0, 32, SMap.get 0 c.counters n)]
  else if 0x100 ≤ off ∧ off < 0x180 then BitVec.ofNat 64 (SMap.get 0 c.latched ((off - 0x100) / 8))
  else if off = 0x180 then BitVec.ofNat 64 c.latchedCycles
  else if off = 0x188 then BitVec.ofNat 64 c.prefetchDrops
  else if 0x200 ≤ off ∧ off < 0x280 then
    let k := (off - 0x200) / 8
    (c.th (k / 8)).reg (k % 8)
  else 0

/-! ## BAR0 (R610, R611, R624) -/

/-- Offsets of the physical function's BAR0 that no block decodes (R610). -/
def pfUndecoded (off : Nat) : Bool :=
  decide (0xB0000 ≤ off ∧ off < 0x100000) || decide (0x140000 ≤ off ∧ off < 0x1000000) || decide (0x3800000 ≤ off)

/-- Blocks served before ready: DEV, LTR, TEL, ERR (R472, R610). -/
def pfEarly (off : Nat) : Bool := let b := off / 65536; b == 0 || b == 1 || b == 3 || b == 4

/-- Offsets a virtual function's BAR0 holds (R624). -/
def vfDecoded (off : Nat) : Bool :=
  decide (off ∈ [0x00, 0x08, 0x10, 0x38]) || decide (0x10000 ≤ off ∧ off < 0x10050) ||
  decide (0x20000 ≤ off ∧ off < 0x20100) || off == 0x21000 || decide (0x30000 ≤ off ∧ off < 0x30060) ||
  decide (off ∈ [0x40000, 0x40008, 0x40018, 0x40020, 0x40028, 0x40030, 0x40038])

/-- Offsets of a virtual function served before ready: the DEV view and the letterbox (R472). -/
def vfEarly (off : Nat) : Bool := decide (off < 0x20000)

/-- The deck window's deck can answer: its controller is neither fenced nor relocking (R623). -/
def Module.windowOk (m : Module) (deck : Nat) : Bool :=
  !(deck ∈ m.bring.decksFenced) && !(m.clocks.relocks.any (fun p => p.1 == .deck deck))

/-- A register of the physical function, by its 8-byte-aligned offset. -/
def Module.readPf (m : Module) (off : Nat) : Word :=
  let b := off / 65536
  let o := off % 65536
  if b = 0 then m.readDev 0 o else if b = 1 then (m.ring (.letter 0)).read false o
  else if b = 2 then (if o < 0x400 then m.readVector 0 o else if o = 0x1000 then m.readPending 0 64 else 0)
  else if b = 3 then m.readTel o else if b = 4 then m.readErr o else if b = 5 then m.readPwr o
  else if b = 6 then m.readThm o else if b = 7 then m.readClk o else if b = 8 then m.readMem o
  else if b = 9 then m.readFab o else if b = 10 then m.readPrt o
  else if 0x100000 ≤ off ∧ off < 0x140000 then (m.ring (.work ((off - 0x100000) / 4096))).read true (off % 4096)
  else if 0x1000000 ≤ off ∧ off < 0x3800000 then
    let s := (off - 0x1000000) / 4096
    if m.windowOk (s / 1024) then m.readCore s (off % 4096) else BitVec.allOnes 64
  else BitVec.allOnes 64

/-- A register of virtual function `n` (R624). -/
def Module.readVf (m : Module) (n off : Nat) : Word :=
  if !vfDecoded off then BitVec.allOnes 64
  else if off < 0x10000 then (if off = 0x38 then m.devWindow n else m.readDev n off)
  else if off < 0x20000 then (m.ring (.letter n)).read false (off - 0x10000)
  else if off < 0x21000 then m.readVector n (off - 0x20000)
  else if off = 0x21000 then m.readPending n 16
  else if off < 0x40000 then (m.ring (.work n)).read true (off - 0x30000)
  else m.readPart n (off - 0x40000)

/-- Whether a BAR0 offset of a function is served now: decoded, and before ready only the early blocks (R472). -/
def Module.bar0Served (m : Module) (fn off : Nat) : Bool :=
  if fn = 0 then !pfUndecoded off && (m.bring.ready || pfEarly off)
  else vfDecoded off && (m.bring.ready || vfEarly off)

/-- What a BAR0 register reads for a function now. -/
def Module.readBar0 (m : Module) (fn off : Nat) : Word :=
  if m.bar0Served fn off then (if fn = 0 then m.readPf off else m.readVf fn off) else BitVec.allOnes 64

end Sys2Proof.Machine
end

