-- ==== Sys2Proof/Machine/Rings.lean ====
section
/-! DEFINITION. The rings in host memory: which completion slots are free (R488), and how a completion entry, the
tail mirror and the MSI-X message leave in order (R486). -/

namespace Sys2Proof.Machine

/-- The function a ring belongs to. -/
def ringFn : Ring → Nat
  | .letter fn => fn
  | .work n => n

/-- Bytes of one completion entry: 32 in a letterbox, 64 in a work ring (R488). -/
def ringCplBytes : Ring → Nat
  | .letter _ => 32
  | .work _ => 64

/-- The vector a ring error of R490 raises (R498). -/
def ringErrorVector (r : Ring) : Nat := if ringFn r = 0 then 16 else 2

/-- Progress completions of a ring that wait to be written: they hold slots no taken entry has reserved. -/
def Module.progressWaiting (m : Module) (r : Ring) : Nat :=
  countOf (fun (c : Cpl) => c.ring == r && !c.reserved) m.port.cpls

/-- R488: a completion slot is free when the tail plus the reserved completions leaves at least one entry short of
the head. -/
def Module.slotFree (m : Module) (r : Ring) : Bool :=
  let q := m.ring r
  decide ((q.cplTail + q.cplSize - q.cplHead) % max q.cplSize 1 + q.taken + m.progressWaiting r + 1 < q.cplSize)

/-- A taken entry's completion frees its reservation; `busy` clears with the last (R488). -/
def RingRegs.release (q : RingRegs) (reserved : Bool) : RingRegs :=
  { q with taken := if reserved then q.taken - 1 else q.taken }

/-- Steps 2 to 4 of R486 for one completion: the entry at the tail, the mirror, the message. A ring without a
completion ring in host memory drops it. While entries taken before a disable are outstanding, busy keeps base, size and tail
as they stood then (R488, R490). -/
def Module.placeCpl (m : Module) (c : Cpl) : Module :=
  let q := m.ring c.ring
  let fn := ringFn c.ring
  if q.cplSize = 0 then m.updRing c.ring (fun q => q.release c.reserved)
  else
    let m1 := m.emit fn (.memWrite fn (q.cplBase + q.cplTail * ringCplBytes c.ring) c.bytes false)
    let tail := (q.cplTail + 1) % q.cplSize
    let m2 := if q.mirrorOn then m1.emit fn (.memWrite fn q.mirror (leBytes 8 tail) false) else m1
    let m3 := m2.updRing c.ring (fun q => ({ q with cplTail := tail }).release c.reserved)
    match c.vector with
    | some v => m3.sendMsix fn v
    | none => m3

/-- The oldest completion waiting for a ring is written (R486). -/
def Module.writeCpl (m : Module) (r : Ring) : Module :=
  match takeFirst (fun (c : Cpl) => c.ring == r) m.port.cpls with
  | none => m
  | some (c, rest) => ({ m with port := { m.port with cpls := rest } }).placeCpl c

/-- Everything waiting for a ring is written: what happens before a reset or a power state takes the port away. -/
def Module.flushRing (m : Module) (r : Ring) : Module :=
  (m.port.cpls.filter (fun (c : Cpl) => c.ring == r)).foldl (fun acc _ => acc.writeCpl r) m

end Sys2Proof.Machine
end

