-- ==== Sys2Proof/WellFormed.lean ====
section
/-! DEFINITION. Which commands exist: unit numbers inside the ranges of R13, records of the length the spec gives
them. A command that fails its check is no command of the hardware, and every meaning stops on it. -/

namespace Sys2Proof

/-- A command packet: 56 parameter bytes, header fields of their sizes, one of the 64 functions (R501, R477). -/
def Cmd.wf (c : Cmd) : Bool :=
  decide (c.fn < Config.functions ∧ c.flags < 256 ∧ c.tag < 65536 ∧ c.partition < 65536 ∧ c.length < 65536) &&
  c.params.length == 56

/-- A descriptor: an existing core site, thread 0 or 1, 32 bytes (R134). -/
def Desc.wf (d : Desc) : Bool :=
  decide (d.site < Config.sites ∧ d.thread < 2) && d.bytes.length == 32

/-- A slice request: an existing site, an offset inside its 512 MiB, aligned to its size, with its data (R37). -/
def MemReq.wf (r : MemReq) : Bool :=
  decide (r.site < Config.sites ∧ r.off < 2 ^ 29 ∧ r.cls < 5) &&
  (if r.row then r.off % 2048 == 0 else r.off % 64 == 0 || r.write) &&
  (if r.write then decide (0 < r.data.length ∧ r.off % 2048 + r.data.length ≤ 2048) else true)

/-- A translation: an existing partition, a 48-bit address. -/
def Walk.wf (w : Walk) : Bool := decide (w.part < Config.partitions ∧ w.va < 2 ^ 48)

/-- A fabric transaction: field widths of R537, a payload of whole 64-byte units up to 4,096 bytes (control
transactions may carry up to 256 bytes). -/
def Trans.wf (t : Trans) : Bool :=
  decide (t.typ < 256 ∧ t.flags < 256 ∧ t.dest < 4096 ∧ t.src < 4096 ∧ t.partition < 64 ∧ t.tag < 2 ^ 32 ∧
    t.epoch < 2 ^ 32 ∧ t.address < 2 ^ 64 ∧ t.aux < 2 ^ 32 ∧ t.step < 65536 ∧ t.hops < 256 ∧ t.payload.length ≤ 65536)

/-- A fabric flit: header fields of R533. -/
def FabFlit.wf (f : FabFlit) : Bool :=
  decide (f.seq < 4096 ∧ f.ack < 4096 ∧ f.kind < 256 ∧ f.stream < 256) && f.credits.length == 8 && f.trans.all Trans.wf

/-- A mesh packet's head. -/
def Flit.wf (f : Flit) : Bool :=
  decide (f.cluster < Config.clusters ∧ (f.inPort < 5 ∨ (f.inPort = 5 ∧ f.cluster % 64 = 27)) ∧ f.typ < 256 ∧ f.flags < 256) &&
  decide (f.dest < 65536 ∧ f.src < 65536 ∧ f.tag < 65536 ∧ f.address < 2 ^ 48 ∧ f.aux < 65536 ∧ f.ctrl < 3)

/-- A ring of an existing function or partition. -/
def Ring.wf : Ring → Bool
  | .letter fn => decide (fn < Config.functions)
  | .work n => decide (n < Config.partitions)

/-- A stop's target exists. -/
def Target.wf : Target → Bool
  | .packet p _ => decide (p < Config.partitions)
  | .context p _ => decide (p < Config.partitions)
  | .thread s t => decide (s < Config.sites ∧ t < 2)
  | .partition p => decide (p < Config.partitions)
  | .bankop _ => true
  | .port p => decide (p < Config.ports)
  | .slice s => decide (s < Config.sites)

/-- A phase-locked loop exists (R438). -/
def Pll.wf : Pll → Bool
  | .cluster c => decide (c < Config.clusters)
  | .half h => decide (h < 20)
  | .stack s => decide (s < Config.stackCount)
  | .deck d => decide (d < Config.decks)

/-- A failing cell lies in a slice (R37). -/
def CellFail.wf (f : CellFail) : Bool := decide (f.site < Config.sites ∧ f.bank < 64 ∧ f.row < 4096)

/-- A sensor of R373. -/
def Reading.wf (r : Reading) : Bool := decide (r.sensor < 3842)

/-- Core sites, threads, clusters. -/
def siteOk (s : Nat) : Bool := decide (s < Config.sites)
def siteThreadOk (s t : Nat) : Bool := decide (s < Config.sites ∧ t < 2)
def clusterOk (c : Nat) : Bool := decide (c < Config.clusters)
def partOk (n : Nat) : Bool := decide (n < Config.partitions)
def fnOk (n : Nat) : Bool := decide (n < Config.functions)
def portOk (n : Nat) : Bool := decide (n < Config.ports)

end Sys2Proof
end

