-- ==== Sys2Proof/Machine/Operands.lean ====
section
/-! DEFINITION. How the fields of a command packet are read (R501), and the frame every letterbox command runs
in: the checks of R507 in their order, the fence, the claims of R511, queue-after-drain (R513), and the completion
of R504 to R506. -/

namespace Sys2Proof.Machine

/-- A parameter field, by its offset in the packet (R501). -/
def pField (c : Cmd) (off size : Nat) : Nat := getLe c.params (off - 8) size
/-- The packet's flags: expert, fence, notify, queue-after-drain. -/
def isExpert (c : Cmd) : Bool := bitOf c.flags 0
def isFence (c : Cmd) : Bool := bitOf c.flags 1
def isNotify (c : Cmd) : Bool := bitOf c.flags 2
def isQueued (c : Cmd) : Bool := bitOf c.flags 3
/-- The data a read of the command's host buffer returned. -/
def hostData (c : Cmd) : List Byte := c.hostIn.getD []

/-- A count, index, number or epoch of the completion detail: 4 bytes (R505). -/
def d4 (v : Nat) : List Byte := leBytes 4 v
/-- A register value, address, time or limit of the completion detail: 8 bytes (R505). -/
def d8 (v : Nat) : List Byte := leBytes 8 v

/-- What a command's own rules answer: done with a status and its detail, refused with a status and R506's first
detail word, to be completed by a later step, or to be tried again because a write of its tables found no slot in a
write-hold queue (R345). -/
inductive Answer where
  | done (st : Nat) (detail : List Byte)
  | refuse (st first : Nat)
  | later
  | again
deriving DecidableEq, Repr

/-- What the opcode tables say of an opcode (R502, R503, R507, R516, R473, R334). -/
structure CmdSpec where
  op : Nat
  pfOnly : Bool := false
  expert : Bool := false
  target : Bool := false
  early : Bool := false
  anyState : Bool := false
  disabledOk : Bool := false
  queued : Bool := false
  fields : List (Nat × Nat) := []

/-- End of the last defined parameter, counted from offset 8 (R503). -/
def CmdSpec.len (s : CmdSpec) : Nat := (s.fields.map (fun f => f.1 + f.2 - 8)).foldl max 0

/-- Offset of the first parameter byte that no field defines and that is not 0 (R10, R503). -/
def CmdSpec.reservedBad (s : CmdSpec) (c : Cmd) : Option Nat :=
  (List.range 56).find? (fun i => !(s.fields.any (fun f => decide (f.1 ≤ i + 8 ∧ i + 8 < f.1 + f.2))) &&
    c.params.getD i 0 != 0) |>.map (· + 8)

/-- Check 2 of R507: the issuer may use the opcode, and a virtual function names its own partition (R502). -/
def CmdSpec.permitted (s : CmdSpec) (c : Cmd) : Bool := c.fn == 0 || (!s.pfOnly && c.partition == c.fn)

/-- Check 3 of R507: device and partition are ready (R473, R334). -/
def CmdSpec.isReady (s : CmdSpec) (c : Cmd) (m : Module) : Bool :=
  if !m.bring.ready then c.fn == 0 && s.early
  else if c.fn = 0 then true
  else
    let st := (m.part c.fn).state
    st == 2 || s.anyState || (s.disabledOk && st == 5)

/-- Check 4 of R507 as far as it is common to all opcodes: offset of the first field in error (R501 to R503, R513). -/
def CmdSpec.malformed (s : CmdSpec) (c : Cmd) : Option Nat :=
  if 16 ≤ c.flags ∨ (isQueued c ∧ !s.queued) then some 1
  else if c.fn = 0 ∧ (if s.target then decide (64 ≤ c.partition) else c.partition != 0xFFFF) then some 4
  else if c.length < s.len ∨ 56 < c.length then some 6
  else s.reservedBad c

/-- Check 5 of R507: expert use without the flag, or the flag without rights (R509). -/
def CmdSpec.expertBad (s : CmdSpec) (c : Cmd) (m : Module) (need : Option Nat) : Option Nat :=
  if isExpert c ∧ !bitOf m.engine.rights c.fn then some 1
  else if !isExpert c ∧ s.expert then some 0
  else if !isExpert c then need
  else none

/-- Checks 1 to 5 of R507, in order: the first failure's status and first detail word. -/
def CmdSpec.check (s : CmdSpec) (c : Cmd) (m : Module) (bad need : Option Nat) : Option (Nat × Nat) :=
  if !s.permitted c then some (stNotPermitted, 0)
  else if !s.isReady c m then some (stNotReady, 0)
  else match s.malformed c with
    | some o => some (stBadParam, o)
    | none => match bad with
      | some o => some (stBadParam, o)
      | none => (s.expertBad c m need).map (fun o => (stExpert, o))

/-! ## Slots of commands in progress -/

/-- The partition field as R502 resolves it. -/
def cmdPart (c : Cmd) : Nat := if c.fn = 0 then c.partition else c.fn

/-- Changes a command's slot. -/
def Module.updCmd (m : Module) (id : Nat) (f : CmdSlot → CmdSlot) : Module :=
  { m with engine := { m.engine with cmds := modFirst (fun s => s.id == id) f m.engine.cmds } }
/-- A command's slot. -/
def Module.cmd (m : Module) (id : Nat) : Option CmdSlot := m.engine.cmds.find? (fun s => s.id == id)

/-- Claims held now: those of running commands and of commands that wait for a work fence, the staged value's
epoch (R526), a firmware session's slots (R584, R587). -/
def Module.heldClaims (m : Module) : List Claim :=
  (m.engine.cmds.filter (fun s => s.phase == .running || s.phase == .fenceWait)).flatMap (·.claims) ++
  (if m.epochs.staged.isEmpty then [] else [.epoch]) ++ (if m.fwSession then [.slots] else [])

/-- Two claims meet. -/
def Module.claimsFree (m : Module) (cs : List Claim) : Bool := !(cs.any (fun c => decide (c ∈ m.heldClaims)))

/-- A command may take its claims: none is held, and no command taken earlier waits for one of them (R511). A waiting command
keeps the list of the claims it wants. -/
def Module.mayClaim (m : Module) (id : Nat) (cs : List Claim) : Bool :=
  m.claimsFree cs && !(m.engine.cmds.any (fun s => s.phase == .waiting && decide (s.id < id) && cs.any (fun c => decide (c ∈ s.claims))))

/-- The earlier commands of the same letterbox that are not complete (R511). -/
def Module.earlier (m : Module) (fn id : Nat) : List CmdSlot :=
  m.engine.cmds.filter (fun s => s.fn == fn && decide (s.id < id))

/-- A fenced command waits for every earlier command of its letterbox, and later ones wait for it (R511). -/
def Module.fenceOpen (m : Module) (fn id flags : Nat) : Bool :=
  if bitOf flags 1 then (m.earlier fn id).isEmpty else !((m.earlier fn id).any (fun s => bitOf s.flags 1))

/-- Commands of one letterbox start in ring order: one starts when every earlier one has (R511). -/
def Module.startOpen (m : Module) (fn id : Nat) : Bool := !((m.earlier fn id).any (fun s => s.phase == .taken))

/-- Removes a command and queues its completion (R504): flags [0] expert honoured, [1] fence, [2] claim, [3] reset. -/
def Module.complete (m : Module) (id st : Nat) (detail : List Byte) : Module :=
  match m.cmd id with
  | none => m
  | some s =>
    let bytes := packRec 8 [⟨0, 2, s.tag⟩, ⟨2, 2, st⟩, ⟨4, 1, s.opcode⟩, ⟨5, 1, s.cplFlags⟩, ⟨6, 2, s.partition⟩] ++
      (detail ++ packRec 24 []).take 24
    { m with
      engine := { m.engine with cmds := m.engine.cmds.filter (fun x => x.id != id) },
      port := { m.port with cpls := m.port.cpls ++
        [⟨.letter s.fn, bytes, if bitOf s.flags 2 then some 0 else none, s.reserved⟩] } }

/-- A refusal: logged with event 0xA2, completed with R506's detail (R507). -/
def Module.refuseCmd (m : Module) (id st first : Nat) : Module :=
  match m.cmd id with
  | none => m
  | some s => (m.hostEvent 0xA2 0xFF s.fn s.opcode st s.tag 0 first).complete id st (d4 first)

/-- A command ends with its answer. -/
def Module.finishCmd (m : Module) (id : Nat) : Answer → Module
  | .done st detail => m.complete id st detail
  | .refuse st first => m.refuseCmd id st first
  | .later => m
  | .again => m.updCmd id (fun s => { s with phase := .waiting })

/-- The slot a command runs in: the one the letterbox took, or a new one. -/
def Module.openSlot (m : Module) (op : Nat) (c : Cmd) (i : Instr) : Module × Nat × Bool :=
  match m.engine.cmds.find? (fun s => s.fn == c.fn && s.tag == c.tag && s.opcode == op && s.phase == .taken) with
  | some s => (m.updCmd s.id (fun s => { s with instr := some i }), s.id, false)
  | none =>
    match m.engine.cmds.find? (fun s => s.instr == some i && s.phase == .waiting) with
    | some s => (m, s.id, true)
    | none =>
      let id := m.engine.nextId
      ({ m with engine := { m.engine with
          nextId := id + 1, cmds := m.engine.cmds ++ [{
             id := id, fn := c.fn, opcode := op, tag := c.tag, flags := c.flags, partition := c.partition,
             phase := .taken, instr := some i, claims := [], cplFlags := 0, reserved := false, effect := false,
             info := [] }] } }, id, false)

/-- R513: the partition whose work fence a command needs; those three opcodes only. -/
def Module.fenceMissing (m : Module) : Option Nat → Option Nat
  | none => none
  | some n => if m.atWorkFence n then none else some n

/-- Gives a slot its claims and lets it act. -/
def Module.actCmd (m : Module) (id : Nat) (cs : List Claim) (body : Nat → Module → Module × Answer) : Module :=
  let m1 := m.updCmd id (fun s => { s with phase := .running, claims := cs })
  let r := body id m1
  r.1.finishCmd id r.2

/-- THE FRAME of a letterbox command: checks, fence, claims, work fence, effect, completion. `bad` is the first
parameter field out of range, `need` the field that needs expert rights, `claims` what R511 lists, `fence` the
partition whose work fence it needs, `body` its own rules from check 6 on. -/
def runCmd (s : CmdSpec) (bad need : Option Nat) (claims : List Claim) (fence : Option Nat) (i : Instr) (c : Cmd)
    (body : Nat → Module → Module × Answer) (m : Module) : Module :=
  let o := m.openSlot s.op c i
  let m1 := o.1
  let id := o.2.1
  if !o.2.2 && !m1.startOpen c.fn id then m1
  else match if o.2.2 then none else s.check c m bad need with
  | some (st, first) => m1.refuseCmd id st first
  | none =>
    let m2 := m1.updCmd id (fun q => { q with cplFlags := if isExpert c then setBit q.cplFlags 0 true else q.cplFlags })
    if !m2.fenceOpen c.fn id c.flags then m2.updCmd id (fun q => { q with phase := .waiting })
    else if (m2.fenceMissing fence).isSome && !isQueued c then m2.refuseCmd id stBusy (m2.itemsOf (fence.getD 0))
    else if !m2.mayClaim id claims then
      m2.updCmd id (fun q => { q with phase := .waiting, claims := claims, cplFlags := setBit q.cplFlags 2 true })
    else match m2.fenceMissing fence with
      | none => m2.actCmd id claims body
      | some n =>
        (m2.updCmd id (fun q => { q with
          phase := .fenceWait, claims := claims, cplFlags := setBit q.cplFlags 1 true, info := [n] })).updPart n
          (fun p => { p with hold := true })

/-- The partition has settings and tables of its own (R334). -/
def Module.partLive (m : Module) (n : Nat) : Bool := let s := (m.part n).state; s == 2 || s == 3 || s == 4 || s == 5

/-- Runs a body only in the states R334 gives. -/
def whenLive (n : Nat) (m : Module) (r : Module × Answer) : Module × Answer := if m.partLive n then r else (m, .refuse stBusy 0)

/-- Writes a record to the command's host buffer: at most the length the packet gives. -/
def Module.toHost (m : Module) (c : Cmd) (bytes : List Byte) : Module :=
  m.emit c.fn (.memWrite c.fn (pField c 8 8) bytes false)

/-- The usual fields of a command with a host buffer: address at 8, length at 16 of at least `n` (R517, R522 ...). -/
def bufferBad (c : Cmd) (n : Nat) : Option Nat :=
  if pField c 16 4 < n then some 16 else if !c.hostOut then some 8 else none

/-- A letterbox command's meaning: well-formed packets run in the frame. -/
def onCmd (c : Cmd) (f : Module → Module) (s : State) : Host.Outcome State Fault Refusal := onModule c.wf f s

end Sys2Proof.Machine
end

