-- ==== Sys2Proof/Machine/Rows.lean ====
section
/-! DEFINITION. Rows of a slice: stored bytes and metadata, what the holding places lay over them (R46), how pending
content is written into its row, and what a decode does (R65 to R67). A row is numbered row × 64 + bank, which is its
slice offset / 2,048. -/

namespace Sys2Proof.Machine

/-! ## Stored content -/

/-- Bytes at consecutive device addresses; an unlisted byte reads 0. -/
def Module.bytesAt (m : Module) (a n : Nat) : List Byte := (List.range n).map (fun i => SMap.get 0 m.mem.bytes (a + i))

/-- Writes bytes at consecutive addresses of a sparse map. -/
def putRange : SMap Byte → Nat → List Byte → SMap Byte
  | b, _, [] => b
  | b, a, x :: xs => putRange (SMap.set 0 b a x) (a + 1) xs

/-- The canonical form of memory: addresses rising, no listed byte equal to what an unlisted address reads as. -/
def Memory.wf (b : List Host.Cell) : Bool := SMap.wf (0 : Byte) b

/-- Writes bytes at consecutive device addresses. -/
def Module.putBytes (m : Module) (a : Nat) (bs : List Byte) : Module :=
  { m with mem := { m.mem with bytes := putRange m.mem.bytes a bs } }

/-- Slice offset, device address and metadata key of a row. -/
def rowOff (r : Nat) : Nat := r * 2048
def rowAddr (site r : Nat) : Nat := devAddr site (rowOff r)
def rowKey (site r : Nat) : Nat := site * 2 ^ 18 + r

/-- A row's metadata (R51). -/
def Module.rowMeta (m : Module) (site r : Nat) : RowMeta := SMap.get {} m.mem.meta_ (rowKey site r)

/-- The bit of Slice.undef that speaks for a row, by where the row stands (R73, R427). -/
def Slice.undefBit (s : Slice) (r : Nat) : Nat :=
  let p := physRow s.retiredBank r
  if 4032 ≤ p / 64 then 8 else p / 64 / 512

/-- A row whose content was lost in Sealed and not written since (R427). -/
def Module.rowUndef (m : Module) (site r : Nat) : Bool :=
  bitOf (m.slice site).undef ((m.slice site).undefBit r) && !(m.rowMeta site r).fresh

/-- Stored bytes `lo` to `lo + n` of a row. -/
def Module.stored (m : Module) (site r lo n : Nat) : List Byte :=
  if m.rowUndef site r then m.unknown n else m.bytesAt (rowAddr site r + lo) n

/-- The metadata a write of a row leaves: poison and its source, the strength and the owning partition at the write (R51); an
unowned slice's rows carry partition 0. -/
def Module.stamp (m : Module) (site r : Nat) (poison : Bool) (source : Nat) : RowMeta :=
  { poison := poison, source := if poison then source else 0, strength := m.strengthAt site (rowOff r) + 1,
    part := ((m.cl (clusterOf site)).owner).getD 0 + 1, fresh := bitOf (m.slice site).undef ((m.slice site).undefBit r) }

/-- Writes a whole row with its metadata. -/
def Module.writeRow (m : Module) (site r : Nat) (data : List Byte) (poison : Bool) (source : Nat) : Module :=
  let m1 := m.putBytes (rowAddr site r) data
  { m1 with mem := { m1.mem with meta_ := SMap.set {} m1.mem.meta_ (rowKey site r) (m.stamp site r poison source) } }

/-! ## The spare area (R36, R49 to R51) -/

/-- Strength and partition a row carries: those of its last write, or of the slice's last zero fill (R51, R52). -/
def Module.rowStrength (m : Module) (site r : Nat) : Nat :=
  match (m.rowMeta site r).strength with
  | 0 => m.strengthAt site (rowOff r)
  | n + 1 => n
def Module.rowPart (m : Module) (site r : Nat) : Nat :=
  match (m.rowMeta site r).part with
  | 0 => (m.slice site).filled
  | n + 1 => n

/-- The four metadata bytes of a row (R51). -/
def Module.metaBytes (m : Module) (site r : Nat) : List Byte :=
  let md := m.rowMeta site r
  leBytes 4 (packBits [(0, 1, b2n md.poison), (1, 2, m.rowStrength site r), (3, 6, m.rowPart site r), (9, 7, md.source)])

/-- The 32 sector checks of a row's data, two bytes each (R50). -/
def sectorChecks (data : List Byte) : List Byte :=
  (List.range 32).flatMap (fun s => leBytes 2 (crc16 ((data.drop (64 * s)).take 64)))

/-- Bytes of BCH parity at a strength code: 15 for each 8 bits of t (R48). -/
def parityLen (strength : Nat) : Nat := 15 * 2 ^ strength
/-- The parity over what the code covers: the data, the sector checks where there are any, the metadata (R48). -/
def parityBytes (strength : Nat) (covered : List Byte) : List Byte :=
  (List.range (parityLen strength)).map (Config.bchParity strength covered)

/-- The 128 spare bytes as R49 lays them out: sector checks, metadata, parity, zeros; at t = 64 parity, metadata, zeros. -/
def spareBytes (strength : Nat) (data md : List Byte) : List Byte :=
  if strength = 3 then parityBytes 3 (data ++ md) ++ md ++ List.replicate 4 0
  else
    let checks := sectorChecks data
    checks ++ md ++ parityBytes strength (data ++ checks ++ md) ++ List.replicate (60 - parityLen strength) 0

/-- The spare area of a stored row. -/
def Module.spareArea (m : Module) (site r : Nat) : List Byte :=
  spareBytes (m.rowStrength site r) (m.stored site r 0 2048) (m.metaBytes site r)

/-! ## The holding places (R46, R53, R61) -/

/-- Two slots of one row together: no byte is valid in both. -/
def joinEntries (a b : MergeEntry) : MergeEntry :=
  { a with
    bytes := b.bytes.foldl (fun acc x => SMap.set 0 acc x.1 x.2) a.bytes, poison := a.poison || b.poison,
    source := if a.source = 0 then b.source else a.source }

/-- The merge-buffer entry, what the write-hold queue holds (a slot of the host's and a device-side one, R61), and the newest
queued full-row write of a row. -/
def Slice.mergeOf (s : Slice) (r : Nat) : Option MergeEntry := s.merge.find? (fun e => e.row == r)
def Slice.holdOf (s : Slice) (r : Nat) : Option MergeEntry :=
  match s.holdQueue.filter (fun e => e.row == r) with
  | [] => none
  | e :: l => some (l.foldl joinEntries e)
def Slice.queuedOf (s : Slice) (r : Nat) : Option Waiting := (s.rowQueue.filter (fun w => w.req.off / 2048 == r)).getLast?

/-- A valid byte of an entry. -/
def MergeEntry.byte (e : MergeEntry) (i : Nat) : Option Byte :=
  match SMap.get 0 e.bytes i with
  | 0 => none
  | v + 1 => some (BitVec.ofNat 8 v)

/-- Every byte of the row is valid. -/
def MergeEntry.full (e : MergeEntry) : Bool := decide (2048 ≤ e.bytes.length)

/-- Adds bytes from `off` on; later bytes overwrite earlier ones (R53). -/
def addBytes : SMap Nat → Nat → List Byte → SMap Nat
  | m, _, [] => m
  | m, i, b :: bs => addBytes (SMap.set 0 m i (b.toNat + 1)) (i + 1) bs

/-- Lays an entry's valid bytes over a row's bytes from `i` on. -/
def applyEntry (e : Option MergeEntry) : Nat → List Byte → List Byte
  | _, [] => []
  | i, b :: bs => ((e.bind (fun x => x.byte i)).getD b) :: applyEntry e (i + 1) bs

/-- What a read of a row's bytes returns: the stored bytes, a queued full-row write, the write-hold slot and the
merge-buffer entry, each over the one before (R46). -/
def Module.view (m : Module) (site r lo n : Nat) : List Byte :=
  let s := m.slice site
  let b := match s.queuedOf r with
    | some w => (w.req.data.drop lo).take n
    | none => m.stored site r lo n
  applyEntry (s.mergeOf r) lo (applyEntry (s.holdOf r) lo b)

/-- An entry's poison over what lies beneath it: a full entry hides it (R54, R55). -/
def overPoison (e : Option MergeEntry) (below : Bool) : Bool :=
  match e with
  | none => below
  | some x => if x.full then x.poison else below || x.poison

/-- Whether a row reads as poisoned (R51, R55, R68). -/
def Module.viewPoison (m : Module) (site r : Nat) : Bool :=
  let s := m.slice site
  let p := match s.queuedOf r with
    | some w => w.req.poison
    | none => (m.rowMeta site r).poison
  overPoison (s.mergeOf r) (overPoison (s.holdOf r) p)

/-- A row has content that waits in a holding place. -/
def Slice.pendingRow (s : Slice) (r : Nat) : Bool :=
  (s.mergeOf r).isSome || (s.holdOf r).isSome || (s.queuedOf r).isSome

/-- The holding places let go of a row. -/
def Slice.forget (s : Slice) (r : Nat) : Slice :=
  { s with
    merge := s.merge.filter (fun e => e.row != r), holdQueue := s.holdQueue.filter (fun e => e.row != r),
    rowQueue := s.rowQueue.filter (fun w => w.req.off / 2048 != r) }

/-- The poison source of an entry over what lies beneath it: the event type a poison write-back carried. -/
def overSource (e : Option MergeEntry) (below : Nat) : Nat :=
  match e with
  | none => below
  | some x => if x.poison ∧ (x.full ∨ below = 0) then x.source else below

/-- The source of the poison a row would be written with; 0 where the poison came with a write. -/
def Module.viewSource (m : Module) (site r : Nat) : Nat :=
  let s := m.slice site
  let b := match s.queuedOf r with
    | some _ => 0
    | none => (m.rowMeta site r).source
  overSource (s.mergeOf r) (overSource (s.holdOf r) b)

/-- A row is written as it reads now. The source of a poison that came with a write (R235, R542) has no event type in the spec: a
free value. -/
def Module.writeView (m : Module) (site r : Nat) : Module :=
  let v := m.viewSource site r
  let src := if v = 0 then (Config.freeWord m.free).toNat % 128 else v
  ({ m with free := m.free + 1 }).writeRow site r (m.view site r 0 2048) (m.viewPoison site r) src

/-- Pending content of a row is written into the row (R46, R54, R61). -/
def Module.settleRow (m : Module) (site r : Nat) : Module :=
  if (m.slice site).pendingRow r then (m.writeView site r).updSlice site (fun s => s.forget r) else m

/-- Only what the write-hold queue and the full-row queue hold of a row is written; a narrow write that came later stays in the
merge buffer (R61). -/
def Module.settleHold (m : Module) (site r : Nat) : Module :=
  let bare := m.updSlice site (fun s => { s with merge := s.merge.filter (fun e => e.row != r) })
  (bare.settleRow site r).updSlice site (fun s => { s with merge := (m.slice site).merge })

/-- The oldest queued full-row write of a row is written; what came later stays where it waits (R46). -/
def Module.settleQueued (m : Module) (site r : Nat) : Module :=
  match takeFirst (fun (w : Waiting) => w.req.off / 2048 == r) (m.slice site).rowQueue with
  | none => m
  | some (w, rest) =>
    let src := (Config.freeWord m.free).toNat % 128
    (({ m with free := m.free + 1 }).writeRow site r w.req.data w.req.poison src).updSlice site (fun s => { s with rowQueue := rest })

/-- Rows with pending content at a slice. -/
def Slice.pendingRows (s : Slice) : List Nat :=
  s.rowQueue.map (fun w => w.req.off / 2048) ++ s.holdQueue.map (·.row) ++ s.merge.map (·.row)

/-- Everything pending at a slice is written (R74, R77, R446). -/
def Module.settleSlice (m : Module) (site : Nat) : Module :=
  (m.slice site).pendingRows.foldl (fun acc r => acc.settleRow site r) m

/-- The layer group that serves the row is under write hold (R57, R64, R73); in Over (R63). -/
def Module.rowHeld (m : Module) (site r : Nat) : Bool := m.held (m.rowGroup site r)
def Module.rowHalted (m : Module) (site r : Nat) : Bool := m.halted (m.rowGroup site r)

/-- Everything whose rows are not held is written; the rest stays (R64). -/
def Module.settleFree (m : Module) (site : Nat) : Module :=
  ((m.slice site).pendingRows.filter (fun r => !m.rowHeld site r)).foldl (fun acc r => acc.settleRow site r) m

/-! ## The write-hold queue (R61) -/

/-- A free slot of the host's 8 or of the 56 for device-side writes. -/
def Slice.holdFree (s : Slice) (host : Bool) : Bool := if host then decide (s.hostRows < 8) else decide (s.deviceRows < 56)

/-- The slot is the row's slot of the host's set, or of the device-side set. -/
def MergeEntry.slotOf (r : Nat) (host : Bool) (e : MergeEntry) : Bool := e.row == r && (e.cls == 8) == host

/-- Bytes `lo` to `lo + n` stop being valid. -/
def dropBytes (b : SMap Nat) (lo n : Nat) : SMap Nat := b.filter (fun x => decide (x.1 < lo ∨ lo + n ≤ x.1))

/-- A write enters the row's slot of its own set, or takes a free one (R61); bytes of the row's other slot that it overwrites are
no longer valid there, and a slot without bytes is free. None where there is no slot. -/
def Module.toHold (m : Module) (site r lo : Nat) (data : List Byte) (poison host : Bool) : Option Module :=
  let s := m.slice site
  let whole := decide (2048 ≤ data.length)
  let other := s.holdQueue.find? (MergeEntry.slotOf r !host)
  let rest := (s.holdQueue.map (fun e =>
    if e.slotOf r !host then { e with bytes := dropBytes e.bytes lo data.length } else e)).filter (fun e => !e.bytes.isEmpty)
  let carried := !whole && match other with
    | some e => e.poison && (dropBytes e.bytes lo data.length).isEmpty
    | none => false
  let queue (s : Slice) : List Waiting := if whole then s.rowQueue.filter (fun w => w.req.off / 2048 != r) else s.rowQueue
  if s.holdQueue.any (MergeEntry.slotOf r host) then
    let join (e : MergeEntry) : MergeEntry :=
      { e with
        bytes := addBytes e.bytes lo data, poison := if whole then poison else e.poison || poison || carried,
        source := if whole then 0 else e.source }
    some (m.updSlice site (fun s => { s with holdQueue := modFirst (MergeEntry.slotOf r host) join rest, rowQueue := queue s }))
  else if s.holdFree host then
    let e : MergeEntry :=
      { row := r, bytes := addBytes [] lo data, poison := poison || carried, cls := if host then 8 else 2, due := false }
    some (m.updSlice site (fun s => { s with holdQueue := rest ++ [e], rowQueue := queue s }))
  else none

/-- Content of a whole row that is older than what the row's slots hold enters beneath it: a queued full-row write whose row came
under write hold, or a write-back (R61, R65, R67). Nothing is lost where the slots already hold the whole row. -/
def Module.toHoldUnder (m : Module) (site r : Nat) (data : List Byte) (poison : Bool) (source : Nat) (host : Bool) : Option Module :=
  let s := m.slice site
  let have_ : SMap Nat := match s.holdOf r with
    | some e => e.bytes
    | none => []
  if 2048 ≤ have_.length then some m
  else
    let under := (addBytes [] 0 data).filter (fun x => SMap.get 0 have_ x.1 == 0)
    if s.holdQueue.any (MergeEntry.slotOf r host) then
      let join (e : MergeEntry) : MergeEntry :=
        { e with
          bytes := under.foldl (fun acc x => SMap.set 0 acc x.1 x.2) e.bytes, poison := e.poison || poison,
          source := if poison ∧ e.source = 0 then source else e.source }
      some (m.updSlice site (fun s => { s with holdQueue := modFirst (MergeEntry.slotOf r host) join s.holdQueue }))
    else if s.holdFree host then
      let e : MergeEntry :=
        { row := r, bytes := under, poison := poison, cls := if host then 8 else 2, due := false, source := if poison then source else 0 }
      some (m.updSlice site (fun s => { s with holdQueue := s.holdQueue ++ [e] }))
    else none

/-! ## What a decode finds (R48, R65 to R67) -/

/-- Bit errors the code of a strength code corrects. -/
def tOf (strength : Nat) : Nat := 8 * 2 ^ strength

/-- A decode's outcome. Counts from 1,000 up stand for patterns a count does not describe: 1,000 uncorrectable, 1,001 a
strength mismatch (R52), 1,002 sector checks that alone disagree (R71), which rows at t = 64 do not have (R49). -/
inductive Decode where
  | clean
  | corrected (n : Nat)
  | checks
  | bad (event : Nat)
deriving DecidableEq, Repr

/-- What a row with `errs` wrong bits decodes to at strength code `strength`. -/
def decodeRow (strength errs : Nat) : Decode :=
  if errs = 0 then .clean
  else if errs = 1002 then (if strength = 3 then .clean else .checks)
  else if errs = 1001 then .bad 0x08
  else if errs ≤ tOf strength then .corrected errs
  else .bad 0x03

/-- The write-back of a row, with flags of R82: into the row, or into a device-side slot of the write-hold queue beneath what the
row's slots hold, or nowhere (R65, R67). A queued full-row write makes it needless. A `direct` one goes into the row whatever
its band: that of a correction detour, whose step has the row open (R112), and that of a bank's relocation (R73). -/
def Module.writeBack (m : Module) (site r : Nat) (data : List Byte) (poison : Bool) (source : Nat) (direct : Bool) : Module × Nat :=
  if m.rowHeld site r ∧ !direct then
    if ((m.slice site).queuedOf r).isSome then (m, 2)
    else match m.toHoldUnder site r data poison source false with
      | some m1 => (m1, 2)
      | none => (m, 4)
  else (m.writeRow site r data poison source, 0)

/-- A write-back that found no slot is counted (R65). -/
def Module.countDrop (m : Module) (flags : Nat) : Module :=
  { m with mem := { m.mem with wbDrops := if flags = 4 then sat64 m.mem.wbDrops 1 else m.mem.wbDrops } }

/-- What a decode of a stored row does: counts, events and the write-back (R50, R65 to R67). `cls` and `req` are the class
and the requester of the access. -/
def Module.afterDecodeAs (m : Module) (site r errs cls req : Nat) (direct : Bool) : Module :=
  let off := rowOff r
  let same := m.writeBack site r (m.stored site r 0 2048) (m.rowMeta site r).poison (m.rowMeta site r).source direct
  match decodeRow (m.strengthAt site off) errs with
  | .clean => m
  | .checks => (same.1.countDrop same.2).memEntry 0x04 site off 0 cls same.2 req
  | .corrected n =>
    let first := !(r ∈ (m.slice site).sinceScrub)
    let m1 := (same.1.countDrop same.2).updSlice site
      (fun s => { s with corrected := sat32 s.corrected 1, sinceScrub := insertNew r s.sinceScrub })
    let m2 := { m1 with mem := { m1.mem with corrCount := sat64 m1.mem.corrCount 1 } }
    let m3 := if first then m2.memEntry 0x01 site off n cls same.2 req else m2
    if tOf (m.strengthAt site off) ≤ 2 * n then m3.memEntry 0x02 site off n cls same.2 req else m3
  | .bad ev =>
    let b := ({ m with free := m.free + 1 }).writeBack site r (m.unknown 2048) true ev direct
    let m1 := b.1.updSlice site (fun s => { s with uncorrectable := sat32 s.uncorrectable 1 })
    let m2 := { m1 with mem := { m1.mem with uncorrCount := sat64 m1.mem.uncorrCount 1 } }
    m2.memEntry ev site off 0xFFFF cls (if b.2 = 4 then 4 else b.2 + 1) req

/-- The decode of an ordinary access. -/
def Module.afterDecode (m : Module) (site r errs cls req : Nat) : Module := m.afterDecodeAs site r errs cls req false

/-- A decode that leaves the data unusable: what is read now is poisoned even if no write-back was possible (R67). -/
def decodeBad (strength errs : Nat) : Bool := match decodeRow strength errs with | .bad _ => true | _ => false

end Sys2Proof.Machine
end

