-- ==== Sys2Proof/Machine/Resets.lean ====
section
/-! DEFINITION. The reset scopes of R446: what each clears and keeps, from core local to cold, how resets that meet
are handled (R447), and the start mode of R458. -/

namespace Sys2Proof.Machine

/-! ## Partitions that are aborted (R339, R446, R499, R512) -/

/-- A command of the partition's function, or of the physical function on the partition, that has had no effect yet; what stops work
or resets goes on (R341, R512). -/
def CmdSlot.undone (s : CmdSlot) (p : Nat) : Bool :=
  (if s.fn = 0 then s.partition == p else s.fn == p) && !s.effect && s.phase != .running &&
  !(decide (s.opcode ∈ [0x0D, 0x11, 0x12]))
/-- Such commands end as cancelled when the partition is aborted (R512). -/
def Module.cancelPartCmds (m : Module) (p : Nat) : Module :=
  (m.engine.cmds.filter (fun s => s.undone p)).foldl (fun acc s => acc.complete s.id stCancelled []) m

/-- R339, R446, R499: an Active partition is aborted and left Disabled; a Draining or Aborting one ends the same way; its commands end
(R512). -/
def Module.abortAndDisable (m : Module) (part : Nat) : Module :=
  let s := (m.part part).state
  if s = 2 ∨ s = 3 ∨ s = 4 then
    (((m.abortPart part).stopsToAbort part).cancelPartCmds part).updPart part (fun q => { q with state := 5, hold := false })
  else m

/-! ## Core local and core (R168, R169, R446) -/

/-- What a reset leaves of a thread: everything clear but the fault registers (R168). Descriptor numbers go on, so that late
answers to abandoned requests match nothing. -/
def Thread.localReset (t : Thread) : Thread :=
  { nextId := t.nextId, faultCode := t.faultCode, faultCause := t.faultCause, faultOp := t.faultOp, faultValid := t.faultValid,
    faultDesc := t.faultDesc, faultAddr := t.faultAddr }

/-- An array half after a reset: no weights, accumulators 0, its fence kept (R168). -/
def ArrayHalf.cleared (h : ArrayHalf) : ArrayHalf := { fenced := h.fenced }

/-- Core local reset (R168): what it clears and keeps of a core. -/
def Core.localReset (c : Core) : Core :=
  { c with
    t0 := c.t0.localReset, t1 := c.t1.localReset, counters := [], split := c.half0.fenced || c.half1.fenced, wholePending := false,
    half0 := c.half0.cleared, half1 := c.half1.cleared, streams := [], late := [], scratch := c.scratch.restored,
    switching := [], due := [] }

/-- A thread owns an event counter: all in whole mode, eight in split mode (R145). -/
def Core.owns (c : Core) (t n : Nat) : Bool := if c.split then n / 8 == t else t == 0

/-- The reset of one thread: only what R159 gives it; the mode stays (R168). -/
def Core.threadReset (c : Core) (t : Nat) : Core :=
  let c1 := (c.updTh t Thread.localReset).updHalf t ArrayHalf.cleared
  { c1 with
    streams := c1.streams.filter (fun p => p.2.thread != t), late := c1.late.filter (fun l => l.1 != t),
    wholePending := c1.wholePending && t != 0, switching := c1.switching.filter (· != t), due := c1.due.filter (· != t),
    counters := c1.counters.filter (fun p => !c1.owns t p.1) }

/-- A core reset: core local, and scratchpad zeroed, fault registers cleared, hold_on_fault and stall_select at
reset (R446, R615). The background test goes on where it stood, and a mark for fencing stays (R236, R239). -/
def Core.coreReset (c : Core) : Core :=
  let d := c.localReset
  { d with t0 := { nextId := d.t0.nextId }, t1 := { nextId := d.t1.nextId }, scratch := { region := d.scratch.region, phase := d.scratch.phase },
           holdOnFault := false, stallSelect := 0 }

/-- R169: a running item on a cleared thread ends at once with ST_CANCELLED; queued items stay. -/
def Module.endRunning (m : Module) (site t : Nat) : Module :=
  ((m.cancelSeqs (fun q => match q.core with | some (s, th, _) => s == site && th == t | none => false)).updCore site
    (fun c => c.abandon t)).endItem site t stCancelled 0 []

/-- Core local reset of a site (R169). -/
def Module.localReset (m : Module) (site : Nat) : Module :=
  ((m.endRunning site 0).endRunning site 1).updCore site Core.localReset

/-- Reset of one thread of a site (R168). -/
def Module.threadReset (m : Module) (site t : Nat) : Module := (m.endRunning site t).updCore site (fun c => c.threadReset t)

/-- An Empty partition: its counters go on counting (R367). -/
def emptied (p : Part) : Part :=
  { switches := p.switches, faults := p.faults, walks := p.walks, deferred := p.deferred, layoutEpoch := p.layoutEpoch }

/-- Panes and statistic registers of the sites' banks become invalid (R93, R446). -/
def Module.dropUnits (m : Module) (ss : List Nat) : Module :=
  { m with mem := { m.mem with units := m.mem.units.filter (fun u => !(u.1 / 64 ∈ ss)) } }

/-- Core reset of sites (R446): microcode is the version in force. -/
def Module.coreReset (m : Module) (ss : List Nat) : Module :=
  let one (acc : Module) (s : Nat) : Module := (acc.localReset s).updCore s (fun c => { c.coreReset with micro := acc.bring.micro })
  let m1 := (ss.foldl one m).dropUnits ss
  { m1 with net := { m1.net with
      insts := m1.net.insts.filter (fun r => !(r.root ∈ ss)), gathers := m1.net.gathers.filter (fun g => !(g.root ∈ ss)) } }

/-- Slice controllers' logic is reset once merge buffers and write-hold queues have drained (R446): what they
hold is written to memory first; bank-op sequences that still had steps to run there are cancelled (R107, R127). -/
def Module.drainSlices (m : Module) (ss : List Nat) : Module :=
  let clean (s : Slice) : Slice := { s with grants := [], bankSeqs := [], holdSlots := [], waiting := [], scrubDue := false }
  let one (acc : Module) (s : Nat) : Module :=
    (((acc.settleSlice s).failWaiting ((acc.slice s).holdSlots ++ (acc.slice s).waiting))).updSlice s clean
  let left (q : BankSeq) : BankSeq :=
    if q.pending.any (fun s => decide (s ∈ ss)) then { q.leave ss with status := stopStatus q.status stCancelled } else q
  let m1 := ss.foldl one m
  { m1 with mem := { m1.mem with seqs := m1.mem.seqs.map left } }

/-- Caches that a reset empties. -/
def Module.dropCaches (m : Module) (sel : CacheOf → Bool) : Module :=
  { m with tlb := {
      leaves := m.tlb.leaves.filter (fun x => !sel x.1), nodes := m.tlb.nodes.filter (fun x => !sel (.core x.1)) } }

/-- Cluster reset (R446): core reset of each core, slice logic, stall counters. -/
def Module.clusterReset (m : Module) (c : Nat) : Module :=
  let m1 := (m.coreReset (sitesOf c)).drainSlices (sitesOf c)
  m1.updCores (sitesOf c) (fun k => { k with stalls := [], cycles := 0, latched := [], latchedCycles := 0, prefetchDrops := 0 })

/-- Partition reset (R446): ABORT, then what a cluster reset does in each of the partition's clusters; left Disabled. -/
def Module.partReset (m : Module) (n : Nat) : Module :=
  let m1 := ((m.abortPart n).stopsToAbort n).updPart n (fun p => { p with state := 5, hold := false })
  (m1.clustersOfPart n).foldl (fun acc c => acc.clusterReset c) m1

/-- Partitions with a cluster on a deck. -/
def Module.partsOnDeck (m : Module) (d : Nat) : List Nat :=
  (List.range 64).filter (fun n => (clustersOf d).any (fun c => (m.cl c).owner == some n))

/-- Deck reset (R446): partitions with a cluster on it are aborted and Disabled, its clusters reset, its
collective engine, transom and trees cleared. -/
def Module.deckReset (m : Module) (d : Nat) : Module :=
  let m1 := (m.partsOnDeck d).foldl (fun acc n => acc.abortAndDisable n) m
  let m2 := (clustersOf d).foldl (fun acc c => acc.clusterReset c) m1
  let gone := (m2.net.trees.filter (fun t => t.1 == d)).map (fun t => (t.2.2.root, t.2.1))
  let kept (p t : Nat) : Bool := !((p, t) ∈ gone)
  { m2.dropCaches (· == .engine d) with
    net := { m2.net with
      trees := m2.net.trees.filter (fun t => !((t.2.2.root, t.2.1) ∈ gone)), reductions := m2.net.reductions.filter (fun r => kept r.root r.tree),
      insts := m2.net.insts.filter (fun r => kept r.root r.tree), casts := m2.net.casts.filter (fun c => c.deck != d),
      transom := SMap.set [] m2.net.transom d [] },
    mem := { m2.mem with transom := SMap.set [] m2.mem.transom d [] } }

/-! ## PERST_N scope (R446, R499, R510, R512, R615) -/

/-- The function's letterbox, MSI-X table and DEV_WINDOW return to their reset values, and so does the work ring
of its partition; its commands end without completions (R499, R512). -/
def Module.functionReset (m : Module) (fn : Nat) : Module :=
  { m with
    port := { m.port with
      funcs := SMap.set {} m.port.funcs fn {}, letters := SMap.set {} m.port.letters fn {},
      works := SMap.set {} m.port.works fn {},
      cpls := m.port.cpls.filter (fun c => c.ring != .letter fn && c.ring != .work fn),
      reads := m.port.reads.filter (fun r => r.fn != fn), bells := m.port.bells.filter (fun b => ringFn b.1 != fn) },
    engine := { m.engine with
      cmds := m.engine.cmds.filter (fun s => s.fn != fn), rights := setBit m.engine.rights fn false,
      expertWindow := if fn = 0 then false else m.engine.expertWindow } }

/-- Every *_INT_ENABLE, the three select registers, CORE_CONTROL.hold_on_fault and stall_select return to reset
(R615). -/
def Module.perstRegs (m : Module) : Module :=
  let m1 := [Blk.err, .mem, .prt, .thm, .pwr, .clk, .fab, .tel].foldl (fun acc b => acc.putEnables b 0) m
  { m1 with
    mem := { m1.mem with select := 0 }, thermal := { m1.thermal with select := 0 },
    power := { m1.power with select := 0 },
    cores := m1.cores.map (fun (p : Nat × Core) => (p.1, { p.2 with holdOnFault := false, stallSelect := 0 })) }

/-- PERST_N scope: the host port, and every Active partition aborted and Disabled; a layout change on its way is
dropped with its command (R446). -/
def Module.perstReset (m : Module) : Module :=
  let m1 := (List.range 64).foldl (fun acc n => acc.abortAndDisable n) m
  let back (p : Part) : Part := if p.state = 1 then emptied p else if p.state = 6 then { p with state := 5 } else p
  let m2 := { m1 with parts := { m1.parts with layout := none, parts := m1.parts.parts.map (fun (p : Nat × Part) => (p.1, back p.2)) } }
  let m3 := (List.range 64).foldl (fun acc fn => acc.functionReset fn) m2
  { (m3.perstRegs).dropCaches (· == .host) with
    port := { m3.port with
      funcs := [], letters := [], works := [], cpls := [], reads := [], bells := [], cfgReady := false, telLatch := none,
      creditsHeld := false, numVfs := 0, bar2Size := 64 * 2 ^ 30, vfBar2Size := 64 * 2 ^ 30 },
    engine := { m3.engine with cmds := [], rights := 0, expertWindow := false } }

/-! ## The start mode (R458) -/

/-- The conditions under which a quick start may run (R458). -/
def Module.quickOk (m : Module) : Bool := m.bring.recordValid && !m.bring.imagesChanged && m.bring.orderly

/-- What module flash keeps over a cold start, the sense of the feeds, and the free values' counter (R446). -/
def Module.flashOnly (m : Module) : Module :=
  { free := m.free,
    power := { feedA := m.power.feedA, feedB := m.power.feedB, standby := true },
    fab := { roleConfig := m.fab.roleConfig, roster := m.fab.roster },
    thermal := { tripAt := m.thermal.tripAt, tripSensor := m.thermal.tripSensor },
    ibiCauses := m.ibiCauses,
    bring := {
      fuse := m.bring.fuse, record := m.bring.record, recordValid := m.bring.recordValid,
      imagesChanged := m.bring.imagesChanged, orderly := m.bring.orderly, shutdown := m.bring.shutdown,
      shutdownPending := m.bring.shutdownPending, lossWritten := m.bring.lossWritten, lastTrip := m.bring.lastTrip,
      lastRail := m.bring.lastRail, lastFeeds := m.bring.lastFeeds, slots := m.bring.slots } }

/-- The cold start re-logs the shutdown record as the first entries, with flag [1] (R593, R596). -/
def Module.relog (m : Module) : Module :=
  if m.bring.shutdownPending then
    let m1 := m.bring.shutdown.foldl (fun acc e => acc.writeEntry { e with flags := setBit e.flags 1 true }) m
    { m1 with
      bring := { m1.bring with shutdownPending := false },
      log := { m1.log with shutdownRecord := true } }
  else m

/-- A cold start: everything but flash is cleared, the log restarts, S0 begins (R446, R454, R596). A requested
quick start that may not be quick is full and logs event 0x83 (R458). -/
def Module.coldStart (m : Module) (quickAsked requested : Bool) (cause : Nat) : Module :=
  let quick := quickAsked && m.quickOk
  let m1 := m.flashOnly
  let m2 := { m1 with
    bring := { m1.bring with
      active := true, quick := quick, reports := [(0, { quick := quick, result := 1, attempt := 1 })] },
    thermal := { m1.thermal with tripSeen := m.bring.lastTrip, tripAt := none },
    clocks := { resets := [⟨0, 0, cause, none⟩] } }
  let m3 := m2.relog
  if quickAsked && requested && !quick then m3.bringEvent 0x83 0 0xFF 2 0 0 else m3

/-- A module reset: rails and link stay, firmware stays loaded, memory and every partition are cleared, bring-up
runs from S3 (R446, R474). The log survives; enables, ERR_CONTROL and the counters of R615 return to reset. -/
def Module.moduleReset (m : Module) (quickAsked : Bool) (cause : Nat) : Module :=
  let quick := quickAsked && m.quickOk
  let b := m.flashOnly
  let dead := m.bring.findings.filter (fun e => e.cause == 0x0013)
  let m1 := { b with
    time := m.time,
    log := { m.log with intStatus := 0, intEnable := 0, threshold := 1, logged := 0, accessAt := [], heldAt := [] },
    port := { linkUp := m.port.linkUp, width := m.port.width, rate := m.port.rate, perst := m.port.perst,
              cfgReady := m.port.cfgReady, out := m.port.out, nextId := m.port.nextId },
    power := { m.power with
      hold := 0, moduleState := 0, intStatus := 0, intEnable := 0, brakes := 0, stretches := 0, select := 0,
      limit := 4400, brake := false, limited := false, hint := false, autoAjar := true, halfSlowOn := true,
      idleAjar := 50, idleShutter := 0, sealing := false, eighths := 0 },
    thermal := { tripSeen := m.thermal.tripSeen, tripAt := m.thermal.tripAt, tripSensor := m.thermal.tripSensor,
                 stop := m.thermal.stop, stopAt := m.thermal.stopAt, alert := m.thermal.alert, flow := m.thermal.flow,
                 flowPresent := m.thermal.flowPresent },
    clocks := { mgmtRefOk := m.clocks.mgmtRefOk, hostRefOk := m.clocks.hostRefOk, resets := [⟨1, 0, cause, none⟩] },
    bring := { b.bring with
      stage := 3, active := true, quick := quick, runModule := m.bring.runModule, runDeck := m.bring.runDeck,
      grade := m.bring.grade, deckRev := m.bring.deckRev, controllerRev := m.bring.controllerRev,
      moduleRev := m.bring.moduleRev, findings := dead, decksFenced := dead.map (fun e => e.unit),
      reports := [(3, { quick := quick, result := 1, attempt := 1 })] } }
  if quickAsked && !quick then m1.bringEvent 0x83 0 0xFF 2 0 0 else m1

/-! ## Resets that meet (R447) -/

/-- The reset `a` includes the reset `b` (R446, R447). -/
def Module.includes (m : Module) (a b : ResetRun) : Bool :=
  if a.scope ≤ 1 then true
  else if a.scope = 3 then
    (b.scope == 3 && a.target == b.target) || (b.scope == 5 && deckOf b.target == a.target) ||
    (b.scope == 6 && deckOf (clusterOf b.target) == a.target)
  else if a.scope = 4 then
    (b.scope == 4 && a.target == b.target) || (b.scope == 5 && (m.cl b.target).owner == some a.target) ||
    (b.scope == 6 && (m.cl (clusterOf b.target)).owner == some a.target)
  else if a.scope = 5 then
    (b.scope == 5 && a.target == b.target) || (b.scope == 6 && clusterOf b.target == a.target)
  else b.scope == a.scope && a.target == b.target

/-- Begins a reset of deck, partition, cluster or core scope. Inside a wider one that is running it only waits
(R447). -/
def Module.startReset (m : Module) (r : ResetRun) : Module :=
  let waits := m.clocks.resets.any (fun q => m.includes q r)
  let m1 := { m with clocks := { m.clocks with resets := m.clocks.resets ++ [r] } }
  if waits then m1
  else if r.scope = 3 then m1.deckReset r.target
  else if r.scope = 4 then m1.partReset r.target
  else if r.scope = 5 then m1.clusterReset r.target
  else m1.coreReset [r.target]

/-- A site is being reset: packets for it are refused (R447). -/
def Module.resetting (m : Module) (site : Nat) : Bool :=
  m.clocks.resets.any (fun q => 1 < q.scope && m.includes q ⟨6, site, 0, none⟩)

/-- The cluster of a site is being reset: accesses to its slices wait (R447). -/
def Module.sliceResetting (m : Module) (site : Nat) : Bool :=
  m.clocks.resets.any (fun q => 1 < q.scope && m.includes q ⟨5, clusterOf site, 0, none⟩)

/-- Commands whose target lies in a reset's scope complete with ST_CANCELLED and flag [3], unless they have taken
effect (R512). `inScope` says of a slot whether its target lies there. -/
def Module.cancelCmds (m : Module) (inScope : CmdSlot → Bool) : Module :=
  (m.engine.cmds.filter (fun s => inScope s && !s.effect)).foldl
    (fun acc s => (acc.updCmd s.id (fun q => { q with cplFlags := setBit q.cplFlags 3 true })).complete s.id stCancelled [])
    m

/-- Whether a claim's object lies in a reset's scope (R512). -/
def Module.claimIn (m : Module) (r : ResetRun) : Claim → Bool
  | .partition n => r.scope ≤ 1 || r.scope == 4 && r.target == n || r.scope == 3 && decide (n ∈ m.partsOnDeck r.target)
  | .tables n => r.scope ≤ 1 || r.scope == 4 && r.target == n || r.scope == 3 && decide (n ∈ m.partsOnDeck r.target)
  | .slice s => r.scope ≤ 1 || m.includes r ⟨6, s, 0, none⟩
  | .tree d _ => r.scope ≤ 1 || r.scope == 3 && r.target == d
  | .stack k => r.scope ≤ 1 || r.scope == 3 && r.target == k / 4
  | _ => r.scope ≤ 1

/-- The commands a reset cancels: those with a claim in its scope; at module scope, all (R512). -/
def Module.cancelForReset (m : Module) (r : ResetRun) (self : Nat) : Module :=
  m.cancelCmds (fun s => s.id != self && (r.scope ≤ 1 || s.claims.any (m.claimIn r) ||
    r.scope == 4 && s.partition == r.target && s.phase != .taken))

/-- A reset of module scope or wider absorbs the narrower ones in progress, whose commands complete with its status (R447), and cancels
every other command; what completions wait is written before it begins (R512). -/
def Module.cancelAll (m : Module) (self : Nat) : Module :=
  let m0 := (m.clocks.resets.filterMap (·.cmd)).foldl (fun (acc : Module) id => acc.complete id stOk []) m
  let m1 := m0.cancelForReset ⟨1, 0, 1, none⟩ self
  (m1.port.letters.map (fun p => p.1)).foldl (fun (acc : Module) fn => acc.flushRing (.letter fn)) m1

/-! ## Commands of this chapter -/

/-- CLK_RESET's code of a DEV.RESET scope (R448, R453). -/
def scopeCode (s : Nat) : Nat := if s = 6 then 1 else 8 - s

def specDevReset : CmdSpec :=
  { op := 0x0D, pfOnly := true, expert := true, fields := [(8, 1), (9, 1), (10, 2)] }

/-- R448, R449: scope 2 to 6, mode only at module scope, target in range, never deck 0. -/
def badDevReset (c : Cmd) : Option Nat :=
  let s := pField c 8 1
  let t := pField c 10 2
  if s < 2 ∨ 6 < s then some 8
  else if (if s = 6 then 1 < pField c 9 1 else pField c 9 1 ≠ 0) then some 9
  else if (s = 2 ∧ Config.sites ≤ t) ∨ (s = 3 ∧ Config.clusters ≤ t) ∨ (s = 4 ∧ 64 ≤ t) ∨ (s = 5 ∧ (t = 0 ∨ 9 < t)) ∨
      (s = 6 ∧ t ≠ 0) then some 10
  else none

/-- A fenced target core or cluster; an Empty partition (R449). -/
def Module.resetFenced (m : Module) (s t : Nat) : Bool :=
  (s == 2 && (m.core t).fenced) ||
  (s == 3 && ((m.cl t).routerFenced || (m.cl t).cellFenced || (sitesOf t).all (fun x => (m.core x).fenced))) || (s == 4 && (m.part t).state == 0)

/-- DEV.RESET's own rules (R447 to R449, R473, R512). The module scope writes its completion first; the others
complete when the reset does. -/
def bodyDevReset (c : Cmd) (id : Nat) (m : Module) : Module × Answer :=
  let s := pField c 8 1
  let t := pField c 10 2
  if m.resetFenced s t then (m, .refuse stFenced 0)
  else if m.thermal.stop ∧ 5 ≤ s then (m, .refuse stThermalHold 0)
  else if s = 6 then
    (((m.complete id stOk []).cancelAll id).moduleReset (pField c 9 1 == 1) 1, .later)
  else
    let r : ResetRun := ⟨scopeCode s, t, 1, some id⟩
    (((m.cancelForReset r id).startReset r).updCmd id (fun q => { q with effect := true }), .later)

/-- DEV.RESET starts a core, cluster, partition, deck or module reset (R448); it claims nothing (R512). Before ready only the
module scope is accepted (R473). -/
def doDevReset (c : Cmd) (m : Module) : Module :=
  runCmd { specDevReset with early := pField c 8 1 == 6 } (badDevReset c) none [] none (.devReset c) c (bodyDevReset c) m
def execDevReset (c : Cmd) (s : State) : Host.Outcome State Fault Refusal := onCmd c (doDevReset c) s

/-- Kind, deck and unit of a reset's entry (R450): the cluster of a cluster or core reset, the deck of a deck reset, else none (DESIGN
CHOICE: the table of R450 names no kind for an event 0x75). -/
def ResetRun.resetUnit (r : ResetRun) : Nat × Nat × Nat :=
  if r.scope = 3 then (3, r.target, 0xFFFF)
  else if r.scope = 5 then (0, deckOf r.target, r.target)
  else if r.scope = 6 then (0, deckOf (clusterOf r.target), clusterOf r.target)
  else (0xFF, 0xFF, 0xFFFF)

/-- RESET_COMPLETE ends a reset in progress (a cold or module reset once its bring-up has set ready) and every one inside it: CLK_RESET, event 0x75, the commands'
completions (R446, R447, R453). After a
PERST_N scope configuration space answers on a trained link (R633). -/
def doResetComplete (scope target : Nat) (m : Module) : Module :=
  match m.clocks.resets.find? (fun r => r.scope == scope && r.target == target) with
  | none => m
  | some r =>
    if r.scope ≤ 1 ∧ !m.bring.ready then m else
    let gone := m.clocks.resets.filter (fun q => m.includes r q)
    let m1 := { m with clocks := { m.clocks with
      resets := m.clocks.resets.filter (fun q => !m.includes r q),
      resetScope := r.scope, resetCause := r.cause, resetTarget := r.target } }
    let k := r.resetUnit
    let m2 := m1.clockEvent 0x75 k.1 k.2.1 k.2.2 0 r.scope 0
    let m3 := gone.foldl (fun acc q => match q.cmd with | some id => acc.complete id stOk [] | none => acc) m2
    if gone.any (fun q => q.scope == 2) then { m3 with port := { m3.port with cfgReady := m3.port.linkUp } } else m3
def execResetComplete (scope target : Nat) (s : State) : Host.Outcome State Fault Refusal :=
  onModule true (doResetComplete scope target) s

/-- PERST_N asserted for at least 100 µs resets the host port (R446, R499, R633); the stages of a bring-up go on
(R474). -/
def doPerstNAssert (widthUs : Nat) (m : Module) : Module :=
  if widthUs < 100 then m
  else
    let m1 := m.perstReset
    { m1 with
      port := { m1.port with perst := true, linkUp := false, linkLost := false },
      clocks := { m1.clocks with resets := m1.clocks.resets ++ [⟨2, 0, 3, none⟩] } }
def execPerstNAssert (widthUs : Nat) (s : State) : Host.Outcome State Fault Refusal :=
  onModule true (doPerstNAssert widthUs) s

end Sys2Proof.Machine
end

