-- ==== Sys2Proof/Machine/Power.lean ====
section
/-! DEFINITION. Power delivery and the power ladder (chapter 13): feeds, rails, regulator cells, operating points,
the module power limit and its brake, current telemetry, louvres, Ajar, Shuttered, Sealed and Boarded, and the PWR
commands. -/

namespace Sys2Proof.Machine

/-! ## Feeds (R399 to R402) -/

/-- Feed 0 is A, feed 1 is B. -/
def Module.feed (m : Module) (f : Nat) : Feed := if f = 0 then m.power.feedA else m.power.feedB
/-- Changes a feed. -/
def Module.updFeed (m : Module) (f : Nat) (g : Feed → Feed) : Module :=
  if f = 0 then { m with power := { m.power with feedA := g m.power.feedA } }
  else { m with power := { m.power with feedB := g m.power.feedB } }

/-- Voltages in 0.1 V: the range in which the ok bit stands (R399). -/
def feedInRange (v : Nat) : Bool := decide (400 ≤ v ∧ v ≤ 600)
/-- Out of range while connected (R400). -/
def feedMarginal (v : Nat) : Bool := decide (380 ≤ v ∧ v < 400) || decide (600 < v ∧ v ≤ 620)

/-- Runs `f`; a change of an ok bit is a management cause (R588). -/
def Module.watchFeeds (m : Module) (f : Module → Module) : Module :=
  let m1 := f m
  if m1.power.feedA.ok = m.power.feedA.ok ∧ m1.power.feedB.ok = m.power.feedB.ok then m1 else m1.ibi 4

/-- The hot-swap of a connected feed opens: its ok bit clears, event 0x60 (R400). -/
def Module.openFeed (m : Module) (f volts cause : Nat) : Module :=
  (m.updFeed f (fun q => { q with volts := volts, opened := true, ok := false })).powerEvent 0x60 f 0xFFFF cause volts 0 0 0

/-- Below 38 V for 100 µs (R400). -/
def doFeedUndervoltage (f volts : Nat) (m : Module) : Module :=
  if (m.feed f).connected ∧ !(m.feed f).opened ∧ volts < 380 then m.openFeed f volts 0 else m
def execFeedUndervoltage (feed volts : Nat) (s : State) : Host.Outcome State Fault Refusal :=
  onModule (decide (feed < 2)) (fun m => m.watchFeeds (doFeedUndervoltage feed volts)) s

/-- Above 62 V for 1 µs (R400). -/
def doFeedOvervoltage (f volts : Nat) (m : Module) : Module :=
  if (m.feed f).connected ∧ !(m.feed f).opened ∧ 620 < volts then m.openFeed f volts 1 else m
def execFeedOvervoltage (feed volts : Nat) (s : State) : Host.Outcome State Fault Refusal :=
  onModule (decide (feed < 2)) (fun m => m.watchFeeds (doFeedOvervoltage feed volts)) s

/-- 38 to 40 V or 60 to 62 V: the feed stays connected with its ok bit clear; event 0x60 with cause 2 at most once
per minute (R400). -/
def doFeedOutOfRange (f volts : Nat) (m : Module) : Module :=
  let q := m.feed f
  if q.connected ∧ !q.opened ∧ feedMarginal volts then
    let m1 := m.updFeed f (fun q => { q with volts := volts, ok := false })
    let due := match q.outAt with | none => true | some t => decide (t + 60000000 ≤ m.time)
    if due then (m1.updFeed f (fun q => { q with outAt := some m.time })).powerEvent 0x60 f 0xFFFF 2 volts 0 0 0 else m1
  else m
def execFeedOutOfRange (feed volts : Nat) (s : State) : Host.Outcome State Fault Refusal :=
  onModule (decide (feed < 2)) (fun m => m.watchFeeds (doFeedOutOfRange feed volts)) s

/-- Within 40 to 60 V for 1 s after its hot-swap opened, unless PWR.FEED opened it: it closes, event 0x61 (R400). -/
def doFeedRestore (f volts : Nat) (m : Module) : Module :=
  let q := m.feed f
  if q.connected ∧ q.opened ∧ !q.held ∧ feedInRange volts then
    (m.updFeed f (fun q => { q with volts := volts, opened := false, ok := true })).powerEvent 0x61 f 0xFFFF 0 volts 0 0 0
  else m
def execFeedRestore (feed volts : Nat) (s : State) : Host.Outcome State Fault Refusal :=
  onModule (decide (feed < 2)) (fun m => m.watchFeeds (doFeedRestore feed volts)) s

/-- A connected feed that lies within 40 to 60 V again has its ok bit set (R399). -/
def doFeedBackInRange (f volts : Nat) (m : Module) : Module :=
  let q := m.feed f
  if q.connected ∧ !q.opened ∧ feedInRange volts then m.updFeed f (fun q => { q with volts := volts, ok := true }) else m
def execFeedBackInRange (feed volts : Nat) (s : State) : Host.Outcome State Fault Refusal :=
  onModule (decide (feed < 2)) (fun m => m.watchFeeds (doFeedBackInRange feed volts)) s

/-! ## Rails (R403, R404) -/

/-- Every rail but standby off: the host link and the fabric links go down with VLINK (R403, R404, R593). -/
def Module.railsOff (m : Module) : Module :=
  { m with
    power := { m.power with vib := false, vdram := false, vpp := false, vlink := false, pwrGood := false },
    port := { m.port with linkUp := false },
    fab := { m.fab with ports := m.fab.ports.map (fun p => if p.state = 4 then p else { p with state := 0 }) } }

/-- A fatal event whose entry is logged only at the next bring-up (0x56, 0x67): the 16 newest entries and the entry
itself go to the shutdown record, every cluster stops (R383, R401, R593). `entry` detects it. -/
def Module.fatalLater (m : Module) (entry : Module → Module) : Module :=
  let m1 := m.logAll
  let e := (entry m1).log.pend
  let n := m1.log.entries.length
  { m1 with
    bring := { m1.bring with
      shutdown := m1.log.entries.drop (n - 16) ++ e, shutdownPending := true, orderly := false },
    clusters := SMap.updAll {} m1.clusters allClusters (fun c => { c with off := true }) }

/-- Both feeds lost: every rail collapses, the loss is written to flash (R401); the two service ports lose what they hold (R575,
R587, R640). -/
def doBothFeedsLost (m : Module) : Module :=
  let m1 := m.fatalLater (fun x => x.powerEvent 0x67 0xFF 0xFFFF 0 0 0 0 0)
  let m2 := m1.railsOff
  { m2 with
    power := { m2.power with
      standby := false,
      feedA := {}, feedB := {} },
    bring := { m2.bring with lastFeeds := true, lossWritten := true } }
def execBothFeedsLost (s : State) : Host.Outcome State Fault Refusal :=
  onState true (fun s => { s with
    m := { s.m.watchFeeds doBothFeedsLost with ibiCauses := [], fwSession := false }, mgmt := {}, jtag := {} }) s

/-- Applying a feed: with the standby rail down a cold start begins at S0, quick when R458 allows; with it up the
feed only joins, one that PWR.FEED opened stays open (R399, R430, R446, R627). -/
def doPowerApplied (f volts : Nat) (m : Module) : Module :=
  let m1 := m.updFeed f (fun q => { q with connected := true, volts := volts, opened := q.held, ok := !q.held && feedInRange volts })
  if m.power.standby then m1 else m1.coldStart true false 0
def execPowerApplied (feed volts : Nat) (s : State) : Host.Outcome State Fault Refusal :=
  onModule (decide (feed < 2)) (fun m => m.watchFeeds (doPowerApplied feed volts)) s

/-- A rail out of band: event 0x68 fatal, every rail but standby off, THERM_ALERT_N asserted (R404). -/
def Module.railFault (m : Module) (volts : Nat) : Module :=
  let m1 := (m.powerEvent 0x68 0xFF 0xFFFF 0 volts 0 0 0).fatalRecord.railsOff
  let m2 := { m1 with bring := { m1.bring with lastRail := true }, thermal := { m1.thermal with alert := true } }
  m2.ibi 3
def doRailFault (_rail volts : Nat) (m : Module) : Module := m.railFault volts
def execRailFault (rail volts : Nat) (s : State) : Host.Outcome State Fault Refusal :=
  onModule (decide (rail < 4)) (doRailFault rail volts) s

/-! ## Regulator cells (R405, R411, R412) -/

/-- A cell is lost: the cluster is capped at point 5, limps at point 1, or is shuttered and fenced with its router
(R411); the loss goes to the field repair record with `recCause` (R412, R80). -/
def Module.loseCell (m : Module) (c cell cause recCause : Nat) : Module :=
  if bitOf (m.cl c).lostCells cell then m
  else
    let before := (m.cl c).point
    let m1 := m.updCl c (fun k => { k with lostCells := setBit k.lostCells cell true })
    let n := (m1.cl c).cells
    let m2 := m1.updCl c (fun k => { k with
      point := min k.point k.cellCap, limp := n == 2, cellFenced := decide (3 ≤ n) })
    let ev := if n = 1 then 0x62 else if n = 2 then 0x63 else 0x64
    let m3 := m2.powerEvent ev 0xFF c cause 0 before (m2.cl c).point 0
    let m4 := m3.addRecord ⟨11, 1, if recCause = 0 then 0x8000 + ev else recCause, c * 4 + cell, 0⟩
    if n < 3 then m4
    else
      let m5 := m4.watchLadder (fun x => x.updCl c (fun k => { k with ladder := 2, louvres := 0, waking := false, off := true }))
      m5.fenceRouter c

/-- CELL_FAILURE: causes 1 over-current, 2 over-temperature, 3 switching lost, 4 output deviation (R411, R432). -/
def doCellFailure (cluster cell cause : Nat) (m : Module) : Module := m.loseCell cluster cell cause 0
def execCellFailure (cluster cell cause : Nat) (s : State) : Host.Outcome State Fault Refusal :=
  onModule (clusterOk cluster && decide (cell < 4 ∧ 1 ≤ cause ∧ cause ≤ 4)) (doCellFailure cluster cell cause) s

/-- A cell is on: VIB is up and the cell is not lost. -/
def Module.cellOn (m : Module) (c cell : Nat) : Bool := m.power.vib && !bitOf (m.cl c).lostCells cell

/-- A boost action; the switch is disarmed in Shuttered (R405). Actions are counted in PWR_CLUSTER (R437). -/
def doBoostSwitch (cluster cell : Nat) (m : Module) : Module :=
  if m.cellOn cluster cell ∧ (m.cl cluster).ladder ≠ 2 then
    m.updCl cluster (fun k => { k with boosts := min (k.boosts + 1) 0xFFFF })
  else m
def execBoostSwitch (cluster cell : Nat) (s : State) : Host.Outcome State Fault Refusal :=
  onModule (clusterOk cluster && decide (cell < 4)) (doBoostSwitch cluster cell) s

/-- A shunt clamp action, in every state in which the cell is on (R405). -/
def doShuntClamp (cluster cell : Nat) (m : Module) : Module :=
  if m.cellOn cluster cell then m.updCl cluster (fun k => { k with boosts := min (k.boosts + 1) 0xFFFF }) else m
def execShuntClamp (cluster cell : Nat) (s : State) : Host.Outcome State Fault Refusal :=
  onModule (clusterOk cluster && decide (cell < 4)) (doShuntClamp cluster cell) s

/-! ## The module power limit (R414, R358) -/

/-- The time since which a condition holds: kept while it holds, dropped when it does not. -/
def since (now : Nat) (holds : Bool) (old : Option Nat) : Option Nat :=
  if holds then some (old.getD now) else none
/-- The condition has held for `dur`. -/
def heldFor (now dur : Nat) : Option Nat → Bool
  | none => false
  | some t => decide (t + dur ≤ now)

/-- The brake engages: every cluster's clock is divided by two; event 0x65 (R414). -/
def Module.engageBrake (m : Module) : Module :=
  if m.power.brake then m
  else ({ m with power := { m.power with brake := true, brakes := sat64 m.power.brakes 1, brakeLow := none } }).powerEvent
    0x65 0xFF 0xFFFF 0 0 0 0 0

/-- The TEL block's power alarm: a rise from below the threshold to it or above sets its cause (R619). -/
def Module.telCheck (m : Module) (i lo width : Nat) (value scale : Int) : Module :=
  let thr : Int := (bitsOf m.telAlarm (lo + width - 1) lo : Int) * scale
  let above := bitsOf m.telAlarm (lo + width - 1) lo != 0 && decide (thr ≤ value)
  let m1 := { m with telPrev := setNth m.telPrev i (b2n above) }
  if above && nth 0 m.telPrev i == 0 then m1.setCause .tel i else m1

/-- A sample of both feeds every 10 µs (R414, R626). -/
def doPowerSample (wattsA wattsB avg100us : Nat) (m : Module) : Module :=
  let m1 := (m.updFeed 0 (fun q => { q with watts := wattsA })).updFeed 1 (fun q => { q with watts := wattsB })
  let w := wattsA + wattsB
  let since0 := since m.time (decide (m.effLimit < w)) m.power.overSince
  let m2 := { m1 with power := { m1.power with inputW := w, overSince := since0 } }
  if m.effLimit + 400 < avg100us ∨ heldFor m.time 10000 since0 then m2.engageBrake else m2
def execPowerSample (wattsA wattsB avg100us : Nat) (s : State) : Host.Outcome State Fault Refusal :=
  onModule true (doPowerSample wattsA wattsB avg100us) s

/-- The newest 1 ms sample of a domain: current in 10 mA, voltage in mV (R415). -/
def Module.lastSample (m : Module) (d : Nat) : Nat := ((SMap.get [] m.power.rings d).getLast?).getD 0
/-- Power of a cluster over the newest sample, in mW. -/
def Module.clusterMw (m : Module) (c : Nat) : Nat :=
  let v := m.lastSample c
  v % 65536 * (v / 65536) / 100
/-- Draw of a partition, in mW (R358). -/
def Module.drawOf (m : Module) (n : Nat) : Nat := ((m.clustersOfPart n).map m.clusterMw).foldl (· + ·) 0

/-- A cluster's point can still be lowered. -/
def Module.canLower (m : Module) (c : Nat) : Bool := (m.cl c).owner.isSome && (m.cl c).goal != 0

/-- Partitions that draw more than their share of the limit and have a cluster above the lowest point (R358). -/
def Module.overShare (m : Module) : List Nat :=
  (List.range 64).filter (fun n => decide ((m.part n).share * m.effLimit < m.drawOf n) && (m.clustersOfPart n).any m.canLower)

/-- The first of a list with the lowest priority. -/
def Module.lowestPriority (m : Module) (l : List Nat) : Option Nat :=
  l.foldl (fun acc n => match acc with
    | none => some n
    | some b => if (m.part n).priority < (m.part b).priority then some n else some b) none

/-- The power cap of each cluster goes one point below its present goal. -/
def Module.lowerCaps (m : Module) (cs : List Nat) : Module :=
  m.updCls cs (fun k => if k.goal = 0 then k else { k with powerCap := k.goal - 1 })

/-- Points are lowered in the order of R358: clusters of partitions over their share, lowest priority first; only
when those have reached their lowest points, every partition that draws. -/
def Module.lowerPower (m : Module) : Module :=
  match m.lowestPriority m.overShare with
  | some n => m.lowerCaps ((m.clustersOfPart n).filter m.canLower)
  | none => m.lowerCaps (allClusters.filter (fun c => m.canLower c && decide (0 < m.clusterMw c)))

/-- PWR_STATUS.power_limited follows the power caps; becoming set is a cause (R433, R436). -/
def Module.refreshLimited (m : Module) : Module :=
  let b := m.clusters.any (fun k => decide (k.2.powerCap < 7))
  let m1 := { m with power := { m.power with limited := b } }
  if b && !m.power.limited then m1.setCause .pwr 4 else m1

/-- Every 1 ms the 100 ms average is compared with the effective limit; a brake is released once the 1 ms average
has stayed below the limit for 1 ms (R414). -/
def doPowerLimitCheck (avg100ms avg1ms : Nat) (m : Module) : Module :=
  let eff := m.effLimit
  let low := since m.time (decide (avg1ms < eff)) m.power.brakeLow
  let free := m.power.brake && heldFor m.time 1000 low
  let m1 := { m with power := { m.power with
    underSince := since m.time (decide (avg100ms * 100 < eff * 95)) m.power.underSince,
    brakeLow := if m.power.brake then low else none,
    brake := m.power.brake && !free } }
  let m2 := if eff < avg100ms then m1.lowerPower.refreshLimited else m1
  m2.telCheck 0 0 13 m.power.inputW 1
def execPowerLimitCheck (avg100ms avg1ms : Nat) (s : State) : Host.Outcome State Fault Refusal :=
  onModule true (doPowerLimitCheck avg100ms avg1ms) s

/-- Capped clusters go up one point once the average has stayed more than 5 % below the limit for 100 ms (R414). -/
def doPowerCapRaise (m : Module) : Module :=
  if heldFor m.time 100000 m.power.underSince then
    let up (k : Cluster) : Cluster :=
      if 7 ≤ k.powerCap then k else if k.target ≤ k.powerCap + 1 then { k with powerCap := 7 } else { k with powerCap := k.powerCap + 1 }
    ({ m with clusters := SMap.updAll {} m.clusters (m.clusters.map Prod.fst) up }).refreshLimited
  else m
def execPowerCapRaise (s : State) : Host.Outcome State Fault Refusal := onModule true doPowerCapRaise s

/-! ## Current telemetry (R415) -/

/-- The number of current domains. -/
def currentDomains : Nat := 1374

/-- One domain's 1 ms mean joins its ring of 1,024; the memory-interface domains read 0 in normal view. -/
def Module.addSample (m : Module) (p : Nat × Nat × Nat) : Module :=
  let d := p.1
  let v := if 734 ≤ d ∧ !(m.cl (d - 734)).functionView then 0 else p.2.1 % 65536 + p.2.2 % 65536 * 65536
  let old := SMap.get [] m.power.rings d
  let new := (old ++ [v]).drop (old.length + 1 - 1024)
  let m1 := { m with power := { m.power with rings := SMap.set [] m.power.rings d new, ringTime := m.time / 1000 } }
  if d < 640 then m1.updCl d (fun k => { k with current := p.2.1 % 65536 }) else m1

def doCurrentSample (samples : List (Nat × Nat × Nat)) (m : Module) : Module :=
  samples.foldl (fun acc p => acc.addSample p) m
def execCurrentSample (samples : List (Nat × Nat × Nat)) (s : State) : Host.Outcome State Fault Refusal :=
  onModule (samples.all (fun p => decide (p.1 < currentDomains))) (doCurrentSample samples) s

/-! ## Operating points (R406 to R410) -/

/-- The half of a cluster runs its network at 0.8 GHz (R409). -/
def Module.halfSlowAt (m : Module) (c : Nat) : Bool := bitOf m.clocks.halfSlow (halfOf c)

/-- One point up or down, towards the lowest bound of R407; above point 2 only in a half at full clock (R408, R409).
The domain of a Shuttered cluster stands at the retention setpoint, those of the function view are set by PWR.VIEW (R405, R413). -/
def doOperatingPointStep (cluster : Nat) (m : Module) : Module :=
  let k := m.cl cluster
  if k.ladder = 2 ∨ k.functionView then m
  else if k.goal < k.point then m.updCl cluster (fun k => { k with point := k.point - 1 })
  else if k.point < k.goal ∧ !(2 ≤ k.point ∧ m.halfSlowAt cluster) then
    m.updCl cluster (fun k => { k with point := if k.pointHeld then k.point else k.point + 1 })
  else m
def execOperatingPointStep (cluster : Nat) (s : State) : Host.Outcome State Fault Refusal :=
  onModule (clusterOk cluster) (doOperatingPointStep cluster) s

/-- A hinted raise is applied when a packet's first item starts on a cluster, with hint_mode 1 and a hint, unless the
cluster is at point 7 or below its target (R410). -/
def Module.raiseHint (m : Module) (c hint : Nat) : Module :=
  let k := m.cl c
  if m.power.hint ∧ hint ≠ 0 ∧ k.point ≠ 7 ∧ k.goal = k.target then m.updCl c (fun k => { k with hintRaised := true })
  else m

/-- The raise ends (R410). -/
def doRampHintExpiry (cluster : Nat) (m : Module) : Module := m.updCl cluster (fun k => { k with hintRaised := false })
def execRampHintExpiry (cluster : Nat) (s : State) : Host.Outcome State Fault Refusal :=
  onModule (clusterOk cluster) (doRampHintExpiry cluster) s

/-! ## Louvres and wakes (R416 to R418) -/

/-- The next louvre of a waking cluster closes, once the interval since its last closure is over; a droop above 25 mV or a quadrant
current above 153.6 A stretches the next interval (R417). -/
def doLouvreClosure (cluster droopMv quadrantDa : Nat) (m : Module) : Module :=
  let k := m.cl cluster
  if k.waking ∧ k.louvres < 8 ∧ (k.louvres = 0 ∨ k.louvreAt + k.interval ≤ m.time) then
    let long := k.louvres < 7 ∧ (25 < droopMv ∨ 1536 < quadrantDa)
    let m1 := m.updCl cluster (fun k => { k with louvres := k.louvres + 1, louvreAt := m.time, interval := if long then 4 else 1 })
    if long then { m1 with power := { m1.power with stretches := sat64 m1.power.stretches 1 } } else m1
  else m
def execLouvreClosure (cluster droopMv quadrantDa : Nat) (s : State) : Host.Outcome State Fault Refusal :=
  onModule (clusterOk cluster) (doLouvreClosure cluster droopMv quadrantDa) s

/-- A hold of PWR.LADDER or a coolant stop keeps clusters down (R424, R388). -/
def Module.heldDown (m : Module) : Bool := m.power.hold != 0 || m.thermal.stop

/-- The slices of a cluster leave self-refresh. -/
def Module.slicesOn (m : Module) (c : Nat) : Module := m.updSlices (sitesOf c) (fun s => { s with selfRefresh := false })

/-- All louvres closed: the cluster is released at point 0; in a held cluster the slice islands alone are up
(R405, R418, R425). -/
def doClusterWakeComplete (cluster : Nat) (m : Module) : Module :=
  let k := m.cl cluster
  if k.waking ∧ k.louvres = 8 then
    if m.heldDown then
      (m.updCl cluster (fun k => { k with waking := false, sliceIsland := true, point := 0 })).slicesOn cluster
    else
      (m.watchLadder (fun x => x.updCl cluster (fun k => { k with
        waking := false, sliceIsland := false, ladder := 0, point := 0 }))).slicesOn cluster
  else m
def execClusterWakeComplete (cluster : Nat) (s : State) : Host.Outcome State Fault Refusal :=
  onModule (clusterOk cluster) (doClusterWakeComplete cluster) s

/-! ## Ajar and Shuttered (R420 to R425) -/

/-- No thread of the cluster holds an item and none is queued (R421). -/
def Module.clusterIdle (m : Module) (c : Nat) : Bool :=
  (sitesOf c).all (fun s => let k := m.core s; k.t0.item.isNone && k.t1.item.isNone && k.queue.isEmpty)
/-- No thread of the cluster holds an item. -/
def Module.clusterFree (m : Module) (c : Nat) : Bool :=
  (sitesOf c).all (fun s => let k := m.core s; k.t0.item.isNone && k.t1.item.isNone)
/-- The bank-op queues of the cluster's slices are empty (R118). -/
def Module.bankQueuesEmpty (m : Module) (c : Nat) : Bool := (sitesOf c).all (fun s => (m.slice s).bankSeqs.isEmpty)
/-- Every thread of the cluster is quiet. -/
def Module.clusterQuiet (m : Module) (c : Nat) : Bool :=
  (sitesOf c).all (fun s => (m.core s).quiet 0 && (m.core s).quiet 1)

/-- A stream is suspended: it goes back to its first byte not delivered; what it prefetched and what waits in the feed buffer
is fetched again (R355). -/
def Stream.suspend (s : Stream) : Stream :=
  let first := (s.pieces.map (·.pos)).foldl min s.pos
  { s with pos := first - s.feed.length, pieces := [], feed := [], stopped := false }
/-- The streams of a core are suspended, and the background test restores its region (R238, R355). -/
def Core.suspend (c : Core) : Core :=
  { c with streams := c.streams.map (fun (p : Nat × Stream) => (p.1, p.2.suspend)), scratch := c.scratch.restored }

/-- Clusters enter Shuttered: threads suspended, merge buffers and write-hold queues drained as far as the bands
allow, panes and statistic registers invalid, slices in self-refresh, louvres open (R93, R416, R422, R64). -/
def Module.shutter (m : Module) (cs : List Nat) : Module :=
  let ss := cs.flatMap sitesOf
  let live := ss.filter (fun s => (m.slice s).state != 2)
  let m2 := live.foldl (fun acc s => acc.settleFree s) (m.dropUnits ss)
  let m3 := m2.updCores ss Core.suspend
  let shut (k : Cluster) : Cluster := { k with ladder := 2, louvres := 0, waking := false, sliceIsland := false, interval := 1 }
  let m4 := m3.watchLadder (fun x => x.updCls cs shut)
  m4.updSlices live (fun s => { s with selfRefresh := s.pendingRows.isEmpty })

/-- Clusters not yet in the state a hold asks for enter it when nothing keeps them: bank-op queues empty (R118), and for Shuttered
every thread quiet. A coolant stop goes by way of Ajar (R388). A cluster that cannot enter Shuttered from Ajar yet restarts its
clocks at point 0 (R422). -/
def Module.pursue (m : Module) : Module :=
  let g := m.ladderGoal
  if g = 0 then m
  else
    let ajar := allClusters.filter (fun c => (m.cl c).ladder == 0 && m.bankQueuesEmpty c)
    let m1 := if (g = 2 ∧ !m.thermal.stop) ∨ ajar.isEmpty then m else m.toAjar ajar
    if g = 1 then m1
    else
      let go (c : Nat) : Bool := m1.clusterQuiet c && m1.bankQueuesEmpty c
      let shut := allClusters.filter (fun c => (m1.cl c).ladder != 2 && go c)
      let m2 := m1.updCls (allClusters.filter (fun c => (m1.cl c).ladder == 1 && !go c)) (fun k => { k with point := 0 })
      if shut.isEmpty then m2 else m2.shutter shut

/-- Every cluster has reached the state of the hold, or deeper. -/
def Module.reached (m : Module) : Bool := allClusters.all (fun c => decide (m.power.hold ≤ (m.cl c).ladder))

/-- PWR.LADDER's completion is posted once every cluster has reached the state (R424). -/
def Module.ladderDone (m : Module) : Module :=
  if m.power.hold ≠ 0 ∧ m.reached then
    (m.engine.cmds.filter (fun s => s.opcode == 0x41 && s.phase == .running)).foldl
      (fun acc s => acc.complete s.id stOk (d4 acc.power.hold)) m
  else m

/-- What any event that may let a held cluster go down ends with. -/
def Module.settleLadder (m : Module) : Module := m.pursue.ladderDone

/-- An idle cluster enters Ajar (R421), once its bank-op queues are empty (R118). -/
def doAjarIdleTimeout (cluster : Nat) (m : Module) : Module :=
  if m.power.autoAjar ∧ (m.cl cluster).ladder = 0 ∧ m.clusterIdle cluster ∧ m.bankQueuesEmpty cluster then m.toAjar [cluster]
  else m.settleLadder
def execAjarIdleTimeout (cluster : Nat) (s : State) : Host.Outcome State Fault Refusal :=
  onModule (clusterOk cluster) (doAjarIdleTimeout cluster) s

/-- The cluster's partition is Empty or Disabled, or it has none (R421). -/
def Module.unneeded (m : Module) (c : Nat) : Bool :=
  match (m.cl c).owner with
  | none => true
  | some n => (m.part n).state == 0 || (m.part n).state == 5

/-- An Ajar cluster enters Shuttered (R421, R422). -/
def doShutterIdleTimeout (cluster : Nat) (m : Module) : Module :=
  if (m.cl cluster).ladder = 1 ∧ ((m.power.idleShutter ≠ 0 ∧ m.clusterFree cluster) ∨ m.unneeded cluster) ∧
      m.clusterQuiet cluster ∧ m.bankQueuesEmpty cluster then m.shutter [cluster]
  else m.settleLadder
def execShutterIdleTimeout (cluster : Nat) (s : State) : Host.Outcome State Fault Refusal :=
  onModule (clusterOk cluster) (doShutterIdleTimeout cluster) s

/-- A cluster leaves Ajar, unless a hold keeps it (R420, R425). -/
def doAjarExit (cluster : Nat) (m : Module) : Module := if m.heldDown then m else m.leaveAjar [cluster]
def execAjarExit (cluster : Nat) (s : State) : Host.Outcome State Fault Refusal :=
  onModule (clusterOk cluster) (doAjarExit cluster) s

/-- A thread that has not quiesced within 1 ms of the entry to Shuttered is aborted; event 0x66 (R422). -/
def doShutterQuiesceTimeout (site thread : Nat) (m : Module) : Module :=
  let t := (m.core site).th thread
  if m.ladderGoal = 2 ∧ (m.cl (clusterOf site)).ladder ≠ 2 ∧ t.item.isSome ∧ !(m.core site).quiet thread then
    let m1 := m.powerEvent 0x66 0xFF (clusterOf site) 0 0 0 0 1000
    (m1.cancelAt (fun th _ => th == thread) site stCancelled).settleLadder
  else m
def execShutterQuiesceTimeout (site thread : Nat) (s : State) : Host.Outcome State Fault Refusal :=
  onModule (siteThreadOk site thread) (doShutterQuiesceTimeout site thread) s

/-- The slices of a held Shuttered cluster return to self-refresh 1 ms after the last access (R425), once their bank-op queues are
empty; panes and statistic registers become invalid (R93, R118). -/
def doSliceIslandReturn (cluster : Nat) (m : Module) : Module :=
  if (m.cl cluster).sliceIsland ∧ (sitesOf cluster).all (fun s => (m.slice s).waiting.isEmpty && (m.slice s).holdSlots.isEmpty) ∧
      m.bankQueuesEmpty cluster then
    let m1 := (sitesOf cluster).foldl (fun acc s => acc.settleFree s) (m.dropUnits (sitesOf cluster))
    (m1.updCl cluster (fun k => { k with sliceIsland := false, louvres := 0 })).updSlices (sitesOf cluster)
      (fun s => { s with selfRefresh := s.pendingRows.isEmpty })
  else m
def execSliceIslandReturn (cluster : Nat) (s : State) : Host.Outcome State Fault Refusal :=
  onModule (clusterOk cluster) (doSliceIslandReturn cluster) s

/-! ## Sealed (R426 to R428) -/

/-- Eighth of a row below 4,096: 512 rows each (R426). -/
def eighthOf (row : Nat) : Nat := row / 512

/-- Eighths not retained lose their content: the rows' bytes and metadata are no longer what was written (R427). -/
def Module.loseEighths (m : Module) (keep : Nat) : Module :=
  let gone (a : Nat) : Bool := !bitOf keep (eighthOf (physRow (m.slice (a / 2 ^ 29)).retiredBank (a % 2 ^ 29 / 2048) / 64))
  let lost := maskOf 8 (fun e => !bitOf keep e) + (if bitOf keep 7 then 0 else 256)
  { m with mem := { m.mem with
      bytes := m.mem.bytes.filter (fun c => !gone c.1),
      meta_ := m.mem.meta_.filter (fun p => !gone (p.1 * 2048)),
      slices := m.mem.slices.map (fun (p : Nat × Slice) => (p.1, { p.2 with undef := p.2.undef ||| lost })) } }

/-- A slice that stayed in normal refresh because of held rows enters self-refresh once its cluster is Shuttered and nothing waits
to be written (R64). -/
def Module.sleepDrained (m : Module) (site : Nat) : Module :=
  let k := m.cl (clusterOf site)
  if k.ladder = 2 ∧ !k.sliceIsland ∧ !k.waking ∧ (m.slice site).pendingRows.isEmpty then
    m.updSlice site (fun s => { s with selfRefresh := true })
  else m

/-- The module enters Sealed once every bank-op queue is empty (R118): every cluster Shuttered, rows outside the retained eighths off, VIB and VLINK off
(R426). -/
def doSealedEntry (m : Module) : Module :=
  if m.power.sealing ∧ allClusters.all m.bankQueuesEmpty then
    let open_ := allClusters.filter (fun c => (m.cl c).ladder != 2)
    let m1 := (m.shutter open_).loseEighths m.power.eighths
    m1.watchLadder (fun x => { x with
      power := { x.power with sealing := false, moduleState := 3, vib := false, vlink := false },
      port := { x.port with linkUp := false },
      fab := { x.fab with ports := x.fab.ports.map (fun p => if p.state = 4 then p else { p with state := 0 }) } })
  else m
def execSealedEntry (s : State) : Host.Outcome State Fault Refusal := onModule true doSealedEntry s

/-- The module returns from Sealed to Open: rails up, every cluster woken, microcode reloaded, scratchpads zeroed
(R228, R428). The links come up by their own training. -/
def doSealedExit (m : Module) : Module :=
  if m.power.moduleState = 3 then
    let on (k : Cluster) : Cluster := if k.cellFenced then k else { k with ladder := 0, louvres := 8, waking := false, sliceIsland := false }
    let m1 := m.watchLadder (fun x => { x with
      power := { x.power with moduleState := 0, hold := 0, vib := true, vlink := true },
      clusters := SMap.updAll {} x.clusters allClusters on })
    let live := m1.cores.map (·.1)
    ((m1.updSlices (m1.mem.slices.map (·.1)) (fun s => { s with selfRefresh := false })).zeroPads live).updCores live
      (fun c => { c with micro := m1.bring.micro })
  else m
def execSealedExit (s : State) : Host.Outcome State Fault Refusal := onModule true doSealedExit s

/-! ## Boarded (R429) -/

/-- Only the standby rail is on: module flash, the log and the time base survive (R419, R596). -/
def Module.enterBoarded (m : Module) : Module :=
  m.watchLadder (fun m =>
    let b := m.flashOnly
    { b with
      time := m.time, log := m.log,
      port := { out := m.port.out, nextId := m.port.nextId, perst := m.port.perst },
      clocks := { mgmtRefOk := m.clocks.mgmtRefOk },
      power := { b.power with moduleState := 4 },
      thermal := { b.thermal with flow := m.thermal.flow, flowPresent := m.thermal.flowPresent },
      bring := { b.bring with orderly := true, runModule := m.bring.runModule, controllerRev := m.bring.controllerRev,
                              stage := m.bring.stage, grade := m.bring.grade, moduleRev := m.bring.moduleRev } })

/-! ## PWR commands (R430, R431) -/

def specPwrLimit : CmdSpec := { op := 0x40, pfOnly := true, fields := [(8, 2)] }
/-- PWR.LIMIT sets the programmed limit; its detail is the previous one (R414, R430). -/
def bodyPwrLimit (c : Cmd) (_id : Nat) (m : Module) : Module × Answer :=
  ({ m with power := { m.power with limit := pField c 8 2 } }, .done stOk (d8 m.power.limit))
def doPwrLimit (c : Cmd) (m : Module) : Module :=
  runCmd specPwrLimit (if pField c 8 2 < 1500 ∨ 4400 < pField c 8 2 then some 8 else none) none [.power] none
    (.pwrLimit c) c (bodyPwrLimit c) m
def execPwrLimit (c : Cmd) (s : State) : Host.Outcome State Fault Refusal := onCmd c (doPwrLimit c) s

def specPwrLadder : CmdSpec := { op := 0x41, pfOnly := true, fields := [(8, 1), (9, 1)] }
/-- The target is 0 to 4; a mask goes with Sealed only (R430). -/
def badPwrLadder (c : Cmd) : Option Nat :=
  if 4 < pField c 8 1 then some 8 else if pField c 8 1 ≠ 3 ∧ pField c 9 1 ≠ 0 then some 9 else none
/-- Every partition is Empty, or Disabled with its table pool inside the retained eighths (R426). -/
def Module.sealOk (m : Module) (mask : Nat) : Bool :=
  (List.range 64).all (fun n =>
    let p := m.part n
    p.state == 0 || (p.state == 5 && p.pool.all (fun e =>
      (List.range e.2).all (fun k => bitOf mask (eighthOf (rowOf (e.1 + k * 65536)))))))
/-- PWR.LADDER (R424, R426, R429, R431). -/
def bodyPwrLadder (c : Cmd) (id : Nat) (m : Module) : Module × Answer :=
  let t := pField c 8 1
  if t = 0 then
    if m.thermal.stop then (m, .refuse stThermalHold 0)
    else
      let m1 := { m with power := { m.power with hold := 0 } }
      let m2 := m1.leaveAjar (allClusters.filter (fun c => (m1.cl c).ladder == 1 && !(m1.cl c).clockStopped))
      let m3 := (allClusters.filter (fun c => (m2.cl c).ladder == 2 && !(m2.cl c).cellFenced && !m2.unneeded c)).foldl
        (fun acc c => acc.wake c) m2
      (m3, .done stOk (d4 0))
  else if t ≤ 2 then
    let m1 := ({ m with power := { m.power with hold := t } }).pursue
    if m1.reached then (m1, .done stOk (d4 t)) else (m1, .later)
  else if t = 3 then
    if m.sealOk (pField c 9 1) then
      ({ m with power := { m.power with sealing := true, eighths := pField c 9 1 } }, .done stOk (d4 3))
    else (m, .refuse stBusy 0)
  else if (List.range 64).any (fun n => (m.part n).state == 2) then (m, .refuse stBusy 0)
  else (((m.complete id stOk (d4 4)).flushRing (.letter c.fn)).enterBoarded, .later)
def doPwrLadder (c : Cmd) (m : Module) : Module :=
  runCmd specPwrLadder (badPwrLadder c) none [.power] none (.pwrLadder c) c (bodyPwrLadder c) m
def execPwrLadder (c : Cmd) (s : State) : Host.Outcome State Fault Refusal := onCmd c (doPwrLadder c) s

/-- Opens or closes a feed by command (R430, R431): opening needs the other feed good. `none` means refused. -/
def Module.commandFeed (m : Module) (f : Nat) (open_ : Bool) : Option Module :=
  if open_ then
    if (m.feed (1 - f)).ok then
      some ((if (m.feed f).opened then m else m.openFeed f (m.feed f).volts 3).updFeed f (fun q => { q with held := true }))
    else none
  else
    let q := m.feed f
    let m1 := m.updFeed f (fun q => { q with held := false, opened := false, ok := q.connected && feedInRange q.volts })
    some (if q.opened then m1.powerEvent 0x61 f 0xFFFF 0 q.volts 0 0 0 else m1)

def specPwrFeed : CmdSpec := { op := 0x42, pfOnly := true, expert := true, fields := [(8, 1), (9, 1)] }
def bodyPwrFeed (c : Cmd) (_id : Nat) (m : Module) : Module × Answer :=
  match m.commandFeed (pField c 8 1) (pField c 9 1 == 1) with
  | none => (m, .refuse stBusy 0)
  | some m2 =>
    let m1 := m.watchFeeds (fun _ => m2)
    (m1, .done stOk (d8 m1.pwrFeed.toNat))
/-- PWR.FEED opens or closes a feed; a feed it opened stays open until it closes it (R430). -/
def doPwrFeed (c : Cmd) (m : Module) : Module :=
  runCmd specPwrFeed (if 1 < pField c 8 1 then some 8 else if 1 < pField c 9 1 then some 9 else none) none [.power] none
    (.pwrFeed c) c (bodyPwrFeed c) m
def execPwrFeed (c : Cmd) (s : State) : Host.Outcome State Fault Refusal := onCmd c (doPwrFeed c) s

/-- A partition's target point (R407). -/
def Module.setTarget (m : Module) (n p : Nat) : Module :=
  m.updCls (m.clustersOfPart n) (fun k => { k with target := p })
/-- The target a partition has: its first cluster's, 4 with none (R407). -/
def Module.targetOf (m : Module) (n : Nat) : Nat :=
  match m.clustersOfPart n with | [] => 4 | c :: _ => (m.cl c).target

def specPwrOppoint : CmdSpec := { op := 0x43, target := true, fields := [(8, 1)] }
def bodyPwrOppoint (c : Cmd) (_id : Nat) (m : Module) : Module × Answer :=
  whenLive (cmdPart c) m (m.setTarget (cmdPart c) (pField c 8 1), .done stOk (d4 (m.targetOf (cmdPart c))))
/-- PWR.OPPOINT sets the partition's target point; 5 to 7 are expert (R430). -/
def doPwrOppoint (c : Cmd) (m : Module) : Module :=
  runCmd specPwrOppoint (if 7 < pField c 8 1 then some 8 else none) (if 4 < pField c 8 1 then some 8 else none) [] none
    (.pwrOppoint c) c (bodyPwrOppoint c) m
def execPwrOppoint (c : Cmd) (s : State) : Host.Outcome State Fault Refusal := onCmd c (doPwrOppoint c) s

def specPwrCurrent : CmdSpec := { op := 0x44, pfOnly := true, fields := [(8, 8), (16, 4), (20, 2), (22, 2), (24, 2)] }
/-- Domains in range, 1 to 1,024 samples, a buffer that holds them (R430, R431). -/
def badPwrCurrent (c : Cmd) : Option Nat :=
  let n := pField c 22 2
  let k := pField c 24 2
  if currentDomains ≤ pField c 20 2 then some 20
  else if n = 0 ∨ currentDomains < pField c 20 2 + n then some 22
  else if k = 0 ∨ 1024 < k then some 24
  else bufferBad c (4 * n * k)
/-- The most recent `k` samples of a domain, oldest first; samples never taken read 0 (R415, R430). -/
def Module.recentSamples (m : Module) (d k : Nat) : List Byte :=
  let r := SMap.get [] m.power.rings d
  (List.replicate (k - r.length) 0 ++ r.drop (r.length - k)).flatMap (leBytes 4)
def bodyPwrCurrent (c : Cmd) (_id : Nat) (m : Module) : Module × Answer :=
  let ds := (List.range (pField c 22 2)).map (fun i => pField c 20 2 + i)
  (m.toHost c (ds.flatMap (fun d => m.recentSamples d (pField c 24 2))), .done stOk (d8 m.power.ringTime))
/-- PWR.CURRENT copies the current rings to the host (R415, R430). -/
def doPwrCurrent (c : Cmd) (m : Module) : Module :=
  runCmd specPwrCurrent (badPwrCurrent c) none [] none (.pwrCurrent c) c (bodyPwrCurrent c) m
def execPwrCurrent (c : Cmd) (s : State) : Host.Outcome State Fault Refusal := onCmd c (doPwrCurrent c) s

def specPwrView : CmdSpec := { op := 0x45, pfOnly := true, expert := true, fields := [(8, 8), (16, 1), (18, 2), (20, 2)] }
/-- The setpoints of R413: logic 0.55 to 0.90 V, memory interface 0.70 to 0.80 V, in the function view only. -/
def badPwrView (c : Cmd) : Option Nat :=
  let v := pField c 16 1
  if c.hostIn.isNone ∨ (hostData c).length ≠ 80 then some 8
  else if 1 < v then some 16
  else if v = 1 ∧ (pField c 18 2 < 550 ∨ 900 < pField c 18 2) then some 18
  else if v = 1 ∧ (pField c 20 2 < 700 ∨ 800 < pField c 20 2) then some 20
  else none
/-- The clusters the bitmap names (R430). -/
def viewClusters (c : Cmd) : List Nat := maskList (leNat (hostData c)) 640
/-- The cluster may change view: Shuttered, and owned by no Active partition (R413). -/
def Module.viewOk (m : Module) (c : Nat) : Bool :=
  (m.cl c).ladder == 2 && (match (m.cl c).owner with | none => true | some n => (m.part n).state != 2)
def bodyPwrView (c : Cmd) (_id : Nat) (m : Module) : Module × Answer :=
  let cs := viewClusters c
  let f := pField c 16 1 == 1
  if cs.all m.viewOk then
    (m.updCls cs (fun k => { k with
      functionView := f, logicMv := if f then pField c 18 2 else 0, memMv := if f then pField c 20 2 else 0 }),
     .done stOk (d4 (countOf (fun x => (m.cl x).functionView != f) cs)))
  else (m, .refuse stBusy 0)
/-- PWR.VIEW moves clusters between the function and the normal view (R413, R430). -/
def doPwrView (c : Cmd) (m : Module) : Module :=
  runCmd specPwrView (badPwrView c) none [.power] none (.pwrView c) c (bodyPwrView c) m
def execPwrView (c : Cmd) (s : State) : Host.Outcome State Fault Refusal := onCmd c (doPwrView c) s

end Sys2Proof.Machine
end

