-- ==== Sys2Proof/Machine/Thermal.lean ====
section
/-! DEFINITION. Heat through the stack (chapter 12): sensors and their pairs, bands, forecast caps, the logic
throttle, alert and trip, coolant, and the THM commands. Temperatures are in 1/8 °C. -/

namespace Sys2Proof.Machine

/-! ## Sensors (R373) -/

/-- Sensor index of a DRAM sensor. -/
def dramSensor (stack layer sq : Nat) : Nat := stack * 64 + layer * 4 + sq
/-- Logic sensor k of a cluster. -/
def logicSensor (cluster k : Nat) : Nat := 2560 + cluster * 2 + k
/-- A DRAM sensor; a logic sensor. -/
def isDram (s : Nat) : Bool := decide (s < 2560)
def isLogic (s : Nat) : Bool := decide (2560 ≤ s ∧ s < 3840)
/-- Stack, layer, sub-quadrant of a DRAM sensor. -/
def sensorStack (s : Nat) : Nat := s / 64
def sensorLayer (s : Nat) : Nat := s % 64 / 4
def sensorSq (s : Nat) : Nat := s % 4
/-- Cluster of a logic sensor. -/
def sensorCluster (s : Nat) : Nat := (s - 2560) / 2
/-- The other sensor of the pair (R376): layers 2j and 2j + 1 of one sub-quadrant, or the two of a cluster. -/
def partnerOf (s : Nat) : Option Nat :=
  if isDram s then some (if sensorLayer s % 2 = 0 then s + 4 else s - 4)
  else if isLogic s then some (if s % 2 = 0 then s + 1 else s - 1)
  else none
/-- Adjacent sub-quadrants of one (R376). -/
def adjacentSq (sq : Nat) : List Nat := if sq = 0 ∨ sq = 3 then [1, 2] else [0, 3]
/-- The clusters beside one on its deck, within the half or across the mullion alike (R376). -/
def adjacentClusters (c : Nat) : List Nat :=
  let x := xOf c
  let y := yOf c
  (if 0 < x then [c - 1] else []) ++ (if x < 7 then [c + 1] else []) ++
  (if 0 < y then [c - 8] else []) ++ (if y < 7 then [c + 8] else [])
/-- The neighbours of a sensor (R376). -/
def neighbours (s : Nat) : List Nat :=
  if isDram s then
    let st := sensorStack s
    let l := sensorLayer s
    let lo := l / 2 * 2
    (if 0 < lo then [dramSensor st (lo - 1) (sensorSq s)] else []) ++
    (if lo + 2 < 16 then [dramSensor st (lo + 2) (sensorSq s)] else []) ++
    (adjacentSq (sensorSq s)).map (dramSensor st l)
  else if isLogic s then (adjacentClusters (sensorCluster s)).flatMap (fun c => [logicSensor c 0, logicSensor c 1])
  else []

/-- The clusters under a sub-quadrant of a stack (R373). -/
def clustersUnderSq (stack sq : Nat) : List Nat := (clustersUnder stack).filter (fun c => subQuadOf c == sq)
/-- The region of a sensor: its cluster, or the four clusters under its sub-quadrant (R377). -/
def regionOf (s : Nat) : List Nat :=
  if isDram s then clustersUnderSq (sensorStack s) (sensorSq s) else if isLogic s then [sensorCluster s] else []

/-- Sum of the residuals of the valid neighbours, and their number (R376). -/
def Module.residuals (m : Module) (s : Nat) : Int × Nat :=
  let vs := (neighbours s).filter (fun n => (m.sensor n).valid)
  (vs.foldl (fun acc n => acc + ((m.sensor n).reading - (m.sensor n).est)) 0, vs.length)
/-- Whether a reading is more than `lim` from E(s): exact, with the mean residual as a quotient (R376). -/
def Module.farFrom (m : Module) (s : Nat) (v lim : Int) : Bool :=
  let r := m.residuals s
  let n : Int := if r.2 = 0 then 1 else (r.2 : Int)
  let d := (v - (m.sensor s).est) * n - (if r.2 = 0 then 0 else r.1)
  decide (lim * n < d) || decide (lim * n < -d)
/-- E(s) in 1/8 °C as an entry shows it; the quotient is rounded down. -/
def Module.expectedOf (m : Module) (s : Nat) : Int :=
  let r := m.residuals s
  (m.sensor s).est + (if r.2 = 0 then 0 else r.1 / (r.2 : Int))

/-- A thermal entry about a sensor. -/
def Module.sensorEvent (m : Module) (event s : Nat) (durMs : Nat) : Module :=
  let p := (partnerOf s).getD 0xFFFF
  if isDram s then m.thermEvent event s p (sensorStack s) (sensorLayer s) 0xFF 0xFF (m.expectedOf s) durMs
  else if isLogic s then
    m.thermEvent event s p 0xFF 0xFF (sensorCluster s / 64) (sensorCluster s % 64) (m.expectedOf s) durMs
  else m.thermEvent event s p 0xFF 0xFF 0xFF 0xFF (m.expectedOf s) durMs

/-! ## Suspicion and the guard level (R377, R378) -/

/-- Both sensors of a pair are suspect. -/
def Module.bothSuspect (m : Module) (s : Nat) : Bool :=
  match partnerOf s with
  | some p => (m.sensor s).suspect && (m.sensor p).suspect
  | none => false

/-- The guard level is called for at a cluster: a pair of its region wholly suspect, or a comparator disarmed from
the record (R377, R378). -/
def Module.guardWanted (m : Module) (c : Nat) : Bool :=
  let st := stackOf c
  let ds := (List.range 16).map (fun l => dramSensor st l (subQuadOf c))
  let ls := [logicSensor c 0, logicSensor c 1]
  (ds ++ ls).any (fun s => m.bothSuspect s || (m.sensor s).disarmed)
/-- Sets the guard bound of a list of clusters. -/
def Module.refreshGuard (m : Module) (cs : List Nat) : Module :=
  cs.foldl (fun acc c => acc.updCl c (fun k => { k with guard := acc.guardWanted c })) m

/-- A sensor becomes suspect: it is ignored and logged with event 0x50 (R377). -/
def Module.suspectSensor (m : Module) (s : Nat) : Module :=
  if (m.sensor s).suspect then m
  else
    let m1 := m.updSensor s (fun q => { q with suspect := true, valid := false, suspectAt := m.time, calm := none })
    let m2 := m1.sensorEvent 0x50 s 0
    if m2.bothSuspect s then (m2.sensorEvent 0x51 s 0).refreshGuard (regionOf s) else m2

/-- One reading of a sample (R374, R377, R388): the reading and its rise are kept; no reading is suspect at once. -/
def Module.takeReading (m : Module) (r : Reading) : Module :=
  match r.value with
  | none => (m.updSensor r.sensor (fun q => { q with est := r.est, sampledAt := m.time, calm := none })).suspectSensor r.sensor
  | some v =>
    let q := m.sensor r.sensor
    let fast := q.valid && decide (q.sampledAt < m.time) &&
      decide (8 * ((m.time - q.sampledAt : Nat) : Int) < (v - q.reading) * 1000)
    m.updSensor r.sensor (fun q => { q with
      prev := q.reading, reading := v, est := r.est, valid := !q.suspect, sampledAt := m.time,
      risen := if fast then some m.time else q.risen })

/-- The pair check of R377 for one sensor of a sample, and the tracking of a suspect one's calm; `seen` is the sample as a whole, by which
every E(s) of it is reckoned. -/
def Module.checkPair (seen m : Module) (r : Reading) : Module :=
  match r.value, partnerOf r.sensor with
  | some v, some p =>
    let d := v - (m.sensor p).reading
    let apart := (m.sensor p).sampledAt == m.time && (decide (48 < d) || decide (48 < -d))
    let m1 := if apart && seen.farFrom r.sensor v 80 then m.suspectSensor r.sensor else m
    if (m1.sensor r.sensor).suspect then
      let near := !seen.farFrom r.sensor v 48
      m1.updSensor r.sensor (fun q => { q with calm := since m.time near q.calm })
    else m1
  | _, _ => m

/-- The value a sensor's place uses (R377): its reading, the higher of a pair apart, F₀ + 5 K when both are suspect,
nothing when only it is. -/
def Module.placeValue (m : Module) (s : Nat) : Option Int :=
  let q := m.sensor s
  match partnerOf s with
  | none => if q.valid then some q.reading else none
  | some p =>
    let w := m.sensor p
    if q.suspect then (if w.suspect then some (q.est + 40) else none)
    else if !q.valid then none
    else if w.valid ∧ (48 < q.reading - w.reading ∨ 48 < w.reading - q.reading) then some (max q.reading w.reading)
    else some q.reading

/-- The hottest place of a list, if any has a value. -/
def Module.hottestPlace (m : Module) (l : List Nat) : Option Int :=
  l.foldl (fun acc s => match m.placeValue s, acc with
    | none, a => a
    | some v, none => some v
    | some v, some a => some (max a v)) none

/-! ## Bands (R57, R58) -/

/-- The 16 sensors of layer group `g` (stack × 4 + group). -/
def groupSensors (g : Nat) : List Nat :=
  (List.range 4).flatMap (fun l => (List.range 4).map (fun sq => dramSensor (g / 4) (g % 4 * 4 + l) sq))

/-- The band a temperature calls for from above (R57). -/
def bandUp (t : Int) : Nat := if 840 < t then 4 else if 760 < t then 3 else if 680 < t then 2 else 1

/-- The next band of a group (R58): up at once, down with 2 K of margin; out of Cold only above 2 °C. -/
def nextBand (b : Nat) (t : Int) : Nat :=
  if b = 0 then (if 16 < t then bandUp t else 0)
  else if b ≤ bandUp t then (if t < 0 then 0 else bandUp t)
  else if b = 4 ∧ 824 ≤ t then 4
  else if 3 ≤ b ∧ 744 ≤ t then 3
  else if 2 ≤ b ∧ 664 ≤ t then 2
  else if t < 0 then 0
  else 1

/-- Some group of the module is under write hold or in Over, or a coolant stop is in force (R390). -/
def Module.anyHeld (m : Module) : Bool := m.thermal.stop || allGroups.any m.held
/-- The time since which a hold has stood without a break (R390). -/
def Module.trackHold (m : Module) : Module :=
  { m with thermal := { m.thermal with holdSince := since m.time m.anyHeld m.thermal.holdSince } }

/-- Step 2 of R381: all 16 clusters under a stack take the lowest cap among them. -/
def Module.shareCap (m : Module) (stack : Nat) : Module :=
  let cs := clustersUnder stack
  let low := cs.foldl (fun acc c => min acc (m.cl c).thermalCap) 7
  m.updCls cs (fun k => { k with thermalCap := low })

/-- A stack is held: a group of it under write hold or in Over, or a coolant stop in force (R390). -/
def Module.stackHeld (m : Module) (stack : Nat) : Bool := m.thermal.stop || (List.range 4).any (fun g => m.held (stack * 4 + g))

/-- A group's temperature is used: the band moves, the causes of R87 are set, a held stack shares its cap (R390). -/
def Module.useGroup (m : Module) (g : Nat) : Module :=
  match m.hottestPlace (groupSensors g) with
  | none => m
  | some t =>
    let b := m.band g
    let n := nextBand b t
    let m1 := { m with thermal := { m.thermal with
      groupTemp := SMap.set 0 m.thermal.groupTemp g t, bands := SMap.set 0 m.thermal.bands g n } }
    let m2 := if n ≠ b ∧ (n = 0 ∨ n = 3) then m1.setCause .mem 5 else m1
    let m3 := if n ≠ b ∧ n = 4 then m2.setCause .mem 7 else m2
    if m3.held g then m3.shareCap (g / 4) else m3

/-! ## The logic throttle (R382) -/

/-- The logic temperature of a cluster. -/
def Module.logicTemp (m : Module) (c : Nat) : Option Int := m.hottestPlace [logicSensor c 0, logicSensor c 1]

/-- The throttle's reaction to a sample: event 0x52 on entry, the clock stop and its end (R382). -/
def Module.useLogic (m : Module) (c : Nat) : Module :=
  match m.logicTemp c with
  | none => m
  | some t =>
    let m := m.updCl c (fun k => { k with pointHeld := decide (776 ≤ t) })
    let k := m.cl c
    if 880 ≤ t then
      if k.clockStopped then m
      else
        let m1 := (m.updCl c (fun k => { k with clockStopped := true, throttled := true, throttleCap := 0 })).toAjar [c]
        m1.thermEvent 0x53 (logicSensor c 0) (logicSensor c 1) 0xFF 0xFF (c / 64) (c % 64) 0 0
    else
      let m1 := if k.clockStopped ∧ t < 840 then
          let m2 := m.updCl c (fun k => { k with clockStopped := false, point := 0, throttleCap := 0 })
          if m2.heldDown then m2 else m2.leaveAjar [c]
        else m
      if 800 ≤ t ∧ !(m1.cl c).throttled then
        (m1.updCl c (fun k => { k with throttled := true })).thermEvent 0x52 (logicSensor c 0) (logicSensor c 1)
          0xFF 0xFF (c / 64) (c % 64) 0 0
      else if t < 776 then m1.updCl c (fun k => { k with throttled := false })
      else m1

/-! ## Sampling (R374) -/

/-- The sampling period for the hottest valid reading of a set: 0 for 10 ms, 1 for 1 ms, 2 for 100 µs. -/
def dramPeriod (t : Int) : Nat := if t ≤ 24 ∨ 736 ≤ t then 2 else if t ≤ 80 ∨ 680 ≤ t then 1 else 0
def logicPeriod (t : Int) : Nat := if 776 ≤ t then 2 else if 720 ≤ t then 1 else 0
/-- The hottest valid reading of a set. -/
def Module.hottestOf (m : Module) (l : List Nat) : Option Int :=
  l.foldl (fun acc s => if (m.sensor s).valid then
      (match acc with | none => some (m.sensor s).reading | some a => some (max a (m.sensor s).reading)) else acc) none
/-- Sets the period of a set. -/
def Module.setPeriod (m : Module) (l : List Nat) (f : Int → Nat) : Module :=
  match m.hottestOf l with
  | none => m
  | some t => l.foldl (fun acc s => acc.updSensor s (fun q => { q with period := f t })) m

/-- SENSOR_SAMPLE: readings, pair checks, periods, bands, throttles, alert, alarms (R374 to R384). -/
def doSensorSample (samples : List Reading) (m : Module) : Module :=
  let m1 := samples.foldl (fun acc r => acc.takeReading r) m
  let m2 := samples.foldl (fun acc r => Module.checkPair m1 acc r) m1
  let gs := ((samples.filter (fun r => isDram r.sensor)).map (fun r => r.sensor / 16)).foldl (fun acc g => insertNew g acc) []
  let cs := ((samples.filter (fun r => isLogic r.sensor)).map (fun r => sensorCluster r.sensor)).foldl (fun acc c => insertNew c acc) []
  let m3 := gs.foldl (fun acc g => (acc.setPeriod (groupSensors g) dramPeriod).useGroup g) m2
  let m4 := cs.foldl (fun acc c => (acc.setPeriod [logicSensor c 0, logicSensor c 1] logicPeriod).useLogic c) m3
  ((m4.trackHold.refreshAlert).telCheck 1 13 8 (m4.hottest 0 2560) 8).telCheck 2 21 8 (m4.hottest 2560 3840) 8
def execSensorSample (samples : List Reading) (s : State) : Host.Outcome State Fault Refusal :=
  onModule (samples.all Reading.wf) (doSensorSample samples) s

/-- A sensor suspect for 1 s goes into the field repair record (R378). -/
def doSuspectPersistence (sensor : Nat) (m : Module) : Module :=
  if (m.sensor sensor).suspect ∧ (m.sensor sensor).suspectAt + 1000000 ≤ m.time then m.recordUnit .sensor sensor 0 0x50
  else m
def execSuspectPersistence (sensor : Nat) (s : State) : Host.Outcome State Fault Refusal :=
  onModule (decide (sensor < 3842)) (doSuspectPersistence sensor) s

/-- A suspect sensor that stayed within 6 K of its expected value for 1 s is valid again (R377). -/
def doSuspectRecovery (sensor : Nat) (m : Module) : Module :=
  let q := m.sensor sensor
  if q.suspect ∧ heldFor m.time 1000000 q.calm then
    (m.updSensor sensor (fun q => { q with suspect := false, valid := true, calm := none })).refreshGuard (regionOf sensor)
  else m
def execSuspectRecovery (sensor : Nat) (s : State) : Host.Outcome State Fault Refusal :=
  onModule (decide (sensor < 3842)) (doSuspectRecovery sensor) s

/-! ## Forecast and caps (R379 to R381) -/

/-- The forecast target and the binding limit of a site (R380). -/
def targetTemp (s : Nat) : Int := if isDram s then 736 else 776
def limitTemp (s : Nat) : Int := if isDram s then 760 else 800

/-- The sites whose forecasts concern a cluster. -/
def sitesOver (c : Nat) : List Nat :=
  (List.range 16).map (fun l => dramSensor (stackOf c) l (subQuadOf c)) ++ [logicSensor c 0, logicSensor c 1]
/-- Every forecast over the cluster is at least `k` below its binding limit. -/
def Module.marginAt (m : Module) (c : Nat) (k : Int) : Bool :=
  (sitesOver c).all (fun s => decide ((m.sensor s).forecast + k ≤ limitTemp s))
/-- Some forecast peak is within 3 K of its binding limit (R387). -/
def Module.marginShort (m : Module) : Bool :=
  m.thermal.sensors.any (fun p => (isDram p.1 || isLogic p.1) && decide (limitTemp p.1 - 24 ≤ p.2.forecast))
/-- Every margin is 5 K or more (R387). -/
def Module.marginGood (m : Module) : Bool :=
  m.thermal.sensors.all (fun p => !(isDram p.1 || isLogic p.1) || decide (p.2.forecast + 40 ≤ limitTemp p.1))
/-- Stacks with a short margin (R387). -/
def Module.shortStacks (m : Module) : Nat :=
  countOf (fun st => (clustersUnder st).any (fun c => !m.marginAt c 24)) (List.range 40)

/-- One site's forecast is kept; above its target its clusters lose one point (R381). -/
def Module.useForecast (m : Module) (p : Nat × Int) : Module :=
  let m1 := m.updSensor p.1 (fun q => { q with forecast := p.2 })
  if targetTemp p.1 < p.2 then
    let cs := regionOf p.1
    let fresh := cs.all (fun c => (m.cl c).thermalCap == 7)
    let m2 := m1.updCls cs (fun k => { k with thermalCap := min k.thermalCap k.point - 1 })
    if fresh then m2.setCause .thm 0 else m2
  else m1

/-- All four sub-quadrants of a stack are capped (R381). -/
def Module.allQuartersCapped (m : Module) (stack : Nat) : Bool :=
  (List.range 4).all (fun sq => (clustersUnderSq stack sq).any (fun c => decide ((m.cl c).thermalCap < 7)))

/-- The highest forecast of a stack's DRAM sites (R398). -/
def Module.stackPeak (m : Module) (st : Nat) : Int :=
  (List.range 64).foldl (fun acc i => max acc (m.sensor (st * 64 + i)).forecast) (m.sensor (st * 64)).forecast

/-- FORECAST_EVALUATION: each site's temperature 5 ms ahead, as the deck firmware's model gives it (R379). -/
def doForecastEvaluation (peaks : List (Nat × Int)) (m : Module) : Module :=
  let m1 := peaks.foldl (fun acc p => acc.useForecast p) m
  let sts := (peaks.map (fun p => if isDram p.1 then sensorStack p.1 else stackOf (sensorCluster p.1))).foldl (fun acc s => insertNew s acc) []
  let m2 := sts.foldl (fun acc s => if acc.allQuartersCapped s || acc.stackHeld s then acc.shareCap s else acc) m1
  let m3 := { m2 with thermal := { m2.thermal with
    peaks := sts.foldl (fun acc s => SMap.set 0 acc s (m2.stackPeak s)) m2.thermal.peaks } }
  let cs := (peaks.flatMap (fun p => regionOf p.1)).foldl (fun acc c => insertNew c acc) []
  let m4 := cs.foldl (fun acc c => acc.updCl c (fun k => { k with marginSince := since m.time (acc.marginAt c 40) k.marginSince })) m3
  { m4 with thermal := { m4.thermal with coolSince := since m.time m4.marginGood m4.thermal.coolSince } }
def execForecastEvaluation (peaks : List (Nat × Int)) (s : State) : Host.Outcome State Fault Refusal :=
  onModule (peaks.all (fun p => decide (p.1 < 3840))) (doForecastEvaluation peaks) s

/-- A bound goes up one point; at the target it binds nothing more. -/
def raiseBound (b target : Nat) : Nat := if target ≤ b + 1 then 7 else b + 1

/-- A cap is released one point once the margin has stayed at 5 K for 50 ms; a held stack keeps the cap its clusters share (R381, R390). -/
def doCapRelease (cluster : Nat) (m : Module) : Module :=
  if heldFor m.time 50000 (m.cl cluster).marginSince ∧ !m.stackHeld (stackOf cluster) then
    m.updCl cluster (fun k => { k with thermalCap := raiseBound k.thermalCap k.target })
  else m
def execCapRelease (cluster : Nat) (s : State) : Host.Outcome State Fault Refusal :=
  onModule (clusterOk cluster) (doCapRelease cluster) s

/-- At 100 °C or more the cluster is lowered one point, down to 0.4 GHz (R382). -/
def doThrottleStep (cluster : Nat) (m : Module) : Module :=
  match m.logicTemp cluster with
  | some t => if 800 ≤ t then m.updCl cluster (fun k => { k with throttleCap := min k.throttleCap k.point - 1 }) else m
  | none => m
def execThrottleStep (cluster : Nat) (s : State) : Host.Outcome State Fault Refusal :=
  onModule (clusterOk cluster) (doThrottleStep cluster) s

/-- Below 97 °C a throttle step is released (R382). -/
def doThrottleReleaseStep (cluster : Nat) (m : Module) : Module :=
  match m.logicTemp cluster with
  | some t => if t < 776 then
      m.updCl cluster (fun k => { k with throttleCap := raiseBound k.throttleCap k.target, throttled := false }) else m
  | none => m
def execThrottleReleaseStep (cluster : Nat) (s : State) : Host.Outcome State Fault Refusal :=
  onModule (clusterOk cluster) (doThrottleReleaseStep cluster) s

/-! ## The trip (R375, R383) -/

/-- A comparator reaches its threshold: THERMTRIP_N, every cell open, every rail but standby off; the entry 0x56
names the sensor at the next bring-up (R383, R378). -/
def doTripComparator (sensor : Nat) (m : Module) : Module :=
  if (m.sensor sensor).disarmed then m
  else
    let m1 := m.fatalLater (fun x => x.sensorEvent 0x56 sensor 0)
    let m2 := m1.railsOff
    { m2 with
      thermal := { m2.thermal with tripPin := true, tripAt := some m.time, tripSensor := sensor },
      bring := { m2.bring with lastTrip := true } }
def execTripComparator (sensor : Nat) (s : State) : Host.Outcome State Fault Refusal :=
  onModule (decide (sensor < 3840)) (doTripComparator sensor) s

/-! ## Coolant (R386 to R389) -/

/-- A rising edge of FLOW_TACH; edges less than 20 µs apart are noise (R630). Flow is pulses per second × 60 /
pulses_per_litre, in 0.01 L/min (R386). -/
def doFlowTachPulse (sinceLastUs perSecond : Nat) (m : Module) : Module :=
  if sinceLastUs < 20 then m
  else
    let flow := perSecond * 6000 / m.thermal.pulsesPerLitre
    { m with thermal := { m.thermal with
      pulses := m.thermal.pulses + 1, flow := flow, flowPresent := true,
      flowOkSince := since m.time (decide (m.thermal.flowMin ≤ flow)) m.thermal.flowOkSince } }
def execFlowTachPulse (sinceLastUs perSecond : Nat) (s : State) : Host.Outcome State Fault Refusal :=
  onModule true (doFlowTachPulse sinceLastUs perSecond) s

/-- The conditions of R386: 0 flow below FLOW_MIN, 1 rise above the expected rise by more than rise_margin, 2 inlet
above 40 °C. The expected rise is P × 0.01435 / flow. -/
def Module.coolantBad (m : Module) (cond : Nat) : Bool :=
  let t := m.thermal
  let rise := (m.sensor 3841).reading - (m.sensor 3840).reading
  if cond = 0 then decide (t.flow < t.flowMin)
  else if cond = 1 then
    t.flow != 0 && decide (((8 * (m.power.inputW * 1435 + t.riseMargin * 1000 * t.flow) : Nat) : Int) < rise * 1000 * (t.flow : Int))
  else decide (320 < (m.sensor 3840).reading)

/-- COOLANT_DEGRADED is raised once a condition has held for 1 s; event 0x54 (R386). -/
def doCoolantDegraded (condition : Nat) (m : Module) : Module :=
  if m.coolantBad condition ∧ !m.thermal.degraded then
    ({ m with thermal := { m.thermal with degraded := true } }).thermEvent 0x54 0xFFFF 0xFFFF 0xFF 0xFF 0xFF 0xFF 0 1000
  else m
def execCoolantDegraded (condition : Nat) (s : State) : Host.Outcome State Fault Refusal :=
  onModule (decide (condition < 3)) (doCoolantDegraded condition) s

/-- It clears after 10 s with none of the conditions (R386). -/
def doCoolantDegradedClear (m : Module) : Module :=
  if m.coolantBad 0 ∨ m.coolantBad 1 ∨ m.coolantBad 2 then m
  else { m with thermal := { m.thermal with degraded := false } }
def execCoolantDegradedClear (s : State) : Host.Outcome State Fault Refusal := onModule true doCoolantDegradedClear s

/-- Stacks with a thermally capped cluster (R381). -/
def Module.cappedStacks (m : Module) : Nat :=
  countOf (fun st => (clustersUnder st).any (fun c => decide ((m.cl c).thermalCap < 7))) (List.range Config.stackCount)

/-- The module limit goes down 200 W, never below 1.5 kW, while margins are short: with coolant degraded, or more than 8 stacks short or
capped (R381, R387). -/
def doModuleLimitLower (m : Module) : Module :=
  if (m.thermal.degraded ∨ 8 < m.shortStacks ∨ 8 < m.cappedStacks) ∧ m.marginShort then
    { m with thermal := { m.thermal with thermalLimit := max 1500 (m.effLimit - 200) } }
  else m
def execModuleLimitLower (s : State) : Host.Outcome State Fault Refusal := onModule true doModuleLimitLower s

/-- It goes up 200 W once every margin has been at 5 K for 1 s, never above the programmed limit (R387). -/
def doModuleLimitRaise (m : Module) : Module :=
  if m.thermal.thermalLimit < m.power.limit ∧ heldFor m.time 1000000 m.thermal.coolSince then
    { m with thermal := { m.thermal with thermalLimit := min m.power.limit (m.thermal.thermalLimit + 200) } }
  else m
def execModuleLimitRaise (s : State) : Host.Outcome State Fault Refusal := onModule true doModuleLimitRaise s

/-- Distinct sensors whose fast rise lies in the last 10 ms (R388). -/
def Module.fastRises (m : Module) : Nat :=
  countOf (fun (p : Nat × Sensor) => p.2.valid && (match p.2.risen with | some t => decide (m.time < t + 10000) | none => false))
    m.thermal.sensors

/-- A stage in progress is suspended by a coolant stop; its report shows result 5 (R474). -/
def Module.suspendStage (m : Module) : Module :=
  if m.bring.active ∧ !m.bring.ready then
    { m with bring := { m.bring with
      suspended := true,
      reports := SMap.upd {} m.bring.reports m.bring.stage (fun r => { r with result := 5 }) } }
  else m

/-- COOLANT_STOP: no FLOW_TACH pulse for 200 ms (cause 0), or 64 fast rises (cause 1): dispatch stops, bank-ops stop,
every cluster goes to Ajar and then Shuttered, writes are held module-wide, event 0x55 (R388). -/
def doCoolantStop (cause : Nat) (m : Module) : Module :=
  if m.thermal.stop ∨ (cause = 1 ∧ m.fastRises < 64) then m
  else
    let m1 := { m with thermal := { m.thermal with
      stop := true, stopAt := m.time, moduleHold := true,
      flowPresent := m.thermal.flowPresent && cause == 1, flow := if cause = 0 then 0 else m.thermal.flow,
      flowOkSince := if cause = 0 then none else m.thermal.flowOkSince } }
    let m2 := (m1.stopSeqs (fun _ => true) stThermalHold).thermEvent 0x55 0xFFFF 0xFFFF 0xFF 0xFF 0xFF 0xFF 0 0
    let m3 := (m2.toAjar (allClusters.filter (fun c => (m2.cl c).ladder == 0))).trackHold.refreshAlert.suspendStage
    ((List.range Config.stackCount).foldl (fun (acc : Module) s => acc.shareCap s) m3).settleLadder
def execCoolantStop (cause : Nat) (s : State) : Host.Outcome State Fault Refusal :=
  onModule (decide (cause < 2)) (doCoolantStop cause) s

/-- The conditions of R389: flow for 1 s, every group Cool or Warm, every forecast peak below its target. -/
def Module.resumeOk (m : Module) : Bool :=
  heldFor m.time 1000000 m.thermal.flowOkSince &&
  allGroups.all (fun g => m.band g == 1 || m.band g == 2) &&
  m.thermal.sensors.all (fun p => !(isDram p.1 || isLogic p.1) || decide (p.2.forecast < targetTemp p.1))

/-- The module returns to Open and lifts the module-wide hold (R389); a hold of PWR.LADDER still decides (R425). -/
def Module.resume (m : Module) : Module :=
  let m1 := ({ m with thermal := { m.thermal with stop := false, moduleHold := false } }).trackHold.refreshAlert
  if m1.power.hold ≠ 0 then m1
  else
    let m2 := m1.leaveAjar (allClusters.filter (fun c => (m1.cl c).ladder == 1))
    (allClusters.filter (fun c => (m2.cl c).ladder == 2 && !(m2.cl c).cellFenced && !m2.unneeded c)).foldl
      (fun acc c => acc.wake c) m2

/-! ## THM commands (R391, R392) -/

/-- One 8-byte entry of THM.SENSORS (R391). -/
def Module.sensorEntry (m : Module) (i : Nat) : List Byte :=
  if i = 3842 then packRec 8 [⟨0, 2, m.thermal.flow⟩, ⟨4, 1, b2n m.thermal.flowPresent⟩, ⟨5, 1, 0xFF⟩]
  else
    let q := m.sensor i
    packRec 8 [⟨0, 2, signedBits 16 q.reading⟩, ⟨2, 2, if i < 3840 then signedBits 16 q.forecast else 0⟩,
      ⟨4, 1, b2n q.valid + 2 * b2n q.suspect + 4 * b2n q.disarmed + 8 * q.period⟩,
      ⟨5, 1, if isDram i then m.band (i / 16) else 0xFF⟩]

def specThmSensors : CmdSpec := { op := 0x50, pfOnly := true, fields := [(8, 8), (16, 4)] }
def bodyThmSensors (c : Cmd) (_id : Nat) (m : Module) : Module × Answer :=
  let n := min 3843 (pField c 16 4 / 8)
  (m.toHost c ((List.range n).flatMap m.sensorEntry), .done stOk (d4 n))
/-- THM.SENSORS writes one entry per sensor until the buffer is full (R391). -/
def doThmSensors (c : Cmd) (m : Module) : Module :=
  runCmd specThmSensors (bufferBad c 8) none [] none (.thmSensors c) c (bodyThmSensors c) m
def execThmSensors (c : Cmd) (s : State) : Host.Outcome State Fault Refusal := onCmd c (doThmSensors c) s

def specThmConfig : CmdSpec := { op := 0x51, pfOnly := true, fields := [(8, 1), (10, 2), (12, 1), (14, 2)] }
/-- Ranges of the masked fields (R391). -/
def badThmConfig (c : Cmd) : Option Nat :=
  let k := pField c 8 1
  if 8 ≤ k then some 8
  else if bitOf k 0 ∧ (pField c 10 2 < 300 ∨ 600 < pField c 10 2) then some 10
  else if bitOf k 1 ∧ (pField c 12 1 < 1 ∨ 10 < pField c 12 1) then some 12
  else if bitOf k 2 ∧ (pField c 14 2 < 100 ∨ 2000 < pField c 14 2) then some 14
  else none
def bodyThmConfig (c : Cmd) (_id : Nat) (m : Module) : Module × Answer :=
  let k := pField c 8 1
  let t := m.thermal
  ({ m with thermal := { t with
      flowMin := if bitOf k 0 then pField c 10 2 else t.flowMin,
      riseMargin := if bitOf k 1 then pField c 12 1 else t.riseMargin,
      pulsesPerLitre := if bitOf k 2 then pField c 14 2 else t.pulsesPerLitre,
      flowOkSince := since m.time (t.flowPresent && decide ((if bitOf k 0 then pField c 10 2 else t.flowMin) ≤ t.flow)) t.flowOkSince } },
   .done stOk (d4 t.flowMin ++ d4 t.riseMargin ++ d4 t.pulsesPerLitre))
/-- THM.CONFIG sets the coolant settings its mask names; a flow_min below 4.5 L/min is expert (R391, R392). -/
def doThmConfig (c : Cmd) (m : Module) : Module :=
  runCmd specThmConfig (badThmConfig c) (if bitOf (pField c 8 1) 0 ∧ pField c 10 2 < 450 then some 10 else none) [] none
    (.thmConfig c) c (bodyThmConfig c) m
def execThmConfig (c : Cmd) (s : State) : Host.Outcome State Fault Refusal := onCmd c (doThmConfig c) s

def specThmResume : CmdSpec := { op := 0x52, pfOnly := true }
/-- THM.RESUME's detail is the time to Open; the spec states no value for it, so it is a free one (R391). -/
def bodyThmResume (_c : Cmd) (_id : Nat) (m : Module) : Module × Answer :=
  if !m.thermal.stop then (m, .done stOk (d8 0))
  else if m.resumeOk then
    let w := m.freeWord
    (w.2.resume, .done stOk (d8 w.1.toNat))
  else (m, .refuse stThermalHold 0)
def doThmResume (c : Cmd) (m : Module) : Module :=
  runCmd specThmResume none none [] none (.thmResume c) c (bodyThmResume c) m
def execThmResume (c : Cmd) (s : State) : Host.Outcome State Fault Refusal := onCmd c (doThmResume c) s

end Sys2Proof.Machine
end

