-- ==== Sys2Proof/Machine/Clocks.lean ====
section
/-! DEFINITION. Clock domains and the events of the host port's pins and enables (chapters 14 and 16): loss of
lock, column deskew, references, PERST_N, Function Level Resets, the enables of R499, the link. -/

namespace Sys2Proof.Machine

/-! ## Loss of lock (R444) -/

/-- R450's kind and unit of a phase-locked loop, and its deck. -/
def pllKind : Pll → Nat × Nat × Nat
  | .cluster c => (0, c / 64, c)
  | .half h => (1, h / 2, h)
  | .stack s => (2, s / 4, s)
  | .deck d => (3, d, d)

/-- A deck goes out of service; deck 0's loss is fatal, and every rail but standby goes off (R592, R593). -/
def Module.loseDeck (m : Module) (d event : Nat) : Module :=
  let m1 := (m.fenceDeck d event).recordUnit .deck d 0 event
  if d = 0 then m1.railsOff else m1

/-- A PLL loses lock: its clock stops, event 0x70, relocking begins (R444). -/
def doPllLockLoss (pll : Pll) (m : Module) : Module :=
  if m.clocks.relocks.any (fun p => p.1 == pll) then m
  else
    let k := pllKind pll
    ({ m with clocks := { m.clocks with
        relocks := m.clocks.relocks ++ [(pll, 0)], lockLosses := sat64 m.clocks.lockLosses 1 } }).clockEvent
      0x70 k.1 k.2.1 k.2.2 0 0 0
def execPllLockLoss (pll : Pll) (s : State) : Host.Outcome State Fault Refusal := onModule (Pll.wf pll) (doPllLockLoss pll) s

/-- A deck reset after the deck's relock failures has failed as well: the last reset or one in progress was it. -/
def Module.deckResetFailed (m : Module) (d : Nat) : Bool :=
  m.clocks.resets.any (fun r => r.scope == 3 && r.cause == 4 && r.target == d) ||
  (m.clocks.resetScope == 3 && m.clocks.resetCause == 4 && m.clocks.resetTarget == d)

/-- What three failed attempts take out of service (R444). -/
def Module.relockFailed (m : Module) : Pll → Module
  | .cluster c => (m.recordUnit .cluster c 0 0x71).fenceCluster c stHwError
  | .half h => (clustersOfHalf h).foldl (fun acc c => acc.fenceRouter c) m
  | .stack s =>
    (((clustersUnder s).flatMap sitesOf).filter (fun x => (m.slice x).state != 2)).foldl
      (fun acc x => (acc.memEvent 0x06 x 0 0 0 0).loseSlice x stHwError) (m.recordUnit .stack s 0 0x71)
  | .deck d => if d = 0 ∨ m.deckResetFailed d then m.loseDeck d 0x71
    else (m.cancelForReset ⟨3, d, 4, none⟩ m.engine.nextId).startReset ⟨3, d, 4, none⟩

/-- RELOCK_ATTEMPT_END: success loses nothing; after three failures the unit goes out of service, event 0x71
(R444). -/
def doRelockAttemptEnd (pll : Pll) (ok : Bool) (m : Module) : Module :=
  match m.clocks.relocks.find? (fun p => p.1 == pll) with
  | none => m
  | some (_, n) =>
    let drop := m.clocks.relocks.filter (fun p => p.1 != pll)
    if ok then { m with clocks := { m.clocks with relocks := drop } }
    else if n < 2 then
      { m with clocks := { m.clocks with relocks := m.clocks.relocks.map (fun p => if p.1 = pll then (p.1, p.2 + 1) else p) } }
    else
      let k := pllKind pll
      (({ m with clocks := { m.clocks with relocks := drop } }).clockEvent 0x71 k.1 k.2.1 k.2.2 3 0 0).relockFailed pll
def execRelockAttemptEnd (pll : Pll) (ok : Bool) (s : State) : Host.Outcome State Fault Refusal :=
  onModule (Pll.wf pll) (doRelockAttemptEnd pll ok) s

/-- The PLL is relocking. -/
def Module.relocking (m : Module) (pll : Pll) : Bool := m.clocks.relocks.any (fun p => p.1 == pll)

/-- A cluster's core clocks run: Open, or on its way from Ajar to Shuttered, for its threads to quiesce (R422); no clock stopped,
its PLL locked (R382, R420, R444, R593). -/
def Module.clockOn (m : Module) (c : Nat) : Bool :=
  let k := m.cl c
  (k.ladder == 0 || (k.ladder == 1 && m.ladderGoal == 2)) && !k.clockStopped && !k.off && !m.relocking (.cluster c)

/-- A cluster's threads issue: its clocks run and it is not on its way to Shuttered (R355, R422). -/
def Module.runs (m : Module) (c : Nat) : Bool := m.clockOn c && m.ladderGoal != 2

/-! ## Column deskew (R443) -/

/-- A slice goes offline after a failed transfer: event 0x06, the slice and its core out of service (R42). -/
def Module.offlineSlice (m : Module) (site off : Nat) : Module :=
  ((m.memEvent 0x06 site off 0 0 0).recordUnit .slice site 0 0x06).loseSlice site stHwError

/-- A stack's deskew: counted; a brought-forward one logs event 0x74; a line whose trim cannot be found takes its
slice offline (R443). -/
def Module.deskew (m : Module) (stack : Nat) (failed : List Nat) : Module :=
  let forced := bitOf m.clocks.deskewWanted stack
  let m1 := { m with clocks := { m.clocks with
    deskews := sat64 m.clocks.deskews 1, deskewAt := SMap.set 0 m.clocks.deskewAt stack m.time,
    deskewWanted := setBit m.clocks.deskewWanted stack false } }
  let m2 := if forced then m1.clockEvent 0x74 2 (stack / 4) stack 0 0 2 else m1
  failed.foldl (fun acc s => if (acc.slice s).state = 2 then acc else acc.offlineSlice s 0) m2
/-- A deskew of a stack is due: 100 ms after the last one, or 10 ms after it where it is brought forward (R443). -/
def Module.deskewDue (m : Module) (stack : Nat) : Bool :=
  let last := SMap.get 0 m.clocks.deskewAt stack
  last == 0 || decide (last + (if bitOf m.clocks.deskewWanted stack then 10000 else 100000) ≤ m.time)
/-- COLUMN_DESKEW: the deskew of a stack runs once it is due (R443). -/
def doColumnDeskew (stack : Nat) (failedSites : List Nat) (m : Module) : Module :=
  if m.deskewDue stack then m.deskew stack failedSites else m
def execColumnDeskew (stack : Nat) (failedSites : List Nat) (s : State) : Host.Outcome State Fault Refusal :=
  onModule (decide (stack < 40) && failedSites.all (fun x => siteOk x && stackOfSite x == stack))
    (doColumnDeskew stack failedSites) s

/-! ## References (R445) -/

/-- Loss of the module reference is fatal: as a rail fault, event 0x72. -/
def doModuleReferenceLoss (m : Module) : Module :=
  let m0 := { m with clocks := { m.clocks with refOk := false } }
  let m1 := (m0.clockEvent 0x72 7 0xFF 0xFFFF 0 0 0).fatalRecord.railsOff
  ({ m1 with thermal := { m1.thermal with alert := true } }).ibi 3
def execModuleReferenceLoss (s : State) : Host.Outcome State Fault Refusal := onModule true doModuleReferenceLoss s

/-- The module controller switches to its internal oscillator. -/
def doRefclkMgmtLoss (m : Module) : Module :=
  if m.clocks.mgmtRefOk then
    ({ m with clocks := { m.clocks with mgmtRefOk := false } }).clockEvent 0x73 8 0xFF 0xFFFF 0 0 0
  else m
def execRefclkMgmtLoss (s : State) : Host.Outcome State Fault Refusal := onModule true doRefclkMgmtLoss s

/-- REFCLK_MGMT has been present for 1 s. -/
def doRefclkMgmtRestore (m : Module) : Module :=
  if m.clocks.mgmtRefOk then m
  else ({ m with clocks := { m.clocks with mgmtRefOk := true } }).clockEvent 0x73 8 0xFF 0xFFFF 0 0 0
def execRefclkMgmtRestore (s : State) : Host.Outcome State Fault Refusal := onModule true doRefclkMgmtRestore s

/-! ## PERST_N and the link (R446, R499, R633) -/

/-- S2 has ended in this bring-up, and the host-port macro has power: the link may train (R460, R472). -/
def Module.portPowered (m : Module) : Bool := m.power.vlink && decide (3 ≤ m.bring.stage)

/-- A host-port reset of PERST_N scope is in progress. -/
def Module.portResetting (m : Module) : Bool := m.clocks.resets.any (fun r => r.scope == 2)

/-- PERST_N rises: with its reference clock present the port trains; configuration space answers once the reset of
PERST_N scope has completed (R446, R499, R633). -/
def doPerstNDeassert (refclkOk : Bool) (m : Module) : Module :=
  let up := refclkOk && m.portPowered
  { m with
    port := { m.port with
      perst := false, linkUp := up, width := if up then 16 else m.port.width, rate := if up then 64 else m.port.rate,
      cfgReady := up && !m.portResetting },
    clocks := { m.clocks with hostRefOk := refclkOk } }
def execPerstNDeassert (refclkOk : Bool) (s : State) : Host.Outcome State Fault Refusal :=
  onModule true (doPerstNDeassert refclkOk) s

/-- A Function Level Reset of virtual function n: partition n aborted and Disabled, event 0x44, the function's
registers back to reset (R338, R499). -/
def Module.flr (m : Module) (fn : Nat) : Module :=
  let st := (m.part fn).state
  let m1 := m.abortAndDisable fn
  let m2 := if 2 ≤ st ∧ st ≤ 5 then m1.prtEvent 0x44 fn 0 fn 0xFFFF 0 0 0xFFFF (m.itemsOf fn) else m1
  m2.functionReset fn
def doFunctionLevelResetVf (fn : Nat) (m : Module) : Module := m.flr fn
def execFunctionLevelResetVf (fn : Nat) (s : State) : Host.Outcome State Fault Refusal :=
  onModule (decide (1 ≤ fn) && fnOk fn) (doFunctionLevelResetVf fn) s

/-- A Function Level Reset of the physical function: the PERST_N scope with the link kept up (R446, R499). -/
def doFunctionLevelResetPf (m : Module) : Module :=
  let m1 := m.perstReset
  { m1 with clocks := { m1.clocks with resets := m1.clocks.resets ++ [⟨2, 0, 3, none⟩] } }
def execFunctionLevelResetPf (s : State) : Host.Outcome State Fault Refusal := onModule true doFunctionLevelResetPf s

/-- NumVFs is lowered or VF Enable cleared: each removed function is treated as under its own reset (R499). -/
def doVfEnableClear (numVfs : Nat) (m : Module) : Module :=
  let gone := (List.range m.port.numVfs).filter (fun k => decide (numVfs ≤ k))
  let m1 := gone.foldl (fun acc k => acc.flr (k + 1)) m
  { m1 with port := { m1.port with numVfs := min m1.port.numVfs numVfs } }
def execVfEnableClear (numVfs : Nat) (s : State) : Host.Outcome State Fault Refusal :=
  onModule (decide (numVfs < 64)) (doVfEnableClear numVfs) s

/-- Bus Master Enable cleared: what the function sends is held (R499). -/
def doBusMasterEnableClear (fn : Nat) (m : Module) : Module := m.updFunc fn (fun f => { f with busMaster := false })
def execBusMasterEnableClear (fn : Nat) (s : State) : Host.Outcome State Fault Refusal :=
  onModule (fnOk fn) (doBusMasterEnableClear fn) s

/-- What a function held leaves in order, once it may. -/
def Module.releaseHeld (m : Module) (fn : Nat) : Module :=
  let f := m.func fn
  if f.busMaster ∧ !f.d3hot then
    ({ m with port := { m.port with out := m.port.out ++ f.held } }).updFunc fn (fun f => { f with held := [] })
  else m

/-- Bus Master Enable set: held completions, mirror writes and messages leave in order (R499). -/
def doBusMasterEnableSet (fn : Nat) (m : Module) : Module :=
  (m.updFunc fn (fun f => { f with busMaster := true })).releaseHeld fn
def execBusMasterEnableSet (fn : Nat) (s : State) : Host.Outcome State Fault Refusal :=
  onModule (fnOk fn) (doBusMasterEnableSet fn) s

/-- Memory Space Enable cleared, or D3hot: BAR requests receive Unsupported Request (R499). -/
def doMemorySpaceDisable (fn : Nat) (d3hot : Bool) (m : Module) : Module :=
  m.updFunc fn (fun f => if d3hot then { f with d3hot := true } else { f with memSpace := false })
def execMemorySpaceDisable (fn : Nat) (d3hot : Bool) (s : State) : Host.Outcome State Fault Refusal :=
  onModule (fnOk fn) (doMemorySpaceDisable fn d3hot) s

/-- The link goes down without PERST_N: requests wait (R499). -/
def doHostLinkLoss (m : Module) : Module :=
  if m.port.linkUp then { m with port := { m.port with linkUp := false, linkLost := true } } else m
def execHostLinkLoss (s : State) : Host.Outcome State Fault Refusal := onModule true doHostLinkLoss s

/-- The link has been down for 100 ms: event 0xA8, then as PERST_N (R499). -/
def doLinkDown (downUs : Nat) (m : Module) : Module :=
  if m.port.perst ∨ m.port.linkUp ∨ downUs < 100000 then m
  else
    let m1 := (m.linkEvent 0xA8 downUs).perstReset
    { m1 with
      port := { m1.port with linkUp := false, linkLost := false },
      clocks := { m1.clocks with resets := m1.clocks.resets ++ [⟨2, 0, 3, none⟩] } }
def execLinkDown (downUs : Nat) (s : State) : Host.Outcome State Fault Refusal := onModule true (doLinkDown downUs) s

/-- The link is up again: within 100 ms nothing is lost, event 0xA8; a degraded link logs event 0xA7 (R477, R499). -/
def doLinkRecovery (downUs width rate : Nat) (m : Module) : Module :=
  if m.port.perst ∨ m.port.linkUp ∨ !m.power.vlink then m
  else
    let lost := m.port.linkLost
    let m1 := { m with port := { m.port with
      linkUp := true, linkLost := false, width := width, rate := rate,
      cfgReady := if lost then m.port.cfgReady else !m.portResetting } }
    let m2 := if lost then m1.linkEvent 0xA8 downUs else m1
    if width < 16 ∨ rate < 64 then m2.linkEvent 0xA7 (width % 256 + rate % 256 * 256) else m2
def execLinkRecovery (downUs width rate : Nat) (s : State) : Host.Outcome State Fault Refusal :=
  onModule true (doLinkRecovery downUs width rate) s

/-- An uncorrectable link or TLP error is reported through AER and logged, event 0xA9 (R602, R604). -/
def doAerUncorrectableError (status : Nat) (m : Module) : Module :=
  (m.answer (.aer 0 status)).linkEvent 0xA9 status
def execAerUncorrectableError (status : Nat) (s : State) : Host.Outcome State Fault Refusal :=
  onModule (decide (status < 2 ^ 32)) (doAerUncorrectableError status) s

/-! ## CAL commands of clocks and sensors (R520) -/

/-- A calibration is refused while a coolant stop is in force (R520). -/
def calGate (m : Module) (r : Module × Answer) : Module × Answer := if m.thermal.stop then (m, .refuse stThermalHold 0) else r

/-- A cluster a calibration skips: Shuttered or deeper, or fenced. -/
def Module.calSkips (m : Module) (c : Nat) : Bool :=
  (m.cl c).ladder == 2 || (m.cl c).routerFenced || (m.cl c).cellFenced || decide (3 ≤ m.power.moduleState)

def specCalRegulator : CmdSpec := { op := 0x68, pfOnly := true, fields := [(8, 2)] }
def bodyCalRegulator (c : Cmd) (lost : List (Nat × Nat)) (_id : Nat) (m : Module) : Module × Answer :=
  let cs := if pField c 8 2 = 0xFFFF then allClusters else [pField c 8 2]
  let live := cs.filter (fun k => !m.calSkips k)
  let bad := lost.filter (fun p => decide (p.1 ∈ live) && !bitOf (m.cl p.1).lostCells p.2)
  let cells := (live.map (fun k => 4 - (m.cl k).cells)).foldl (· + ·) 0
  let m1 := bad.foldl (fun acc p => acc.loseCell p.1 p.2 4 0) m
  calGate m (m1, .done stOk (d4 (cells - bad.length) ++ d4 bad.length ++ d4 (cs.length - live.length)))
/-- CAL.REGULATOR: `lost` names the cells (cluster, cell) that fail their trim and are lost (R520, R411). -/
def doCalRegulator (c : Cmd) (lost : List (Nat × Nat)) (m : Module) : Module :=
  runCmd specCalRegulator (if pField c 8 2 < 640 ∨ pField c 8 2 = 0xFFFF then none else some 8) none [.record] none
    (.calRegulator c lost) c (bodyCalRegulator c lost) m
def execCalRegulator (c : Cmd) (lost : List (Nat × Nat)) (s : State) : Host.Outcome State Fault Refusal :=
  onModule (c.wf && lost.all (fun p => clusterOk p.1 && decide (p.2 < 4))) (doCalRegulator c lost) s

/-- Stacks a CAL.DESKEW names. -/
def deskewStacks (c : Cmd) : List Nat := if pField c 8 1 = 0xFF then List.range 40 else [pField c 8 1]
def specCalDeskew : CmdSpec := { op := 0x69, pfOnly := true, fields := [(8, 1)] }
def bodyCalDeskew (c : Cmd) (failed : List Nat) (_id : Nat) (m : Module) : Module × Answer :=
  let ks := (deskewStacks c).filter (fun k => !(clustersUnder k).all m.calSkips)
  let one (acc : Module) (k : Nat) : Module :=
    ({ acc with clocks := { acc.clocks with deskewWanted := setBit acc.clocks.deskewWanted k true } }).deskew k
      (failed.filter (fun s => stackOfSite s == k))
  let wanted (x : Module) : Module := { x with clocks := { x.clocks with
    deskewWanted := ks.foldl (fun w k => setBit w k true) x.clocks.deskewWanted } }
  calGate m (if !ks.all (wanted m).deskewDue then (wanted m, .again) else (ks.foldl one m, .done stOk (d4 ks.length)))
/-- CAL.DESKEW brings R443's deskew forward; `failed` names the slices with a line whose trim is not found (R520). -/
def doCalDeskew (c : Cmd) (failed : List Nat) (m : Module) : Module :=
  runCmd specCalDeskew (if pField c 8 1 < 40 ∨ pField c 8 1 = 0xFF then none else some 8) none
    (.record :: (deskewStacks c).map Claim.stack) none (.calDeskew c failed) c (bodyCalDeskew c failed) m
def execCalDeskew (c : Cmd) (failed : List Nat) (s : State) : Host.Outcome State Fault Refusal :=
  onModule (c.wf && failed.all siteOk) (doCalDeskew c failed) s

/-- A sensor that CAL.SENSOR skips: suspect, or in a cluster or stack that calibrations skip (R520). -/
def Module.sensorSkips (m : Module) (s : Nat) : Bool :=
  (m.sensor s).suspect || (!(regionOf s).isEmpty && (regionOf s).all m.calSkips)
def specCalSensor : CmdSpec := { op := 0x6A, pfOnly := true, fields := [(8, 2)] }
def bodyCalSensor (c : Cmd) (_id : Nat) (m : Module) : Module × Answer :=
  let ss := if pField c 8 2 = 0xFFFF then List.range 3842 else [pField c 8 2]
  let skip := countOf m.sensorSkips ss
  calGate m (m, .done stOk (d4 (ss.length - skip) ++ d4 skip))
/-- CAL.SENSOR retrims offsets; readings are held meanwhile and comparators stay armed (R520). -/
def doCalSensor (c : Cmd) (m : Module) : Module :=
  runCmd specCalSensor (if pField c 8 2 < 3842 ∨ pField c 8 2 = 0xFFFF then none else some 8) none [] none
    (.calSensor c) c (bodyCalSensor c) m
def execCalSensor (c : Cmd) (s : State) : Host.Outcome State Fault Refusal := onCmd c (doCalSensor c) s

end Sys2Proof.Machine
end

