-- ==== Sys2Proof/Machine/Mesh.lean ====
section
/-! DEFINITION. The deck network's routes: dimension order and relays inside a deck (R33, R320), bridges between decks (R28 to R30,
R33, R324, R325), lane groups (R321, R323), attachments (R32), and what may enter or leave the network now (R305, R307, R318, R326,
R444). A cluster is numbered deck × 64 + cluster; an endpoint is a core site, an attachment's code of R300, or 65,536 + deck for a
collective engine. -/

namespace Sys2Proof.Machine

/-! ## Bridges and their lane groups -/

/-- The bridge between two neighbouring decks, and whether it joins an east and a west edge (R29). -/
def bridgeOf (a b : Nat) : Option (Nat × Bool) :=
  let lo := min a b
  let hi := max a b
  if hi = lo + 1 ∧ lo ≠ 4 ∧ hi < 10 then some (if lo < 5 then lo else lo - 1, true)
  else if hi = lo + 5 ∧ hi < 10 then some (lo + 8, false)
  else none

/-- The two decks of a bridge (R29): for an east-west bridge the western first, else the northern. -/
def bridgeEnds (b : Nat) : Nat × Nat := if b < 4 then (b, b + 1) else if b < 8 then (b + 1, b + 2) else (b - 8, b - 3)
/-- A bridge on east and west edges. -/
def bridgeRow (b : Nat) : Bool := decide (b < 8)

/-- The edge router at position `k` of a bridge's first (western, northern) or second deck (R28). -/
def edgeRouter (b : Nat) (first : Bool) (k : Nat) : Nat :=
  let d := if first then (bridgeEnds b).1 else (bridgeEnds b).2
  let far := if first then 7 else 0
  d * 64 + (if bridgeRow b then k * 8 + far else far * 8 + k)

/-- A group's lanes in a direction: 0 from the bridge's first deck to its second, 1 back. -/
def Net.group (n : Net) (b dir g : Nat) : LaneGroup := SMap.get {} n.groups (b * 32 + dir * 16 + g)
/-- Changes a group's lanes in a direction. -/
def Module.updGroup (m : Module) (b dir g : Nat) (f : LaneGroup → LaneGroup) : Module :=
  { m with net := { m.net with groups := SMap.upd {} m.net.groups (b * 32 + dir * 16 + g) f } }
/-- A bridge. -/
def Net.bridge (n : Net) (b : Nat) : Bridge := SMap.get {} n.bridges b
/-- Changes a bridge. -/
def Module.updBridge (m : Module) (b : Nat) (f : Bridge → Bridge) : Module :=
  { m with net := { m.net with bridges := SMap.upd {} m.net.bridges b f } }

/-- Group `g` is parked: a router of its edge position is fenced (R318, R324). -/
def Module.parked (m : Module) (b g : Nat) : Bool :=
  (m.cl (edgeRouter b true (g / 2))).routerFenced || (m.cl (edgeRouter b false (g / 2))).routerFenced

/-- A group is in service: both directions live, no router of its position fenced (R324). -/
def Module.groupUp (m : Module) (b g : Nat) : Bool := (m.net.group b 0 g).live && (m.net.group b 1 g).live && !m.parked b g
/-- A group carries traffic now: it is in service and neither direction retrains (R323). -/
def Module.groupLive (m : Module) (b g : Nat) : Bool :=
  m.groupUp b g && !(m.net.group b 0 g).retraining && !(m.net.group b 1 g).retraining
/-- The bridge's groups in service, as a list (R324: their number is L). -/
def Module.liveGroups (m : Module) (b : Nat) : List Nat := (List.range 16).filter (m.groupUp b)
/-- The bridge has failed for good (R324). -/
def Module.bridgeLost (m : Module) (b : Nat) : Bool := (m.net.bridge b).down || (m.liveGroups b).isEmpty

/-- Some deck of the bridge is in deck reset: its bridges count as down (R447). -/
def Module.bridgeReset (m : Module) (b : Nat) : Bool :=
  m.clocks.resets.any (fun r => r.scope == 3 && (r.target == (bridgeEnds b).1 || r.target == (bridgeEnds b).2))
/-- No route uses the bridge (R324, R447). -/
def Module.bridgeDown (m : Module) (b : Nat) : Bool := m.bridgeLost b || (m.net.bridge b).retraining || m.bridgeReset b

/-! ## Routes inside a deck -/

/-- The numbers from `a` to `b`, in that order. -/
def span (a b : Nat) : List Nat :=
  if a ≤ b then (List.range (b - a + 1)).map (fun i => a + i) else (List.range (a - b + 1)).map (fun i => a - i)

/-- The dimension-order route between two clusters of a deck, x before y (R33). -/
def meshPath (a b : Nat) : List Nat :=
  let base := a / 64 * 64
  (span (xOf a) (xOf b)).map (fun x => base + yOf a * 8 + x) ++ ((span (yOf a) (yOf b)).drop 1).map (fun y => base + y * 8 + xOf b)

/-- The relayed route through `r`. -/
def viaRelay (a b r : Nat) : List Nat := meshPath a r ++ (meshPath r b).drop 1

/-- R320: the relay with the fewest hops, neither leg crossing a fenced router, the lowest cluster index on a tie. -/
def relayRoute (live : Nat → Bool) (a b : Nat) : Option (List Nat) :=
  (clustersOf (deckOf a)).foldl (fun (best : Option (List Nat)) r =>
    let p := viaRelay a b r
    if !p.all live then best
    else match best with
      | some q => if p.length < q.length then some p else best
      | none => some p) none

/-- The route in force between two clusters of a deck (R320); none: no relay serves the pair. -/
def meshRoute (live : Nat → Bool) (a b : Nat) : Option (List Nat) :=
  let p := meshPath a b
  if p.all live then some p else relayRoute live a b

/-! ## Routes between decks -/

/-- The deckNext of a deck: along its row first, lower index first, then across (R324). -/
def deckNext (d : Nat) : List Nat :=
  (if d % 5 = 0 then [] else [d - 1]) ++ (if d % 5 = 4 then [] else [d + 1]) ++ [if d < 5 then d + 5 else d - 5]

/-- The bridge between two deckNext carries traffic. -/
def linkUp (down : Nat → Bool) (a b : Nat) : Bool := match bridgeOf a b with | some (k, _) => !down k | none => false

/-- Decks within `n` crossings of `b` over bridges that are not down. -/
def deckBall (down : Nat → Bool) (b : Nat) : Nat → List Nat
  | 0 => [b]
  | n + 1 =>
    let l := deckBall down b n
    (List.range Config.decks).filter (fun d => decide (d ∈ l) || (deckNext d).any (fun e => decide (e ∈ l) && linkUp down d e))

/-- The shortest path from `a` to `b` over bridges not down: at each deck the first neighbour that is nearer. -/
def deckWalk (down : Nat → Bool) (b : Nat) : Nat → Nat → List Nat
  | 0, a => [a]
  | n + 1, a =>
    if a = b then [a]
    else match (deckNext a).find? (fun e => linkUp down a e && decide (e ∈ deckBall down b n)) with
      | some e => a :: deckWalk down b n e
      | none => [a]

/-- Crossings of the shortest path; 10 where there is none. -/
def deckDist (down : Nat → Bool) (a b : Nat) : Nat := ((List.range 10).find? (fun n => decide (a ∈ deckBall down b n))).getD 10
/-- The shortest path over live bridges, rows before crossings (R324); none: no path. -/
def shortest (down : Nat → Bool) (a b : Nat) : Option (List Nat) :=
  let n := deckDist down a b
  if n < 10 then some (deckWalk down b n a) else none

/-- The fixed route between decks: along the source's row, then across (R33). -/
def primary (a b : Nat) : List Nat :=
  (span (a % 5) (b % 5)).map (fun c => a / 5 * 5 + c) ++ (if a / 5 = b / 5 then [] else [b])

/-- The bridges of a path of decks. -/
def bridgesOn : List Nat → List Nat
  | a :: b :: rest => (match bridgeOf a b with | some (k, _) => [k] | none => []) ++ bridgesOn (b :: rest)
  | _ => []

/-- R325: the bridge's eight or fewer live groups leave no room for this source cluster. -/
def Module.crowded (m : Module) (src b : Nat) : Bool :=
  let n := (m.liveGroups b).length
  decide (n ≤ 8) && decide (n ≤ src % 64 % 16)

/-- The decks a packet from a cluster to a deck passes (R33, R324, R325); none: no path. -/
def Module.deckRoute (m : Module) (src b : Nat) : Option (List Nat) :=
  let p := primary (deckOf src) b
  let ks := bridgesOn p
  if ks.all (fun k => !m.bridgeDown k && !m.crowded src k) then some p
  else
    match shortest (fun k => m.bridgeDown k || (decide (k ∈ ks) && m.crowded src k)) (deckOf src) b with
    | some q => some q
    | none => if ks.all (fun k => !m.bridgeDown k) then some p else shortest m.bridgeDown (deckOf src) b

/-- The edge position a packet crosses at: its own, or the nearest with a live group, the lower on a tie (R28, R324). -/
def Module.position (m : Module) (b k : Nat) : Nat :=
  let ok (p : Nat) : Bool := m.groupLive b (2 * p) || m.groupLive b (2 * p + 1)
  let near := (List.range 8).flatMap (fun d => (if d ≤ k then [k - d] else []) ++ (if k + d < 8 then [k + d] else []))
  (near.find? ok).getD k

/-- The group of a position that carries a packet: even destinations 2k, odd ones 2k + 1, else the sibling (R321, R323). -/
def Module.groupFor (m : Module) (b k dst : Nat) : Nat :=
  let g := 2 * k + dst % 2
  if m.groupLive b g then g else if g % 2 = 0 then g + 1 else g - 1

/-- The legs of a route: inside each deck from a cluster to a cluster, with the group it then crosses on; an extra hop along the edge
on each side where the position has no live group (R324). -/
def Module.legs (m : Module) (cur dst endpoint : Nat) : List Nat → List (Nat × Nat × Option Nat)
  | a :: b :: rest =>
    match bridgeOf a b with
    | none => [(cur, cur, none)]
    | some (k, row) =>
      let p := m.position k (if row then yOf cur else xOf dst)
      let first := a == (bridgeEnds k).1
      let home := if row then yOf cur else xOf dst
      let far := edgeRouter k (!first) p
      let back := edgeRouter k (!first) home
      let on := if (m.cl back).routerFenced then far else back
      (cur, edgeRouter k first p, some (k * 16 + m.groupFor k p endpoint)) ::
        (if on = far then [] else [(far, on, none)]) ++ m.legs on dst endpoint (b :: rest)
  | _ => [(cur, dst, none)]

/-- A cluster's router works. -/
def Module.routerLive (m : Module) (c : Nat) : Bool := !(m.cl c).routerFenced

/-- The whole route between two clusters: its routers, and 100,000 + bridge × 16 + group at each crossing; `endpoint`'s parity
picks the group (R321); none: no relay or no bridge serves the pair. -/
def Module.route (m : Module) (src dst endpoint : Nat) : Option (List Nat) :=
  let add (acc : Option (List Nat)) (l : Nat × Nat × Option Nat) : Option (List Nat) :=
    acc.bind (fun p => (meshRoute m.routerLive l.1 l.2.1).map (fun q =>
      p ++ q ++ (match l.2.2 with | some g => [100000 + g] | none => [])))
  (m.deckRoute src (deckOf dst)).bind (fun ds => (m.legs src dst endpoint ds).foldl add (some []))

/-- The deck a Dupieno port is on, and the row of its edge's routers (R30, R32). -/
def portDeck (p : Nat) : Nat := nth 0 [0, 4, 5, 9] p
def portRow (p : Nat) : Nat := if p < 2 then 0 else 7

/-- The host attachment of an address (R32): the routers (0, 3) and (0, 4) of deck 0, chosen by bit [8]. -/
def hostEnd (a : Nat) : Nat := 0x3F00 + a / 256 % 2
/-- A Dupieno attachment (R32, R300): port, and half 0 west at x = 3, 1 east at x = 4. -/
def fabEnd (p half : Nat) : Nat := 0x3F02 + 2 * p + half
/-- Where a transfer of a cluster leaves through a port, and where one to an address arrives (R32). -/
def leaveEnd (p c : Nat) : Nat := fabEnd p (xOf c / 4)
def enterEnd (p a : Nat) : Nat := fabEnd p (a / 256 % 2)

/-- The cluster of the router an endpoint is attached to (R32, R300, R327). -/
def endCluster (e : Nat) : Nat :=
  if 65536 ≤ e then (e - 65536) * 64 + 27
  else if 0x3F02 ≤ e then
    let p := (e - 0x3F02) / 2
    portDeck p * 64 + portRow p * 8 + 3 + e % 2
  else if 0x3F00 ≤ e then (e - 0x3F00 + 3) * 8
  else clusterOf e
/-- An endpoint that exists. -/
def endpointOk (e : Nat) : Bool :=
  decide (e < Config.sites ∨ (0x3F00 ≤ e ∧ e < 0x3F0A) ∨ (65536 ≤ e ∧ e < 65536 + Config.decks))

/-- The route between two endpoints. -/
def Module.endRoute (m : Module) (src dst : Nat) : Option (List Nat) := m.route (endCluster src) (endCluster dst) dst

/-- The module with its routers as they were before the fences whose tables are still to come (R318). -/
def Module.before (m : Module) : Module := m.updCls (m.net.newFences.map (·.1)) (fun k => { k with routerFenced := false })
/-- A route crosses a router fenced since the tables in force were computed. -/
def Module.hitsFence (m : Module) : Option (List Nat) → Bool
  | some p => p.any (fun c => m.net.newFences.any (fun q => q.1 == c))
  | none => true
/-- A router stands still: its half's clock changes, for 2 µs at most, or relocks (R307, R444). -/
def Module.halfHeld (m : Module) (h : Nat) : Bool :=
  let at_ := SMap.get 0 m.net.halfFreqAt h
  decide (at_ ≠ 0 ∧ m.time < at_ - 1 + 2)
def Module.routerStill (m : Module) (c : Nat) : Bool := m.halfHeld (halfOf c) || m.relocking (.half (halfOf c))
/-- Nothing is amiss with any route. -/
def Module.netQuiet (m : Module) : Bool :=
  m.net.newFences.isEmpty && m.clocks.relocks.isEmpty && m.net.halfFreqAt.all (fun p => decide (p.2 - 1 + 2 ≤ m.time))
/-- A packet between two endpoints can move now (R307, R318, R444): every router of its way works and runs. -/
def Module.passes (m : Module) (src dst : Nat) : Bool :=
  m.netQuiet ||
  (match m.before.endRoute src dst with
   | none => false
   | some p => !m.hitsFence (some p) && !p.any (fun c => decide (c < Config.clusters) && m.routerStill c))
/-- No way leads from an endpoint to another: its attachment's router, say, is fenced (R318, R319). -/
def Module.noWay (m : Module) (src dst : Nat) : Bool := m.net.newFences.isEmpty && (m.endRoute src dst).isNone
/-- A request may leave for a slice or a scratchpad: a core's own slice lies beside the network (R318, R326). -/
def Module.mayLeave (m : Module) (src dst : Nat) : Bool := src == dst || (m.passes src dst && !decide ((src, dst) ∈ m.net.heldPairs))

/-- The endpoint that a memory request comes from: a core, the host's or another module's attachment, an engine (R32, R298). Firmware
has none. -/
def Module.srcEnd (m : Module) (r : MemReq) : Option Nat :=
  match r.src with
  | .host _ _ => some (hostEnd r.off)
  | .stream s _ _ => some s
  | .keyhole s _ _ => some s
  | .fetch s _ _ => some s
  | .copy _ _ => some (hostEnd r.off)
  | .fabric _ tag => (m.flight.serving.find? (fun o => o.num == tag / 64)).map (fun o => enterEnd o.port r.off)
  | .engine d _ => some (65536 + d)
  | .firmware _ => none
  | .nr s _ _ => some s

/-- A response may arrive now: its way is open, and nothing that its slice sent to the same endpoint before is still on its way
(R305). -/
def Module.mayArrive (m : Module) (r : Response) : Bool :=
  match m.srcEnd r.req with
  | none => true
  | some e => e == r.req.site || (m.passes r.req.site e &&
      (m.mem.responses.takeWhile (· != r)).all (fun q => q.req.site != r.req.site || m.srcEnd q.req != some e))

end Sys2Proof.Machine
end

