-- ==== Sys2Proof/Machine/Slices.lean ====
section
/-! DEFINITION. The slice controller: requests and their acceptance (R46, R53, R61), the arbiter (R43, R44), column
transactions (R41, R47, R54), refresh (R59, R60), write hold (R61 to R63), scrub (R70, R71). -/

namespace Sys2Proof.Machine

/-! ## Requesters -/

/-- A host request; R61 keeps slots for the host's writes. -/
def srcHost : Src → Bool
  | .host _ _ => true
  | _ => false

/-- The core site a request comes from. -/
def srcSite : Src → Option Nat
  | .stream s _ _ => some s
  | .keyhole s _ _ => some s
  | .fetch s _ _ => some s
  | _ => none

/-- The requester whose overlapping accesses stay in order (R46). -/
def srcKey : Src → Nat × Nat × Nat
  | .host fn _ => (0, fn, 0)
  | .stream s k _ => (1, s, k)
  | .keyhole s t _ => (2, s, t)
  | .fetch s t _ => (3, s, t)
  | .copy p q => (4, p, q)
  | .fabric d _ => (5, d, 0)
  | .engine d _ => (6, d, 0)
  | .firmware _ => (7, 0, 0)
  | .nr s t _ => (8, s, t)

/-- Bytes a request touches. -/
def MemReqLen (r : MemReq) : Nat := if r.write then r.data.length else if r.row then 2048 else 64
/-- Two requests touch a byte in common. -/
def overlap (a b : MemReq) : Bool := decide (a.off < b.off + MemReqLen b ∧ b.off < a.off + MemReqLen a)
/-- The later request must wait for the earlier one (R46). -/
def inOrder (earlier later : MemReq) : Bool := srcKey earlier.src == srcKey later.src && overlap earlier later

/-- Requesters an orphan slice admits: enabled cores of its cluster, the host, firmware (R22). -/
def orphanAdmits (site : Nat) : Src → Bool
  | .host _ _ => true
  | .firmware _ => true
  | .stream s _ _ => clusterOf s == clusterOf site
  | .keyhole s _ _ => clusterOf s == clusterOf site
  | .fetch s _ _ => clusterOf s == clusterOf site
  | _ => false

/-- A demand access that ends in an address fault here (R16, R22, R77). -/
def Module.refusedAt (m : Module) (site : Nat) (src : Src) : Bool :=
  (m.slice site).state == 2 || ((m.slice site).state == 1 && !orphanAdmits site src)

/-- The class a request competes in: an orphan slice ignores the critical flag of a core (R22). -/
def Module.classAt (m : Module) (r : MemReq) : Nat :=
  if (m.slice r.site).state = 1 ∧ r.cls = 0 ∧ (srcSite r.src).isSome then 2 else r.cls

/-- Data go back to the requester; no data stand for an address fault. -/
def Module.respond (m : Module) (r : MemReq) (data : List Byte) (poison : Bool) : Module :=
  { m with mem := { m.mem with responses := m.mem.responses ++ [⟨{ r with data := [] }, false, data, poison⟩] } }
/-- A write is accepted: its requester is told (R301). -/
def Module.acceptOf (m : Module) (r : MemReq) : Module :=
  { m with mem := { m.mem with responses := m.mem.responses ++ [⟨{ r with data := [] }, true, [], false⟩] } }

/-! ## Acceptance of writes (R46, R53, R56, R61) -/

/-- The oldest entry that may be flushed and is not due yet falls due (R54). -/
def Module.markOldest (m : Module) (site : Nat) : Module :=
  m.updSlice site (fun s => { s with
    merge := modFirst (fun e => !e.due && !m.rowHeld site e.row) (fun e => { e with due := true }) s.merge })

/-- Narrow writes that wait for an entry of the merge buffer. -/
def Slice.wantEntry (s : Slice) : Nat :=
  countOf (fun w => w.req.write && w.req.data.length != 2048 && (s.mergeOf (w.req.off / 2048)).isNone) s.waiting

/-- Each narrow write that waits for an entry flushes one: as many of the oldest entries fall due as writes wait (R54). -/
def Module.markFor (m : Module) (site : Nat) : Module :=
  (List.range ((m.slice site).wantEntry - countOf (·.due) (m.slice site).merge)).foldl (fun acc _ => acc.markOldest site) m

/-- A narrow write merges into its row's entry (R53). -/
def mergeInto (e : MergeEntry) (lo : Nat) (w : MemReq) : MergeEntry :=
  let b := addBytes e.bytes lo w.data
  { e with bytes := b, poison := e.poison || w.poison, due := e.due || decide (2048 ≤ b.length) }

/-- Accepts a write into the merge buffer, the full-row queue or the write-hold queue; none when it must wait. An entry keeps the
class of the write that allocated it (R43). -/
def Module.acceptWrite (m : Module) (w : MemReq) : Option Module :=
  let s := m.slice w.site
  let r := w.off / 2048
  let lo := w.off % 2048
  let host := srcHost w.src
  let drop (x : Module) : Module := x.updSlice w.site (fun s => { s with merge := s.merge.filter (fun e => e.row != r) })
  if w.data.length = 2048 then
    if (s.holdOf r).isSome ∨ m.rowHeld w.site r then (m.toHold w.site r 0 w.data w.poison host).map drop
    else if s.rowQueue.length < 16 then
      some ((drop m).updSlice w.site (fun s => { s with rowQueue := s.rowQueue ++ [⟨w, m.time⟩] }))
    else none
  else if (s.mergeOf r).isSome then
    some (m.updSlice w.site (fun s => { s with merge := modFirst (fun e => e.row == r) (fun e => mergeInto e lo w) s.merge }))
  else if (s.holdOf r).isSome then m.toHold w.site r lo w.data w.poison host
  else if s.merge.length < 8 then
    let e : MergeEntry := { row := r, bytes := [], poison := false, cls := if srcSite w.src = some w.site then 1 else 2, due := false }
    some (m.updSlice w.site (fun s => { s with merge := s.merge ++ [mergeInto e lo w] }))
  else if m.rowHeld w.site r ∧ s.merge.all (fun e => m.rowHeld w.site e.row) then m.toHold w.site r lo w.data w.poison host
  else none

/-- Some slice has all 8 host slots full (R62). -/
def Module.hostSlotsFull (m : Module) : Bool := m.mem.slices.any (fun p => decide (8 ≤ p.2.hostRows))
/-- The port holds posted credits exactly while some slice's 8 host slots are full (R62). -/
def Module.syncCredits (m : Module) : Module := { m with port := { m.port with creditsHeld := m.hostSlotsFull } }

/-- A slice whose 8 host slots are full holds the port's credits; event 0x09 at most once per 100 ms per slice (R62). -/
def Module.hostHeld (m : Module) (w : MemReq) : Module :=
  let last := SMap.get 0 m.log.heldAt w.site
  let m1 := m.syncCredits
  if (m.slice w.site).hostRows < 8 ∨ (last ≠ 0 ∧ m.time < last - 1 + 100000) then m1
  else ({ m1 with log := { m1.log with heldAt := SMap.set 0 m1.log.heldAt w.site (m.time + 1) } }).memEntry
    0x09 w.site w.off 0 2 0 (srcReq w.src)

/-- A write is accepted, and its requester is told; a host write that fills the last host slot holds the port (R62, R301). -/
def Module.accepted (m : Module) (w : MemReq) : Module :=
  if srcHost w.src then (m.acceptOf w).hostHeld w else m.acceptOf w

/-- Full-row writes accepted before their row came under write hold go to the write-hold queue, beneath later writes (R61). -/
def Module.spillHeld (m : Module) (site : Nat) : Module :=
  (m.slice site).rowQueue.foldl (fun acc w =>
    let r := w.req.off / 2048
    if acc.rowHeld site r then
      match acc.toHoldUnder site r w.req.data w.req.poison 0 (srcHost w.req.src) with
      | some x => x.updSlice site (fun s => { s with rowQueue := s.rowQueue.erase w })
      | none => acc
    else acc) m

/-- One pass over the waiting requests: writes that can be accepted now are, in order of arrival (R46). -/
def Module.reaccept (m : Module) (site : Nat) : Module :=
  let step (p : Module × List Waiting) (w : Waiting) : Module × List Waiting :=
    if w.req.write ∧ !(((m.slice site).holdSlots ++ p.2).any (fun k => inOrder k.req w.req)) then
      match p.1.acceptWrite w.req with
      | some x => (x.accepted w.req, p.2)
      | none => (p.1, p.2 ++ [w])
    else (p.1, p.2 ++ [w])
  let r := (m.slice site).waiting.foldl step (m.spillHeld site, [])
  ((r.1.updSlice site (fun s => { s with waiting := r.2 })).markFor site).syncCredits

/-! ## Arrival (R46, R47) -/

/-- Banks a running step has open: those its mask selects but the retired one in its first part, the donor bank of its row in its
second (R76, R110); a combine and statistic arithmetic leave the banks free (R105). -/
def Module.stepOpens (m : Module) (site : Nat) (q : SliceSeq) (b : BankSeq) (bank : Nat) : Bool :=
  let mask := getLe b.record 8 8
  q.inStep && getLe b.record 0 1 == 0x50 &&
    (match (m.slice site).retiredBank with
     | none => bitOf mask bank
     | some p =>
       if q.second then bitOf mask p && bank == donorBank p (getLe b.record 16 2 + q.step) else bitOf mask bank && bank != p)

/-- A bank is in mid-step. -/
def Module.bankBusy (m : Module) (site bank : Nat) : Bool :=
  (m.slice site).bankSeqs.any (fun q => q.inStep && m.mem.seqs.any (fun b => b.id == q.id && m.stepOpens site q b bank))

/-- A combine in progress holds the column bus's data lines (R105). -/
def Module.busHeld (m : Module) (site : Nat) : Bool :=
  (m.slice site).bankSeqs.any (fun q => q.inStep && m.mem.seqs.any (fun b =>
    b.id == q.id && getLe b.record 0 1 == 0x51 && decide (0x10 ≤ getLe b.record 1 1)))

/-- The bank that serves a request. -/
def Module.reqBank (m : Module) (r : MemReq) : Nat := m.physBank r.site (r.off / 2048)

/-- A P0 read to a bank in mid-step takes the bank's hold slot when that is free (R114), unless an earlier access of its
requester to its bytes still waits (R46). -/
def Module.takeHoldSlot (m : Module) (site : Nat) (w : Waiting) : Option Module :=
  let b := m.reqBank w.req
  if !w.req.write ∧ m.classAt w.req = 0 ∧ m.bankBusy site b ∧ (m.slice site).holdSlots.all (fun x => m.reqBank x.req != b) ∧
      !((m.slice site).waiting.any (fun k => inOrder k.req w.req)) then
    some (m.updSlice site (fun s => { s with holdSlots := s.holdSlots ++ [w] }))
  else none

/-- A read request arrives: refused with an address fault, or it waits; an access wakes a Shuttered cluster (R421). -/
def Module.readArrives (m : Module) (r : MemReq) : Module :=
  if m.refusedAt r.site r.src then m.respond r [] false
  else
    let m1 := m.wakeSlice (clusterOf r.site)
    match m1.takeHoldSlot r.site ⟨r, m.time⟩ with
    | some x => x
    | none => m1.updSlice r.site (fun s => { s with waiting := s.waiting ++ [⟨r, m.time⟩] })

def execReadSector (r : MemReq) (s : State) : Host.Outcome State Fault Refusal :=
  onModule (r.wf && !r.row && !r.write) (fun m => m.readArrives r) s
def execReadRow (r : MemReq) (s : State) : Host.Outcome State Fault Refusal :=
  onModule (r.wf && r.row && !r.write) (fun m => m.readArrives r) s

/-- A write arrives: refused, accepted, or made to wait (R42, R46, R53, R61). A write to a slice that has left service is dropped
and logged; a device's own one ends in an address fault besides (R16, R42). -/
def Module.writeArrives (m : Module) (r : MemReq) : Module :=
  if m.refusedAt r.site r.src then
    let m1 := if (m.slice r.site).state = 2 then m.memEntry 0x06 r.site r.off 0 (m.classAt r) 0 (srcReq r.src) else m
    if srcHost r.src then m1.acceptOf r else m1.respond r [] false
  else
    let m1 := m.wakeSlice (clusterOf r.site)
    let s := m1.slice r.site
    let wait (x : Module) : Module := x.updSlice r.site (fun s => { s with waiting := s.waiting ++ [⟨r, m.time⟩] })
    if s.selfRefresh ∨ (s.holdSlots ++ s.waiting).any (fun k => inOrder k.req r) then wait m1
    else match m1.acceptWrite r with
      | some x => x.accepted r
      | none => if srcHost r.src then ((wait m1).markFor r.site).hostHeld r else (wait m1).markFor r.site

def execWritePacket (r : MemReq) (s : State) : Host.Outcome State Fault Refusal :=
  onModule (r.wf && r.write) (fun m => m.writeArrives r) s

/-! ## The arbiter (R43, R44) -/

/-- A waiting read that could run now: its row's group is not in Over, its bank not in mid-step, and no earlier write of
its requester to its bytes waits (R46, R63, R114). -/
def Module.readReady (m : Module) (site : Nat) (before : List Waiting) (w : Waiting) : Bool :=
  !w.req.write && !m.rowHalted site (w.req.off / 2048) && !m.bankBusy site (m.reqBank w.req) &&
  !(before.any (fun k => inOrder k.req w.req))

/-- The first ready read of a class. -/
def Module.firstRead (m : Module) (site cls : Nat) : List Waiting → List Waiting → Option Waiting
  | _, [] => none
  | before, w :: rest =>
    if m.classAt w.req = cls ∧ m.readReady site before w then some w else m.firstRead site cls (before ++ [w]) rest

/-- A row may be written now. -/
def Module.writable (m : Module) (site r : Nat) : Bool := !m.rowHeld site r && !m.bankBusy site (m.physBank site r)

/-- The row lies in a retired page: a page is 32 rows at one row index (R37). -/
def Module.rowRetired (m : Module) (site r : Nat) : Bool := decide (r / 32 ∈ (m.slice site).retiredPages)

/-- A row of the donors, which scrub reads under the name of the row that has moved there (R70, R73). -/
def Module.rowDonated (m : Module) (site r : Nat) : Bool :=
  match (m.slice site).retiredBank with
  | none => false
  | some p => r % 64 != p && decide (3968 ≤ r / 64 ∧ r / 64 < 4032)

/-- The next row of the pass: a skipped row whose group is free again, or the row in turn. -/
def Module.scrubNext (m : Module) (site : Nat) : Option Nat :=
  let s := m.slice site
  match s.skipped.find? (fun r => !m.rowHeld site r) with
  | some r => some r
  | none => if s.scrubRow < 2 ^ 18 then some s.scrubRow else none

/-- The pass goes over a row without reading it: a retired page, a donor row, a row under write hold or in Over (R71). -/
def Module.scrubSkips (m : Module) (site r : Nat) : Bool := m.rowRetired site r || m.rowDonated site r || m.rowHeld site r

/-- Scrub runs: it has a period, and the module is ready (R70). -/
def Module.scrubOn (m : Module) : Bool := m.mem.scrubHours != 0 && m.bring.ready

/-- The row the pass reads next, once its read is due and its bank is free. -/
def Module.scrubReady (m : Module) (site : Nat) : Option Nat :=
  if (m.slice site).scrubDue ∧ m.scrubOn then
    (m.scrubNext site).filter (fun r => !m.scrubSkips site r && !m.bankBusy site (m.physBank site r))
  else none

/-- A row of a MEM.SCRUB_RANGE that can be read now. -/
def Module.jobReady (m : Module) (site : Nat) (j : ScrubJob) : Bool :=
  !m.rowHeld site j.row && !m.bankBusy site (m.physBank site j.row)

/-- The next column transaction of a class: a hold-slot read, a read, a queued full-row write, a merge flush, the write of a
write-hold slot, a scrub read of the pass or of a MEM.SCRUB_RANGE. -/
inductive Trans1 where
  | slot (w : Waiting)
  | read (w : Waiting)
  | rowWrite (r : Nat)
  | flush (r : Nat)
  | drain (r : Nat)
  | scrub (r : Nat)
  | job (j : ScrubJob)
deriving DecidableEq, Repr

/-- Queued content of a slice that class `cls` would write: the first write-hold slot whose row is free again, at P2 (R61); a
full-row write; a merge entry whose flush is due and whose row has nothing older waiting (R46). -/
def Module.nextWrite (m : Module) (site cls : Nat) : Option Trans1 :=
  let s := m.slice site
  let drain := if cls = 2 then s.holdQueue.find? (fun e => m.writable site e.row) else none
  match drain with
  | some e => some (.drain e.row)
  | none =>
    match s.rowQueue.find? (fun w => (if srcSite w.req.src = some site then 1 else 2) == cls && m.writable site (w.req.off / 2048)) with
    | some w => some (.rowWrite (w.req.off / 2048))
    | none => (s.merge.find? (fun e => e.due && e.cls == cls && m.writable site e.row && (s.holdOf e.row).isNone &&
        (s.queuedOf e.row).isNone)).map (fun e => .flush e.row)

/-- Scrub reads of class `cls`: the rows of a MEM.SCRUB_RANGE in order, then the pass's, at P4. -/
def Module.nextScrub (m : Module) (site cls : Nat) : Option Trans1 :=
  match (m.slice site).scrubQueue.find? (fun j => j.cls == cls && m.jobReady site j) with
  | some j => some (.job j)
  | none => if cls = 4 then (m.scrubReady site).map .scrub else none

/-- What class `cls` would run (R43); P3 is the bank-op's. -/
def Module.nextOf (m : Module) (site cls : Nat) : Option Trans1 :=
  let s := m.slice site
  match if cls = 0 then s.holdSlots.find? (fun w => m.readReady site [] w) else none with
  | some w => some (.slot w)
  | none => match m.firstRead site cls [] s.waiting with
    | some w => some (.read w)
    | none => (m.nextWrite site cls).or (m.nextScrub site cls)

/-- Classes with something to run, as a mask; `p3` says that a bank-op step is ready. -/
def Module.waitingMask (m : Module) (site : Nat) (p3 : Bool) : Nat :=
  maskOf 5 (fun k => if k = 3 then p3 else (m.nextOf site k).isSome)

/-- How many of the last `j` grants went to class `k`, and whether it waited at each of them. A grant is kept as its class
plus 8 times the classes that waited. -/
def grantsTo (l : List Nat) (j k : Nat) : Nat := countOf (fun g => g % 8 == k) (l.take j)
def waitedAll (l : List Nat) (j k : Nat) : Bool := decide (j ≤ l.length) && (l.take j).all (fun g => bitOf (g / 8) k)

/-- Grants class `k` must still get in the window of 16 that began `j` grants ago (R44). -/
def Slice.owes (s : Slice) (mask j k : Nat) : Nat :=
  if bitOf mask k ∧ waitedAll s.grants j k then nth 1 s.mins (k - 1) - grantsTo s.grants j k else 0

/-- R44: where the lower classes' minimums fill what is left of a window, the first of them in need is granted. -/
def Slice.forced (s : Slice) (mask : Nat) : Option Nat :=
  match (List.range 16).reverse.find? (fun j =>
    decide (0 < s.owes mask j 1 + s.owes mask j 2 + s.owes mask j 3 + s.owes mask j 4 ∧
      16 - j ≤ s.owes mask j 1 + s.owes mask j 2 + s.owes mask j 3 + s.owes mask j 4)) with
  | some j => [1, 2, 3, 4].find? (fun k => decide (0 < s.owes mask j k))
  | none => none

/-- The class granted: the highest waiting, subject to the minimums (R44). -/
def Slice.choose (s : Slice) (mask : Nat) : Option Nat :=
  match s.forced mask with
  | some k => some k
  | none => (List.range 5).find? (fun k => bitOf mask k)

/-- Notes a grant. -/
def Module.noteGrant (m : Module) (site k mask : Nat) : Module :=
  m.updSlice site (fun s => { s with grants := (k + 8 * mask) :: s.grants.take 14 })

/-! ## One column transaction (R41, R47, R50, R54) -/

/-- Parity retries are counted; 16 within a second at a slice log event 0x05 and bring the stack's deskew forward (R41). -/
def Module.countRetries (m : Module) (site n : Nat) : Module :=
  if n = 0 then m
  else
    let recent := (m.slice site).retries.filter (fun t => decide (m.time < t + 1000000))
    let now := List.replicate n m.time ++ recent
    let m1 := ({ m with mem := { m.mem with parityRetries := sat64 m.mem.parityRetries n } }).updSlice site
      (fun s => { s with retries := now, parityRetries := sat64 s.parityRetries n })
    if recent.length < 16 ∧ 16 ≤ now.length then
      (({ m1 with clocks := { m1.clocks with deskewWanted := setBit m1.clocks.deskewWanted (stackOfSite site) true } })).memEvent
        0x05 site 0 n 0 0
    else m1

/-- A read counts as accepted when its column transaction runs (R148; DESIGN CHOICE: the spec does not say when): its
data, as they stand then, leave for the requester: forwarded content over the row, corrected or poisoned (R46, R50, R67, R68). -/
def Module.finishRead (m : Module) (w : MemReq) (errs : Nat) : Module :=
  let r := w.off / 2048
  let cls := m.classAt w
  let bad := decodeBad (m.strengthAt w.site (rowOff r)) errs
  let m1 := m.afterDecode w.site r errs cls (srcReq w.src)
  let poison := m1.viewPoison w.site r || bad
  let data := if w.row then m1.view w.site r 0 2048 else m1.view w.site r (w.off % 2048) 64
  let m2 := if m1.rowUndef w.site r then { m1 with free := m1.free + 1 } else m1
  let m3 := m2.respond w data poison
  if poison then
    let m4 := { m3 with mem := { m3.mem with poisonReads := sat64 m3.mem.poisonReads 1 } }
    if srcHost w.src then m4.memEntry 0x07 w.site w.off 0 cls 0 (srcReq w.src) else m4
  else m3

/-- Scrub of one row: corrected, its checks rewritten, or poisoned; the row's next correction is a first one (R66, R71). -/
def Module.scrubRowAt (m : Module) (site r errs cls : Nat) : Module :=
  (m.afterDecode site r errs cls 0xFFFF).updSlice site (fun s => { s with sinceScrub := s.sinceScrub.filter (· != r) })

/-- The pass has gone over a row; `skip`: to be visited again before its end. The end of a pass logs event 0x0D (R71). -/
def Module.scrubPassed (m : Module) (site r : Nat) (skip : Bool) : Module :=
  let s := m.slice site
  let m1 := if r ∈ s.skipped then m.updSlice site (fun s => { s with skipped := s.skipped.filter (· != r) })
    else m.updSlice site (fun s => { s with scrubRow := s.scrubRow + 1 })
  let m2 := m1.updSlice site (fun s => { s with scrubDue := false, skipped := if skip then s.skipped ++ [r] else s.skipped })
  let t := m2.slice site
  if t.scrubRow = 2 ^ 18 ∧ t.skipped.isEmpty then
    (m2.updSlice site (fun s => { s with scrubRow := 0, passes := s.passes + 1 })).memEvent 0x0D site 0 0 4 0
  else m2

/-- The counts of a MEM.SCRUB_RANGE in its command's slot: rows still to read, corrected, uncorrectable. -/
def jobCounts (info : List Nat) (fixed lost : Nat) : List Nat :=
  [nth 0 info 0 - 1, nth 0 info 1 + fixed, nth 0 info 2 + lost]

/-- The command of a scrubbed row takes note, and completes with its counts after its last row (R79). -/
def Module.jobDone (m : Module) (j : ScrubJob) (fixed lost : Nat) : Module :=
  let m1 := m.updCmd j.cmd (fun s => { s with info := jobCounts s.info fixed lost })
  match m1.cmd j.cmd with
  | none => m1
  | some s => if nth 0 s.info 0 = 0 then m1.complete j.cmd stOk (d4 (nth 0 s.info 1) ++ d4 (nth 0 s.info 2)) else m1

/-- One row of a MEM.SCRUB_RANGE is read. -/
def Module.runJob (m : Module) (site : Nat) (j : ScrubJob) : Module :=
  let k := decodeRow (m.strengthAt site (rowOff j.row)) j.errs
  let fixed := match k with | .corrected _ => 1 | _ => 0
  let lost := match k with | .bad _ => 1 | _ => 0
  ((m.updSlice site (fun s => { s with scrubQueue := s.scrubQueue.erase j })).scrubRowAt site j.row j.errs j.cls).jobDone j fixed lost

/-- A slice that has left service reads no more rows: the commands that named them end (R81). -/
def Module.dropJobs (m : Module) (site : Nat) : Module :=
  let ids := ((m.slice site).scrubQueue.map (·.cmd)).eraseDups
  ids.foldl (fun acc id => acc.refuseCmd id stFenced 0) (m.updSlice site (fun s => { s with scrubQueue := [] }))

/-- What a write-hold slot or a merge entry that does not hold the whole row needs first: the row is read and decoded (R54, R61). -/
def Module.readForWrite (m : Module) (site r errs cls : Nat) (e : Option MergeEntry) : Module :=
  match e with
  | none => m
  | some x => if x.full then m else m.afterDecode site r errs cls 0xFFFF

/-- Runs the transaction a class was granted. A flush of an entry that is not complete reads the row first (R54, R55). -/
def Module.runTrans (m : Module) (site errs : Nat) : Trans1 → Module
  | .slot w => (m.updSlice site (fun s => { s with holdSlots := s.holdSlots.filter (· != w) })).finishRead w.req errs
  | .read w => (m.updSlice site (fun s => { s with waiting := s.waiting.erase w })).finishRead w.req errs
  | .rowWrite r => m.settleQueued site r
  | .flush r => (m.readForWrite site r errs 5 ((m.slice site).mergeOf r)).settleRow site r
  | .drain r =>
    let e := if ((m.slice site).queuedOf r).isSome then none else (m.slice site).holdOf r
    (((m.readForWrite site r errs 6 e).settleHold site r).sleepDrained site)
  | .scrub r => (m.scrubRowAt site r errs 4).scrubPassed site r false
  | .job j => m.runJob site j

/-- Content a failing slice had accepted and not written is dropped, and each row of it logged (R42). -/
def Module.failSlice (m : Module) (site off : Nat) : Module :=
  let rows := (m.slice site).pendingRows
  ((rows.foldl (fun acc r => acc.memEvent 0x06 site (rowOff r) 0 0 0) m).offlineSlice site off).dropJobs site

/-- The arbiter runs what class `k` was granted (R41, R42, R44): parity retries are counted, and a transfer that fails after two
retries takes the slice out of service. A step that opens rows moves no data; a combine and a correction detour do (R110).
`runP3` and `p3Data` are the bank-op's. -/
def Module.runClass (m : Module) (site parityFails errs k mask : Nat) (p3Data : Bool) (runP3 : Module → Module) : Module :=
  let m1 := m.noteGrant site k mask
  if k = 3 ∧ !p3Data then (runP3 m1).reaccept site
  else
    let m2 := m1.countRetries site (min parityFails 2)
    if 3 ≤ parityFails then m2.failSlice site 0
    else if k = 3 then (runP3 m2).reaccept site
    else match m.nextOf site k with
      | none => m1
      | some t => (m2.runTrans site errs t).reaccept site

/-- The slice has no column transaction to grant: it is out of service or in self-refresh, a combine holds the bus (R105), the
clock of its cluster or of its stack's column relocks (R444), or its cluster is being reset (R447). -/
def Module.noGrant (m : Module) (site : Nat) : Bool :=
  (m.slice site).state == 2 || (m.slice site).selfRefresh || m.busHeld site || m.relocking (.cluster (clusterOf site)) ||
  m.relocking (.stack (stackOfSite site)) || m.sliceResetting site

/-- COLUMN_TRANSACTION_GRANT: the arbiter grants a class and its transaction runs (R44). -/
def Module.grant (m : Module) (site parityFails errs : Nat) (p3 p3Data : Bool) (runP3 : Module → Module) : Module :=
  if (m.slice site).state = 2 then m.dropJobs site
  else if m.noGrant site then m
  else
    let mask := m.waitingMask site p3
    match (m.slice site).choose mask with
    | none => m.reaccept site
    | some k => m.runClass site parityFails errs k mask p3Data runP3

/-! ## Merge age, write hold, refresh (R54, R56, R59 to R63) -/

/-- MERGE_ENTRY_AGE_EXPIRY: the entry falls due, unless its row is held (R54, R56). -/
def doMergeEntryAgeExpiry (site row : Nat) (m : Module) : Module :=
  if m.rowHeld site row then m
  else m.updSlice site (fun s => { s with merge := modFirst (fun e => e.row == row) (fun e => { e with due := true }) s.merge })
def execMergeEntryAgeExpiry (site row : Nat) (s : State) : Host.Outcome State Fault Refusal :=
  onModule (siteOk site && decide (row < 2 ^ 18)) (doMergeEntryAgeExpiry site row) s

/-- A bank-op sequence that opens rows is running in the bank: it has begun and is not done (R60, R116). A combine postpones no
refresh (R105). -/
def Module.bankRunning (m : Module) (site bank : Nat) : Bool :=
  (m.slice site).bankSeqs.any (fun q => (q.inStep || q.step != 0) && m.mem.seqs.any (fun b =>
    b.id == q.id && getLe b.record 0 1 == 0x50 && bitOf (getLe b.record 8 8) bank))

/-- REFRESH_INTERVAL: the bank is refreshed with everything it owes, or the refresh is postponed while a sequence runs in
the bank (R59, R60, R116). -/
def doRefreshInterval (site bank : Nat) (m : Module) : Module :=
  if (m.slice site).state = 2 ∨ (m.slice site).selfRefresh then m
  else if m.bankRunning site bank then
    m.updSlice site (fun s => { s with owed := SMap.upd 0 s.owed bank (fun n => min 8 (n + 1)) })
  else m.updSlice site (fun s => { s with owed := SMap.set 0 s.owed bank 0 })
def execRefreshInterval (site bank : Nat) (s : State) : Host.Outcome State Fault Refusal :=
  onModule (siteOk site && decide (bank < 64)) (doRefreshInterval site bank) s

/-- POSTPONED_REFRESH_FORCE: at a step boundary a bank that owes eight refreshes gets them back to back, and at the first gap of
1 µs between steps any bank gets what it owes (R60, R116). -/
def doPostponedRefreshForce (site bank : Nat) (m : Module) : Module :=
  let s := m.slice site
  let gap := s.bankSeqs.all (fun q => !q.inStep) && decide (s.stepEndAt + 1 ≤ m.time)
  if m.bankBusy site bank ∨ (SMap.get 0 s.owed bank < 8 ∧ !gap) then m
  else m.updSlice site (fun s => { s with owed := SMap.set 0 s.owed bank 0 })
def execPostponedRefreshForce (site bank : Nat) (s : State) : Host.Outcome State Fault Refusal :=
  onModule (siteOk site && decide (bank < 64)) (doPostponedRefreshForce site bank) s

/-- A host read one of whose pieces is aborted completes with Completer Abort (R63). -/
def Module.abortHostRead (m : Module) (fn id : Nat) : Module :=
  match takeFirst (fun (h : HostRead) => h.fn == fn && h.pieces.any (fun p => p.1 == id)) m.port.reads with
  | none => m
  | some (_, rest) => ({ m with port := { m.port with reads := rest } }).answer (.abort fn)

/-- OVER_HOST_READ_TIMEOUT: host reads that have waited 1 ms at a group in Over are aborted and logged (R63). -/
def doOverHostReadTimeout (site : Nat) (m : Module) : Module :=
  let late (w : Waiting) : Bool :=
    !w.req.write && srcHost w.req.src && m.rowHalted site (w.req.off / 2048) && decide (w.at_ + 1000 ≤ m.time)
  let gone := ((m.slice site).holdSlots ++ (m.slice site).waiting).filter late
  let m1 := m.updSlice site (fun s => { s with
    waiting := s.waiting.filter (fun w => !late w), holdSlots := s.holdSlots.filter (fun w => !late w) })
  gone.foldl (fun acc w =>
    match w.req.src with
    | .host fn id => (acc.memEntry 0x0A site w.req.off 0 0 0 (srcReq w.req.src)).abortHostRead fn id
    | _ => acc) m1
def execOverHostReadTimeout (site : Nat) (s : State) : Host.Outcome State Fault Refusal :=
  onModule (siteOk site) (doOverHostReadTimeout site) s

end Sys2Proof.Machine
end

