-- ==== Sys2Proof/Machine/Translate.lean ====
section
/-! DEFINITION. Translation (R343 to R349): table entries and stripe records in memory, the walk with its checks in
order; firmware's writes of tables, the pool's nodes, mapping, splitting and removal (R345, R361, R362). -/

namespace Sys2Proof.Machine

/-! ## Addresses (R14, R15, R73) -/

/-- Site and slice offset of a device physical address. -/
def siteOfAddr (a : Nat) : Nat := a / 2 ^ 29
def offOfAddr (a : Nat) : Nat := a % 2 ^ 29
/-- The address lies in the memory region. -/
def inMemory (a : Nat) : Bool := decide (a < 0x050000000000)
/-- The offset lies in the reserved area; in the donor rows of R73. -/
def offReserved (off : Nat) : Bool := decide (0x1F800000 ≤ off)
def offDonor (off : Nat) : Bool := decide (0x1F000000 ≤ off ∧ off < 0x1F800000)

/-- The address lies in a usable slice of the partition's own clusters (R332, R348). -/
def Module.ownMemory (m : Module) (part a : Nat) : Bool :=
  let s := siteOfAddr a
  inMemory a && (m.slice s).state != 2 && (m.cl (clusterOf s)).owner == some part

/-- The offset lies in a retired page or in donor rows of a slice with a retired bank (R72, R74). -/
def Module.offRetired (m : Module) (site off : Nat) : Bool :=
  decide (off / 65536 ∈ (m.slice site).retiredPages) || ((m.slice site).retiredBank.isSome && offDonor off)

/-! ## Reading memory below the level of requests -/

/-- Bytes at an address, across rows, as a read at the slice returns them. -/
def Module.readMemBytes (m : Module) (a n : Nat) : List Byte :=
  let r0 := offOfAddr a / 2048
  let lo := offOfAddr a % 2048
  if lo + n ≤ 2048 then m.view (siteOfAddr a) r0 lo n
  else m.view (siteOfAddr a) r0 lo (2048 - lo) ++ m.view (siteOfAddr a) (r0 + 1) 0 (n + lo - 2048)

/-- Some row of the range reads as poisoned. -/
def Module.readPoison (m : Module) (a n : Nat) : Bool :=
  let r0 := offOfAddr a / 2048
  let r1 := (offOfAddr a + n - 1) / 2048
  m.viewPoison (siteOfAddr a) r0 || m.viewPoison (siteOfAddr a) r1

/-! ## Table entries (R343, R344) -/

/-- What one entry of level `l` maps: 2 ^ this many bytes; how many index bits the level has; its node's size. -/
def levelShift (l : Nat) : Nat := match l with | 0 => 16 | 1 => 21 | 2 => 29 | _ => 39
def levelBits (l : Nat) : Nat := match l with | 0 => 5 | 1 => 8 | 2 => 10 | _ => 9
def nodeSize (l : Nat) : Nat := 8 * 2 ^ levelBits l
/-- Address of the entry for `va` in a node of level `l`. -/
def entryAddr (node l va : Nat) : Nat := node + 8 * (va / 2 ^ levelShift l % 2 ^ levelBits l)

/-- Fields of an entry. -/
def entValid (e : Nat) : Bool := bitOf e 0
def entType (e : Nat) : Nat := bitsOf e 2 1
def entAddr (e : Nat) : Nat := e % 2 ^ 48 / 256 * 256

/-- Type 3, a leaf at the root, a striped leaf at level 0, a reserved bit or a misaligned address (R344, R348). -/
def entMalformed (l e : Nat) : Bool :=
  let a := entAddr e
  entType e == 3 || bitOf e 7 || decide (2 ^ 48 ≤ e) ||
  (if entType e = 0 then l == 0 || bitsOf e 6 3 != 0 || a % nodeSize (l - 1) != 0
   else if entType e = 1 then l == 3 || a % 2 ^ levelShift l != 0 || !inMemory a
   else l == 3 || l == 0 || bitOf e 6)

/-- A stripe record's fields (R347). -/
def stripeCount (b : List Byte) : Nat := getLe b 0 1
def stripeBase (b : List Byte) : Nat := getLe b 8 8
def stripeOff (b : List Byte) : Nat := getLe b 16 8
def stripeSite (b : List Byte) (i : Nat) : Nat := getLe b (32 + 2 * i) 2

/-- The record is well formed for an address of its range (R347). -/
def stripeOk (b : List Byte) (va : Nat) : Bool :=
  let l := stripeCount b
  decide (2 ≤ l ∧ l ≤ 64 ∧ stripeBase b ≤ va) && stripeBase b % 2 ^ 21 == 0 && stripeOff b % 65536 == 0 &&
  getLe b 1 7 == 0 && getLe b 24 8 == 0 && getLe b 160 96 == 0 && (b.drop (32 + 2 * l)).all (· == 0) &&
  decide (stripeOff b + (va - stripeBase b) / 65536 / l * 65536 < 2 ^ 29)

/-- The frame of an address under a striped leaf (R293, R347). -/
def stripeFrame (b : List Byte) (va : Nat) : Nat :=
  let g := (va - stripeBase b) / 65536
  let l := stripeCount b
  devAddr (stripeSite b (g % max l 1)) (stripeOff b + g / max l 1 * 65536) + va % 65536

/-! ## The walk (R348) -/

/-- How a walk ends: an address, a translation fault with its cause and, for event 0x47, the entry's address, or a
poisoned read (R641). -/
inductive WalkEnd where
  | ok (pa : Nat)
  | fault (cause : Nat) (bad : Option Nat)
  | poison
deriving DecidableEq, Repr

/-- The last checks: permission, reserved area, which no translation reaches (R15), retired page (R348). `acc` is the permission
bit of the access. -/
def Module.checkFrame (m : Module) (acc e pa : Nat) (retiredCheck : Bool) : WalkEnd :=
  let off := offOfAddr pa
  if !bitOf e acc then .fault 2 none
  else if offReserved off then .fault 3 none
  else if retiredCheck ∧ m.offRetired (siteOfAddr pa) off then .fault 4 none
  else .ok pa

/-- A walk down from the node of level `l`, from its first read to the leaf; its checks but those of the address itself (R348). -/
def Module.leafFrom (m : Module) (part va : Nat) : Nat → Nat → Except WalkEnd CachedLeaf
  | l, node =>
    let ea := entryAddr node l va
    let e := leNat (m.readMemBytes ea 8)
    let leaf : CachedLeaf := ⟨part, va / 2 ^ levelShift l * 2 ^ levelShift l, l, ea, e, []⟩
    if m.readPoison ea 8 then .error .poison
    else if !entValid e then .error (.fault 1 none)
    else if entMalformed l e then .error (.fault 1 (some ea))
    else if !m.ownMemory part (entAddr e) then .error (.fault 1 (some ea))
    else if entType e = 2 then
      (if m.readPoison (entAddr e) 256 then .error .poison else .ok { leaf with record := m.readMemBytes (entAddr e) 256 })
    else if entType e = 1 then .ok leaf
    else match l with
      | 0 => .error (.fault 1 (some ea))
      | l' + 1 => m.leafFrom part va l' (entAddr e)

/-- What a leaf gives an address: the last checks of R348, those of a striped leaf's record among them. -/
def Module.leafEnd (m : Module) (va acc : Nat) (f : CachedLeaf) : WalkEnd :=
  if entType f.ent = 2 then
    (if !stripeOk f.record va then .fault 1 (some f.at_)
     else if !m.ownMemory f.part (stripeFrame f.record va) then .fault 1 (some f.at_)
     else m.checkFrame acc f.ent (stripeFrame f.record va) true)
  else m.checkFrame acc f.ent (entAddr f.ent + va % 2 ^ levelShift f.level) (bitOf f.ent 6)

/-- How a search for a leaf ends for an access. -/
def Module.endOf (m : Module) (va acc : Nat) : Except WalkEnd CachedLeaf → WalkEnd
  | .error w => w
  | .ok f => m.leafEnd va acc f

/-- The leaf a full walk finds. A partition without tables maps nothing. -/
def Module.findLeaf (m : Module) (part va : Nat) : Except WalkEnd CachedLeaf :=
  if (m.part part).root = 0 ∨ 2 ^ 48 ≤ va then .error (.fault 1 none) else m.leafFrom part va 3 (m.part part).root

/-- Translates an address of a partition by a full walk: `acc` 3 read, 4 write, 5 execute. -/
def Module.walk (m : Module) (part va acc : Nat) : WalkEnd := m.endOf va acc (m.findLeaf part va)

/-- The frame that a partition's tables give an address, whatever the leaf permits and whether or not its slice still serves. -/
def Module.frameFrom (m : Module) (va : Nat) : Nat → Nat → Option Nat
  | l, node =>
    let e := leNat (m.readMemBytes (entryAddr node l va) 8)
    if !entValid e ∨ entMalformed l e then none
    else if entType e = 2 then
      let rec_ := m.readMemBytes (entAddr e) 256
      if stripeOk rec_ va then some (stripeFrame rec_ va) else none
    else if entType e = 1 then some (entAddr e + va % 2 ^ levelShift l)
    else match l with
      | 0 => none
      | l' + 1 => m.frameFrom va l' (entAddr e)
def Module.frameOf (m : Module) (part va : Nat) : Option Nat :=
  if (m.part part).root = 0 ∨ 2 ^ 48 ≤ va then none else m.frameFrom va 3 (m.part part).root

/-! ## The translation caches (R350, R352) -/

/-- Entries of a cache. -/
def tlbSize : CacheOf → Nat
  | .core _ => 64
  | .host => 512
  | .dispatcher => 32
  | .engine _ => 32
/-- Entries of a core's walk cache. -/
def nodeCacheSize : Nat := 16

/-- The cached leaf covers an address of a partition. -/
def CachedLeaf.covers (f : CachedLeaf) (part va : Nat) : Bool := f.part == part && decide (f.va ≤ va ∧ va < f.va + 2 ^ levelShift f.level)
/-- The cached node maps an address of a partition. -/
def CachedNode.covers (n : CachedNode) (part va : Nat) : Bool :=
  n.part == part && decide (n.va ≤ va ∧ va < n.va + 2 ^ (levelShift n.level + levelBits n.level))

/-- The leaf a cache holds for an address. -/
def Module.cachedLeaf (m : Module) (k : CacheOf) (part va : Nat) : Option CachedLeaf :=
  (m.tlb.leaves.find? (fun x => x.1 == k && x.2.covers part va)).map (·.2)

/-- Takes `x` into a list of those of its kind; of a full kind the spec does not say which entry makes room: any of them may. -/
def putCached {α : Type} (size pick : Nat) (kind : α → Bool) (x : α) (l : List α) : List α :=
  let mine := l.filter kind
  if mine.length < size then l ++ [x] else l.filter (fun y => !kind y) ++ mine.eraseIdx (pick % size) ++ [x]

/-- A cache takes a leaf. -/
def Module.fillLeaf (m : Module) (k : CacheOf) (f : CachedLeaf) : Module :=
  { m with
    free := m.free + 1,
    tlb := { m.tlb with leaves := putCached (tlbSize k) (Config.freeWord m.free).toNat (fun x => x.1 == k) (k, f) m.tlb.leaves } }

/-- Upper-level entries on the way down from a node to the leaf of an address. -/
def Module.nodesOn (m : Module) (part va : Nat) : Nat → Nat → List CachedNode
  | l, node =>
    let e := leNat (m.readMemBytes (entryAddr node l va) 8)
    if !entValid e ∨ entMalformed l e ∨ entType e ≠ 0 then []
    else match l with
      | 0 => []
      | l' + 1 => ⟨part, va / 2 ^ levelShift (l' + 1) * 2 ^ levelShift (l' + 1), l', entAddr e⟩ :: m.nodesOn part va l' (entAddr e)

/-- Where a core's walk begins: at the lowest node its walk cache holds for the address, else at the root. -/
def Module.walkStart (m : Module) (site part va : Nat) : Nat × Nat :=
  (m.tlb.nodes.filter (fun x => x.1 == site && x.2.covers part va)).foldl
    (fun (b : Nat × Nat) x => if x.2.level < b.1 then (x.2.level, x.2.node) else b) (3, (m.part part).root)

/-- The leaf that a core's walk finds. -/
def Module.coreLeaf (m : Module) (site part va : Nat) : Except WalkEnd CachedLeaf :=
  if (m.part part).root = 0 ∨ 2 ^ 48 ≤ va then .error (.fault 1 none)
  else m.leafFrom part va (m.walkStart site part va).1 (m.walkStart site part va).2
/-- How a core's walk ends. -/
def Module.coreWalk (m : Module) (site part va acc : Nat) : WalkEnd := m.endOf va acc (m.coreLeaf site part va)

/-- A core's caches take what its walk has read. -/
def Module.fillCore (m : Module) (site part va : Nat) : Module :=
  match m.coreLeaf site part va with
  | .error _ => m
  | .ok f =>
    let s := m.walkStart site part va
    let new := (m.nodesOn part va s.1 s.2).filter (fun n => !(m.tlb.nodes.any (fun x => x.1 == site && x.2 == n)))
    let m1 := new.foldl (fun (acc : Module) n => { acc with
      free := acc.free + 1,
      tlb := { acc.tlb with nodes := putCached nodeCacheSize (Config.freeWord acc.free).toNat (fun x => x.1 == site) (site, n) acc.tlb.nodes } }) m
    m1.fillLeaf (.core site) f

/-- A walk is counted for its partition (R367). -/
def Module.countWalk (m : Module) (part : Nat) : Module := m.updPart part (fun p => { p with walks := sat64 p.walks 1 })

/-- Translation of a requester other than a core: its cache, or a walk. -/
def Module.lookup (m : Module) (k : CacheOf) (part va acc : Nat) : WalkEnd :=
  match m.cachedLeaf k part va with
  | some f => m.leafEnd va acc f
  | none => m.walk part va acc
/-- What that leaves behind: a miss is a walk, counted, whose leaf the cache takes. -/
def Module.lookedUp (m : Module) (k : CacheOf) (part va : Nat) : Module :=
  match m.cachedLeaf k part va with
  | some _ => m
  | none => match m.findLeaf part va with
    | .ok f => (m.countWalk part).fillLeaf k f
    | .error _ => m.countWalk part

/-- Invalidation of what the caches hold of a partition (R352): leaves `sel` names, and the upper-level entries. -/
def Module.invalidate (m : Module) (part : Nat) (sel : CachedLeaf → Bool) : Module :=
  { m with tlb := { leaves := m.tlb.leaves.filter (fun x => !(x.2.part == part && sel x.2)), nodes := m.tlb.nodes.filter (fun x => x.2.part != part) } }
/-- A cached leaf meets a range of addresses. -/
def CachedLeaf.meets (f : CachedLeaf) (va len : Nat) : Bool := decide (f.va < va + len ∧ va < f.va + 2 ^ levelShift f.level)
/-- Invalidation over a range of addresses. -/
def Module.invalidateRange (m : Module) (part va len : Nat) : Module := m.invalidate part (fun f => f.meets va len)
/-! ## Walks held for the pool (R345, R346) -/

/-- A device address lies in an extent of the pool whose slice no longer holds live nodes as it should. -/
def Module.extentLost (m : Module) (part a : Nat) : Bool :=
  (m.part part).pool.any (fun x => decide (x.1 ≤ a ∧ a < x.1 + x.2 * 65536) && (m.slice (siteOfAddr x.1)).state != 0)

/-- Nodes and record that a walk from a node of level `l` reads. -/
def Module.walkReads (m : Module) (va : Nat) : Nat → Nat → List Nat
  | l, node =>
    let e := leNat (m.readMemBytes (entryAddr node l va) 8)
    node :: (if !entValid e ∨ entMalformed l e then []
      else if entType e = 2 then [entAddr e]
      else if entType e = 1 then []
      else match l with
        | 0 => []
        | l' + 1 => m.walkReads va l' (entAddr e))

/-- Live nodes of a partition stand where firmware is about to move them from. -/
def Module.poolMoving (m : Module) (part : Nat) : Bool :=
  (m.part part).state != 5 && (m.part part).nodes.any (fun n => m.extentLost part n.1)

/-- Firmware holds the walk until it has moved the nodes it reads; a partition contained for want of room is Disabled, and nothing is held
for it. -/
def Module.walkHeld (m : Module) (part va : Nat) : Bool :=
  m.poolMoving part && (m.part part).root != 0 && (m.walkReads va 3 (m.part part).root).any (m.extentLost part)

/-- The permission an access needs (R344). -/
def accOf (src : Src) (write : Bool) : Nat := match src with | .fetch _ _ _ => 5 | _ => if write then 4 else 3

/-- Logs event 0x47 for a malformed entry (R348, R366). -/
def Module.logBad (m : Module) (part fn site va : Nat) (w : WalkEnd) : Module :=
  match w with
  | .fault c (some ea) => m.prtEvent 0x47 part c fn site va ea 0xFFFF 0
  | _ => m

/-- A translation fault is reported to a thread or to the host: counted (R367). -/
def Module.countFault (m : Module) (part : Nat) : Module := m.updPart part (fun p => { p with faults := sat64 p.faults 1 })

/-! ## Firmware's writes (R345) -/

/-- One write inside a row, accepted like any device-side write, with its poison flag; a full merge buffer flushes its oldest
entry. None when the row is held and no slot is free. -/
def Module.rowWrite (m : Module) (a : Nat) (bs : List Byte) (poison : Bool) : Option Module :=
  let w : MemReq := ⟨siteOfAddr a, offOfAddr a, 2, .firmware 0, true, false, bs, poison⟩
  match m.acceptWrite w with
  | some x => some x
  | none =>
    match (m.slice w.site).merge.find? (fun e => !m.rowHeld w.site e.row) with
    | some e => (m.settleRow w.site e.row).acceptWrite w
    | none => none
/-- One write of firmware inside a row. -/
def Module.fwWriteRow (m : Module) (a : Nat) (bs : List Byte) : Option Module := m.rowWrite a bs false

/-- A write across rows. -/
def Module.fwWrite (m : Module) (a : Nat) (bs : List Byte) : Option Module :=
  let room := 2048 - offOfAddr a % 2048
  if bs.length ≤ room then m.fwWriteRow a bs
  else if bs.length ≤ room + 2048 then (m.fwWriteRow a (bs.take room)).bind (fun x => x.fwWriteRow (a + room) (bs.drop room))
  else
    let parts := (List.range ((bs.length - room + 2047) / 2048)).map (fun i => (a + room + i * 2048, (bs.drop (room + i * 2048)).take 2048))
    ((a, bs.take room) :: parts).foldl (fun acc p => acc.bind (fun x => x.fwWriteRow p.1 p.2)) (some m)

/-- How a table edit ends when it cannot go on: a status, or to be tried again. -/
inductive EditErr where
  | status (st : Nat)
  | again
deriving DecidableEq, Repr

/-- A table write as an edit. -/
def Module.putTable (m : Module) (a : Nat) (bs : List Byte) : Except EditErr Module :=
  match m.fwWrite a bs with
  | some x => .ok x
  | none => .error .again
/-- Writes one entry. -/
def Module.putEntry (m : Module) (a e : Nat) : Except EditErr Module := m.putTable a (leBytes 8 e)
/-- Reads one entry. -/
def Module.getEntry (m : Module) (a : Nat) : Nat := leNat (m.readMemBytes a 8)

/-! ## The pool (R345, R346) -/

/-- The page at a device address is retired. -/
def Module.pageRetired (m : Module) (a : Nat) : Bool := decide (offOfAddr a / 65536 ∈ (m.slice (siteOfAddr a)).retiredPages)

/-- The extent's slice can hold live nodes: usable, its core enabled (R345). -/
def Module.extentOk (m : Module) (a : Nat) : Bool := (m.slice (siteOfAddr a)).state == 0

/-- A node of `size` bytes can stand at `a`. -/
def Module.nodeFits (m : Module) (p : Part) (size a : Nat) : Bool :=
  m.extentOk a && !m.pageRetired a && p.nodes.all (fun n => decide (a + size ≤ n.1 ∨ n.1 + n.2.1 ≤ a))

/-- The lowest fitting address of an extent. -/
def Module.fitIn (m : Module) (p : Part) (size : Nat) (x : Nat × Nat) : Option Nat :=
  ((List.range (x.2 * 65536 / size)).map (fun i => x.1 + i * size)).find? (m.nodeFits p size)

/-- The first fitting address of the pool. -/
def Module.fitNode (m : Module) (p : Part) (size : Nat) : Option Nat := (p.pool.filterMap (m.fitIn p size)).head?

/-- Pages of the pool; those a node touches or that are retired are used (R345, R346). -/
def poolPages (p : Part) : List Nat := p.pool.flatMap (fun x => (List.range x.2).map (fun i => x.1 + i * 65536))
def Module.freePages (m : Module) (n : Nat) : Nat :=
  let p := m.part n
  countOf (fun a => !m.pageRetired a && p.nodes.all (fun x => decide (x.1 / 65536 ≠ a / 65536))) (poolPages p)

/-- pool_low is raised when fewer than 1/16 of the pool's pages are free (R345). -/
def Module.checkPool (m : Module) (n : Nat) : Module :=
  if 16 * m.freePages n < (poolPages (m.part n)).length then m.setCause .prt 3 else m

/-- Allocates a node or record and fills it with zeros. -/
def Module.newNode (m : Module) (part level : Nat) : Except EditErr (Module × Nat) :=
  let size := if level = 4 then 256 else nodeSize level
  match m.fitNode (m.part part) size with
  | none => .error (.status stLimit)
  | some a => do
    let m1 ← m.putTable a (List.replicate size 0)
    pure (m1.updPart part (fun p => { p with nodes := p.nodes ++ [(a, size, level)] }), a)

/-! ## Leaves -/

/-- A leaf found in the tables: where it maps, at which level, where its entry stands, the entry. -/
structure Leaf where
  va : Nat
  level : Nat
  at_ : Nat
  ent : Nat
deriving DecidableEq, Repr

/-- The leaves under a node of level `l` that maps from `base` on. -/
def Module.leavesUnder (m : Module) : Nat → Nat → Nat → List Leaf
  | l, node, base =>
    (List.range (2 ^ levelBits l)).flatMap (fun i =>
      let e := m.getEntry (node + 8 * i)
      let va := base + i * 2 ^ levelShift l
      if !entValid e then []
      else if entType e = 0 then
        (match l with
         | 0 => []
         | l' + 1 => m.leavesUnder l' (entAddr e) va)
      else [⟨va, l, node + 8 * i, e⟩])

/-- All leaves of a partition. -/
def Module.leaves (m : Module) (part : Nat) : List Leaf :=
  if (m.part part).root = 0 then [] else m.leavesUnder 3 (m.part part).root 0

/-- Bytes a leaf maps, and whether it meets a range. -/
def Leaf.size (f : Leaf) : Nat := 2 ^ levelShift f.level
def Leaf.meets (f : Leaf) (va len : Nat) : Bool := decide (f.va < va + len ∧ va < f.va + f.size)
def Leaf.inside (f : Leaf) (va len : Nat) : Bool := decide (va ≤ f.va ∧ f.va + f.size ≤ va + len)

/-- Nodes and records reachable from a node of level `l`. -/
def Module.reach (m : Module) : Nat → Nat → List Nat
  | l, node =>
    node :: (List.range (2 ^ levelBits l)).flatMap (fun i =>
      let e := m.getEntry (node + 8 * i)
      if !entValid e then []
      else if entType e = 2 then [entAddr e]
      else if entType e = 0 then
        (match l with
         | 0 => []
         | l' + 1 => m.reach l' (entAddr e))
      else [])

/-- Clears pointers to nodes that map nothing, from the bottom up; says whether the node is empty (R362). -/
def Module.prune : Nat → Nat → Module → Except EditErr (Module × Bool)
  | l, node, m =>
    (List.range (2 ^ levelBits l)).foldl (fun acc i => do
      let r ← acc
      let ea := node + 8 * i
      let e := r.1.getEntry ea
      if !entValid e then pure r
      else if entType e = 0 then
        (match l with
         | 0 => pure (r.1, false)
         | l' + 1 => do
           let q ← Module.prune l' (entAddr e) r.1
           if q.2 then
             let m2 ← q.1.putEntry ea 0
             pure (m2, r.2)
           else pure (q.1, false))
      else pure (r.1, false)) (pure (m, true))

/-- Empty nodes are freed, and nodes and records nothing reaches any more (R362). -/
def Module.tidy (m : Module) (part : Nat) : Except EditErr Module := do
  let root := (m.part part).root
  let r ← Module.prune 3 root m
  let live := r.1.reach 3 root
  pure (r.1.updPart part (fun p => { p with nodes := p.nodes.filter (fun n => n.1 ∈ live) }))

/-! ## Splitting and mapping (R361) -/

/-- The retired bit a plain leaf gets: its frame contains a retired page or donor rows (R361). -/
def Module.retiredBit (m : Module) (frame size : Nat) : Bool :=
  let s := m.slice (siteOfAddr frame)
  let off := offOfAddr frame
  s.retiredPages.any (fun p => decide (off ≤ p * 65536 ∧ p * 65536 < off + size)) ||
  (s.retiredBank.isSome && decide (off < 0x1F800000 ∧ 0x1F000000 < off + size))

/-- A plain leaf. -/
def plainLeaf (frame perms : Nat) (retired : Bool) : Nat := frame + 2 ^ 6 * b2n retired + 8 * (perms % 8) + 3
/-- A leaf's permissions. -/
def entPerms (e : Nat) : Nat := bitsOf e 5 3

/-- The entry `i` of the node a leaf of level `l` is split into (R361). -/
def Module.splitEntry (m : Module) (l va e i : Nat) : Nat :=
  let step := 2 ^ levelShift (l - 1)
  if entType e = 1 then entAddr e + i * step + e % 256
  else if l = 2 then e
  else
    let f := stripeFrame (m.readMemBytes (entAddr e) 256) (va / 2 ^ levelShift l * 2 ^ levelShift l + i * 65536)
    plainLeaf f (entPerms e) (m.retiredBit f 65536)

/-- Splits a leaf into a node of the next smaller leaves; gives the node (R361). -/
def Module.splitLeaf (m : Module) (part l ea va e : Nat) : Except EditErr (Module × Nat) := do
  let r ← m.newNode part (l - 1)
  let bytes := (List.range (2 ^ levelBits (l - 1))).flatMap (fun i => leBytes 8 (m.splitEntry l va e i))
  let m1 ← r.1.putTable r.2 bytes
  let m2 ← m1.putEntry ea (r.2 + 1)
  pure (m2, r.2)

/-- Walks down to the node of level `target`, making and, with replace, splitting nodes on the way. -/
def Module.nodeFor (part va target : Nat) (replace : Bool) : Nat → Nat → Module → Except EditErr (Module × Nat)
  | l, node, m =>
    if l ≤ target then .ok (m, node)
    else match l with
      | 0 => .ok (m, node)
      | l' + 1 =>
        let ea := entryAddr node (l' + 1) va
        let e := m.getEntry ea
        if !entValid e then do
          let r ← m.newNode part l'
          let m1 ← r.1.putEntry ea (r.2 + 1)
          Module.nodeFor part va target replace l' r.2 m1
        else if entType e = 0 then Module.nodeFor part va target replace l' (entAddr e) m
        else if replace then do
          let r ← m.splitLeaf part (l' + 1) ea va e
          Module.nodeFor part va target replace l' r.2 r.1
        else .error (.status stBusy)

/-- Puts a leaf of level `target` at `va`; what it overlaps is replaced or, without replace, in the way (R361). -/
def Module.putLeaf (m : Module) (part va target ent : Nat) (replace : Bool) : Except EditErr Module := do
  let r ← Module.nodeFor part va target replace 3 (m.part part).root m
  let ea := entryAddr r.2 target va
  let old := r.1.getEntry ea
  let busy := entValid old && (entType old != 0 || (match target with
    | 0 => true
    | t + 1 => !(r.1.leavesUnder t (entAddr old) 0).isEmpty))
  if busy && !replace then .error (.status stBusy)
  else r.1.putEntry ea ent

/-! ## Reports -/

/-- A contained partition: its work aborted, Disabled, event 0x48 with the items cancelled (R339, R366). -/
def Module.containPart (m : Module) (n : Nat) : Module := (m.abortAndDisable n).prtEvent 0x48 n 0 n 0xFFFF 0 0 0xFFFF (m.itemsOf n)

/-- Moves the live nodes that `bad` names to free places of the pool outside it; the entries that point to them follow, and the caches
let go of them. None when the rest of the pool lacks room (R345, R346). -/
def Module.moveNodes (m : Module) (part : Nat) (bad : Nat → Bool) : Except EditErr (Module × Nat) :=
  let olds := (m.part part).nodes.filter (fun n => bad n.1)
  olds.foldl (fun acc n => do
    let r ← acc
    let p := r.1.part part
    let rest := { p with pool := p.pool.flatMap (fun x =>
      ((List.range x.2).map (fun i => (x.1 + i * 65536, 1))).filter (fun y => !bad y.1)) }
    match r.1.fitNode rest n.2.1 with
    | none => .error (.status stLimit)
    | some a => do
      let m1 ← r.1.putTable a (r.1.readMemBytes n.1 n.2.1)
      let m2 := m1.updPart part (fun p => { p with
        nodes := p.nodes.map (fun x => if x.1 = n.1 then (a, x.2.1, x.2.2) else x), root := if p.root = n.1 then a else p.root })
      let refs := (m2.part part).nodes.flatMap (fun x =>
        if 1 ≤ x.2.2 ∧ x.2.2 ≤ 3 then (List.range (2 ^ levelBits x.2.2)).map (fun i => x.1 + 8 * i) else [])
      let hit := refs.filter (fun ea =>
        let e := m2.getEntry ea
        entValid e && entType e != 1 && entAddr e == n.1)
      let m3 ← hit.foldl (fun acc ea => do
        let x ← acc
        x.putEntry ea (x.getEntry ea - n.1 + a)) (pure m2)
      pure (m3.invalidate part (fun f => bad f.at_ || (entType f.ent == 2 && bad (entAddr f.ent))), r.2 + 1)) (pure (m, 0))

/-- POOL_NODE_RELOCATION: firmware moves the live nodes of an extent whose slice is an orphan or unusable; without room the
partition is contained (R345). -/
def doPoolNodeRelocation (part extent : Nat) (m : Module) : Module :=
  match (m.part part).pool[extent]? with
  | none => m
  | some x =>
    let bad (a : Nat) : Bool := decide (x.1 ≤ a ∧ a < x.1 + x.2 * 65536)
    if m.extentOk x.1 ∨ !((m.part part).nodes.any (fun n => bad n.1)) then m
    else match m.moveNodes part bad with
      | .ok r => (r.1.prtEvent 0x46 part 0 part 0xFFFF 0 x.1 0xFFFF r.2).checkPool part
      | .error (.status _) => m.containPart part
      | .error .again => m
def execPoolNodeRelocation (part extent : Nat) (s : State) : Host.Outcome State Fault Refusal :=
  onModule (partOk part) (doPoolNodeRelocation part extent) s

end Sys2Proof.Machine
end

