-- ==== Sys2Proof/Machine/Partitions.lean ====
section
/-! DEFINITION. Partitions (chapter 11): stopping work (R340 to R342), creation and teardown with their layout change (R335
to R337), configuration, tables and pool (R360 to R363), WORK.CANCEL (R364). -/

namespace Sys2Proof.Machine

/-! ## Stopping work (R340 to R342) -/

/-- NR transfers that left through a port and wait for their ACK (R548). -/
def Module.portXfers (m : Module) (p : Nat) : List FabXfer := m.flight.xfers.filter (fun x => SMap.get 0 m.fab.routes x.dest == p + 1)

/-- Nothing of the target is in flight (R340). A halted thread has let go of its item already (R167); a core marked for fencing takes
none of what is queued (R239). -/
def Module.targetIdle (m : Module) (cmds : List Nat) : Target → Bool
  | .packet p s => (m.packet p s).isNone
  | .context p c => (m.part p).contexts.all (fun x => x.num != c)
  | .thread s t =>
    let c := m.core s
    (c.th t).item.isNone && (c.savedOf t).isNone && (c.scratch.phase == 100 || c.queue.all (fun it => it.thread != t))
  | .partition p => m.atWorkFence p && m.engine.cmds.all (fun q => q.fn != p || q.phase == .taken || decide (q.id ∈ cmds))
  | .bankop id => m.mem.seqs.all (fun q => q.cmd != some id)
  | .port p => (m.portXfers p).isEmpty && (m.fport p).replayBuf.isEmpty && (m.fport p).queue.isEmpty
  | .slice s =>
    let c := m.core s
    c.t0.item.isNone && c.t1.item.isNone && c.queue.isEmpty && c.saved0.isNone && c.saved1.isNone

/-- ABORT of a target (R341). -/
def Module.abortTarget (m : Module) : Target → Module
  | .packet p s => (m.cancelItems (fun _ _ it => it.part == p && it.seq == s) stCancelled).stopPackets p (fun q => q.seq == s) stCancelled
  | .context p c => m.cancelItems (fun _ _ it => it.part == p && it.ctx == c) stCancelled
  | .thread s t => m.cancelAt (fun th _ => th == t) s stCancelled
  | .partition p => (m.abortPart p).cancelPartCmds p
  | .bankop id =>
    let n := countOf (fun (q : BankSeq) => q.cmd == some id) m.mem.seqs
    let note (q : Stop) : Stop := if q.target = .bankop id then { q with cancelled := q.cancelled + n } else q
    let m1 := m.cancelSeqs (fun q => q.cmd == some id)
    { m1 with parts := { m1.parts with stops := m1.parts.stops.map note } }
  | .port p =>
    let n := (m.portXfers p).length
    let note (q : Stop) : Stop := if q.target = .port p then { q with cancelled := q.cancelled + n } else q
    let m1 := { m with parts := { m.parts with stops := m.parts.stops.map note } }
    m1.updFport p (fun q => { q with replayBuf := [], queue := [] })
  | .slice s => m.cancelAt (fun _ _ => true) s stCancelled

/-- An item of a length table that a DRAIN takes from a queue (R271). -/
def Module.tableQueued (m : Module) (part : Nat) (it : Item) : Bool :=
  it.part == part && (match m.packet part it.seq with | some p => p.kind == 1 | none => false)

/-- DRAIN of a target: a length table's items not yet created are never created, those queued are cancelled; all else in flight runs
on (R271, R341). -/
def Module.drainTarget (m : Module) (part : Nat) (t : Target) : Module :=
  let table := m.tableQueued part
  let queued (sel : Nat → Nat → Item → Bool) : Module :=
    (m.cores.map (·.1)).foldl (fun acc s => acc.cancelQueued (fun th it => sel s th it && table it) s stCancelled) m
  match t with
  | .packet p s => (queued (fun _ _ it => it.seq == s)).stopPackets p (fun q => q.seq == s && q.kind == 1) stCancelled
  | .partition p => (queued (fun _ _ _ => true)).stopPackets p (fun q => q.kind == 1) stCancelled
  | .thread s th => queued (fun a b _ => a == s && b == th)
  | .slice s => queued (fun a _ _ => a == s)
  | .context _ _ => m
  | .bankop _ => m
  | .port _ => m

/-- Adds a stop. -/
def Module.addStop (m : Module) (q : Stop) : Module := { m with parts := { m.parts with stops := m.parts.stops ++ [q] } }
/-- Changes the first stop of a target. -/
def Module.updStop (m : Module) (t : Target) (f : Stop → Stop) : Module :=
  { m with parts := { m.parts with stops := modFirst (fun q => q.target == t) f m.parts.stops } }
/-- The stop of a target. -/
def Module.stopOf (m : Module) (t : Target) : Option Stop := m.parts.stops.find? (fun q => q.target == t)

/-- What DRAIN and ABORT act on for work's sake; a slice that is being retired and a port have their own end to reach. -/
def targetIsWork : Target → Bool
  | .port _ => false
  | .slice _ => false
  | _ => true
/-- A second disable command for the target, or for anything inside a stopping partition, joins the first (R342). -/
def Module.joins (m : Module) (part : Nat) (t : Target) : Option Target :=
  match m.stopOf t with
  | some _ => some t
  | none => if targetIsWork t ∧ (m.stopOf (.partition part)).isSome then some (.partition part) else none

/-- Begins a DRAIN or an ABORT (R341). -/
def Module.beginStop (m : Module) (part : Nat) (t : Target) (mode timeout id : Nat) (destroy : Bool) : Module :=
  match m.joins part t with
  | some t' => m.updStop t' (fun q => { q with cmds := q.cmds ++ [id] })
  | none =>
    let m1 := m.addStop ⟨t, part, mode == 1, if timeout = 0 then 100 else timeout, [id], destroy, 0, 0⟩
    let m2 := match t with
      | .partition p => m1.updPart p (fun q => { q with state := if mode = 1 then 4 else 3 })
      | _ => m1
    if mode = 1 then m2.abortTarget t else m2.drainTarget part t

/-- The disable block's first bad field (R340). -/
def badDisable (c : Cmd) : Option Nat := if 1 < pField c 9 1 then some 9 else if 10000 < pField c 10 2 then some 10 else none

/-- A command of a stop takes note of its counts, and completes when no other stop is left to end for it (R341, R364). -/
def Module.endStopCmd (m : Module) (q : Stop) (id : Nat) : Module :=
  let m1 := m.updCmd id (fun s => { s with info := [nth 0 s.info 0 + q.cancelled, nth 0 s.info 1 + q.completed] })
  if m1.parts.stops.any (fun x => decide (id ∈ x.cmds)) then m1
  else match m1.cmd id with
    | none => m1
    | some s =>
      let m2 := if s.opcode = 0x11 ∨ s.opcode = 0x12 then m1.setCause .prt 0 else m1
      m2.complete id stOk (d4 (nth 0 s.info 0) ++ d4 (nth 0 s.info 1))

/-! ## Teardown and creation (R335 to R337) -/

/-- The save slot and state block of a core in its slice become zeros, poison cleared (R69, R335, R356). -/
def Module.zeroSaveArea (m : Module) (site : Nat) : Module :=
  let lo := devAddr site 0x1F800000
  let hi := devAddr site 0x1FA08000
  let kept : SMap RowMeta := m.mem.meta_.filter (fun p => decide (p.1 * 2048 < lo ∨ hi ≤ p.1 * 2048))
  let written (acc : SMap RowMeta) (i : Nat) : SMap RowMeta := SMap.set {} acc (lo / 2048 + i) { fresh := true }
  { m with mem := { m.mem with
      bytes := m.mem.bytes.filter (fun c => decide (c.1 < lo ∨ hi ≤ c.1)),
      meta_ := if bitOf (m.slice site).undef 8 then (List.range 1040).foldl written kept else kept } }

/-- The zero fill of creation and teardown over a list of clusters at a strength (R335, R336): usable slices, whose BK.ROW ZERO takes 4,032
counted steps in each (R129), save areas, scratchpads of enabled cores. -/
def Module.fillClusters (m : Module) (cs : List Nat) (part strength : Nat) : Module :=
  let ss := (cs.flatMap sitesOf).filter (fun s => (m.slice s).state != 2)
  let m1 := ss.foldl (fun acc s => (((acc.updSlice s (fun x => { x with merge := [], rowQueue := [], holdQueue := [] })).zeroSlice s
    part strength).zeroSaveArea s)) m
  let m2 := { m1 with mem := { m1.mem with bkSteps := sat64 m1.mem.bkSteps (4032 * ss.length) } }
  m2.zeroPads ((cs.flatMap sitesOf).filter (fun s => (m.core s).enabled))

/-- Some slice of the clusters has a group under write hold: BK.ROW ZERO waits there (R117, R335). -/
def Module.fillHeld (m : Module) (cs : List Nat) : Bool :=
  cs.any (fun c => (List.range 4).any (fun g => m.held (stackOf c * 4 + g)))

/-- Trees of a partition are freed (R308, R336). -/
def Module.freeTrees (m : Module) (n : Nat) : Module :=
  { m with net := { m.net with
      trees := m.net.trees.filter (fun t => t.2.2.part != n),
      reductions := m.net.reductions.filter (fun r => r.part != n), insts := m.net.insts.filter (fun r => r.part != n) } }

/-- Teardown begins once the partition is Disabled (R336); disable commands that joined its stop end with it (R342). -/
def Module.tearDown (m : Module) (n id cancelled completed : Nat) (joined : List Nat) : Module :=
  let m1 := ((m.updPart n (fun p => { p with state := 6, contexts := [] })).freeTrees n).invalidate n (fun _ => true)
  { m1 with parts := { m1.parts with layout := some ⟨n, m1.clustersOfPart n, false, id, cancelled, completed, joined⟩ } }

/-- A layout change ends: its command and those that joined it complete with one status (R337, R342). -/
def Module.layoutDone (m : Module) (l : LayoutRun) (st : Nat) (detail : List Byte) : Module :=
  (l.cmd :: l.joined).foldl (fun acc id => acc.complete id st detail) (m.setCause .prt 0)

/-- A stop ends: its commands complete; a partition is Disabled, and torn down where PART.DESTROY asked for it. -/
def Module.finishStop (m : Module) (q : Stop) : Module :=
  let m1 := { m with parts := { m.parts with stops := m.parts.stops.erase q } }
  match q.target with
  | .partition p =>
    let m2 := m1.updPart p (fun x => { x with state := 5 })
    if q.destroy then
      match q.cmds with
      | [] => m2
      | id :: rest => m2.tearDown p id q.cancelled q.completed rest
    else q.cmds.foldl (fun acc k => acc.endStopCmd q k) m2
  | .port p => q.cmds.foldl (fun acc k => acc.endStopCmd q k) (m1.updFport p (fun x => { x with
      state := 4, replayBuf := [], queue := [], peerValid := false, peerId := 0, peerPort := 0, peerSerial := 0 }))
  | _ => q.cmds.foldl (fun acc k => acc.endStopCmd q k) m1

/-- The new layout takes effect at the next epoch (R337). -/
def Module.nextLayout (m : Module) (n : Nat) : Module :=
  let e := (m.epochs.epoch + 1) % 2 ^ 32
  ({ m with epochs := { m.epochs with epoch := e, layoutEpoch := e }, parts := { m.parts with layout := none } }).updPart n
    (fun p => { p with layoutEpoch := e })

/-- LAYOUT_COMMIT: creation or teardown fills the slices, unless a band holds the fill, and the layout changes (R335 to
R337). -/
def doLayoutCommit (m : Module) : Module :=
  match m.parts.layout with
  | none => m
  | some l =>
    if m.fillHeld l.clusters then m
    else if l.create then
      let m1 := m.fillClusters l.clusters l.part (m.part l.part).strength
      let m2 := m1.updCls l.clusters (fun k => { k with owner := some l.part, target := 4 })
      let m3 := ((m2.nextLayout l.part).updPart l.part (fun p => { p with state := 2 })).checkPool l.part
      m3.layoutDone l stOk (d4 (m3.coresOfPart l.part).length ++ d4 (m3.slicesOfPart l.part).length)
    else
      let m1 := m.fillClusters l.clusters l.part 1
      let m2 := m1.updCls l.clusters (fun k => { k with owner := none, target := 4 })
      let m3 := (m2.nextLayout l.part).updPart l.part emptied
      m3.layoutDone l stOk (d4 l.cancelled ++ d4 l.completed)
def execLayoutCommit (s : State) : Host.Outcome State Fault Refusal := onModule true doLayoutCommit s

/-- LAYOUT_ACK_TIMEOUT: the old layout stands, event 0x45 names the unit in its site field (R337). Slices a creation had
filled go back to t = 16. -/
def doLayoutAckTimeout (missing : Nat) (m : Module) : Module :=
  match m.parts.layout with
  | none => m
  | some l =>
    let m1 := { m with parts := { m.parts with layout := none } }
    let m2 := if l.create then (m1.fillClusters l.clusters 0 1).updPart l.part emptied
      else m1.updPart l.part (fun p => { p with state := 5 })
    (m2.prtEvent 0x45 l.part 0 l.part missing 0 0 0xFFFF 0).layoutDone l stHwError []
def execLayoutAckTimeout (missing : Nat) (s : State) : Host.Outcome State Fault Refusal :=
  onModule (decide (missing < 65536)) (doLayoutAckTimeout missing) s

/-! ## PART.CREATE, DESTROY, DISABLE, ENABLE (R334 to R342, R359, R360) -/

/-- Clusters of an 80-byte bitmap. -/
def bitmapClusters (bs : List Byte) : List Nat := maskList (leNat bs) 640

/-- A pool extent that breaks R345: outside one usable slice of these clusters with its core enabled, in the reserved
area, over donor rows, or of a bad length. -/
def Module.extentBad (m : Module) (owned : Nat → Bool) (base pages : Nat) : Bool :=
  let s := siteOfAddr base
  let off := offOfAddr base
  base % 65536 != 0 || pages == 0 || decide (8064 < pages) || !inMemory base || (m.slice s).state != 0 || !(m.core s).enabled ||
  !owned (clusterOf s) || decide (0x1F800000 < off + pages * 65536) ||
  ((m.slice s).retiredBank.isSome && decide (0x1F000000 < off + pages * 65536))

/-- Shares of the other partitions (R358). -/
def Module.otherShares (m : Module) (n : Nat) : Nat :=
  ((m.parts.parts.filter (fun p => p.1 != n)).map (fun p => p.2.share)).foldl (· + ·) 0

/-- A quantum of R360: 0 to 100 or 0xFF. -/
def badQuantum (q : Nat) : Bool := decide (100 < q ∧ q ≠ 0xFF)

def specPartCreate : CmdSpec :=
  { op := 0x10, pfOnly := true, target := true,
    fields := [(8, 8), (16, 1), (17, 1), (18, 2), (20, 1), (24, 4), (28, 4), (32, 8)] }

/-- PART.CREATE's first bad field (R360, R345). -/
def badPartCreate (c : Cmd) (m : Module) : Option Nat :=
  let cs := bitmapClusters (hostData c)
  if (hostData c).length < 80 then some 8
  else if 3 < pField c 16 1 then some 16
  else if 3 < pField c 17 1 then some 17
  else if 1000 < pField c 18 2 ∨ 1000 < m.otherShares c.partition + pField c 18 2 then some 18
  else if badQuantum (pField c 20 1) then some 20
  else if 60000 < pField c 24 4 then some 24
  else if pField c 28 4 = 0 ∨ 8064 < pField c 28 4 then some 28
  else if cs.any (fun k => cs.any (fun _ => (sitesOf k).any (fun s => (m.slice s).state != 2))) ∧
      cs.all (fun k => (m.cl k).owner.isNone) ∧
      m.extentBad (fun k => decide (k ∈ cs)) (pField c 32 8) (pField c 28 4) then some 32
  else if pField c 32 8 % 65536 ≠ 0 then some 32
  else none

/-- The settings of a new partition, its root node at `root` (R335, R360). -/
def newPart (c : Cmd) (root : Nat) (p : Part) : Part :=
  { emptied p with
    state := 1, strength := pField c 16 1, priority := pField c 17 1, share := pField c 18 2,
    quantum := if pField c 20 1 = 0 then 10 else pField c 20 1,
    watchdog := if pField c 24 4 = 0 then 1000 else pField c 24 4,
    root := root, pool := [(pField c 32 8, pField c 28 4)], nodes := [(root, 4096, 3)] }
/-- Where the root node of a new partition comes to stand: the first place of its extent outside retired pages (R346). -/
def Module.rootPlace (m : Module) (c : Cmd) : Option Nat := m.fitIn {} 4096 (pField c 32 8, pField c 28 4)

/-- PART.CREATE: checks, then Creating with its layout staged (R335). The fill leaves the root node zero; an extent with no place for
it lacks room (R346). -/
def bodyPartCreate (c : Cmd) (id : Nat) (m : Module) : Module × Answer :=
  let cs := bitmapClusters (hostData c)
  if (m.part c.partition).state ≠ 0 ∨ cs.any (fun k => (m.cl k).owner.isSome) then (m, .refuse stBusy 0)
  else if !(cs.any (fun k => (sitesOf k).any (fun s => (m.slice s).state != 2))) then (m, .refuse stLimit 0)
  else match m.rootPlace c with
  | none => (m, .refuse stLimit 0)
  | some root =>
    let m1 := m.updPart c.partition (newPart c root)
    ({ m1 with parts := { m1.parts with layout := some ⟨c.partition, cs, true, id, 0, 0, []⟩ } }, .later)
def doPartCreate (c : Cmd) (m : Module) : Module :=
  runCmd specPartCreate (badPartCreate c m) none [.partition c.partition, .tables c.partition, .epoch] none (.partCreate c) c
    (bodyPartCreate c) m
def execPartCreate (c : Cmd) (s : State) : Host.Outcome State Fault Refusal := onCmd c (doPartCreate c) s

def specPartDestroy : CmdSpec := { op := 0x11, pfOnly := true, target := true, fields := [(9, 1), (10, 2)] }
/-- PART.DESTROY: stops the work first, then tears down (R336); in a stopping partition it joins the stop (R342). -/
def bodyPartDestroy (c : Cmd) (id : Nat) (m : Module) : Module × Answer :=
  let s := (m.part c.partition).state
  if s = 2 ∨ s = 3 ∨ s = 4 then
    (m.beginStop c.partition (.partition c.partition) (pField c 9 1) (pField c 10 2) id true, .later)
  else if s = 5 then (m.tearDown c.partition id 0 0 [], .later)
  else (m, .refuse stBusy 0)
def doPartDestroy (c : Cmd) (m : Module) : Module :=
  let joins := (m.part c.partition).state = 3 ∨ (m.part c.partition).state = 4
  runCmd specPartDestroy (badDisable c) none (if joins then [] else [.partition c.partition, .tables c.partition, .epoch]) none
    (.partDestroy c) c (bodyPartDestroy c) m
def execPartDestroy (c : Cmd) (s : State) : Host.Outcome State Fault Refusal := onCmd c (doPartDestroy c) s

def specPartDisable : CmdSpec := { op := 0x12, pfOnly := true, target := true, fields := [(9, 1), (10, 2)] }
/-- PART.DISABLE (R334, R341, R342). -/
def bodyPartDisable (c : Cmd) (id : Nat) (m : Module) : Module × Answer :=
  let s := (m.part c.partition).state
  if s = 2 ∨ s = 3 ∨ s = 4 then
    (m.beginStop c.partition (.partition c.partition) (pField c 9 1) (pField c 10 2) id false, .later)
  else if s = 5 then (m.setCause .prt 0, .done stOk (d4 0 ++ d4 0))
  else (m, .refuse stBusy 0)
def doPartDisable (c : Cmd) (m : Module) : Module :=
  let joins := (m.part c.partition).state = 3 ∨ (m.part c.partition).state = 4
  runCmd specPartDisable (badDisable c) none (if joins then [] else [.partition c.partition, .tables c.partition]) none
    (.partDisable c) c (bodyPartDisable c) m
def execPartDisable (c : Cmd) (s : State) : Host.Outcome State Fault Refusal := onCmd c (doPartDisable c) s

def specPartEnable : CmdSpec := { op := 0x13, pfOnly := true, target := true, fields := [] }
/-- PART.ENABLE: from Disabled only (R334, R342). -/
def bodyPartEnable (c : Cmd) (_id : Nat) (m : Module) : Module × Answer :=
  if (m.part c.partition).state = 5 then
    ((m.updPart c.partition (fun p => { p with state := 2 })).setCause .prt 0, .done stOk [])
  else (m, .refuse stBusy 0)
def doPartEnable (c : Cmd) (m : Module) : Module :=
  let joins := (m.part c.partition).state = 3 ∨ (m.part c.partition).state = 4
  runCmd specPartEnable none none (if joins then [] else [.partition c.partition, .tables c.partition]) none (.partEnable c) c
    (bodyPartEnable c) m
def execPartEnable (c : Cmd) (s : State) : Host.Outcome State Fault Refusal := onCmd c (doPartEnable c) s

/-! ## PART.CONFIG, QUERY, POOL (R359, R360, R363) -/

def specPartConfig : CmdSpec := { op := 0x14, pfOnly := true, target := true, fields := [(8, 1), (17, 1), (18, 2), (20, 1), (24, 4)] }
/-- PART.CONFIG's first bad field: fields whose mask bit is clear must be 0 (R360). -/
def badPartConfig (c : Cmd) (m : Module) : Option Nat :=
  let k := pField c 8 1
  if 16 ≤ k then some 8
  else if (if bitOf k 0 then 3 < pField c 17 1 else pField c 17 1 ≠ 0) then some 17
  else if (if bitOf k 1 then 1000 < pField c 18 2 ∨ 1000 < m.otherShares c.partition + pField c 18 2 else pField c 18 2 ≠ 0)
    then some 18
  else if (if bitOf k 2 then badQuantum (pField c 20 1) else decide (pField c 20 1 ≠ 0)) then some 20
  else if (if bitOf k 3 then 60000 < pField c 24 4 else pField c 24 4 ≠ 0) then some 24
  else none
/-- Applies what the mask selects. -/
def configured (c : Cmd) (p : Part) : Part :=
  let k := pField c 8 1
  { p with
    priority := if bitOf k 0 then pField c 17 1 else p.priority,
    share := if bitOf k 1 then pField c 18 2 else p.share,
    quantum := if bitOf k 2 then (if pField c 20 1 = 0 then 10 else pField c 20 1) else p.quantum,
    watchdog := if bitOf k 3 then (if pField c 24 4 = 0 then 1000 else pField c 24 4) else p.watchdog }
/-- PART.CONFIG: the detail is the previous priority and share, 4 bytes each, and quantum and watchdog, times of 8 (R505). -/
def bodyPartConfig (c : Cmd) (_id : Nat) (m : Module) : Module × Answer :=
  let p := m.part c.partition
  whenLive c.partition m (m.updPart c.partition (configured c), .done stOk (d4 p.priority ++ d4 p.share ++ d8 p.quantum ++ d8 p.watchdog))
def doPartConfig (c : Cmd) (m : Module) : Module :=
  runCmd specPartConfig (badPartConfig c m) none [.partition c.partition, .tables c.partition] none (.partConfig c) c
    (bodyPartConfig c) m
def execPartConfig (c : Cmd) (s : State) : Host.Outcome State Fault Refusal := onCmd c (doPartConfig c) s

/-- The partition record (R363). -/
def Module.partRecord (m : Module) (n : Nat) : List Byte :=
  let p := m.part n
  let orphans := m.orphansOfPart n
  packRec 40 [⟨0, 1, p.state⟩, ⟨1, 1, p.strength⟩, ⟨2, 1, p.priority⟩, ⟨3, 1, p.quantum⟩, ⟨4, 2, p.share⟩, ⟨8, 4, p.watchdog⟩,
    ⟨12, 4, p.layoutEpoch⟩, ⟨16, 8, p.root⟩, ⟨24, 2, (m.coresOfPart n).length⟩, ⟨26, 2, (m.slicesOfPart n).length⟩,
    ⟨28, 2, orphans.length⟩, ⟨30, 2, p.pool.length⟩, ⟨32, 4, m.freePages n⟩, ⟨36, 2, countOf (fun x => !x.saved) p.contexts⟩,
    ⟨38, 2, countOf (fun x => x.saved) p.contexts⟩] ++
  leBytes 80 (maskOf 640 (fun k => (m.cl k).owner == some n)) ++ leBytes 8 0 ++ orphans.flatMap (leBytes 2)

def specPartQuery : CmdSpec := { op := 0x15, target := true, anyState := true, fields := [(8, 8), (16, 4)] }
/-- PART.QUERY (R363): a short buffer truncates the orphan list. -/
def bodyPartQuery (c : Cmd) (_id : Nat) (m : Module) : Module × Answer :=
  let r := m.partRecord (cmdPart c)
  (m.toHost c (r.take (pField c 16 4)), .done stOk (d4 r.length))
def doPartQuery (c : Cmd) (m : Module) : Module :=
  runCmd specPartQuery (bufferBad c 128) none [] none (.partQuery c) c (bodyPartQuery c) m
def execPartQuery (c : Cmd) (s : State) : Host.Outcome State Fault Refusal := onCmd c (doPartQuery c) s

/-- Frames a leaf maps, as whole 64 KiB granules (R345, R361). -/
def Module.leafCovers (m : Module) (f : Leaf) (a : Nat) : Bool :=
  if entType f.ent = 1 then decide (entAddr f.ent ≤ a ∧ a < entAddr f.ent + f.size)
  else
    let b := m.readMemBytes (entAddr f.ent) 256
    (List.range (f.size / 65536)).any (fun i => decide (stripeFrame b (f.va + i * 65536) / 65536 = a / 65536))

def specPartPool : CmdSpec := { op := 0x19, pfOnly := true, target := true, fields := [(8, 8), (16, 4)] }
/-- PART.POOL's first bad field: an extent that breaks R345, overlaps the pool, or has a page some leaf maps. -/
def badPartPool (c : Cmd) (m : Module) : Option Nat :=
  let n := c.partition
  let base := pField c 8 8
  let pages := pField c 16 4
  if pages = 0 ∨ 8064 < pages then some 16
  else if !m.partLive n then (if base % 65536 ≠ 0 then some 8 else none)
  else if m.extentBad (fun k => (m.cl k).owner == some n) base pages then some 8
  else if (m.part n).pool.any (fun x => decide (x.1 < base + pages * 65536 ∧ base < x.1 + x.2 * 65536)) then some 8
  else if (m.leaves n).any (fun f => (List.range pages).any (fun i => m.leafCovers f (base + i * 65536))) then some 8
  else none
/-- PART.POOL adds an extent, 16 at most (R345, R365). -/
def bodyPartPool (c : Cmd) (_id : Nat) (m : Module) : Module × Answer :=
  let n := c.partition
  whenLive n m (
    if 16 ≤ (m.part n).pool.length then (m, .refuse stLimit 0)
    else
      let m1 := m.updPart n (fun p => { p with pool := p.pool ++ [(pField c 8 8, pField c 16 4)] })
      (m1.checkPool n, .done stOk (d4 (poolPages (m1.part n)).length)))
def doPartPool (c : Cmd) (m : Module) : Module :=
  runCmd specPartPool (badPartPool c m) none [.partition c.partition, .tables c.partition] none (.partPool c) c (bodyPartPool c) m
def execPartPool (c : Cmd) (s : State) : Host.Outcome State Fault Refusal := onCmd c (doPartPool c) s

/-! ## PART.MAP, UNMAP, STRIPE (R361, R362) -/

/-- The partition's pool has a page in a range of device addresses. -/
def inPool (p : Part) (a len : Nat) : Bool := p.pool.any (fun x => decide (x.1 < a + len ∧ a < x.1 + x.2 * 65536))

/-- Checks of one PART.MAP entry (R361): a malformed field, a frame outside the usable slices, in the reserved area, over
donor rows, or over the pool. -/
def Module.mapEntryBad (m : Module) (n : Nat) (e : List Byte) : Bool :=
  let va := getLe e 0 6
  let size := getLe e 6 1
  let frame := getLe e 8 6
  let bytes := 2 ^ levelShift size
  decide (2 < size) || decide (8 ≤ getLe e 7 1) || va % bytes != 0 || frame % bytes != 0 || !m.ownMemory n frame ||
  (size != 2 && (offReserved (offOfAddr frame + bytes - 1) ||
    ((m.slice (siteOfAddr frame)).retiredBank.isSome && decide (0x1F000000 < offOfAddr frame + bytes)))) ||
  inPool (m.part n) frame bytes

/-- Applies one entry, whole or not at all; none when a table write must wait. -/
def Module.mapEntry (m : Module) (n : Nat) (replace : Bool) (e : List Byte) : Option (Module × Nat) :=
  if m.mapEntryBad n e then some (m, stBadParam)
  else
    let size := getLe e 6 1
    let frame := getLe e 8 6
    let ent := plainLeaf frame (getLe e 7 1) (m.retiredBit frame (2 ^ levelShift size))
    match (m.putLeaf n (getLe e 0 6) size ent replace).bind (fun x => x.tidy n) with
    | .ok x => some (if replace then x.invalidateRange n (getLe e 0 6) (2 ^ levelShift size) else x, stOk)
    | .error (.status st) => some (m, st)
    | .error .again => none

/-- Entries of a list of 16-byte records. -/
def chunks (size : Nat) : Nat → List Byte → List (List Byte)
  | 0, _ => []
  | n + 1, bs => bs.take size :: chunks size n (bs.drop size)

def specPartMap : CmdSpec := { op := 0x16, target := true, disabledOk := true, fields := [(8, 8), (16, 4), (20, 1)] }
/-- PART.MAP's first bad field. -/
def badPartMap (c : Cmd) : Option Nat :=
  if pField c 16 4 = 0 ∨ 4096 < pField c 16 4 then some 16
  else if 1 < pField c 20 1 then some 20
  else if (hostData c).length < 16 * pField c 16 4 ∨ !c.hostOut then some 8
  else none
/-- The entries of a PART.MAP in list order, with the status of each; none when one must wait. -/
def Module.mapEntries (m : Module) (c : Cmd) : Option (Module × List Nat) :=
  let step (acc : Option (Module × List Nat)) (e : List Byte) : Option (Module × List Nat) :=
    acc.bind (fun r => (r.1.mapEntry (cmdPart c) (bitOf (pField c 20 1) 0) e).map (fun q => (q.1, r.2 ++ [q.2])))
  (chunks 16 (pField c 16 4) (hostData c)).foldl step (some (m, []))
/-- Writes each entry's status back at its byte 14 (R361). -/
def Module.mapBack (m : Module) (c : Cmd) (sts : List Nat) : Module :=
  (List.range sts.length).foldl (fun (acc : Module) i =>
    acc.emit c.fn (.memWrite c.fn (pField c 8 8 + 16 * i + 14) (leBytes 2 (nth 0 sts i)) false)) m
/-- PART.MAP: entries in list order, each with its status written back (R361). -/
def bodyPartMap (c : Cmd) (_id : Nat) (m : Module) : Module × Answer :=
  let n := cmdPart c
  whenLive n m (
    match m.mapEntries c with
    | none => (m, .again)
    | some r =>
      let good := countOf (· == stOk) r.2
      ((r.1.mapBack c r.2).checkPool n, .done (if good = r.2.length then stOk else stPartial) (d4 good ++ d4 (r.2.length - good))))
def doPartMap (c : Cmd) (m : Module) : Module :=
  runCmd specPartMap (badPartMap c) none [.tables (cmdPart c)] none (.partMap c) c (bodyPartMap c) m
def execPartMap (c : Cmd) (s : State) : Host.Outcome State Fault Refusal := onCmd c (doPartMap c) s

/-- Clears the entries of leaves. -/
def Module.clearLeaves (m : Module) (fs : List Leaf) : Except EditErr Module :=
  fs.foldl (fun acc f => acc.bind (fun x => x.putEntry f.at_ 0)) (.ok m)

def specPartUnmap : CmdSpec := { op := 0x17, target := true, disabledOk := true, fields := [(8, 8), (16, 8)] }
/-- PART.UNMAP's first bad field: the address, the length, or a leaf that lies partly inside (R362). -/
def badPartUnmap (c : Cmd) (m : Module) : Option Nat :=
  let va := pField c 8 8
  let len := pField c 16 8
  if va % 65536 ≠ 0 ∨ 2 ^ 48 ≤ va then some 8
  else if len = 0 ∨ len % 65536 ≠ 0 ∨ 2 ^ 48 < va + len then some 16
  else if m.partLive (cmdPart c) ∧ (m.leaves (cmdPart c)).any (fun f => f.meets va len && !f.inside va len) then some 8
  else none
/-- The leaves a PART.UNMAP removes. -/
def Module.unmapLeaves (m : Module) (c : Cmd) : List Leaf :=
  (m.leaves (cmdPart c)).filter (fun f => f.inside (pField c 8 8) (pField c 16 8))
/-- The edit of a PART.UNMAP: the leaves cleared, empty nodes given back (R362). -/
def Module.unmapped (m : Module) (c : Cmd) : Except EditErr Module :=
  (m.clearLeaves (m.unmapLeaves c)).bind (fun x => x.tidy (cmdPart c))
/-- PART.UNMAP (R362). -/
def bodyPartUnmap (c : Cmd) (_id : Nat) (m : Module) : Module × Answer :=
  let n := cmdPart c
  whenLive n m (
    match m.unmapped c with
    | .ok x => ((x.invalidateRange n (pField c 8 8) (pField c 16 8)).checkPool n, .done stOk (d4 (m.unmapLeaves c).length))
    | .error (.status st) => (m, .refuse st 0)
    | .error .again => (m, .again))
def doPartUnmap (c : Cmd) (m : Module) : Module :=
  runCmd specPartUnmap (badPartUnmap c m) none [.tables (cmdPart c)] none (.partUnmap c) c (bodyPartUnmap c) m
def execPartUnmap (c : Cmd) (s : State) : Host.Outcome State Fault Refusal := onCmd c (doPartUnmap c) s

/-- The stripe record of a PART.STRIPE (R347). -/
def stripeRecord (c : Cmd) : List Byte :=
  packRec 32 [⟨0, 1, pField c 20 1⟩, ⟨8, 8, pField c 8 8⟩, ⟨16, 8, pField c 24 8⟩] ++
  ((hostData c).take (2 * pField c 20 1) ++ List.replicate 128 0).take 128 ++ List.replicate 96 0

/-- The sites of a PART.STRIPE's list. -/
def stripeSites (c : Cmd) : List Nat := (List.range (pField c 20 1)).map (fun i => getLe (hostData c) (2 * i) 2)
/-- The highest granule offset of the range (R362). -/
def stripeTop (c : Cmd) : Nat := pField c 24 8 + (pField c 16 4 * 32 - 1) / max (pField c 20 1) 1 * 65536

def specPartStripe : CmdSpec :=
  { op := 0x18, target := true, disabledOk := true, fields := [(8, 8), (16, 4), (20, 1), (21, 1), (22, 1), (24, 8), (32, 8)] }
/-- PART.STRIPE's first bad field (R362); pool frames are not mapped (R345). -/
def badPartStripe (c : Cmd) (m : Module) : Option Nat :=
  let n := cmdPart c
  let va := pField c 8 8
  let ss := stripeSites c
  let base := pField c 24 8
  if va % 2 ^ 21 ≠ 0 ∨ 2 ^ 48 ≤ va then some 8
  else if pField c 16 4 = 0 ∨ 2 ^ 48 < va + pField c 16 4 * 2 ^ 21 then some 16
  else if pField c 20 1 < 2 ∨ 64 < pField c 20 1 then some 20
  else if 8 ≤ pField c 21 1 then some 21
  else if 1 < pField c 22 1 then some 22
  else if base % 65536 ≠ 0 ∨ 0x1F800000 ≤ stripeTop c then some 24
  else if (hostData c).length < 2 * pField c 20 1 then some 32
  else if m.partLive n then
    (if ss.any (fun s => (m.slice s).retiredBank.isSome) ∧ 0x1F000000 ≤ stripeTop c then some 24
     else if ss.any (fun s => !m.ownMemory n (devAddr s 0)) then some 32
     else if (List.range ss.length).any (fun i =>
       let rows := (pField c 16 4 * 32 + ss.length - 1 - i) / ss.length
       rows != 0 && inPool (m.part n) (devAddr (nth 0 ss i) base) (rows * 65536)) then some 24
     else none)
  else none

/-- The leaves of a striped range: level 2 where a whole 512 MiB entry lies inside, else level 1 (R362). -/
def stripeSteps : Nat → Nat → Nat → List (Nat × Nat)
  | 0, _, _ => []
  | n + 1, va, stop =>
    if stop ≤ va then []
    else if va % 2 ^ 29 = 0 ∧ va + 2 ^ 29 ≤ stop then (va, 2) :: stripeSteps n (va + 2 ^ 29) stop
    else (va, 1) :: stripeSteps n (va + 2 ^ 21) stop

/-- The edit of a PART.STRIPE: one record, striped leaves over the range (R362). -/
def Module.striped (m : Module) (c : Cmd) : Except EditErr Module := do
  let n := cmdPart c
  let va := pField c 8 8
  let r ← m.newNode n 4
  let m1 ← r.1.putTable r.2 (stripeRecord c)
  let ent := r.2 + 8 * pField c 21 1 + 5
  let m2 ← (stripeSteps (pField c 16 4) va (va + pField c 16 4 * 2 ^ 21)).foldl
    (fun acc x => acc.bind (fun y => y.putLeaf n x.1 x.2 ent (bitOf (pField c 22 1) 0))) (.ok m1)
  m2.tidy n
/-- PART.STRIPE; an overlap without replace maps nothing (R362). -/
def bodyPartStripe (c : Cmd) (_id : Nat) (m : Module) : Module × Answer :=
  let n := cmdPart c
  whenLive n m (
    match m.striped c with
    | .ok x =>
      let y := if bitOf (pField c 22 1) 0 then x.invalidateRange n (pField c 8 8) (pField c 16 4 * 2 ^ 21) else x
      (y.checkPool n, .done stOk (d4 (pField c 16 4 * 32)))
    | .error (.status st) => (m, .refuse st 0)
    | .error .again => (m, .again))
def doPartStripe (c : Cmd) (m : Module) : Module :=
  runCmd specPartStripe (badPartStripe c m) none [.tables (cmdPart c)] none (.partStripe c) c (bodyPartStripe c) m
def execPartStripe (c : Cmd) (s : State) : Host.Outcome State Fault Refusal := onCmd c (doPartStripe c) s

/-! ## WORK.CANCEL (R364) -/

def specWorkCancel : CmdSpec := { op := 0x3A, target := true, fields := [(8, 1), (9, 1), (10, 2), (16, 8)] }

/-- A context number the partition has given out: contexts are numbered from 0 in order and wrap (R353). -/
def Module.ctxKnown (m : Module) (n k : Nat) : Bool := (m.part n).ctxWrapped || decide (k < (m.part n).nextCtx)

/-- WORK.CANCEL's first bad field: the kind, the block, or a target that is not found or not the partition's. -/
def badWorkCancel (c : Cmd) (m : Module) : Option Nat :=
  let n := cmdPart c
  let k := pField c 8 1
  let id := pField c 16 8
  if 3 < k then some 8
  else match badDisable c with
    | some o => some o
    | none =>
      if k = 0 then (if (m.packet n id).isSome ∨ id < (m.ring (.work n)).seq then none else some 16)
      else if k = 1 then (if id < 65536 ∧ m.ctxKnown n id then none else some 16)
      else if k = 2 then
        (let s := id % 2 ^ 14
         if id % 2 ^ 16 / 2 ^ 14 = 0 ∧ id < 2 ^ 17 ∧ s < Config.sites ∧ (m.cl (clusterOf s)).owner = some n then none else some 16)
      else if id < 65536 then none else some 16

/-- The targets a WORK.CANCEL names that have not ended (R364). -/
def Module.cancelTargets (m : Module) (c : Cmd) : List Target :=
  let n := cmdPart c
  let id := pField c 16 8
  match pField c 8 1 with
  | 0 => if (m.packet n id).isSome then [.packet n id] else []
  | 1 => if (m.part n).contexts.any (fun x => x.num == id) then [.context n id] else []
  | 2 => if m.targetIdle [] (.thread (id % 2 ^ 14) (id / 2 ^ 16)) then [] else [.thread (id % 2 ^ 14) (id / 2 ^ 16)]
  | _ => (m.engine.cmds.filter (fun s => s.fn == c.fn && s.tag == id && s.opcode == 0x29 && s.phase == .running)).map
      (fun s => .bankop s.id)

/-- WORK.CANCEL (R364): a target that has ended counts 0. -/
def bodyWorkCancel (c : Cmd) (id : Nat) (m : Module) : Module × Answer :=
  let n := cmdPart c
  whenLive n m (
    match m.cancelTargets c with
    | [] => (m, .done stOk (d4 0 ++ d4 0))
    | ts => (ts.foldl (fun acc t => acc.beginStop n t (pField c 9 1) (pField c 10 2) id false) m, .later))
def doWorkCancel (c : Cmd) (m : Module) : Module :=
  runCmd specWorkCancel (badWorkCancel c m) none [] none (.workCancel c) c (bodyWorkCancel c) m
def execWorkCancel (c : Cmd) (s : State) : Host.Outcome State Fault Refusal := onCmd c (doWorkCancel c) s

end Sys2Proof.Machine
end

