-- ==== Sys2Proof/Machine/MemCmds.lean ====
section
/-! DEFINITION. The MEM commands (R45, R70, R72 to R81): queries, retirement, clearing poison, scrub, the arbiter's
minimums, the list of retired units. MEM.BANKOP is with the bank-ops. -/

namespace Sys2Proof.Machine

/-! ## MEM.QUERY (R79) -/

def specMemQuery : CmdSpec := { op := 0x20, fields := [(8, 2)] }
/-- The values of MEM_SLICE_INFO and MEM_SLICE_CORR; a virtual function sees its own slices only. An unusable slice is answered with
its state, as the register shows it (R90), not with R81's ST_FENCED. -/
def bodyMemQuery (c : Cmd) (_id : Nat) (m : Module) : Module × Answer :=
  let s := pField c 8 2
  if c.fn ≠ 0 ∧ (m.cl (clusterOf s)).owner ≠ some c.fn then (m, .refuse stNotPermitted 0)
  else (m, .done stOk (d8 (m.sliceInfo s).toNat ++ d8 (m.sliceCorr s).toNat))
/-- A site index above 10,239 (R81). -/
def badSite (c : Cmd) : Option Nat := if Config.sites ≤ pField c 8 2 then some 8 else none
def doMemQuery (c : Cmd) (m : Module) : Module := runCmd specMemQuery (badSite c) none [] none (.memQuery c) c (bodyMemQuery c) m
def execMemQuery (c : Cmd) (s : State) : Host.Outcome State Fault Refusal := onCmd c (doMemQuery c) s

/-! ## Retirement (R72 to R78) -/

/-- The retired bit of every plain leaf of a partition is brought up to date, and the caches let go of those it changes (R352, R361). -/
def Module.markRetired (m : Module) (part : Nat) : Except EditErr Module :=
  let stale := (m.leaves part).filter (fun f =>
    entType f.ent == 1 && !bitOf f.ent 6 && m.retiredBit (entAddr f.ent) f.size)
  let r : Except EditErr Module := stale.foldl (fun acc f => acc.bind (fun x => x.putEntry f.at_ (setBit f.ent 6 true))) (.ok m)
  r.map (fun (x : Module) =>
    if stale.isEmpty then x else x.invalidate part (fun f => decide (f.at_ ∈ stale.map (·.at_))))

/-- The owner's tables follow a retirement; an unowned slice has none. -/
def Module.tablesFollow (m : Module) (owner : Option Nat) : Except EditErr Module :=
  match owner with
  | some n => m.markRetired n
  | none => .ok m

/-- Claims of a retirement on a slice (R511). -/
def Module.retireClaims (m : Module) (site : Nat) : List Claim :=
  [.slice site, .record] ++ (match (m.cl (clusterOf site)).owner with | some n => [.tables n] | none => [])

def specRetirePage : CmdSpec := { op := 0x21, pfOnly := true, fields := [(8, 8)] }
/-- MEM.RETIRE_PAGE's address: 64 KiB aligned, in the memory region, outside the reserved area (R72, R81). -/
def badRetirePage (c : Cmd) : Option Nat :=
  let a := pField c 8 8
  if a % 65536 ≠ 0 ∨ !inMemory a ∨ offReserved (offOfAddr a) then some 8 else none
/-- The edit of a MEM.RETIRE_PAGE: the nodes in the page move, the page is listed, the owner's tables follow (R72, R346). -/
def Module.takePageOut (m : Module) (a : Nat) : Except EditErr Module := do
  let site := siteOfAddr a
  let owner := (m.cl (clusterOf site)).owner
  let m1 ← match owner with
    | some n => do
      let r ← m.moveNodes n (fun x => decide (a ≤ x ∧ x < a + 65536))
      pure (if r.2 = 0 then r.1 else r.1.prtEvent 0x46 n 0 n 0xFFFF 0 a 0xFFFF r.2)
    | none => pure m
  (m1.updSlice site (fun s => { s with retiredPages := s.retiredPages ++ [offOfAddr a / 65536] })).tablesFollow owner
/-- MEM.RETIRE_PAGE: live nodes move first (R346), then the page leaves service (R72). -/
def bodyRetirePage (c : Cmd) (_id : Nat) (m : Module) : Module × Answer :=
  let a := pField c 8 8
  let site := siteOfAddr a
  let owner := (m.cl (clusterOf site)).owner
  if (m.slice site).state = 2 ∨ m.offRetired site (offOfAddr a) then (m, .refuse stFenced 0)
  else if !m.recordRoom 3 then (m, .refuse stLimit 0)
  else
    match m.takePageOut a with
    | .error (.status st) => (m, .refuse st 0)
    | .error .again => (m, .again)
    | .ok x =>
      let m1 := ((x.memEvent 0x0B site (offOfAddr a) 0 0 0).recordUnit .page site a 0x0B).setCause .mem 9
      let m2 := match owner with | some n => m1.checkPool n | none => m1
      (m2, .done stOk (d4 (m2.slice site).retiredPages.length))
def doMemRetirePage (c : Cmd) (m : Module) : Module :=
  runCmd specRetirePage (badRetirePage c) none (m.retireClaims (siteOfAddr (pField c 8 8))) none (.memRetirePage c) c
    (bodyRetirePage c) m
def execMemRetirePage (c : Cmd) (s : State) : Host.Outcome State Fault Refusal := onCmd c (doMemRetirePage c) s

def specRetireBank : CmdSpec := { op := 0x22, pfOnly := true, queued := true, fields := [(8, 2), (10, 1)] }
def badRetireBank (c : Cmd) : Option Nat :=
  match badSite c with
  | some o => some o
  | none => if 64 ≤ pField c 10 1 then some 10 else none

/-- Content of the donor rows, and what waits to be written into them, is lost (R74). -/
def Module.loseDonors (m : Module) (site bank : Nat) : Module :=
  let donor (a : Nat) : Bool := siteOfAddr a == site && offDonor (offOfAddr a) && bankOf a != bank
  let lost := (m.slice site).pendingRows.filter (fun r => donor (rowAddr site r))
  lost.foldl (fun acc r => acc.updSlice site (fun s => s.forget r)) { m with mem := { m.mem with
    bytes := m.mem.bytes.filter (fun c => !donor c.1), meta_ := m.mem.meta_.filter (fun p => !donor (p.1 * 2048)) } }

/-- Rows 0 to 4,031 of a bank that are poisoned (R73). -/
def Module.poisonedRows (m : Module) (site bank : Nat) : Nat :=
  countOf (fun (p : Nat × RowMeta) => p.2.poison && p.1 / 2 ^ 18 == site && p.1 % 64 == bank && decide (p.1 % 2 ^ 18 / 64 < 4032)) m.mem.meta_

/-- The device reads every row of the bank on the way (R73): `errs` gives bit errors by row index; corrections are logged, and a row
that cannot be corrected is copied with poison. -/
def Module.decodeBank (m : Module) (site bank : Nat) (errs : List (Nat × Nat)) : Module :=
  (errs.filter (fun e => decide (e.1 < 4095))).foldl (fun acc e => acc.afterDecodeAs site (e.1 * 64 + bank) e.2 2 0xFFFF true) m

/-- Rows whose content Sealed left undefined are copied as what they are: undefined, in a row written just now (R427). -/
def Module.copyUndefined (m old : Module) (site bank : Nat) : Module :=
  if (old.slice site).undef = 0 then m
  else (List.range 4095).foldl (fun acc i =>
    let r := i * 64 + bank
    let md := old.rowMeta site r
    ({ acc with free := acc.free + 1 }).writeRow site r (({ old with free := acc.free }).stored site r 0 2048) md.poison md.source) m

/-- A slice whose bank's rows stand in the donor rows from now on, under the addresses they had; what waits to be written into them
goes on waiting (R46, R73, R74). -/
def Module.bankRetired (m : Module) (site bank : Nat) : Module :=
  let was := decide (bank ∈ (m.slice site).failedUnits)
  let m1 := (m.loseDonors site bank).updSlice site (fun s => { s with
    retiredBank := some bank, failedUnits := s.failedUnits.filter (· != bank) })
  ({ m1 with mem := { m1.mem with failedCount := m1.mem.failedCount - b2n was } }).copyUndefined m site bank
/-- MEM.RETIRE_BANK (R73 to R76). The copy is one indivisible step of the model: no access arrives in its course (R74). -/
def bodyRetireBank (c : Cmd) (errs : List (Nat × Nat)) (_id : Nat) (m : Module) : Module × Answer :=
  let site := pField c 8 2
  let bank := pField c 10 1
  let s := m.slice site
  if s.state = 2 then (m, .refuse stFenced 0)
  else if s.retiredBank.isSome ∨ !m.recordRoom 4 then (m, .refuse stLimit 0)
  else
    let m0 := m.decodeBank site bank errs
    let n := m0.poisonedRows site bank
    match (m0.bankRetired site bank).tablesFollow (m.cl (clusterOf site)).owner with
    | .error (.status st) => (m, .refuse st 0)
    | .error .again => (m, .again)
    | .ok x =>
      let y := ((x.memEvent 0x0C site (rowOffset bank 0) 0 0 0).recordUnit .bank (bank * 65536 + site) 4032 0x0C).setCause .mem 9
      (y, .done stOk (d4 4032 ++ d4 n))
def doMemRetireBank (c : Cmd) (errs : List (Nat × Nat)) (m : Module) : Module :=
  let site := pField c 8 2
  runCmd specRetireBank (badRetireBank c) none (m.retireClaims site) (m.cl (clusterOf site)).owner (.memRetireBank c errs) c
    (bodyRetireBank c errs) m
def execMemRetireBank (c : Cmd) (errs : List (Nat × Nat)) (s : State) : Host.Outcome State Fault Refusal :=
  onCmd c (doMemRetireBank c errs) s

def specRetireSlice : CmdSpec := { op := 0x23, pfOnly := true, fields := [(8, 2)] }
/-- MEM.RETIRE_SLICE, steps 1 and 2: no new item, queued items cancelled, running ones drained for 100 ms (R77). -/
def bodyRetireSlice (c : Cmd) (id : Nat) (m : Module) : Module × Answer :=
  let site := pField c 8 2
  if (m.slice site).state = 2 then (m, .refuse stFenced 0)
  else if !m.recordRoom 2 then (m, .refuse stLimit 0)
  else
    let gone := (m.core site).queue
    let m1 := m.updCore site (fun k => { k with queue := [] })
    let m2 := gone.foldl (fun acc it => acc.itemDone site it.thread it stCancelled 0 []) m1
    (m2.beginStop (((m.cl (clusterOf site)).owner).getD 64) (.slice site) 0 0 id false, .later)
def doMemRetireSlice (c : Cmd) (m : Module) : Module :=
  runCmd specRetireSlice (badSite c) none (m.retireClaims (pField c 8 2)) none (.memRetireSlice c) c (bodyRetireSlice c) m
def execMemRetireSlice (c : Cmd) (s : State) : Host.Outcome State Fault Refusal := onCmd c (doMemRetireSlice c) s

/-- Accesses that wait at a slice are completed before it leaves service (R77). -/
def Module.serveWaiting (m : Module) (site : Nat) : Module :=
  let l := (m.slice site).holdSlots ++ (m.slice site).waiting
  let m1 := m.updSlice site (fun s => { s with waiting := [], holdSlots := [] })
  l.foldl (fun acc w =>
    if w.req.write then (((acc.settleFree site).acceptWrite w.req).getD acc).acceptOf w.req else acc.finishRead w.req 0) m1

/-- MEM.RETIRE_SLICE, steps 3 and 4: what the slice holds is written, it leaves service, its core is fenced, the commands
complete (R77, R80). `q` is the stop that has ended. R80 asks for the event type that accompanied the retirement and R77 logs
none: the record carries 0x8000 plus 0x06, slice offline. -/
def Module.retireSlice (m : Module) (q : Stop) (site : Nat) : Module :=
  let m1 := ((m.serveWaiting site).settleSlice site).recordUnit .slice site 0 0x06
  let m2 := ({ m1 with parts := { m1.parts with stops := m1.parts.stops.erase q } }).loseSlice site stFenced
  q.cmds.foldl (fun acc id => acc.complete id stOk (d8 acc.devCores.toNat)) (m2.setCause .mem 9)

/-- Step 3 waits for a write hold that covers content of the slice. -/
def Module.retireWaits (m : Module) (site : Nat) : Bool := (m.slice site).pendingRows.any (fun r => m.rowHeld site r)

/-- RETIRE_SLICE_HOLD_TIMEOUT: after 1 s the held content is dropped, event 0x06, and the retirement goes on (R77). -/
def doRetireSliceHoldTimeout (site : Nat) (m : Module) : Module :=
  match m.stopOf (.slice site) with
  | none => m
  | some q =>
    if m.targetIdle q.cmds (.slice site) ∧ m.retireWaits site then
      let held := (m.slice site).pendingRows.filter (fun r => m.rowHeld site r)
      let m1 := held.foldl (fun acc r => acc.updSlice site (fun s => s.forget r)) m
      (m1.memEvent 0x06 site 0 0 0 0).retireSlice q site
    else m
def execRetireSliceHoldTimeout (site : Nat) (s : State) : Host.Outcome State Fault Refusal :=
  onModule (siteOk site) (doRetireSliceHoldTimeout site) s

/-! ## Rows named by a command (R79) -/

/-- The row an address names for a function: a device address for the physical function, else a virtual address that its partition's
tables map to a slice of its clusters, in service or not (R81); neither a reserved row nor a donor row. -/
def Module.rowAtFor (m : Module) (fn a : Nat) : Option (Nat × Nat) :=
  let visible (pa : Nat) : Bool := inMemory pa && !offReserved (offOfAddr pa) &&
    !((m.slice (siteOfAddr pa)).retiredBank.isSome && offDonor (offOfAddr pa))
  let own (pa : Nat) : Bool := fn == 0 || (m.cl (clusterOf (siteOfAddr pa))).owner == some fn
  ((if fn = 0 then some a else m.frameOf fn a).filter (fun pa => visible pa && own pa)).map
    (fun pa => (siteOfAddr pa, offOfAddr pa / 2048))

/-- The rows of a range, in order; none when one is outside the issuer's memory. -/
def Module.rowsFor (m : Module) (fn a : Nat) : Nat → Option (List (Nat × Nat))
  | 0 => some []
  | n + 1 => (m.rowAtFor fn a).bind (fun r => (m.rowsFor fn (a + 2048) n).map (fun l => r :: l))

/-- Slices of a list of rows. -/
def rowSites (l : List (Nat × Nat)) : List Nat := l.foldl (fun acc r => insertNew r.1 acc) []

/-- The rows a command names at 8 with its count at 16, and its claims on their slices. -/
def Module.cmdRows (m : Module) (c : Cmd) : Option (List (Nat × Nat)) :=
  if pField c 8 8 % 2048 ≠ 0 then none else m.rowsFor c.fn (pField c 8 8) (pField c 16 4)
def Module.rowClaims (m : Module) (c : Cmd) : List Claim := (rowSites ((m.cmdRows c).getD [])).map Claim.slice
/-- First bad field of a MEM.CLEAR_POISON's range: its count, 1 to 65,536, its address. -/
def badRows (c : Cmd) (m : Module) : Option Nat :=
  if pField c 16 4 = 0 ∨ 65536 < pField c 16 4 then some 16 else if (m.cmdRows c).isNone then some 8 else none

/-- A slice in self-refresh is woken for a command's accesses, which wait until it serves again (R421). -/
def Module.wakeRows (m : Module) (rows : List (Nat × Nat)) : Module :=
  (rowSites rows).foldl (fun acc s => acc.wakeSlice (clusterOf s)) m
def Module.rowsAsleep (m : Module) (rows : List (Nat × Nat)) : Bool := (rowSites rows).any (fun s => (m.slice s).selfRefresh)

/-- A full-row write of the firmware's; none when the row is held and no slot is free. -/
def Module.fwFullRow (m : Module) (site r : Nat) (data : List Byte) : Option Module :=
  if m.rowHeld site r then
    (m.toHold site r 0 data false false).map (fun x =>
      x.updSlice site (fun s => { s with merge := s.merge.filter (fun e => e.row != r) }))
  else some ((m.updSlice site (fun s => s.forget r)).writeRow site r data false 0)

def specClearPoison : CmdSpec := { op := 0x24, fields := [(8, 8), (16, 4)] }
/-- MEM.CLEAR_POISON writes zeros to each row (R69, R79). -/
def bodyClearPoison (c : Cmd) (_id : Nat) (m : Module) : Module × Answer :=
  let rows := (m.cmdRows c).getD []
  if (rowSites rows).any (fun s => (m.slice s).state == 2) then (m, .refuse stFenced 0)
  else if m.rowsAsleep rows then (m.wakeRows rows, .again)
  else match rows.foldl (fun acc r => acc.bind (fun x => x.fwFullRow r.1 r.2 (List.replicate 2048 0))) (some m) with
    | none => (m, .again)
    | some x => (x, .done stOk (d4 rows.length))
def doMemClearPoison (c : Cmd) (m : Module) : Module :=
  runCmd specClearPoison (badRows c m) none (m.rowClaims c) none (.memClearPoison c) c (bodyClearPoison c) m
def execMemClearPoison (c : Cmd) (s : State) : Host.Outcome State Fault Refusal := onCmd c (doMemClearPoison c) s

def specScrubRange : CmdSpec := { op := 0x25, fields := [(8, 8), (16, 4), (20, 1)] }
/-- MEM.SCRUB_RANGE: the rows named join the scrub queues of their slices, where each waits for its grant at P4 or P2, and for a
write hold to end; retired pages are skipped. `errs` gives the bit errors of rows by their place in the range. The command
completes with its counts after the last row (R70, R71, R79). -/
def bodyScrubRange (c : Cmd) (errs : List (Nat × Nat)) (id : Nat) (m : Module) : Module × Answer :=
  let rows := (m.cmdRows c).getD []
  let cls := if pField c 20 1 = 1 then 2 else 4
  let errAt (i : Nat) : Nat := match errs.find? (fun e => e.1 == i) with | some e => e.2 | none => 0
  let live := (rows.zip (List.range rows.length)).filter (fun x => !m.rowRetired x.1.1 x.1.2)
  if (rowSites rows).any (fun s => (m.slice s).state == 2) then (m, .refuse stFenced 0)
  else if live.isEmpty then (m, .done stOk (d4 0 ++ d4 0))
  else
    let join (acc : Module) (x : (Nat × Nat) × Nat) : Module :=
      acc.updSlice x.1.1 (fun s => { s with scrubQueue := s.scrubQueue ++ [⟨x.1.2, errAt x.2, cls, id⟩] })
    ((live.foldl join (m.wakeRows rows)).updCmd id (fun s => { s with info := [live.length, 0, 0] }), .later)
def doMemScrubRange (c : Cmd) (errs : List (Nat × Nat)) (m : Module) : Module :=
  let bad := if (m.cmdRows c).isNone then some 8 else if 1 < pField c 20 1 then some 20 else none
  runCmd specScrubRange bad (if pField c 20 1 = 1 then some 20 else none) (m.rowClaims c) none (.memScrubRange c errs) c
    (bodyScrubRange c errs) m
def execMemScrubRange (c : Cmd) (errs : List (Nat × Nat)) (s : State) : Host.Outcome State Fault Refusal :=
  onCmd c (doMemScrubRange c errs) s

/-! ## Settings and the list of retired units (R45, R70, R80) -/

def specScrubConfig : CmdSpec := { op := 0x26, pfOnly := true, fields := [(8, 2)] }
/-- MEM.SCRUB_CONFIG; the previous period is a time, 8 bytes (R505). -/
def bodyScrubConfig (c : Cmd) (_id : Nat) (m : Module) : Module × Answer :=
  ({ m with mem := { m.mem with scrubHours := pField c 8 2 } }, .done stOk (d8 m.mem.scrubHours))
def doMemScrubConfig (c : Cmd) (m : Module) : Module :=
  runCmd specScrubConfig (if 168 < pField c 8 2 then some 8 else none) (if pField c 8 2 = 0 then some 8 else none) [] none
    (.memScrubConfig c) c (bodyScrubConfig c) m
def execMemScrubConfig (c : Cmd) (s : State) : Host.Outcome State Fault Refusal := onCmd c (doMemScrubConfig c) s

def specArbConfig : CmdSpec := { op := 0x27, pfOnly := true, expert := true, fields := [(8, 2), (10, 4)] }
/-- The four minimums of a MEM.ARB_CONFIG. -/
def arbMins (c : Cmd) : List Nat := (List.range 4).map (fun i => pField c (10 + i) 1)
/-- MEM.ARB_CONFIG; the previous minimums (of site 0 where it names all, R86) are four counts of 4 bytes (R505). -/
def bodyArbConfig (c : Cmd) (_id : Nat) (m : Module) : Module × Answer :=
  let s := pField c 8 2
  let old := (m.slice (if s = 0xFFFF then 0 else s)).mins
  if s ≠ 0xFFFF ∧ (m.slice s).state = 2 then (m, .refuse stFenced 0)
  else (m.updSlices (if s = 0xFFFF then allSites else [s]) (fun x => { x with mins := arbMins c }), .done stOk (old.flatMap d4))
def badArbConfig (c : Cmd) : Option Nat :=
  if Config.sites ≤ pField c 8 2 ∧ pField c 8 2 ≠ 0xFFFF then some 8
  else if (arbMins c).any (fun v => decide (8 < v)) ∨ 12 < (arbMins c).foldl (· + ·) 0 then some 10
  else none
def doMemArbConfig (c : Cmd) (m : Module) : Module :=
  runCmd specArbConfig (badArbConfig c) none [] none (.memArbConfig c) c (bodyArbConfig c) m
def execMemArbConfig (c : Cmd) (s : State) : Host.Outcome State Fault Refusal := onCmd c (doMemArbConfig c) s

/-- An entry of the list (R80). -/
def RecEntry.bytes (e : RecEntry) : List Byte := packRec 16 [⟨0, 1, e.kind⟩, ⟨1, 1, e.source⟩, ⟨2, 2, e.cause⟩, ⟨4, 4, e.unit⟩, ⟨8, 8, e.detail⟩]

/-- Puts an entry in its place in ascending order of kind and unit. -/
def insertEntry (e : RecEntry) : List RecEntry → List RecEntry
  | [] => [e]
  | x :: l => if e.kind < x.kind ∨ (e.kind = x.kind ∧ e.unit < x.unit) then e :: x :: l else x :: insertEntry e l

/-- The whole list: the fuse map in order, then the field repair record as written (R80). -/
def Module.retiredList (m : Module) : List RecEntry := m.bring.fuse.foldl (fun acc e => insertEntry e acc) [] ++ m.bring.record

def specListRetired : CmdSpec := { op := 0x28, pfOnly := true, fields := [(8, 8), (16, 4), (20, 4)] }
/-- MEM.LIST_RETIRED (R80). -/
def bodyListRetired (c : Cmd) (_id : Nat) (m : Module) : Module × Answer :=
  let l := (m.retiredList.drop (pField c 20 4)).take (pField c 16 4 / 16)
  (if l.isEmpty then m else m.toHost c (l.flatMap RecEntry.bytes), .done stOk (d4 l.length))
def doMemListRetired (c : Cmd) (m : Module) : Module :=
  runCmd specListRetired (bufferBad c 0) none [] none (.memListRetired c) c (bodyListRetired c) m
def execMemListRetired (c : Cmd) (s : State) : Host.Outcome State Fault Refusal := onCmd c (doMemListRetired c) s

end Sys2Proof.Machine
end

