-- ==== Sys2Proof/Machine/Numerics.lean ====
section
/-! DEFINITION. The number formats of chapter 6: encodings (R210), rounding and saturation (R218, R219), stochastic rounding
(R224, R225), microscaled blocks (R212 to R216, R221). Values are exact: a sign, an integer and a power of two. -/

namespace Sys2Proof.Machine

/-- An exact value: NaN, an infinity (negative or not), or (−1)^neg × man × 2^exp. Zeros keep their sign (R211). -/
inductive Val where
  | nan
  | inf (neg : Bool)
  | fin (neg : Bool) (man : Nat) (exp : Int)
deriving DecidableEq, Repr

/-- A floating-point format: exponent bits, mantissa bits, bias; what its top exponent holds (0 infinities and NaN, 1 one
NaN code as E4M3, 2 numbers only); its canonical NaN (R210, R211). -/
structure Fmt where
  eb : Nat
  mb : Nat
  bias : Nat
  top : Nat
  nan : Nat
deriving DecidableEq, Repr

def fp32 : Fmt := ⟨8, 23, 127, 0, 0x7FC00000⟩
def bf16 : Fmt := ⟨8, 7, 127, 0, 0x7FC0⟩
def fp16 : Fmt := ⟨5, 10, 15, 0, 0x7E00⟩
def e4m3 : Fmt := ⟨4, 3, 7, 1, 0x7F⟩
def e5m2 : Fmt := ⟨5, 2, 15, 0, 0x7E⟩
def e3m2 : Fmt := ⟨3, 2, 3, 2, 0⟩
def e2m3 : Fmt := ⟨2, 3, 1, 2, 0⟩
def e2m1 : Fmt := ⟨2, 1, 1, 2, 0⟩

/-- The format of a code of R137 and R210; codes 10 to 12 are no floating-point formats. -/
def fmtOf (code : Nat) : Fmt :=
  match code with
  | 0 => fp32 | 1 => bf16 | 2 => fp16 | 3 => e4m3 | 4 => e5m2 | 5 => e4m3 | 6 => e5m2 | 7 => e3m2 | 8 => e2m3 | _ => e2m1

/-- Bits of one element of a format code (R210). -/
def codeBits (code : Nat) : Nat :=
  match code with
  | 0 => 32 | 1 => 16 | 2 => 16 | 3 => 8 | 4 => 8 | 5 => 8 | 6 => 8 | 7 => 6 | 8 => 6 | 9 => 4 | 10 => 8 | 11 => 32 | _ => 8

/-- Microscaled format codes (R212). -/
def isMx (code : Nat) : Bool := decide (5 ≤ code ∧ code ≤ 9)

/-- The value a code word of a format encodes (R210). -/
def decodeF (f : Fmt) (w : Nat) : Val :=
  let neg := bitOf w (f.eb + f.mb)
  let e := w / 2 ^ f.mb % 2 ^ f.eb
  let m := w % 2 ^ f.mb
  if f.top = 0 ∧ e = 2 ^ f.eb - 1 then (if m = 0 then .inf neg else .nan)
  else if f.top = 1 ∧ e = 2 ^ f.eb - 1 ∧ m = 2 ^ f.mb - 1 then .nan
  else if e = 0 then .fin neg m (1 - (f.bias : Int) - f.mb)
  else .fin neg (2 ^ f.mb + m) ((e : Int) - f.bias - f.mb)

/-- The largest finite code word, without its sign. -/
def maxWord (f : Fmt) : Nat :=
  match f.top with
  | 0 => (2 ^ f.eb - 1) * 2 ^ f.mb - 1
  | 1 => 2 ^ (f.eb + f.mb) - 2
  | _ => 2 ^ (f.eb + f.mb) - 1

/-- Puts the sign on a code word. -/
def signed (f : Fmt) (neg : Bool) (w : Nat) : Nat := if neg then w + 2 ^ (f.eb + f.mb) else w

/-- How a value is rounded: to nearest, ties to even; or stochastically, with the 16-bit number drawn for it (R224). -/
inductive Rnd where
  | near
  | stoch (u : Nat)
deriving DecidableEq, Repr

/-- The exponent of the last kept bit of man × 2^exp in a format, on the subnormal grid where the value lies there. -/
def lastKept (f : Fmt) (man : Nat) (exp : Int) : Int :=
  max (((Nat.log2 man : Nat) : Int) + exp - f.mb) (1 - (f.bias : Int) - f.mb)

/-- Rounds man / 2^d to nearest even; stochastically by R224's fraction. -/
def roundShift (r : Rnd) (man d : Nat) : Nat :=
  let n := man / 2 ^ d
  let rem := man % 2 ^ d
  match r with
  | .near => if 2 * rem > 2 ^ d ∨ (2 * rem = 2 ^ d ∧ n % 2 = 1) then n + 1 else n
  | .stoch u => if u < rem * 65536 / 2 ^ d then n + 1 else n

/-- The magnitude's code word before overflow is looked at. -/
def roundMag (f : Fmt) (r : Rnd) (man : Nat) (exp : Int) : Nat :=
  if man = 0 then 0
  else
    let q := lastKept f man exp
    let n := if q ≤ exp then man * 2 ^ (exp - q).toNat else roundShift r man (q - exp).toNat
    (q - (1 - (f.bias : Int) - f.mb)).toNat * 2 ^ f.mb + n

/-- One rounding from an exact value into a format (R218, R219). `sat` saturates overflow to the largest finite value, as
FP8 and MX elements do; else overflow is an infinity. Overflow is decided by round-to-nearest-even. -/
def roundF (f : Fmt) (r : Rnd) (sat : Bool) (v : Val) : Nat :=
  match v with
  | .nan => f.nan
  | .inf neg => if f.top = 0 then signed f neg ((2 ^ f.eb - 1) * 2 ^ f.mb) else f.nan
  | .fin neg man exp =>
    let n := roundMag f .near man exp
    if maxWord f < n then
      (if sat then signed f neg (maxWord f) else signed f neg ((2 ^ f.eb - 1) * 2 ^ f.mb))
    else signed f neg (min (roundMag f r man exp) (maxWord f))

/-- Formats whose conversion saturates finite overflow (R219). -/
def saturates (code : Nat) : Bool := decide (3 ≤ code)

/-! ## Exact arithmetic -/

def Val.negate : Val → Val
  | .nan => .nan
  | .inf n => .inf !n
  | .fin n m e => .fin (!n) m e

/-- The exact integer man × 2^(exp − e), for e at most exp, with its sign. -/
def scaledInt (neg : Bool) (man : Nat) (exp e : Int) : Int :=
  let v : Int := (man * 2 ^ (exp - e).toNat : Nat)
  if neg then -v else v

/-- The exact sum; a zero sum of unlike signs is +0, of two −0 is −0 (IEEE 754 round-to-nearest). -/
def Val.add : Val → Val → Val
  | .nan, _ => .nan
  | _, .nan => .nan
  | .inf a, .inf b => if a = b then .inf a else .nan
  | .inf a, .fin .. => .inf a
  | .fin .., .inf b => .inf b
  | .fin na ma ea, .fin nb mb eb =>
    let e := min ea eb
    let s := scaledInt na ma ea e + scaledInt nb mb eb e
    if s = 0 then .fin (na && nb) 0 e else .fin (decide (s < 0)) s.natAbs e

/-- The exact product; 0 × ∞ is NaN. -/
def Val.mul : Val → Val → Val
  | .nan, _ => .nan
  | _, .nan => .nan
  | .inf a, .inf b => .inf (a != b)
  | .inf a, .fin b m _ => if m = 0 then .nan else .inf (a != b)
  | .fin a m _, .inf b => if m = 0 then .nan else .inf (a != b)
  | .fin a m e, .fin b n g => .fin (a != b) (m * n) (e + g)

/-- a < b, with +0 greater than −0 (R102). NaN is no operand of it. -/
def Val.less : Val → Val → Bool
  | .inf a, .inf b => a && !b
  | .inf a, .fin .. => a
  | .fin .., .inf b => !b
  | .fin na ma ea, .fin nb mb eb =>
    let e := min ea eb
    let x := scaledInt na ma ea e
    let y := scaledInt nb mb eb e
    if x = 0 ∧ y = 0 then na && !nb else decide (x < y)
  | _, _ => false

/-- The larger and the smaller of two values; NaN propagates (R102). -/
def Val.max (a b : Val) : Val := if a = .nan ∨ b = .nan then .nan else if a.less b then b else a
def Val.min (a b : Val) : Val := if a = .nan ∨ b = .nan then .nan else if b.less a then b else a

/-- An integer as a value. -/
def Val.ofInt (i : Int) : Val := .fin (decide (i < 0)) i.natAbs 0

/-- A value rounded to an integer, ties to even (R219, INT8 and INT32). -/
def Val.toInt : Val → Option Int
  | .fin neg man exp =>
    let n := if 0 ≤ exp then man * 2 ^ exp.toNat else roundShift .near man (-exp).toNat
    some (if neg then -(n : Int) else n)
  | _ => none

/-- A value into INT8 (R219). -/
def toInt8 (v : Val) : Nat :=
  match v with
  | .nan => 0
  | .inf neg => if neg then 0x80 else 0x7F
  | .fin .. => match v.toInt with
    | some i => signedBits 8 (Max.max (-128) (Min.min 127 i))
    | none => 0

/-- FP32 values by their words. -/
def f32 (w : Word32) : Val := decodeF fp32 w.toNat
/-- One rounding to FP32. -/
def to32 (v : Val) : Word32 := BitVec.ofNat 32 (roundF fp32 .near false v)

/-- A subnormal word reads as, or is written as, zero of its sign (R101). -/
def flush32 (w : Word32) : Word32 := if w.toNat / 2 ^ 23 % 256 = 0 then BitVec.ofNat 32 (w.toNat / 2 ^ 31 * 2 ^ 31) else w
/-- The same for a BF16 word. -/
def flushBf (w : Nat) : Nat := if w / 2 ^ 7 % 256 = 0 then w / 2 ^ 15 * 2 ^ 15 else w
/-- BF16 widened to FP32. -/
def wide (w : Nat) : Word32 := BitVec.ofNat 32 (w * 65536)
/-- FP32 rounded once to BF16. -/
def toBf (w : Word32) : Nat := roundF bf16 .near false (f32 w)

/-- FP32 operations with one rounding. -/
def fadd (a b : Word32) : Word32 := to32 ((f32 a).add (f32 b))
def fsub (a b : Word32) : Word32 := to32 ((f32 a).add (f32 b).negate)
def fmul (a b : Word32) : Word32 := to32 ((f32 a).mul (f32 b))
/-- a × b + c with a single rounding. -/
def fma (a b c : Word32) : Word32 := to32 (((f32 a).mul (f32 b)).add (f32 c))
/-- c − a × b with a single rounding. -/
def fnma (a b c : Word32) : Word32 := to32 ((f32 c).add ((f32 a).mul (f32 b)).negate)
def fmax (a b : Word32) : Word32 := to32 ((f32 a).max (f32 b))
def fmin (a b : Word32) : Word32 := to32 ((f32 a).min (f32 b))
def nan32 : Word32 := 0x7FC00000
def one32 : Word32 := 0x3F800000

/-- Adds the terms of a tree two by two, one rounding each, until one is left: `pick n k` tells which two of the `k` left of `n`
are added next (R101). -/
def treeAdd (pick : Nat → Nat → Nat × Nat) (n : Nat) : Nat → List Word32 → Word32
  | 0, l => nth 0 l 0
  | k + 1, l =>
    if l.length ≤ 1 then nth 0 l 0
    else
      let i := (pick n l.length).1 % l.length
      let rest := l.eraseIdx i
      let j := (pick n l.length).2 % rest.length
      treeAdd pick n k (rest.set j (fadd (nth 0 l i) (nth 0 rest j)))

/-- The same with terms in a fixed order, only neighbours being added (R105). -/
def treeAddNext (pick : Nat → Nat → Nat × Nat) (n : Nat) : Nat → List Word32 → Word32
  | 0, l => nth 0 l 0
  | k + 1, l =>
    if l.length ≤ 1 then nth 0 l 0
    else
      let i := (pick n l.length).1 % (l.length - 1)
      treeAddNext pick n k ((l.eraseIdx (i + 1)).set i (fadd (nth 0 l i) (nth 0 l (i + 1))))

/-- One lane's accumulation in ascending order: sums of terms, or of squares, each term added with one rounding. -/
def laneSum (sq : Bool) (l : List Word32) : Word32 :=
  match l with
  | [] => 0
  | x :: xs =>
    if sq then xs.foldl (fun acc y => if Config.fusedSquares then fma y y acc else fadd acc (fmul y y)) (fmul x x)
    else xs.foldl fadd x

/-- A sum, or a sum of squares, of a segment (R101, R157): the terms of each lane in ascending order, then the lanes' sums through
a fixed tree. Which lane a term falls in and the tree are the engine's, told apart by `tag`; the spec gives neither. -/
def sum32 (tag : Nat) (sq : Bool) (l : List Word32) : Word32 :=
  let n := l.length
  let lane (i : Nat) : Nat := Config.sumLane tag n i
  let lanes := ((List.range n).map lane).eraseDups
  let sums := lanes.map (fun x => laneSum sq (((l.zip (List.range n)).filter (fun p => lane p.2 == x)).map Prod.fst))
  treeAdd (Config.sumTree tag) n n sums

/-- The sum of a combine: ascending bank order through a fixed tree (R105). -/
def combineSum (l : List Word32) : Word32 := treeAddNext (Config.sumTree 4) l.length l.length l

/-! ## Functions the spec bounds but does not state (R101, R102, R105, R157) -/

/-- The integer square root, bit by bit. -/
def isqrtBits (n : Nat) : Nat → Nat → Nat
  | 0, r => r
  | k + 1, r => if (r + 2 ^ k) * (r + 2 ^ k) ≤ n then isqrtBits n k (r + 2 ^ k) else isqrtBits n k r
def isqrt (n : Nat) : Nat := isqrtBits n (Nat.log2 n / 2 + 1) 0

/-- An FP32 word within one unit in the last place of man × 2^exp, of which `exact` says whether it is the exact value or
one cut short: which of the words in reach is a free value of the operand `w`. -/
def ulp1 (fn : Nat) (w : Word32) (neg exact : Bool) (man : Nat) (exp : Int) : Word32 :=
  let lo := roundF fp32 (.stoch 0xFFFF) false (.fin false man exp)
  let f := (Config.approx fn w).toNat
  let same := match decodeF fp32 lo with
    | .fin _ m e => exact && scaledInt false m e (min e exp) == scaledInt false man exp (min e exp)
    | _ => false
  BitVec.ofNat 32 (signed fp32 neg (min 0x7F800000 (if same then lo + f % 3 - 1 else lo + f % 2)))

/-- 1 / (man × 2^exp) within one FP32 ulp (R105, R157). -/
def recip1 (fn : Nat) (w : Word32) (neg : Bool) (man : Nat) (exp : Int) : Word32 :=
  let k := Nat.log2 man + 64
  ulp1 fn w neg (2 ^ k % man == 0) (2 ^ k / man) (-exp - k)
/-- √(man × 2^exp) within one FP32 ulp (R157). -/
def sqrt1 (fn : Nat) (w : Word32) (man : Nat) (exp : Int) : Word32 :=
  let n := if exp % 2 = 0 then man * 2 ^ 128 else man * 2 ^ 129
  let r := isqrt n
  ulp1 fn w false (r * r == n) r (exp / 2 - 64)
/-- 1 / √(man × 2^exp) within one FP32 ulp (R105, R157). -/
def rsqrt1 (fn : Nat) (w : Word32) (man : Nat) (exp : Int) : Word32 :=
  let d := if exp % 2 = 0 then man else 2 * man
  let k := Nat.log2 d + 64
  let r := isqrt (2 ^ (2 * k) / d)
  ulp1 fn w false (r * r * d == 2 ^ (2 * k)) r (-(exp / 2) - k)

/-! ### exp2 and log2, to 200 bits, and what the accuracies leave of them -/

/-- ln 2, log2 e and √(2/π), times 2^200. -/
def ln2Bits : Nat := 0xb17217f7d1cf79abc9e3b39803f2f6af40f343267298b62d8a
def log2eBits : Nat := 0x171547652b82fe1777d0ffda0d23a7d11d6aef551bad2b4b116
def gelu2Bits : Nat := 0xcc42299ea1b284687e59e2805d5c717fa7053e60a24e0db180

/-- 2^t for t in units of 2^−200: the power series of the exponential on the fraction; far outside every format, a power of two. -/
def pow2Val (t : Int) : Val :=
  let one := 2 ^ 200
  let n := t / (one : Nat)
  if 400 < n then .fin false 1 400
  else if n < -400 then .fin false 1 (-400)
  else
    let x := (t % (one : Nat)).toNat * ln2Bits / one
    let e := (List.range 60).foldl (fun acc i => one + x * acc / one / (60 - i)) one
    .fin false e (n - 200)

/-- man × 2^exp in units of 2^−200, with its sign. -/
def fixed200 (neg : Bool) (man : Nat) (exp : Int) : Int :=
  let v : Int := if 0 ≤ exp + 200 then (man * 2 ^ (exp + 200).toNat : Nat) else (man / 2 ^ (-(exp + 200)).toNat : Nat)
  if neg then -v else v

/-- log2 of man × 2^exp, not zero, in units of 2^−200, by the series of the inverse hyperbolic tangent. -/
def log2Fixed (man : Nat) (exp : Int) : Int :=
  let one := 2 ^ 200
  let k := Nat.log2 man
  let g := man * one / 2 ^ k
  let up := decide (one + one / 2 < g)
  let h : Int := ((if up then g / 2 else g) : Nat)
  let n : Int := (k : Int) + exp + (if up then 1 else 0)
  let z := (h - one) * one / (h + one)
  let z2 := z * z / one
  let s := (List.range 80).foldl (fun acc i => (one : Int) / (2 * (79 - i) + 1 : Nat) + z2 * acc / one) 0
  n * one + 2 * z * s / ln2Bits

/-- The place of the largest word of a format at most a value, counting words from +0 upwards and downwards. -/
def floorWord (f : Fmt) : Val → Int
  | .fin neg man exp =>
    let n := roundMag f (.stoch 0xFFFF) man exp
    let same := match decodeF f n with
      | .fin _ m e => scaledInt false m e (min e exp) == scaledInt false man exp (min e exp)
      | _ => false
    if neg then -((if same then n else n + 1 : Nat) : Int) else (n : Int)
  | _ => 0
/-- The smallest word at least a value. -/
def ceilWord (f : Fmt) (v : Val) : Int := -floorWord f v.negate

/-- The word at a place; past the largest, the infinity. -/
def wordAt (f : Fmt) (i : Int) : Nat := signed f (decide (i < 0)) (min i.natAbs ((2 ^ f.eb - 1) * 2 ^ f.mb))

/-- One of the places from `lo` to `hi`: `choice` is a free value. -/
def pickPlace (choice : Nat) (lo hi : Int) : Int := lo + ((choice % ((hi - lo).toNat + 1) : Nat) : Int)

/-- An FP32 word at most `b` away from a value `v`. -/
def wordNear (choice : Nat) (v b : Val) : Word32 :=
  BitVec.ofNat 32 (wordAt fp32 (pickPlace choice (ceilWord fp32 (v.add b.negate)) (floorWord fp32 (v.add b))))

/-- Units in the last place of a format at a value. -/
def ulpsOf (f : Fmt) (k : Nat) : Val → Val
  | .fin _ man exp => .fin false k (lastKept f man exp)
  | v => v

/-- An FP32 word of the value's sign within `k` units in the last place of it (R105, R157). -/
def ulpNear (k choice : Nat) (v : Val) : Word32 :=
  match v with
  | .fin neg man exp =>
    let a := Val.fin false man exp
    let u := ulpsOf fp32 k a
    if man = 0 then BitVec.ofNat 32 (signed fp32 neg 0)
    else BitVec.ofNat 32 (signed fp32 neg (wordAt fp32
      (pickPlace choice (max 0 (ceilWord fp32 (a.add u.negate))) (floorWord fp32 (a.add u)))))
  | v => to32 v

/-- An FP32 word that rounds to a BF16 word within one BF16 unit in the last place of the value (R101). -/
def bfNear (choice : Nat) (v : Val) : Word32 :=
  match v with
  | .fin neg man exp =>
    let a := Val.fin false man exp
    let u := ulpsOf bf16 1 a
    let lo := (max 0 (ceilWord bf16 (a.add u.negate))).toNat
    let hi := (floorWord bf16 (a.add u)).toNat
    let half (k : Nat) : Nat := if k % 2 = 0 then 32768 else 32767
    if man = 0 then BitVec.ofNat 32 (signed fp32 neg 0)
    else BitVec.ofNat 32 (signed fp32 neg (min 0x7F800000
      (pickPlace choice ((lo * 65536 - half lo : Nat) : Int) ((hi * 65536 + half hi : Nat) : Int)).toNat))
  | v => to32 v

/-- exp2 and log2 of the bank units: special values by R102, else one of the words that the accuracy of R101 or R105 leaves, by a
free value of the operand: BF16 results within one ulp; FP32 exp2 within 2^−18 of its value, FP32 log2 within 2^−18 or 2^−18 of its
value; SLOG2 within 2 FP32 ulp. Function numbers: 0 and 1 in FP32 format, 4 and 5 in BF16, 6 SLOG2, 2 and 3 the reciprocals; 16 and
up are the vector unit's. -/
def exp2Of (bf : Bool) (w : Word32) : Word32 :=
  match f32 w with
  | .nan => nan32
  | .inf neg => if neg then 0 else 0x7F800000
  | .fin neg man exp =>
    if (Val.fin false 128 0).less (.fin neg man exp) then 0x7F800000
    else if (Val.fin neg man exp).less (.fin true 126 0) then 0
    else
      let v := pow2Val (fixed200 neg man exp)
      if bf then bfNear (Config.approx 4 w).toNat v
      else wordNear (Config.approx 0 w).toNat v (v.mul (.fin false 1 (-18)))

/-- log2 of a positive finite value. -/
def log2Val (man : Nat) (exp : Int) : Val :=
  let y := log2Fixed man exp
  .fin (decide (y < 0)) y.natAbs (-200)

/-- log2 with the word of a finite positive operand's result chosen by `near`. -/
def log2With (near : Val → Word32) (w : Word32) : Word32 :=
  match f32 w with
  | .nan => nan32
  | .inf neg => if neg then nan32 else 0x7F800000
  | .fin neg man exp =>
    if man = 0 then 0xFF800000 else if neg then nan32 else near (log2Val man exp)

def log2Of (bf : Bool) (w : Word32) : Word32 :=
  log2With (fun y =>
    if bf then bfNear (Config.approx 5 w).toNat y
    else
      let a := match y with | .fin _ m e => Val.fin false m e | v => v
      let b := if a.less (.fin false 1 0) then Val.fin false 1 (-18) else a.mul (.fin false 1 (-18))
      wordNear (Config.approx 1 w).toNat y b) w
def slog2Of (w : Word32) : Word32 := log2With (ulpNear 2 (Config.approx 6 w).toNat) w

def recipOf (w : Word32) : Word32 :=
  match f32 w with
  | .nan => nan32
  | .inf neg => if neg then 0x80000000 else 0
  | .fin neg man exp => if man = 0 then (if neg then 0xFF800000 else 0x7F800000) else recip1 2 w neg man exp
def rsqrtOf (w : Word32) : Word32 :=
  match f32 w with
  | .nan => nan32
  | .inf neg => if neg then nan32 else 0
  | .fin neg man exp =>
    if man = 0 then (if neg then 0xFF800000 else 0x7F800000) else if neg then nan32 else rsqrt1 3 w man exp

/-! ### The vector unit's sigmoid and hyperbolic tangent (R157) -/

/-- a / b to 200 bits, for values that are finite and b not zero. -/
def Val.quot : Val → Val → Val
  | .fin na ma ea, .fin nb mb eb =>
    let k := Nat.log2 mb + 200
    .fin (na != nb) (ma * 2 ^ k / mb) (ea - eb - k)
  | v, _ => v

/-- 1 / (1 + e^−z), z in units of 2^−200. -/
def sigmoidVal (z : Int) : Val :=
  (Val.fin false 1 0).quot ((Val.fin false 1 0).add (pow2Val (-(z * log2eBits / (2 ^ 200 : Nat)))))

/-- x / (1 + e^−x). -/
def siluVal (neg : Bool) (man : Nat) (exp : Int) : Val :=
  (Val.fin neg man exp).mul (sigmoidVal (fixed200 neg man exp))

/-- x / (1 + e^−2u) with u = √(2/π) (x + 0.044715 x³), which is half x (1 + tanh u). -/
def geluVal (neg : Bool) (man : Nat) (exp : Int) : Val :=
  let x := fixed200 neg man exp
  let one : Int := (2 ^ 200 : Nat)
  let x3 := x * x / one * x / one
  let u := (x + x3 * 44715 / 1000000) * gelu2Bits / one
  (Val.fin neg man exp).mul (sigmoidVal (2 * u))

/-- tanh x; of a small x, x itself to the precision held. -/
def tanhVal (neg : Bool) (man : Nat) (exp : Int) : Val :=
  if (Val.fin false man exp).less (.fin false 1 (-60)) then .fin neg man exp
  else
    let e := pow2Val (2 * fixed200 false man exp * log2eBits / (2 ^ 200 : Nat))
    let q := (e.add (.fin true 1 0)).quot (e.add (.fin false 1 0))
    (Val.fin neg 1 0).mul q

/-! ## Stochastic rounding's numbers (R225) -/

/-- The 16-bit number for a seed and a position word. -/
def stochU (seed p : Nat) : Nat :=
  let m := 2 ^ 64
  let z0 := (seed * 2 ^ 32 % m) ^^^ (p % m)
  let z1 := (z0 + 0x9E3779B97F4A7C15) % m
  let z2 := (z1 ^^^ (z1 / 2 ^ 30)) * 0xBF58476D1CE4E5B9 % m
  let z3 := (z2 ^^^ (z2 / 2 ^ 27)) * 0x94D049BB133111EB % m
  (z3 ^^^ (z3 / 2 ^ 31)) / 2 ^ 48

/-! ## Microscaled blocks (R212 to R216, R221) -/

/-- The largest exponent of an element format (R221). -/
def emaxOf (code : Nat) : Int := match code with | 5 => 8 | 6 => 15 | 7 => 4 | 8 => 2 | _ => 2

/-- Bytes of a block: element data and the scale byte (R214). -/
def blockBytes (code : Nat) : Nat := 4 * codeBits code + 1

/-- Decodes a block's 32 elements (R213). -/
def decodeBlock (code : Nat) (b : List Byte) : List Val :=
  let w := codeBits code
  let data := leNat (b.take (4 * w))
  let x := getLe b (4 * w) 1
  (List.range 32).map (fun k =>
    if x = 0xFF then .nan
    else match decodeF (fmtOf code) (data / 2 ^ (w * k) % 2 ^ w) with
      | .fin n m e => .fin n m (e + x - 127)
      | v => v)

/-- The exponent of a block's shared scale; none when a value is NaN or infinite (R219, R221). -/
def blockExp (code : Nat) (vs : List Val) : Option Int :=
  vs.foldl (fun acc v =>
    match acc, v with
    | some e, .fin _ man exp => some (if man = 0 then e else Max.max e ((Nat.log2 man : Nat) + exp - emaxOf code))
    | _, _ => none) (some (-127))

/-- Encodes 32 values as a block; `rnd k` is the rounding of element k (R221, R224). -/
def encodeBlock (code : Nat) (rnd : Nat → Rnd) (vs : List Val) : List Byte :=
  let w := codeBits code
  match blockExp code vs with
  | none => leBytes (4 * w) 0 ++ [0xFF]
  | some e =>
    let el (k : Nat) : Nat := match nth .nan vs k with
      | .fin n m x => roundF (fmtOf code) (rnd k) true (.fin n m (x - e))
      | _ => 0
    leBytes (4 * w) (((List.range 32).map (fun k => el k * 2 ^ (w * k))).foldl (· + ·) 0) ++ [BitVec.ofNat 8 (e + 127).toNat]

/-- Splits a list into runs of `n`. -/
def runsOf {α : Type} (n : Nat) : Nat → List α → List (List α)
  | 0, _ => []
  | k + 1, l => l.take n :: runsOf n k (l.drop n)

/-- A row of blocks, padded with zeros to a 64-byte boundary (R216). -/
def padRow (b : List Byte) : List Byte := b ++ List.replicate ((64 - b.length % 64) % 64) 0

/-- The values of `n` elements of a code that is not microscaled, from packed bytes (R215). -/
def decodeElems (code n : Nat) (b : List Byte) : List Val :=
  let w := codeBits code / 8
  (List.range n).map (fun i =>
    let x := getLe b (i * w) w
    if code = 10 then .ofInt (toSigned 8 x) else if code = 11 then .ofInt (toSigned 32 x) else decodeF (fmtOf code) x)

/-- One element of a code that is not microscaled (R215, R219). -/
def encodeElem (code : Nat) (r : Rnd) (v : Val) : List Byte :=
  if code = 10 then leBytes 1 (toInt8 v) else leBytes (codeBits code / 8) (roundF (fmtOf code) r (saturates code) v)

/-- `n` elements of any code from packed bytes. -/
def decodeAny (code n : Nat) (b : List Byte) : List Val :=
  if isMx code then (runsOf (blockBytes code) ((n + 31) / 32) b).flatMap (decodeBlock code) else decodeElems code n b

/-- Values encoded in any code, without padding; `rnd k` rounds element k. -/
def encodeAny (code : Nat) (rnd : Nat → Rnd) (vs : List Val) : List Byte :=
  if isMx code then
    ((runsOf 32 ((vs.length + 31) / 32) vs).zip (List.range ((vs.length + 31) / 32))).flatMap
      (fun p => encodeBlock code (fun k => rnd (p.2 * 32 + k)) p.1)
  else (vs.zip (List.range vs.length)).flatMap (fun p => encodeElem code (rnd p.2) p.1)

/-- Packed bytes of `n` elements of a code, without padding. -/
def packedBytes (code n : Nat) : Nat := if isMx code then (n + 31) / 32 * blockBytes code else n * (codeBits code / 8)

end Sys2Proof.Machine
end

