-- ==== Sys2Proof/Machine/BankOps.lean ====
section
/-! DEFINITION. Arithmetic in the banks (chapter 3): the bank-op record and its checks (R96 to R98, R126), the row and
statistic functions (R99 to R105), broadcast and queues (R106 to R109), steps (R110 to R117), faults (R123 to R127),
MEM.BANKOP (R128). -/

namespace Sys2Proof.Machine

/-! ## The record (R96) -/

/-- A bank-op record's fields. -/
structure BkRec where
  row : Bool
  fn : Nat
  flags : Nat
  event : Nat
  k : Nat
  b : Nat
  c : Nat
  a : Nat
  d : Nat
  o : Nat
  pane : Nat
  banks : Nat
  first : Nat
  count : Nat
  conv : Nat
  g : Nat
  sb : Nat
  sc : Nat
deriving DecidableEq, Repr

/-- Reads the fields of 32 bytes (R96). -/
def bkRec (r : List Byte) : BkRec :=
  { row := getLe r 0 1 == 0x50, fn := getLe r 1 1, flags := getLe r 2 1, event := getLe r 3 1, k := getLe r 4 1 % 8,
    b := getLe r 5 1 % 16, c := getLe r 5 1 / 16, a := getLe r 6 1 % 4, d := getLe r 6 1 / 4 % 4, o := getLe r 7 1 % 32,
    pane := getLe r 7 1 / 32 % 2, banks := getLe r 8 8, first := getLe r 16 2, count := getLe r 18 2,
    conv := getLe r 20 1 % 16, g := getLe r 21 1 % 8, sb := getLe r 24 4, sc := getLe r 28 4 }

def BkRec.scope (r : BkRec) : Nat := r.flags % 4
def BkRec.f32 (r : BkRec) : Bool := bitOf r.flags 2
def BkRec.stoch (r : BkRec) : Bool := bitOf r.flags 3
def BkRec.gamma (r : BkRec) : Bool := bitOf r.flags 4
def BkRec.beta (r : BkRec) : Bool := bitOf r.flags 5
/-- Elements of a row, and of a segment (R94). -/
def BkRec.elems (r : BkRec) : Nat := if r.f32 then 512 else 1024
def BkRec.segElems (r : BkRec) : Nat := (if r.f32 then 16 else 32) * 2 ^ r.k
/-- Segments of a row (R94). -/
def BkRec.segs (r : BkRec) : Nat := 2048 / 2 ^ (6 + r.k)
/-- The banks selected, in ascending order. -/
def BkRec.bankList (r : BkRec) : List Nat := maskList r.banks 64

/-- Fields a function uses: B, C, a, d, segment, pane select, pane offset, convert, fill pattern, group (R99, R105). -/
def bkUses (row : Bool) (fn : Nat) : Option (List Char) :=
  if row then
    match fn with
    | 0x01 => some ['B'] | 0x02 => some ['B'] | 0x03 => some ['B', 'C'] | 0x04 => some ['B'] | 0x05 => some ['B']
    | 0x06 => some ['B', 'C'] | 0x07 => some ['B', 'C'] | 0x08 => some ['B', 'C', 'd', 'k'] | 0x09 => some ['B', 'C']
    | 0x0A => some ['B', 'C'] | 0x10 => some ['d', 'k'] | 0x11 => some ['d', 'k'] | 0x12 => some ['d', 'k']
    | 0x13 => some ['d', 'k'] | 0x20 => some ['p', 'o', 'v'] | 0x21 => some ['p', 'o', 'v'] | 0x22 => some ['p']
    | 0x23 => some ['p'] | 0x24 => some ['d', 'o'] | 0x25 => some ['a', 'o'] | 0x30 => some ['f'] | 0x31 => some []
    | _ => none
  else
    match fn with
    | 0x01 => some ['B', 'C', 'a', 'd'] | 0x02 => some ['B', 'C', 'a', 'd'] | 0x03 => some ['B', 'C', 'a', 'd']
    | 0x04 => some ['B', 'C', 'a', 'd'] | 0x05 => some ['B', 'C', 'a', 'd'] | 0x10 => some ['a', 'd', 'G']
    | 0x11 => some ['a', 'd', 'G'] | _ => none

/-- Functions that repeat over up to 4,032 rows (R99). -/
def bkMany (fn : Nat) : Bool := decide (fn ≤ 0x07 ∨ fn = 0x09 ∨ fn = 0x0A ∨ 0x30 ≤ fn)

/-- The format code of R137 for a convert code of R103. -/
def bkFormat (conv : Nat) : Nat := if conv = 7 then 1 else conv + 3

/-- Packed size of a row in a convert code, padded to 64 bytes (R103). -/
def BkRec.packed (r : BkRec) : Nat := (packedBytes (bkFormat r.conv) r.elems + 63) / 64 * 64

/-- Reserved bits of the record: offset of the first that is set (R11, R96). -/
def bkReserved (r : List Byte) : Option Nat :=
  if 64 ≤ getLe r 2 1 then some 2 else if 32 ≤ getLe r 3 1 then some 3 else if 8 ≤ getLe r 4 1 then some 4
  else if 16 ≤ getLe r 6 1 then some 6 else if 64 ≤ getLe r 7 1 then some 7 else if 16 ≤ getLe r 20 1 then some 20
  else if 8 ≤ getLe r 21 1 then some 21 else if getLe r 22 2 ≠ 0 then some 22 else none

/-- Functions of the chains that run with one segment code throughout: the statistic functions and the moves of a pane or of
statistics accept a segment code (R260, the worked examples of chapter 3: DEDUCED against R98). -/
def BkRec.chained (r : BkRec) : Bool := !r.row || r.fn == 0x22 || r.fn == 0x24 || r.fn == 0x25

/-- Fields that the function does not use and that are not 0 (R98). -/
def BkRec.unusedBad (r : BkRec) (u : List Char) : Option Nat :=
  let has (x : Char) : Bool := decide (x ∈ u)
  if (r.gamma || r.beta) && !(r.row && r.fn == 0x0A) then some 2
  else if r.k ≠ 0 ∧ !(has 'k') ∧ !r.chained ∧ !(r.row && (decide (4 ≤ r.b ∧ r.b ≤ 7) || decide (4 ≤ r.c ∧ r.c ≤ 7))) then some 4
  else if (r.b ≠ 0 ∧ !(has 'B')) ∨ (r.c ≠ 0 ∧ !(has 'C')) then some 5
  else if (r.a ≠ 0 ∧ !(has 'a')) ∨ (r.d ≠ 0 ∧ !(has 'd')) then some 6
  else if (r.o ≠ 0 ∧ !(has 'o')) ∨ (r.pane ≠ 0 ∧ !(has 'p')) then some 7
  else if !r.row ∧ r.first ≠ 0 then some 16
  else if r.conv ≠ 0 ∧ !(has 'v') then some 20
  else if r.g ≠ 0 ∧ !(has 'G') then some 21
  else if r.sb ≠ 0 ∧ !(has 'f') ∧ r.b ≠ 1 then some 24
  else if r.sc ≠ 0 ∧ r.c ≠ 1 ∧ !r.stoch then some 28
  else none

/-- Every aligned group of 2^g banks is wholly selected or wholly unselected (R105). -/
def BkRec.groupsWhole (r : BkRec) : Bool :=
  (List.range (64 / 2 ^ r.g)).all (fun i =>
    let n := ((List.range (2 ^ r.g)).filter (fun j => bitOf r.banks (i * 2 ^ r.g + j))).length
    n == 0 || n == 2 ^ r.g)

/-- Values the function does not allow (R97, R99, R103 to R105). -/
def BkRec.valueBad (r : BkRec) (u : List Char) : Option Nat :=
  let has (x : Char) : Bool := decide (x ∈ u)
  if r.stoch ∧ !(r.row && r.fn == 0x20 && (decide (r.conv ≤ 3) || r.conv == 7)) then some 2
  else if 5 < r.k then some 4
  else if 8 ≤ r.b ∨ 8 ≤ r.c ∨ (!r.row ∧ (r.b = 2 ∨ r.b = 3 ∨ r.c = 2 ∨ r.c = 3)) then some 5
  else if r.row ∧ 4 ≤ r.fn ∧ r.fn ≤ 6 ∧ (r.b = 0 ∨ (r.fn = 6 ∧ r.c = 0)) then some 5
  else if r.row ∧ r.fn = 0x13 ∧ r.d % 2 = 1 then some 6
  else if has 'v' ∧ (8 ≤ r.conv ∨ (r.conv = 7 ∧ !r.f32)) then some 20
  else if has 'v' ∧ 2048 < 64 * r.o + r.packed then some 7
  else if r.row ∧ (r.fn = 0x24 ∨ r.fn = 0x25) ∧ r.o % 2 = 1 then some 7
  else if r.count = 0 ∨ 4032 < r.count ∨ ((!r.row ∨ !bkMany r.fn) ∧ 1 < r.count) then some 18
  else if has 'G' ∧ (r.g = 0 ∨ 6 < r.g ∨ !r.groupsWhole) then some 21
  else none

/-- The record breaks a rule of R96 to R105: the offset of the first field in error within its table row of R126. -/
def recordBad (bytes : List Byte) : Option Nat :=
  let r := bkRec bytes
  match bkUses r.row r.fn with
  | none => some ((bkReserved bytes).getD 1)
  | some u => (bkReserved bytes).or ((r.unusedBad u).or (r.valueBad u))

/-- Rows reach 4,032 or beyond (R39). -/
def rowsBad (bytes : List Byte) : Bool := (bkRec bytes).row && decide (4032 < (bkRec bytes).first + (bkRec bytes).count)

/-! ## Bank units (R91, R93) -/

/-- A bank's unit. -/
def Module.unit (m : Module) (site bank : Nat) : BankUnit := SMap.get {} m.mem.units (site * 64 + bank)
/-- Changes a bank's unit. -/
def Module.updUnit (m : Module) (site bank : Nat) (f : BankUnit → BankUnit) : Module :=
  { m with mem := { m.mem with units := SMap.upd {} m.mem.units (site * 64 + bank) f } }

/-- A pane and who wrote it last. -/
def BankUnit.paneOf (u : BankUnit) (p : Nat) : SMap Cell64 := if p = 0 then u.paneA else u.paneB
def BankUnit.paneOwner (u : BankUnit) (p : Nat) : Option Nat := if p = 0 then u.issuerA else u.issuerB
/-- Replaces a pane. -/
def BankUnit.putPane (u : BankUnit) (p : Nat) (c : SMap Cell64) (o : Option Nat) : BankUnit :=
  if p = 0 then { u with paneA := c, issuerA := o } else { u with paneB := c, issuerB := o }
/-- The entries of a statistic register and who wrote it last. -/
def BankUnit.stat (u : BankUnit) (s j : Nat) : Cell64 := SMap.get {} u.stats (s * 32 + j)
def BankUnit.statOwner (u : BankUnit) (s : Nat) : Option Nat := nth none u.statIssuer s
def BankUnit.statWords (u : BankUnit) (s : Nat) : List Word32 :=
  (List.range 32).map (fun j => BitVec.ofNat 32 (leNat (u.stat s j).bytes))

/-- Writes a whole statistic register: 32 entries with their poison flags. -/
def BankUnit.putStat (u : BankUnit) (s : Nat) (vs : List Word32) (poison : Nat → Bool) (o : Nat) : BankUnit :=
  let put (acc : SMap Cell64) (j : Nat) : SMap Cell64 :=
    SMap.set {} acc (s * 32 + j) { bytes := leBytes 4 (nth 0 vs j).toNat, valid := true, poison := poison j }
  { u with stats := (List.range 32).foldl put u.stats, statIssuer := setNth u.statIssuer s (some o) }

/-- A statistic register becomes invalid. -/
def BankUnit.dropStat (u : BankUnit) (s : Nat) : BankUnit :=
  { u with stats := u.stats.filter (fun p => p.1 / 32 != s), statIssuer := setNth u.statIssuer s none }

/-- Writes pane sectors from `o` on. Another issuer's content is gone (R93). -/
def BankUnit.writePane (u : BankUnit) (p o : Nat) (bytes : List Byte) (poison : Bool) (issuer : Nat) : BankUnit :=
  let base := if u.paneOwner p = some issuer then u.paneOf p else []
  let put (acc : SMap Cell64) (i : Nat) : SMap Cell64 :=
    SMap.set {} acc (o + i) { bytes := (bytes.drop (64 * i)).take 64, valid := true, poison := poison }
  u.putPane p ((List.range (bytes.length / 64)).foldl put base) (some issuer)

/-- Bytes of a pane. A sector that its owner has not written yet is a free value. -/
def Module.paneBytes (m : Module) (u : BankUnit) (p : Nat) : List Byte :=
  (List.range 32).flatMap (fun i =>
    let c : Cell64 := SMap.get {} (u.paneOf p) i
    if c.valid then c.bytes else (List.range 64).map (fun j => Config.freeByte (m.free * 2 ^ 20 + i * 64 + j)))
/-- Sectors of a pane that are poisoned. -/
def BankUnit.panePoison (u : BankUnit) (p i : Nat) : Bool := (SMap.get {} (u.paneOf p) i).poison

/-! ## Elements and operands (R97, R101) -/

/-- Elements of a row's bytes, widened to FP32, subnormals read as zero. -/
def bkElems (f32 : Bool) (bs : List Byte) : List Word32 :=
  if f32 then (List.range 512).map (fun e => flush32 (BitVec.ofNat 32 (getLe bs (4 * e) 4)))
  else (List.range 1024).map (fun e => flush32 (wide (getLe bs (2 * e) 2)))

/-- Results as a row's bytes: rounded once to the format, subnormals written as zero. -/
def bkBytes (f32 : Bool) (vs : List Word32) : List Byte :=
  if f32 then vs.flatMap (fun v => leBytes 4 (flush32 v).toNat) else vs.flatMap (fun v => leBytes 2 (flushBf (toBf v)))

/-- What an operand select offers: nothing, a scalar, a pane's elements or a statistic register's entries. -/
inductive Operand where
  | none
  | scalar (w : Word32)
  | pane (p : Nat) (es : List Word32)
  | stat (s : Nat) (es : List Word32)
deriving DecidableEq, Repr

/-- Reads an operand (R97). -/
def Module.operand (m : Module) (u : BankUnit) (f32 : Bool) (sel scalar : Nat) : Operand :=
  if sel = 0 then .none
  else if sel = 1 then .scalar (flush32 (BitVec.ofNat 32 scalar))
  else if sel < 4 then .pane (sel - 2) (bkElems f32 (m.paneBytes u (sel - 2)))
  else .stat (sel - 4) ((u.statWords (sel - 4)).map flush32)

/-- The operand's value at an element; `dflt` stands for none (R97). -/
def Operand.at (x : Operand) (segElems e : Nat) (dflt : Word32) : Word32 :=
  match x with
  | .none => dflt
  | .scalar w => w
  | .pane _ es => nth 0 es e
  | .stat _ es => nth 0 es (e / segElems)

/-- Where an operand's poison reaches segment `j` of `n` (R123). -/
def Operand.poisonAt (x : Operand) (u : BankUnit) (n j : Nat) : Bool :=
  match x with
  | .none => false
  | .scalar _ => false
  | .pane p _ => (List.range (32 / n)).any (fun i => u.panePoison p (j * (32 / n) + i))
  | .stat s _ => (u.stat s j).poison

/-! ## Row functions (R99) -/

/-- One element: whether the format is BF16, code, x, B, C. -/
def rowFn (bf : Bool) (fn : Nat) (x b c : Word32) : Word32 :=
  match fn with
  | 0x01 => fadd x b
  | 0x02 => fmul x b
  | 0x03 => fma x b c
  | 0x04 => fmax x b
  | 0x05 => fmin x b
  | 0x06 => fmin (fmax x b) c
  | 0x07 => exp2Of bf (fmul (fsub x b) c)
  | 0x08 => exp2Of bf (fmul (fsub x b) c)
  | 0x09 => fma (log2Of bf x) b c
  | _ => fmul (fsub x b) c

/-- What select code 0 stands for in B and in C (R97). -/
def dfltB (fn : Nat) : Word32 := if fn = 2 ∨ fn = 3 ∨ fn = 9 then one32 else 0
def dfltC (fn : Nat) : Word32 := if fn = 7 ∨ fn = 8 ∨ fn = 0xA then one32 else 0

/-- Segment `j` of a row's elements. -/
def segment (es : List Word32) (n j : Nat) : List Word32 := (es.drop (n * j)).take n

/-- Sums of the segments (R101). The tag tells the trees of BF16 and FP32 lanes, of sums and of squares apart. -/
def segSums (r : BkRec) (es : List Word32) : List Word32 :=
  (List.range r.segs).map (fun j => flush32 (sum32 (if r.f32 then 1 else 0) false (segment es r.segElems j)))
def segSquares (r : BkRec) (es : List Word32) : List Word32 :=
  (List.range r.segs).map (fun j =>
    flush32 (sum32 (if r.f32 then 3 else 2) true (segment es r.segElems j)))
/-- Maxima of the segments. -/
def segMaxes (r : BkRec) (es : List Word32) : List Word32 :=
  (List.range r.segs).map (fun j => match segment es r.segElems j with
    | [] => 0
    | x :: xs => flush32 (xs.foldl fmax x))

/-- Results of the functions 0x01 to 0x0A, element by element (R99). -/
def rowResults (r : BkRec) (b c : Operand) (pa pb es : List Word32) : List Word32 :=
  (es.zip (List.range es.length)).map (fun p =>
    let e := p.2
    let v := rowFn (!r.f32) r.fn p.1 (b.at r.segElems e (dfltB r.fn)) (c.at r.segElems e (dfltC r.fn))
    let v1 := if r.gamma then fmul v (nth 0 pa e) else v
    if r.beta then fadd v1 (nth 0 pb e) else v1)

/-- A row written by a bank-op (R100, R123); poisoned ones are counted. -/
def Module.bkWrite (m : Module) (site row : Nat) (data : List Byte) (poison : Bool) : Module × Nat :=
  (m.writeRow site row data poison 0x0F, b2n poison)

/-- An element rounded for CVT_TO (R104, R225). -/
def bkRnd (r : BkRec) (site bank row e : Nat) : Rnd :=
  if r.stoch then .stoch (stochU r.sc (site * 2 ^ 28 + bank * 2 ^ 22 + row * 2 ^ 10 + e)) else .near

/-- The bank whose unit serves a row: the bank itself, or the donor bank of a retired bank's row (R76, R125). -/
def Module.unitBank (m : Module) (site bank row : Nat) : Nat :=
  if (m.slice site).retiredBank = some bank then donorBank bank row else bank

/-- One row function in one bank on row index `row`; also how many rows it wrote with poison. `hurt`: a pane or a statistic it read
had a parity error, and everything it writes is poisoned (R124). -/
def Module.rowStep (m : Module) (r : BkRec) (issuer site bank row : Nat) (hurt : Bool) : Module × Nat :=
  let ub := m.unitBank site bank row
  let u := m.unit site ub
  let ri := row * 64 + bank
  let xb := m.stored site ri 0 2048
  let xp := (m.rowMeta site ri).poison
  let m := { m with free := m.free + 1 }
  let es := bkElems r.f32 xb
  let b := m.operand u r.f32 r.b r.sb
  let c := m.operand u r.f32 r.c r.sc
  let inSeg (j : Nat) : Bool :=
    decide (j < r.segs) && (hurt || xp || b.poisonAt u r.segs j || c.poisonAt u r.segs j)
  let anySeg : Bool := hurt || (List.range r.segs).any inSeg ||
    (r.gamma && (List.range 32).any (u.panePoison 0)) || (r.beta && (List.range 32).any (u.panePoison 1))
  let region (i : Nat) : Bool := decide (r.o ≤ i ∧ i < r.o + r.packed / 64)
  let put (m : Module) (s : Nat) (vs : List Word32) (p : Nat → Bool) : Module :=
    m.updUnit site ub (fun u => u.putStat s vs p issuer)
  if r.fn ≤ 0x0A then
    let data := bkBytes r.f32 (rowResults r b c (bkElems r.f32 (m.paneBytes u 0)) (bkElems r.f32 (m.paneBytes u 1)) es)
    let w := m.bkWrite site ri data anySeg
    if r.fn = 0x08 then (put w.1 r.d (segSums r (bkElems r.f32 data)) inSeg, w.2) else w
  else match r.fn with
    | 0x10 => (put m r.d (segSums r es) inSeg, 0)
    | 0x11 => (put m r.d (segMaxes r es) inSeg, 0)
    | 0x12 => (put m r.d (segSquares r es) inSeg, 0)
    | 0x13 => (put (put m r.d (segSums r es) inSeg) (r.d + 1) (segSquares r es) inSeg, 0)
    | 0x20 =>
      let data := padRow (encodeAny (bkFormat r.conv) (bkRnd r site bank row) (es.map f32))
      (m.updUnit site ub (fun u => u.writePane r.pane r.o data xp issuer), 0)
    | 0x21 =>
      let vs := decodeAny (bkFormat r.conv) r.elems ((m.paneBytes u r.pane).drop (64 * r.o))
      m.bkWrite site ri (bkBytes r.f32 (vs.map to32)) (hurt || (List.range 32).any (fun i => region i && u.panePoison r.pane i))
    | 0x22 => (m.updUnit site ub (fun u => u.writePane r.pane 0 xb xp issuer), 0)
    | 0x23 => m.bkWrite site ri (m.paneBytes u r.pane) (hurt || (List.range 32).any (u.panePoison r.pane))
    | 0x24 =>
      let vs := (List.range 32).map (fun j => flush32 (to32 (f32 (BitVec.ofNat 32 (getLe xb (64 * r.o + 4 * j) 4)))))
      (put m r.d vs (fun _ => xp), 0)
    | 0x25 =>
      let data := overlay xb (64 * r.o) ((u.statWords r.a).flatMap (fun v => leBytes 4 v.toNat))
      m.bkWrite site ri data (hurt || xp || (List.range 32).any (fun j => (u.stat r.a j).poison))
    | 0x30 => m.bkWrite site ri ((List.replicate 512 (leBytes 4 r.sb)).flatten) false
    | _ => m.bkWrite site ri (List.replicate 2048 0) false

/-! ## Statistic functions (R105) -/

/-- One entry of the statistic arithmetic. -/
def statFn (fn : Nat) (s b c : Word32) : Word32 :=
  match fn with
  | 0x01 => fma s b c
  | 0x02 => fnma s b c
  | 0x03 => rsqrtOf (fma s b c)
  | 0x04 => recipOf (fma s b c)
  | _ => slog2Of (fma s b c)

/-- SFMA to SLOG2 in one bank; `hurt` as in a row step. -/
def Module.statStep (m : Module) (r : BkRec) (issuer site bank : Nat) (hurt : Bool) : Module :=
  let u := m.unit site bank
  let b := m.operand u true r.b r.sb
  let c := m.operand u true r.c r.sc
  let vs := ((u.statWords r.a).zip (List.range 32)).map (fun p =>
    flush32 (statFn r.fn (flush32 p.1) (b.at 1 p.2 one32) (c.at 1 p.2 0)))
  let p (j : Nat) : Bool := hurt || (u.stat r.a j).poison || b.poisonAt u 32 j || c.poisonAt u 32 j
  m.updUnit site bank (fun u => u.putStat r.d vs p issuer)

/-- One group of a combine: the entries of its working banks together, written in each of them; a failed bank poisons the
group's entries, whose values then are free (R105, R125); a parity error in an entry of a bank of `par` poisons the group's too. -/
def Module.combineGroup (m : Module) (r : BkRec) (issuer site base : Nat) (par : List Nat) : Module :=
  let banks := (List.range (2 ^ r.g)).map (fun j => base + j)
  let failed := (m.slice site).failedUnits
  let live := banks.filter (fun b => !(b ∈ failed))
  let hurt := decide (live.length < banks.length)
  let entry (j : Nat) : Word32 :=
    let vs := live.map (fun b => flush32 (nth 0 ((m.unit site b).statWords r.a) j))
    if hurt then Config.hurtSum vs
    else if r.fn = 0x10 then flush32 (combineSum vs)
    else match vs with
      | [] => 0
      | x :: xs => xs.foldl fmax x
  let p (j : Nat) : Bool := hurt || live.any (fun b => decide (b ∈ par) || ((m.unit site b).stat r.a j).poison)
  let vs := (List.range 32).map entry
  live.foldl (fun acc b => acc.updUnit site b (fun u => u.putStat r.d vs p issuer)) m

/-- A combine at a slice. -/
def Module.combineStep (m : Module) (r : BkRec) (issuer site : Nat) (par : List Nat) : Module :=
  (((List.range (64 / 2 ^ r.g)).map (· * 2 ^ r.g)).filter (fun b => bitOf r.banks b)).foldl
    (fun acc b => acc.combineGroup r issuer site b par) m

/-! ## What a step may use (R93, R117, R126) -/

def bkCombine (r : BkRec) : Bool := !r.row && decide (0x10 ≤ r.fn)

/-- Panes and statistic registers a record reads. -/
def BkRec.panesRead (r : BkRec) : List Nat :=
  [0, 1].filter (fun p => r.b == p + 2 || r.c == p + 2 || (p == 0 && r.gamma) || (p == 1 && r.beta) ||
    (r.row && (r.fn == 0x21 || r.fn == 0x23) && r.pane == p))
def BkRec.statsRead (r : BkRec) : List Nat :=
  (List.range 4).filter (fun s => r.b == s + 4 || r.c == s + 4 || ((!r.row || r.fn == 0x25) && r.a == s))

/-- The unit that serves the row has failed (R125). -/
def Module.unitFailed (m : Module) (site bank row : Nat) : Bool := decide (m.unitBank site bank row ∈ (m.slice site).failedUnits)

/-- Skipped in a step: a row whose unit has failed, a row of a retired page, a row index from 3,968 to 4,031 where a bank is retired
(R72, R76, R125). -/
def Module.rowSkipped (m : Module) (site bank row : Nat) : Bool :=
  m.unitFailed site bank row || m.rowRetired site (row * 64 + bank) || ((m.slice site).retiredBank.isSome && decide (3968 ≤ row))

/-- A row step at a slice whose retired bank it selects runs in two parts (R76). -/
def Module.twoParts (m : Module) (r : BkRec) (site : Nat) : Bool :=
  r.row && (match (m.slice site).retiredBank with
    | some p => bitOf r.banks p
    | none => false)

/-- The banks that take part in the first or the second part of a step: the second works on the relocated rows. -/
def Module.stepBanks (m : Module) (r : BkRec) (site row : Nat) (second : Bool) : List Nat :=
  r.bankList.filter (fun b =>
    if r.row then !m.rowSkipped site b row && (((m.slice site).retiredBank == some b) == second)
    else !(b ∈ (m.slice site).failedUnits))

/-- The units that take part in a step, both parts together: as bank and unit. -/
def Module.stepUnits (m : Module) (r : BkRec) (site row : Nat) : List (Nat × Nat) :=
  (m.stepBanks r site row false ++ (if m.twoParts r site then m.stepBanks r site row true else [])).map
    (fun b => (b, if r.row then m.unitBank site b row else b))

/-- Every pane and statistic register the step reads belongs to the issuer (R93). -/
def Module.stateOk (m : Module) (r : BkRec) (issuer site row : Nat) : Bool :=
  (m.stepUnits r site row).all (fun b =>
    let u := m.unit site b.2
    r.panesRead.all (fun p => u.paneOwner p == some issuer) && r.statsRead.all (fun s => u.statOwner s == some issuer))

/-- A layer group in Cold, Hot or Over holds a step (R117). -/
def Module.bandHolds (m : Module) (g : Nat) : Bool := let k := m.band g; k == 0 || k == 3 || k == 4

/-- The layer groups of the rows a step opens, or of the banks a combine selects, hold it (R117). -/
def Module.stepHeld (m : Module) (r : BkRec) (site row : Nat) : Bool :=
  if r.row then r.bankList.any (fun b => m.bandHolds (m.rowGroup site (row * 64 + b)))
  else bkCombine r && r.bankList.any (fun b => m.bandHolds (groupOf site (rowOffset b 0)))

/-! ## Sequences at a slice (R107 to R109) -/

/-- A sequence's record. -/
def Module.seqOf (m : Module) (id : Nat) : Option BankSeq := m.mem.seqs.find? (fun q => q.id == id)
/-- Changes a sequence. -/
def Module.updSeq (m : Module) (id : Nat) (f : BankSeq → BankSeq) : Module :=
  { m with mem := { m.mem with seqs := modFirst (fun q => q.id == id) f m.mem.seqs } }

/-- Panes and statistic registers a record writes become invalid at a slice where they still belong to its issuer (R93,
R127). -/
def Module.spoil (m : Module) (r : BkRec) (issuer site : Nat) : Module :=
  let panes : List Nat := if r.row && (r.fn == 0x20 || r.fn == 0x22) then [r.pane] else []
  let stats : List Nat :=
    if !r.row || decide (r.fn = 0x08 ∨ (0x10 ≤ r.fn ∧ r.fn ≤ 0x12) ∨ r.fn = 0x24) then [r.d]
    else if r.fn = 0x13 then [r.d, r.d + 1] else []
  let dropP (u : BankUnit) (p : Nat) : BankUnit := if u.paneOwner p = some issuer then u.putPane p [] none else u
  let dropS (u : BankUnit) (s : Nat) : BankUnit := if u.statOwner s = some issuer then u.dropStat s else u
  r.bankList.foldl (fun acc b => acc.updUnit site b (fun u => stats.foldl dropS (panes.foldl dropP u))) m

/-- A slice is done with a sequence: finished, or stopped early (R107, R128). -/
def Module.leaveSlice (m : Module) (site id steps : Nat) (early : Bool) : Module :=
  let m1 := m.updSlice site (fun s => { s with bankSeqs := s.bankSeqs.filter (fun q => q.id != id) })
  m1.updSeq id (fun b => { b with
    pending := b.pending.erase site, steps := max b.steps steps,
    finished := if early then b.finished else b.finished + 1, stopped := if early then b.stopped + 1 else b.stopped })

/-- The first queued sequence that satisfies `want`, among those with no step running and no earlier unfinished one that shares a
bank (R109). -/
def Module.pick (m : Module) (site : Nat) (want : SliceSeq → BkRec → Bool) : Nat → List SliceSeq → Option (SliceSeq × BankSeq)
  | _, [] => none
  | taken, q :: rest =>
    match m.seqOf q.id with
    | none => m.pick site want taken rest
    | some b =>
      let r := bkRec b.record
      if !q.inStep ∧ taken &&& r.banks = 0 ∧ want q r then some (q, b) else m.pick site want (taken ||| r.banks) rest

/-- The next step may start: its groups do not hold it (R117), a read in a hold slot goes first unless its own bank is still in
mid-step or its group in Over (R114), and none of its banks owes eight refreshes (R116). -/
def Module.mayStart (m : Module) (site : Nat) (q : SliceSeq) (r : BkRec) : Bool :=
  let row := r.first + q.step
  !m.stepHeld r site row &&
  (m.slice site).holdSlots.all (fun w => m.bankBusy site (m.reqBank w.req) || m.rowHalted site (w.req.off / 2048)) &&
  r.bankList.all (fun b =>
    decide (SMap.get 0 (m.slice site).owed (if r.row then m.unitBank site b row else b) < 8))

/-- The bank units of a slice stand still: the column clock of their stack relocks, or the cluster is being reset (R444, R447). -/
def Module.bankStill (m : Module) (site : Nat) : Bool := m.relocking (.stack (stackOfSite site)) || m.sliceResetting site

def Module.startable (m : Module) (site : Nat) : Option (SliceSeq × BankSeq) :=
  if (m.slice site).state = 2 ∨ (m.slice site).selfRefresh ∨ m.bankStill site then none
  else m.pick site (m.mayStart site) 0 (m.slice site).bankSeqs

/-- A step starts: pending content of its rows is written first (R113); a bank state fault stops the sequence everywhere
(R126); a selected failed unit makes it complete with ST_HW_ERROR (R125), a skipped row with ST_OK_PARTIAL. -/
def Module.startStep (m : Module) (site : Nat) (q : SliceSeq) (b : BankSeq) : Module :=
  let r := bkRec b.record
  let row := r.first + q.step
  if !m.stateOk r b.issuer site row then
    { (m.stopSeqs (fun x => x.id == b.id) stBankState) with
      mem := { (m.stopSeqs (fun x => x.id == b.id) stBankState).mem with stateFaults := sat32 m.mem.stateFaults 1 } }
  else
    let rows := if r.row then (m.stepUnits r site row).map (fun k => row * 64 + k.1) else []
    let m1 := rows.foldl (fun acc k => acc.settleRow site k) m
    m1.updSlice site (fun s => { s with
      bankSeqs := modFirst (fun x => x.id == q.id) (fun x => { x with inStep := true, second := false, detours := [] }) s.bankSeqs })

/-- The step of the first sequence that may start. -/
def Module.startNext (m : Module) (site : Nat) : Module :=
  match m.startable site with
  | some (q, b) => m.startStep site q b
  | none => m

/-- A P3 step is ready: one that opens a row, or a combine (R43). -/
def Module.stepReady (m : Module) (site : Nat) : Bool :=
  match m.startable site with
  | some (_, b) => (bkRec b.record).row || bkCombine (bkRec b.record)
  | none => false

/-- The requester field of R82 for a bank-op: the issuing core's site, or the host function with bit 15 set. -/
def BankSeq.requester (b : BankSeq) : Nat :=
  match b.core with
  | some (s, _, _) => s
  | none => 0x8000 + b.issuer % 2 ^ 15

/-- The oldest running step one of whose banks waits for its correction detour (R112). -/
def Module.detourNext (m : Module) (site : Nat) : Option (SliceSeq × BankSeq × Nat × Nat) :=
  match (m.slice site).bankSeqs.find? (fun q => !q.detours.isEmpty) with
  | none => none
  | some q => match m.seqOf q.id, q.detours with
    | some b, d :: _ => some (q, b, d)
    | _, _ => none

/-- The detour of one bank: the row is read, corrected or poisoned, and written back into the bank; the step starts over when every
bank's detour has run (R112). -/
def Module.runDetour (m : Module) (site : Nat) (q : SliceSeq) (b : BankSeq) (bank errs : Nat) : Module :=
  let row := (bkRec b.record).first + q.step
  (m.afterDecodeAs site (row * 64 + bank) errs 3 b.requester true).updSlice site (fun s => { s with
    bankSeqs := modFirst (fun x => x.id == q.id) (fun x => { x with detours := x.detours.drop 1 }) s.bankSeqs })

/-- What P3 has ready: a correction detour, a step (R43, R112). -/
def Module.p3Ready (m : Module) (site : Nat) : Bool := (m.detourNext site).isSome || m.stepReady site
/-- P3's transaction moves data: a detour, or a combine; a step that opens rows uses the command lines alone (R110). -/
def Module.p3Data (m : Module) (site : Nat) : Bool :=
  (m.detourNext site).isSome || (match m.startable site with
    | some (_, b) => bkCombine (bkRec b.record)
    | none => false)
/-- Runs what P3 has ready. -/
def Module.runP3 (m : Module) (site : Nat) : Module :=
  match m.detourNext site with
  | some (q, b, bank, errs) => m.runDetour site q b bank errs
  | none => m.startNext site

/-! ## Grants (R43, R44) -/

/-- COLUMN_TRANSACTION_GRANT (R44): one grant of the slice's arbiter. -/
def doColumnTransactionGrant (site parityFails bitErrs : Nat) (m : Module) : Module :=
  m.grant site parityFails bitErrs (m.p3Ready site) (m.p3Data site) (fun x => x.runP3 site)
def execColumnTransactionGrant (site parityFails bitErrs : Nat) (s : State) : Host.Outcome State Fault Refusal :=
  onModule (siteOk site) (doColumnTransactionGrant site parityFails bitErrs) s

/-- A transaction asks for its grant: it runs if the arbiter would now choose its class, and the class this transaction; else it
waits for a later grant. -/
def Module.grantOnly (m : Module) (site parityFails errs k : Nat) (mine : Option Trans1 → Bool) : Module :=
  let mask := m.waitingMask site (m.p3Ready site)
  if m.noGrant site ∨ (m.slice site).choose mask ≠ some k ∨ (k ≠ 3 ∧ !mine (m.nextOf site k)) then m
  else m.runClass site parityFails errs k mask (m.p3Data site) (fun x => x.runP3 site)

/-- The write of a write-hold slot, the scrub read of the pass. -/
def isDrain : Option Trans1 → Bool
  | some (.drain _) => true
  | _ => false
def isPass : Option Trans1 → Bool
  | some (.scrub _) => true
  | _ => false

/-- Up to `n` slots whose rows have left write hold are written in slot order, while the arbiter grants them P2 (R44, R61); `errs`
gives the bit errors that the reads of partly written rows find. -/
def Module.drainHeld (site : Nat) (errs : List (Nat × Nat)) : Nat → Nat → Module → Module
  | 0, _, m => m
  | n + 1, parityFails, m =>
    match m.nextOf site 2 with
    | some (.drain r) =>
      let e := match errs.find? (fun e => e.1 == r) with | some e => e.2 | none => 0
      Module.drainHeld site errs n 0 (m.grantOnly site parityFails e 2 isDrain)
    | _ => m

/-- WRITE_HOLD_DRAIN: the queued rows whose groups have left write hold are written at P2 in slot order (R61). -/
def doWriteHoldDrain (site parityFails : Nat) (errs : List (Nat × Nat)) (m : Module) : Module :=
  (Module.drainHeld site errs 64 parityFails m).reaccept site
def execWriteHoldDrain (site parityFails : Nat) (errs : List (Nat × Nat)) (s : State) : Host.Outcome State Fault Refusal :=
  onModule (siteOk site) (doWriteHoldDrain site parityFails errs) s

/-- SCRUB_ROW_VISIT: the pass reaches its next row (R70, R71). A row it does not read is passed over, a held one to be visited again;
any other is read at P4, now or at a later grant. -/
def doScrubRowVisit (site parityFails bitErrs : Nat) (m : Module) : Module :=
  if (m.slice site).state = 2 ∨ (m.slice site).selfRefresh ∨ !m.scrubOn then m
  else match m.scrubNext site with
    | none => m
    | some r =>
      if m.scrubSkips site r then m.scrubPassed site r (m.rowHeld site r && !m.rowRetired site r && !m.rowDonated site r)
      else (m.updSlice site (fun s => { s with scrubDue := true })).grantOnly site parityFails bitErrs 4 isPass
def execScrubRowVisit (site parityFails bitErrs : Nat) (s : State) : Host.Outcome State Fault Refusal :=
  onModule (siteOk site) (doScrubRowVisit site parityFails bitErrs) s

/-- BANKOP_STEP_START (R110): a step that opens rows or combines starts if the arbiter grants P3; statistic arithmetic starts
without a grant. -/
def doBankopStepStart (site parityFails : Nat) (m : Module) : Module :=
  if m.stepReady site then m.grantOnly site parityFails 0 3 (fun _ => true) else m.startNext site
def execBankopStepStart (site parityFails : Nat) (s : State) : Host.Outcome State Fault Refusal :=
  onModule (siteOk site) (doBankopStepStart site parityFails) s

/-! ## The end of a step -/

/-- Functions that read panes or statistics: a parity error there reaches their results (R124). -/
def BkRec.readsUnit (r : BkRec) : Bool := !r.panesRead.isEmpty || !r.statsRead.isEmpty

/-- What one part of a step computes at one slice, and how many rows it wrote with poison; `par` are the banks whose unit found a
parity error in a pane or statistic register the step read. -/
def Module.stepEffect (m : Module) (r : BkRec) (issuer site row : Nat) (second : Bool) (par : List Nat) : Module × Nat :=
  let hurt (b : Nat) : Bool := r.readsUnit && decide (b ∈ par)
  if r.row then
    (m.stepBanks r site row second).foldl (fun (acc : Module × Nat) b =>
      let x := acc.1.rowStep r issuer site b row (hurt (m.unitBank site b row))
      (x.1, acc.2 + x.2)) (m, 0)
  else if bkCombine r then (m.combineStep r issuer site par, 0)
  else ((m.stepBanks r site row false).foldl (fun acc b => acc.statStep r issuer site b (hurt b)) m, 0)

/-- A parity error in a pane or statistic register is logged once for each unit that the step read it in (R124). -/
def Module.logParity (m : Module) (r : BkRec) (b : BankSeq) (site row : Nat) (second : Bool) (par : List Nat) : Module :=
  let units := (m.stepBanks r site row second).map (fun k => (k, if r.row then m.unitBank site k row else k))
  (units.filter (fun u => r.readsUnit && decide (u.2 ∈ par))).foldl
    (fun acc u => acc.memEntry 0x11 site (rowOffset u.2 row) 0 3 0 b.requester) m

/-- Outcomes of a step that colour the completion (R126). -/
def Module.stepStatus (m : Module) (r : BkRec) (site row : Nat) : Nat :=
  if r.bankList.any (fun b => if r.row then m.unitFailed site b row else decide (b ∈ (m.slice site).failedUnits)) then stHwError
  else if r.row ∧ r.bankList.any (fun b => m.rowSkipped site b row) then stPartial
  else stOk

/-- The running step of a sequence ends: its results stand, and the sequence goes on, ends or stops (R107, R127). -/
def Module.endStep (m : Module) (site : Nat) (q : SliceSeq) (b : BankSeq) : Module :=
  let r := bkRec b.record
  let row := r.first + q.step
  let skipped := if r.row then countOf (fun k => m.rowSkipped site k row) r.bankList else 0
  let st := m.stepStatus r site row
  let m1 := { m with mem := { m.mem with bkSteps := sat64 m.mem.bkSteps 1 } }
  let m2 := (m1.updSeq b.id (fun x => { x with
    skipped := x.skipped + skipped, status := if x.stop then x.status else worst x.status st })).updSlice site
    (fun s => { s with stepEndAt := m.time })
  if b.stop then m2.leaveSlice site b.id (q.step + 1) true
  else if q.step + 1 = r.count then m2.leaveSlice site b.id (q.step + 1) false
  else m2.updSlice site (fun s => { s with
    bankSeqs := modFirst (fun x => x.id == q.id) (fun x => { x with inStep := false, second := false, step := x.step + 1 }) s.bankSeqs })

/-- A part of the running step ends: its results stand; after the first of two parts the second runs (R76), else the step ends. -/
def Module.endPart (m : Module) (site : Nat) (q : SliceSeq) (b : BankSeq) (par : List Nat) : Module :=
  let r := bkRec b.record
  let row := r.first + q.step
  let e := (m.logParity r b site row q.second par).stepEffect r b.issuer site row q.second par
  let m1 := e.1.updSeq b.id (fun x => { x with poisoned := x.poisoned + e.2 })
  if m.twoParts r site ∧ !q.second then
    m1.updSlice site (fun s => { s with
      bankSeqs := modFirst (fun x => x.id == q.id) (fun x => { x with second := true }) s.bankSeqs })
  else m1.endStep site q b

/-- BANKOP_STEP_END (R110): the oldest running step that waits for no detour ends, or its first part; waiting writes move up, and
the arbiter serves the hold slots first (R114). -/
def doBankopStepEnd (site : Nat) (parityBanks : List Nat) (m : Module) : Module :=
  if m.bankStill site then m
  else match (m.slice site).bankSeqs.find? (fun q => q.inStep && q.detours.isEmpty) with
  | none => m
  | some q => match m.seqOf q.id with
    | none => m
    | some b => (m.endPart site q b parityBanks).reaccept site
def execBankopStepEnd (site : Nat) (parityBanks : List Nat) (s : State) : Host.Outcome State Fault Refusal :=
  onModule (siteOk site) (doBankopStepEnd site parityBanks) s

/-- Functions whose step reads the row (R110). -/
def bkReads (r : BkRec) : Bool := r.row && !decide (r.fn ∈ [0x21, 0x23, 0x30, 0x31])

/-- The running step that the bank's unit works in, and the bank of the record it works for: the bank itself, or the retired one in
the second part. -/
def Module.stepIn (m : Module) (site bank : Nat) : Option (SliceSeq × BankSeq × Nat) :=
  let works (q : SliceSeq) (b : BankSeq) : Bool :=
    b.id == q.id && (if getLe b.record 0 1 = 0x50 then m.stepOpens site q b bank else bitOf (getLe b.record 8 8) bank)
  match (m.slice site).bankSeqs.find? (fun q => q.inStep && m.mem.seqs.any (works q)) with
  | some q => (m.seqOf q.id).map (fun b => (q, b, if q.second then ((m.slice site).retiredBank).getD bank else bank))
  | none => none

/-- CORRECTION_DETOUR (R112): a unit finds a non-zero syndrome in the row it has opened; the step is abandoned, and the detour runs on
its own P3 grant, now or later. -/
def doCorrectionDetour (site bank parityFails bitErrs : Nat) (m : Module) : Module :=
  match m.stepIn site bank with
  | none => m
  | some (q, b, k) =>
    let r := bkRec b.record
    if bkReads r ∧ !m.rowSkipped site k (r.first + q.step) then
      (m.updSlice site (fun s => { s with
        bankSeqs := modFirst (fun x => x.id == q.id) (fun x => { x with detours := x.detours ++ [(k, bitErrs)] }) s.bankSeqs })).grantOnly
        site parityFails bitErrs 3 (fun _ => true)
    else m
def execCorrectionDetour (site bank parityFails bitErrs : Nat) (s : State) : Host.Outcome State Fault Refusal :=
  onModule (siteOk site && decide (bank < 64)) (doCorrectionDetour site bank parityFails bitErrs) s

/-- Sequences whose next step its groups hold, in turn or not: those no earlier unfinished one shares a bank with (R109, R117). -/
def Module.heldSeqs (m : Module) (site : Nat) : Nat → List SliceSeq → List Nat
  | _, [] => []
  | taken, q :: rest =>
    match m.seqOf q.id with
    | none => m.heldSeqs site taken rest
    | some b =>
      let r := bkRec b.record
      let here := !q.inStep && taken &&& r.banks == 0 && m.stepHeld r site (r.first + q.step)
      (if here then [q.id] else []) ++ m.heldSeqs site (taken ||| r.banks) rest

/-- A microsecond of waiting is counted for every sequence that its groups hold (R117). -/
def Module.countHolds (m : Module) : Module :=
  let one (p : Nat × Slice) : Nat × Slice :=
    if p.2.bankSeqs.isEmpty then p
    else
      let ids := m.heldSeqs p.1 0 p.2.bankSeqs
      (p.1, { p.2 with bankSeqs := p.2.bankSeqs.map (fun q => if q.id ∈ ids then { q with held := q.held + 1 } else q) })
  { m with mem := { m.mem with slices := m.mem.slices.map one } }

/-- A held sequence that has waited its limit in all at a slice abandons what is left there (R117). -/
def Module.holdLimit (m : Module) (site : Nat) (id : Nat) : Module :=
  match (m.slice site).bankSeqs.find? (fun q => q.id == id), m.seqOf id with
  | some q, some b =>
    if b.holdLimit * 1000 ≤ q.held then
      (m.updSeq id (fun x => { x with status := if x.stop then x.status else worst x.status stThermalHold })).leaveSlice site id q.step true
    else m
  | _, _ => m

/-- BANKOP_HOLD_LIMIT (R117): every held sequence that has waited its limit, 10 ms or what MEM.BANKOP set, ends at the slice. -/
def doBankopHoldLimit (site : Nat) (m : Module) : Module :=
  (m.heldSeqs site 0 (m.slice site).bankSeqs).foldl (fun acc id => acc.holdLimit site id) m
def execBankopHoldLimit (site : Nat) (s : State) : Host.Outcome State Fault Refusal :=
  onModule (siteOk site) (doBankopHoldLimit site) s

/-- BANK_UNIT_TIMEOUT (R124, R125): the unit of a bank in mid-step has failed. -/
def doBankUnitTimeout (site bank : Nat) (m : Module) : Module :=
  match m.stepIn site bank with
  | none => m
  | some (q, b, _) =>
    if bank ∈ (m.slice site).failedUnits then m
    else
      let r := bkRec b.record
      let m1 := m.updSlice site (fun s => { s with failedUnits := s.failedUnits ++ [bank] })
      let m2 := { m1 with mem := { m1.mem with failedCount := m1.mem.failedCount + 1 } }
      (m2.memEntry 0x10 site (rowOffset bank (r.first + q.step)) 0 3 0 b.requester).recordUnit .bankUnit (bank * 65536 + site) 0 0x10
def execBankUnitTimeout (site bank : Nat) (s : State) : Host.Outcome State Fault Refusal :=
  onModule (siteOk site && decide (bank < 64)) (doBankUnitTimeout site bank) s

/-! ## Issue and delivery (R106, R108) -/

/-- The slices a bank-op runs on: usable ones in scope, orphans included. -/
def Module.bkTargets (m : Module) (scope part target : Nat) : List Nat :=
  let usable (s : Nat) : Bool := (m.slice s).state != 2
  if scope = 0 then [target].filter usable
  else if scope = 1 then (sitesOf target).filter usable
  else if scope = 2 then
    (allClusters.filter (fun c => (m.cl c).owner == some part)).flatMap (fun c => (sitesOf c).filter usable)
  else (clustersOf target).flatMap (fun c => (sitesOf c).filter usable)

/-- The sequence joins the queues of slices; it wakes Shuttered clusters (R421). -/
def Module.enqueue (m : Module) (id : Nat) (sites : List Nat) : Module :=
  sites.foldl (fun acc s =>
    (acc.wakeSlice (clusterOf s)).updSlice s (fun x => { x with bankSeqs := x.bankSeqs ++ [{ id := id, step := 0, inStep := false }] })) m

/-- A record is issued: directly to its own slice, or through the transom of each deck in scope (R106, R108); the issuer's deck
has it at once (for a command, the lowest deck in scope), the others get it over the network (R327), in the order one issuer
issued them (R109). During a coolant stop it
runs no step (R388). -/
def Module.issueBank (m : Module) (part issuer : Nat) (core : Option (Nat × Nat × Nat)) (cmd : Option Nat)
    (record : List Byte) (target holdLimit : Nat) : Module :=
  let scope := (bkRec record).scope
  let ts := m.bkTargets scope part target
  let id := m.mem.nextSeq
  let halt := m.thermal.stop
  let decks := (List.range Config.decks).filter (fun d => ts.any (fun s => deckOf (clusterOf s) == d))
  let b : BankSeq :=
    { id := id, part := part, issuer := issuer, core := core, cmd := cmd, record := record, targets := ts,
      pending := if halt then [] else ts, undelivered := if scope = 0 ∨ halt then [] else decks, stop := halt,
      status := if halt then stThermalHold else stOk, finished := 0, stopped := if halt then ts.length else 0,
      steps := 0, skipped := 0, poisoned := 0, holdLimit := holdLimit }
  let m1 := { m with mem := { m.mem with seqs := m.mem.seqs ++ [b], nextSeq := id + 1 } }
  if halt then m1
  else if scope = 0 then m1.enqueue id ts
  else
    let home (d : Nat) : Bool := match core with | some (s, _) => d == deckOf (clusterOf s) | none => some d == decks.head?
    let behind (d : Nat) : Bool := (SMap.get [] m.net.transom d).any (fun i => m.mem.seqs.any (fun b => b.id == i && b.issuer == issuer))
    let direct (d : Nat) : Bool := home d && !behind d
    let put (t : SMap (List Nat)) (ds : List Nat) : SMap (List Nat) := ds.foldl (fun t d => SMap.upd [] t d (· ++ [id])) t
    { m1 with
      mem := { m1.mem with transom := put m1.mem.transom (decks.filter direct) },
      net := { m1.net with transom := put m1.net.transom (decks.filter (fun d => !direct d)) } }

/-- An earlier broadcast of the same issuer has yet to reach the slice: a bank-op to that slice alone would overtake it (R109). -/
def Module.behindBroadcast (m : Module) (issuer site : Nat) : Bool :=
  m.mem.seqs.any (fun b => b.issuer == issuer && decide (site ∈ b.pending) && decide (deckOf (clusterOf site) ∈ b.undelivered))

/-- BANKOP_DELIVERY (R108): the oldest broadcast of a deck's transom reaches its slices once each has a free slot; a deck controller
that relocks holds it (R444). -/
def doBankopDelivery (deck : Nat) (m : Module) : Module :=
  match SMap.get [] m.mem.transom deck with
  | [] => m
  | id :: rest =>
    if m.relocking (.deck deck) then m else
    let pop (x : Module) : Module := { x with mem := { x.mem with transom := SMap.set [] x.mem.transom deck rest } }
    match m.seqOf id with
    | none => pop m
    | some b =>
      let ts := b.pending.filter (fun s => deckOf (clusterOf s) == deck)
      if ts.all (fun s => decide ((m.slice s).bankSeqs.length < 8)) then
        ((pop m).enqueue id ts).updSeq id (fun x => { x with undelivered := x.undelivered.filter (· != deck) })
      else m
def execBankopDelivery (deck : Nat) (s : State) : Host.Outcome State Fault Refusal :=
  onModule (decide (deck < Config.decks)) (doBankopDelivery deck) s

/-- What a bank-op's completion does to panes and statistics of a cancelled sequence (R127), and the sequence is gone. -/
def Module.closeSeq (m : Module) (b : BankSeq) : Module :=
  let m1 := if b.status = stCancelled then
      b.targets.foldl (fun acc s => acc.spoil (bkRec b.record) b.issuer s) m
    else m
  { m1 with mem := { m1.mem with seqs := m1.mem.seqs.filter (fun q => q.id != b.id) } }

/-! ## MEM.BANKOP (R128) -/

def specBankop : CmdSpec := { op := 0x29, target := true, fields := [(8, 32), (40, 2), (42, 2)] }

/-- The record in the packet. -/
def bkRecord (c : Cmd) : List Byte := c.params.take 32

/-- The first bad parameter of a MEM.BANKOP: offsets of the record count from 8 (R126, R128). -/
def badBankop (c : Cmd) : Option Nat :=
  let r := bkRec (bkRecord c)
  if getLe c.params 0 1 ≠ 0x50 ∧ getLe c.params 0 1 ≠ 0x51 then some 8
  else if r.event ≠ 0 then some 11
  else match recordBad (bkRecord c) with
    | some o => some (8 + o)
    | none =>
      if r.scope = 0 then some 10
      else if r.scope = 1 ∧ Config.clusters ≤ pField c 40 2 then some 40
      else if r.scope = 2 ∧ pField c 40 2 ≠ 0 then some 40
      else if r.scope = 3 ∧ Config.decks ≤ pField c 40 2 then some 40
      else if 1000 < pField c 42 2 then some 42
      else none

/-- Deck scope and long hold limits need expert rights (R106, R128). -/
def needBankop (c : Cmd) : Option Nat :=
  if (bkRec (bkRecord c)).scope = 3 then some 10 else if 100 < pField c 42 2 then some 42 else none

/-- The bank-op's own checks and its issue (R106, R128). Deck scope is the physical function's: a virtual function that has expert
rights and sets the flag is answered ST_NOT_PERMITTED, a case R126's table does not name. -/
def bodyBankop (c : Cmd) (id : Nat) (m : Module) : Module × Answer :=
  let r := bkRec (bkRecord c)
  let part := cmdPart c
  let target := pField c 40 2
  if r.scope = 3 ∧ c.fn ≠ 0 then (m, .refuse stNotPermitted 0)
  else if r.scope = 1 ∧ (m.cl target).owner ≠ some part then (m, .refuse stNotPermitted 0)
  else if rowsBad (bkRecord c) then (m, .refuse stBadParam 24)
  else if !m.partLive part then (m, .refuse stBusy 0)
  else
    let limit := if pField c 42 2 = 0 then 10 else pField c 42 2
    (m.issueBank part (2 ^ 40 + c.fn) none (some id) (bkRecord c) target limit, .later)

/-- MEM.BANKOP. -/
def doMemBankop (c : Cmd) (m : Module) : Module :=
  runCmd specBankop (badBankop c) (needBankop c) [] none (.memBankop c) c (bodyBankop c) m
def execMemBankop (c : Cmd) (s : State) : Host.Outcome State Fault Refusal := onCmd c (doMemBankop c) s

/-- The completion detail of MEM.BANKOP (R128). -/
def BankSeq.detail (b : BankSeq) : List Byte := d4 b.finished ++ d4 b.stopped ++ d4 b.steps ++ d4 b.poisoned ++ d4 b.skipped

end Sys2Proof.Machine
end

