-- ==== Sys2Proof/Machine/Pads.lean ====
section
/-! DEFINITION. The scratchpad (chapter 7): its windows and folding (R136, R226), reads and writes with parity and poison
(R227, R234, R235), the set and clear aliases (R231 to R233), the background test (R236 to R239). -/

namespace Sys2Proof.Machine

/-! ## Windows (R136, R226, R229) -/

/-- A core's base among device physical addresses; bit 47 marks the scratchpad region (R14). -/
def padAddr (site : Nat) : Nat := 2 ^ 47 + site * 2 ^ 23

/-- Size of a window as a thread sees it (R136). -/
def winSize (split : Bool) : Nat := if split then 2 ^ 20 else 2 ^ 21

/-- The window (0 normal, 1 set, 2 clear) and the offset inside it of a range that lies wholly in one window. -/
def padWin (split : Bool) (off len : Nat) : Option (Nat × Nat) :=
  if off / 2 ^ 21 ≤ 2 ∧ off % 2 ^ 21 + len ≤ winSize split then some (off / 2 ^ 21, off % 2 ^ 21) else none

/-- The physical offset of an offset of thread `t` inside a window (R136). -/
def foldPad (split : Bool) (t f : Nat) : Nat := if split then f / 64 * 128 + t * 64 + f % 64 else f

/-! ## Reads (R234, R235) -/

/-- What a read found: its bytes, the first byte of bad parity, poison. -/
structure PadRead where
  bytes : List Byte
  bad : Option Nat
  poison : Bool
deriving DecidableEq, Repr

/-- Lines that a range touches. -/
def padLines (o n : Nat) : List Nat := if n = 0 then [] else (List.range ((o + n - 1) / 64 + 1 - o / 64)).map (fun i => o / 64 + i)

/-- Reads `n` bytes at an offset inside a window; a read through an alias is a read of the normal window (R232). -/
def Scratch.read (s : Scratch) (fold : Nat → Nat) (o n : Nat) : PadRead :=
  let ps := (List.range n).map (fun i => fold (o + i))
  { bytes := ps.map (fun p => SMap.get 0 s.bytes p),
    bad := if s.badParity.isEmpty then none else ps.find? (fun p => decide (p ∈ s.badParity)),
    poison := !s.poison.isEmpty && (padLines o n).any (fun l => decide (fold (64 * l) / 64 ∈ s.poison)) }

/-! ## Writes (R227, R230 to R233) -/

/-- The line poison after a write: set by poisoned data, cleared by clean data that cover the line, else kept (R227). Words of `bad`
were left unchanged: they neither poison their line nor clean it (R233). -/
def Scratch.markLines (s : Scratch) (fold : Nat → Nat) (o n : Nat) (poison : Bool) (bad : List Nat) : Scratch :=
  let step (p : List Nat) (l : Nat) : List Nat :=
    let k := fold (64 * l) / 64
    let first := max o (64 * l) / 8
    let last := (min (o + n) (64 * l + 64) + 7) / 8
    let words := (List.range (last - first)).map (fun i => fold ((first + i) * 8) / 8)
    if poison then (if words.all (fun w => decide (w ∈ bad)) then p else insertNew k p)
    else if o ≤ 64 * l ∧ 64 * l + 64 ≤ o + n ∧ !words.any (fun w => decide (w ∈ bad)) then p.filter (· != k) else p
  { s with poison := (padLines o n).foldl step s.poison }

/-- Stores bytes one after another, each with good parity. -/
def putPad (fold : Nat → Nat) : SMap Byte → Nat → List Byte → SMap Byte
  | b, _, [] => b
  | b, o, x :: xs => putPad fold (SMap.set 0 b (fold o) x) (o + 1) xs

/-- A word some enabled byte of which has bad parity is left unchanged by an aliased write (R233). -/
def Scratch.badWords (s : Scratch) (fold : Nat → Nat) (o n : Nat) : List Nat :=
  if s.badParity.isEmpty then []
  else ((((List.range n).map (fun i => fold (o + i))).filter (fun p => decide (p ∈ s.badParity))).map (· / 8)).eraseDups

/-- Sets or clears, in each byte, the bits that are 1 in the written data (R231). -/
def aliasPad (fold : Nat → Nat) (set : Bool) (bad : List Nat) : SMap Byte → Nat → List Byte → SMap Byte
  | b, _, [] => b
  | b, o, x :: xs =>
    let p := fold o
    let old : Byte := SMap.get 0 b p
    let v : Byte := if set then old ||| x else old &&& ~~~x
    aliasPad fold set bad (if p / 8 ∈ bad then b else SMap.set 0 b p v) (o + 1) xs

/-- Writes through a window (0 normal, 1 set, 2 clear). -/
def Scratch.write (s : Scratch) (fold : Nat → Nat) (win o : Nat) (bs : List Byte) (poison : Bool) : Scratch :=
  let ps := (List.range bs.length).map (fun i => fold (o + i))
  if win = 0 then
    ({ s with
      bytes := putPad fold s.bytes o bs,
      badParity := if s.badParity.isEmpty then [] else s.badParity.filter (fun p => !(p ∈ ps)) }).markLines fold o bs.length poison []
  else
    let bad := s.badWords fold o bs.length
    ({ s with bytes := aliasPad fold (win == 1) bad s.bytes o bs }).markLines fold o bs.length poison bad

/-- The error entry of a parity failure at a physical offset (R254): the word and its failing bytes, and whether the test's shadow
serves it, as it does still once the core is marked for fencing (R236, R239). -/
def Module.parityEvent (m : Module) (event cls site p requester thread flags source : Nat) : Module :=
  let s := (m.core site).scratch
  let mask := maskOf 8 (fun k => decide (p / 8 * 8 + k ∈ s.badParity))
  let shadow := b2n (s.region == p / 512 && decide (0 < s.phase))
  m.padEvent event cls site (p / 8 * 8) mask requester thread (flags + shadow) source

/-- A write from outside the core: the host, another core, the network (R229). Words of bad parity under an aliased write are
left alone and logged; the issuer is not told (R233). -/
def Module.padExternal (m : Module) (site win o : Nat) (bs : List Byte) (poison : Bool) (requester source : Nat) : Module :=
  let bad := if win = 0 then [] else (m.core site).scratch.badWords id o bs.length
  let m1 := bad.foldl (fun acc w => acc.parityEvent 0x22 0 site (w * 8) requester 0xFF 0 source) m
  m1.updCore site (fun c => { c with scratch := c.scratch.write id win o bs poison })

/-! ## The background test (R236 to R239) -/

/-- The core's clock runs (R382, R420, R444, R593). -/
def Module.clocked (m : Module) (site : Nat) : Bool := m.clockOn (clusterOf site)

/-- A core marked for fencing whose threads hold no work, saved or running, is fenced and recorded (R239). -/
def Module.fenceMarked (m : Module) (site : Nat) : Module :=
  let c := m.core site
  if c.scratch.phase = 100 ∧ c.enabled ∧ c.t0.item.isNone ∧ c.t1.item.isNone ∧ c.saved0.isNone ∧ c.saved1.isNone then
    (m.fenceCore site stFenced).recordUnit .core site 0 0x23
  else m

/-- The 16 words of a region, one in each bank, that one save cycle copies: words 16 k to 16 k + 15. -/
def Module.saveCycle (m : Module) (site : Nat) (k : Nat) : Module :=
  let s := (m.core site).scratch
  let words := (List.range 16).map (fun b => s.region * 512 + k * 128 + b * 8)
  let hurt := words.filter (fun w => (List.range 8).any (fun i => decide (w + i ∈ s.badParity)))
  hurt.foldl (fun acc w => acc.parityEvent 0x25 0 site w 7 0xFF 0 0xFFFF) m

/-- A word of the region read back wrong in the bytes of `mask`: the region's test is abandoned, the core takes no new work and its
items are stopped with the default DRAIN timeout (R239). -/
def Module.testFails (m : Module) (site word mask : Nat) : Module :=
  let s := (m.core site).scratch
  let m1 := m.padEvent 0x23 2 site (s.region * 512 + word * 8) mask 7 0xFF 3 0xFFFF
  let m2 := m1.updCore site (fun c => { c with scratch := { c.scratch with phase := 100 } })
  let stop (m : Module) (t : Nat) : Module :=
    match ((m.core site).th t).item.or (((m.core site).savedOf t).bind (fun k => k.th.item)) with
    | some it =>
      { m with parts := { m.parts with stops := m.parts.stops ++ [⟨.thread site t, it.part, false, 100, [], false, 0, 0⟩] } }
    | none => m
  (stop (stop m2 0) 1).fenceMarked site

/-- BACKGROUND_TEST_BANK_CYCLE (R237): 4 save cycles, 80 test cycles and 4 restore cycles make a region. `wordBad` is a word of the
region that reads back wrong, with its failing bytes. -/
def doBackgroundTestBankCycle (site : Nat) (wordBad : Option (Nat × Nat)) (m : Module) : Module :=
  let c := m.core site
  let s := c.scratch
  if s.phase = 100 then m.fenceMarked site
  else if !c.enabled ∨ !m.runs (clusterOf site) then m
  else
    let m1 := if s.phase < 4 then m.saveCycle site s.phase else m
    let on := m1.updCore site (fun c => { c with scratch :=
      if s.phase = 87 then { c.scratch with phase := 0, region := (s.region + 1) % 4096 }
      else { c.scratch with phase := s.phase + 1 } })
    match wordBad with
    | some (w, mask) => if 4 ≤ s.phase ∧ s.phase < 84 then m1.testFails site w mask else on
    | none => on
def execBackgroundTestBankCycle (site : Nat) (wordBad : Option (Nat × Nat)) (s : State) : Host.Outcome State Fault Refusal :=
  onModule (siteOk site && wordBad.all (fun p => decide (p.1 < 64 ∧ 0 < p.2 ∧ p.2 < 256))) (doBackgroundTestBankCycle site wordBad) s

end Sys2Proof.Machine
end

