-- ==== Sys2Proof/Machine/CoreOps.lean ====
section
/-! DEFINITION. The core sequencer's shared operations (chapter 4): faults (R162 to R164), program fetch (R132, R143), issue
(R133 to R136), control stack (R141, R142), event counters (R145), completion (R146), translation for a thread. -/

namespace Sys2Proof.Machine

/-! ## Faults (R162 to R164) -/

/-- The work completion status of a fault code (R162). -/
def faultStatus (code : Nat) : Nat :=
  if code = 0x02 then stBadOpcode else if code = 0x08 then stBankState else if code = 0x09 then stPoisoned
  else if code = 0x0A ∨ code = 0x0B ∨ code = 0x0C ∨ code = 0x0E then stHwError
  else if code = 0x0D then stFenced else stProgramFault

/-- The record of R164. -/
def faultRecord (code cause t op ctx pc addr : Nat) : List Byte :=
  packRec 32 [⟨0, 1, code⟩, ⟨1, 1, cause⟩, ⟨2, 1, t⟩, ⟨3, 1, op⟩, ⟨4, 2, ctx⟩, ⟨8, 8, pc⟩, ⟨16, 8, addr⟩]

/-- The fault registers take the fault unless an earlier one is still valid (R174). -/
def Thread.latchFault (t : Thread) (code cause op pc addr : Nat) : Thread :=
  if t.faultValid then t
  else { t with
    faultCode := code, faultCause := cause, faultOp := op, faultValid := true,
    faultDesc := pc % 2 ^ 48, faultAddr := addr % 2 ^ 48 }

/-- A thread faults: issue stops, what it has in flight is abandoned, the fault is recorded and logged, its work completes
with the status of the code (R162 to R164). `fenced` is the entry's field of R601. -/
def Module.threadFault (m : Module) (site t code cause pc op addr fenced : Nat) : Module :=
  let th := (m.core site).th t
  match th.item with
  | none => m
  | some it =>
    let rec_ := faultRecord code cause t op it.ctx pc addr
    let m1 := m.detect (if code = 0x09 then 1 else 2) 0xA0 (m.partAt (clusterOf site)) [site, t, code]
      [⟨16, 32, leNat rec_⟩, ⟨48, 2, site⟩, ⟨50, 1, fenced⟩, ⟨56, 8, it.seq⟩]
    let m2 := m1.cancelSeqs (fun q => match q.core with | some (s, k, _) => s == site && k == t | none => false)
    let m3 := m2.updCore site (fun c =>
      (c.abandon t).updTh t (fun x => { (x.latchFault code cause op pc addr) with halted := true }))
    (m3.endItem site t (faultStatus code) 0 rec_).fenceMarked site

/-- A check of hardware that both threads share fails: both fault, and the core is fenced (R162). `code` is 0x0C or 0x0E. -/
def Module.coreCheck (m : Module) (site code : Nat) : Module :=
  let fault (m : Module) (t : Nat) : Module := m.threadFault site t code 0 ((m.core site).th t).pc 0 0 1
  (fault (fault m 0) 1).fenceCore site stFenced

/-- A fault of a descriptor in flight. -/
def Module.flightFault (m : Module) (site t : Nat) (f : InFlight) (code cause addr : Nat) : Module :=
  m.threadFault site t code cause f.pc (getLe f.bytes 0 1) addr 0

/-- A read by an engine of the core found bad parity or poison: event 0x20 and code 0x0A, or code 0x09 (R234, R235). -/
def Module.padFault (m : Module) (site t : Nat) (f : InFlight) (requester : Nat) (r : PadRead) (o : Nat) : Option Module :=
  match r.bad with
  | some p => some ((m.parityEvent 0x20 2 site p requester t 0 0xFFFF).flightFault site t f 0x0A 0 (padAddr site + p))
  | none => if r.poison then some (m.flightFault site t f 0x09 0 (padAddr site + o)) else none

/-! ## Translation for a thread (R348, R641) -/

/-- How an address of a thread's program or data comes out; `wait`: the core's cache does not hold its leaf, and its walk is still to
come (R245). -/
inductive Addr where
  | ok (pa : Nat)
  | fault (code cause : Nat)
  | wait
deriving DecidableEq, Repr

/-- The partition a site belongs to; 64 for none. -/
def Module.ownerOf (m : Module) (site : Nat) : Nat := ((m.cl (clusterOf site)).owner).getD 64

/-- What the core's cache gives an address of its partition; none on a miss (R350). -/
def Module.coreHit (m : Module) (site va acc : Nat) : Option WalkEnd :=
  (m.cachedLeaf (.core site) (m.ownerOf site) va).map (m.leafEnd va acc)

/-- A demand translation has ended: a malformed entry is logged, a fault counted (R348, R367). -/
def Module.demandEnd (m : Module) (site va : Nat) (w : WalkEnd) : Module × Addr :=
  let p := m.ownerOf site
  match w with
  | .ok pa => (m, .ok pa)
  | .fault cause bad => ((m.logBad p p site va (.fault cause bad)).countFault p, .fault 0x04 cause)
  | .poison => (m, .fault 0x09 0)

/-- Translates a demand address (acc: 3 read, 4 write, 5 execute) through the core's cache. -/
def Module.demand (m : Module) (site va acc : Nat) : Module × Addr :=
  match m.coreHit site va acc with
  | none => (m, .wait)
  | some w => m.demandEnd site va w

/-! ## Program fetch (R132, R143) -/

/-- Requests of a requester that are on their way are forgotten. -/
def Module.dropReads (m : Module) (sel : Src → Bool) : Module :=
  let clean (s : Slice) : Slice :=
    { s with waiting := s.waiting.filter (fun w => w.req.write || !sel w.req.src), holdSlots := s.holdSlots.filter (fun w => !sel w.req.src) }
  let touched := (m.mem.slices.filter (fun p => p.2.waiting.any (fun w => sel w.req.src) || p.2.holdSlots.any (fun w => sel w.req.src))).map (·.1)
  let m1 := { m with mem := { m.mem with responses := m.mem.responses.filter (fun r => r.accept || !sel r.req.src) } }
  m1.updSlices touched clean

/-- Whether a request comes from the thread's fetch unit. -/
def isFetch (site t : Nat) : Src → Bool
  | .fetch s k _ => s == site && k == t
  | _ => false

/-- The offset of a scratchpad program address in the core's own normal window; none elsewhere (R132, R136). -/
def Core.padProgram (c : Core) (site a : Nat) : Option Nat :=
  if padAddr site ≤ a ∧ a < padAddr site + winSize c.split then some (a - padAddr site) else none

/-- A program address is legal: 48 bits, aligned, and in the core's own window where it lies in a scratchpad (R132, R135). -/
def Core.programOk (c : Core) (site a : Nat) : Bool :=
  decide (a < 2 ^ 48) && a % 32 == 0 && (!bitOf a 47 || (c.padProgram site a).isSome)

/-- The fetch of a sector is noted: on its way, or as what it came to. -/
def Module.putFetch (m : Module) (site t a : Nat) (p : Nat × Option (List Fetched)) : Module :=
  m.updCore site (fun c => c.updTh t (fun x => { x with fetching := x.fetching ++ [p], fetchPos := a / 64 * 64 + 64 }))

/-- The fetch unit has room to read one more sector of a program in memory. -/
def Thread.fetchRoom (th : Thread) : Bool :=
  decide (th.fetching.length < 4 ∧ th.fetchBuf.length + 2 * th.fetching.length + 2 ≤ 32) && !bitOf th.fetchPos 47 && th.item.isSome &&
  th.failsAhead == 0

/-- Issues the fetch of one more sector, up to 4 on their way: at P0 from the core's own slice, at P2 elsewhere; a fault on the way is
kept for the sequencer (R132). -/
def Module.fetchOne (m : Module) (site t : Nat) : Module :=
  let c := m.core site
  let th := c.th t
  let a := th.fetchPos
  if !th.fetchRoom then m
  else
    let put (m : Module) (p : Nat × Option (List Fetched)) : Module := m.putFetch site t a p
    match m.coreHit site a 5 with
    | none => m
    | some (.ok pa) =>
      let dst := siteOfAddr pa
      if !m.mayLeave site dst then m
      else (put m (a, none)).readArrives
        ⟨dst, offOfAddr pa / 64 * 64, if dst = site then 0 else 2, .fetch site t a, false, false, [], false⟩
    | some (.fault cause bad) => put m (a, some [.fail 0x04 cause a bad])
    | some .poison => put m (a, some [.fail 0x09 0 a none])

/-- What has come back in program order enters the fetch buffer; of the descriptors behind `pc` the buffer keeps what it has room
for. -/
def Thread.fill (t : Thread) : Thread :=
  let rec go : List (Nat × Option (List Fetched)) → List Fetched × List (Nat × Option (List Fetched))
    | (_, some got) :: rest => let r := go rest; (got ++ r.1, r.2)
    | l => ([], l)
  let r := go t.fetching
  let buf := t.fetchBuf ++ r.1
  { t with fetchBuf := buf, fetching := r.2, fetchSeen := t.fetchSeen.drop (t.fetchSeen.length - (32 - buf.length)) }

/-- The fetch unit reads ahead of the program counter (R132). -/
def Module.fetchNext (m : Module) (site t : Nat) : Module :=
  ((List.range 4).foldl (fun acc _ => acc.fetchOne site t) m).updCore site (fun c => c.updTh t Thread.fill)

/-- The fetch buffer is filled anew from an address (R143). -/
def Module.refetch (m : Module) (site t a : Nat) : Module :=
  let m1 := m.updCore site (fun c => (c.clearFetch t).updTh t (fun x => { x with fetchPos := a }))
  (m1.dropReads (isFetch site t)).fetchNext site t

/-- The sequencer must decode a descriptor whose fetch failed: the thread faults (R132). -/
def Module.checkFetch (m : Module) (site t : Nat) : Module :=
  let th := (m.core site).th t
  match th.fetchBuf with
  | .fail code cause a bad :: rest =>
    if th.wait.isNone ∧ !th.halted then
      let p := m.ownerOf site
      let m0 := m.updCore site (fun c => c.updTh t (fun x => { x with fetchBuf := rest }))
      let m1 := if code = 0x0A then m0.parityEvent 0x20 2 site (a - padAddr site) 0 t 0 0xFFFF else m0
      let m2 := if code = 0x04 then (m1.logBad p p site a (.fault cause bad)).countFault p else m1
      m2.threadFault site t code cause th.pc 0 a 0
    else m
  | _ => m

/-- Descriptors of a fetched sector, from the offset the program needs. -/
def sectorDescs (bs : List Byte) (skip : Nat) : List Fetched :=
  if skip = 0 then [.desc (bs.take 32), .desc ((bs.drop 32).take 32)] else [.desc ((bs.drop 32).take 32)]

/-- What a fetch from the scratchpad yields: two descriptors at most (R132). -/
def Core.padFetch (c : Core) (site t a : Nat) : List Fetched :=
  match c.padProgram site a with
  | none => [.fail 0x03 0 a none]
  | some o =>
    let n := if a % 64 = 0 then 64 else 32
    let r := c.scratch.read (foldPad c.split t) o n
    match r.bad with
    | some p => [.fail 0x0A 0 (padAddr site + p) none]
    | none => if r.poison then [.fail 0x09 0 a none] else if n = 64 then sectorDescs r.bytes 0 else [.desc (r.bytes.take 32)]

/-- The sector of the program that was asked for at `a` arrives from memory: an empty answer is an address fault at the slice, poison
is consumed. -/
def Module.fetchArrives (m : Module) (site t a : Nat) (data : List Byte) (poison : Bool) : Module :=
  let got : List Fetched :=
    if data.isEmpty then [.fail 0x03 0 a none] else if poison then [.fail 0x09 0 a none] else sectorDescs data (a % 64)
  let m1 := m.updCore site (fun c => c.updTh t (fun x =>
    { x with fetching := modFirst (fun p => p.1 == a && p.2.isNone) (fun p => (p.1, some got)) x.fetching }.fill))
  (m1.fetchNext site t).checkFetch site t

/-- FETCH_RETURN (R132): the next descriptors of a scratchpad program, or the sector that has come back from memory. `check`: the
sequencer or the fetch unit fails a check of its own (code 0x0E of R162). -/
def doFetchReturn (site t : Nat) (check : Bool) (m : Module) : Module :=
  let c := m.core site
  let th := c.th t
  if th.item.isNone ∨ th.halted ∨ !c.enabled ∨ !m.clocked site then m
  else if check then m.coreCheck site 0x0E
  else if bitOf th.fetchPos 47 then
    if 31 ≤ th.fetchBuf.length ∨ 0 < th.failsAhead then m
    else
      let got := c.padFetch site t th.fetchPos
      (m.updCore site (fun c => c.updTh t (fun x =>
        { x with fetchBuf := x.fetchBuf ++ got, fetchPos := x.fetchPos / 64 * 64 + 64 }.fill))).checkFetch site t
  else
    match takeFirst (fun (r : Response) => isFetch site t r.req.src) m.mem.responses with
    | some (r, rest) => match r.req.src with
      | .fetch _ _ a =>
        if m.mayArrive r then ({ m with mem := { m.mem with responses := rest } }).fetchArrives site t a r.data r.poison else m
      | _ => m
    | none => (m.fetchNext site t).checkFetch site t
def execFetchReturn (site thread : Nat) (check : Bool) (s : State) : Host.Outcome State Fault Refusal :=
  onModule (siteThreadOk site thread) (doFetchReturn site thread check) s

/-! ## Fields (R11, R134, R135) -/

/-- Which bits a descriptor may have set: its fields as offset and mask; the opcode byte is always one. -/
def fieldMask (fs : List (Nat × Nat)) : Nat := fs.foldl (fun a f => a ||| f.2 * 2 ^ (8 * f.1)) 0xFF
/-- Every bit outside the fields is 0 (R11). -/
def fits (bs : List Byte) (fs : List (Nat × Nat)) : Bool := leNat bs &&& fieldMask fs == leNat bs

/-- A register's value as a number; X0 reads 0 (R135). -/
def Thread.x (t : Thread) (i : Nat) : Nat := (t.reg i).toNat
/-- A field plus an index register, modulo 2^64 (R135). -/
def addReg (t : Thread) (v i : Nat) : Nat := (v + t.x i) % 2 ^ 64

/-- The event byte: none when it is well formed; else the fault, format or split resource (R134, R145, R161). -/
def Core.eventBad (c : Core) (t : Nat) (bs : List Byte) : Option Nat :=
  let e := getLe bs 3 1
  if 32 ≤ e then some 0x01 else if bitOf e 4 ∧ !c.owns t (e % 16) then some 0x05 else none

/-- Adds to an event counter, modulo 2^32 (R145). -/
def Core.bump (c : Core) (n v : Nat) : Core := { c with counters := SMap.upd 0 c.counters n (fun x => (x + v) % 2 ^ 32) }

/-! ## Issue (R133) -/

/-- How the issue of a descriptor ends: the program goes on, control transfers, the descriptor finds no queue entry and
waits at issue, it waits for its condition, the thread faults, or the thread's work is over. -/
inductive Issued where
  | next (m : Module)
  | goto (m : Module) (a : Nat)
  | stall
  | waits (m : Module)
  | fault (code cause addr : Nat)
  | over (m : Module)
deriving DecidableEq, Repr

/-- The thread runs: its core is enabled and clocked, it exists in the mode in force, holds an item, is not halted, not
being switched (R130, R167, R355). -/
def Module.running (m : Module) (site t : Nat) : Bool :=
  let c := m.core site
  let th := c.th t
  c.enabled && m.runs (clusterOf site) && !m.resetting site && (t == 0 || c.split) && th.item.isSome && !th.halted && !(t ∈ c.switching)

/-- The descriptor is the one the sequencer issues next: what the fetch buffer holds first, or, where fetch has not got so
far, whatever it will return. -/
def Module.mayIssue (m : Module) (site t : Nat) (bs : List Byte) : Bool :=
  let th := (m.core site).th t
  m.running site t && th.wait.isNone &&
  match th.fetchBuf with
  | [] => true
  | f :: _ => f == .desc bs

/-- After an iteration's last descriptor: registers are incremented, the body runs again or its entry is popped (R142). -/
def loopEnd : List Frame → Nat → Thread → Thread × List Frame × Nat
  | .loop start stop left incs :: rest, pc, t =>
    if pc = stop then
      let t1 := incs.foldl (fun (x : Thread) i => x.setReg i.1 (BitVec.ofNat 64 (x.x i.1 + i.2))) t
      if 1 < left then (t1, .loop start stop (left - 1) incs :: rest, start) else loopEnd rest pc t1
    else (t, .loop start stop left incs :: rest, pc)
  | st, pc, t => (t, st, pc)

/-- Loops whose body does not contain the target of a taken transfer are popped, up to the innermost call (R141). -/
def leaveLoops (a : Nat) : List Frame → List Frame
  | .loop start stop left incs :: rest => if start ≤ a ∧ a < stop then .loop start stop left incs :: rest else leaveLoops a rest
  | st => st

/-- The fetch buffer moves to `a` without being filled anew: forward over what it holds, or back to what it still holds (R143); none
where it holds nothing there. -/
def Thread.moveTo (t : Thread) (pc a : Nat) : Option Thread :=
  let all : List (Nat × Fetched) :=
    t.fetchSeen ++ (t.fetchBuf.zip (List.range t.fetchBuf.length)).map (fun (p : Fetched × Nat) => (pc + 32 * p.2, p.1))
  let before := all.takeWhile (fun (p : Nat × Fetched) => p.1 != a)
  if t.fetchBuf.isEmpty ∨ (a ≠ pc + 32 * t.fetchBuf.length ∧ before.length = all.length) then none
  else some ({ t with fetchSeen := before, fetchBuf := (all.drop before.length).map (fun (p : Nat × Fetched) => p.2) }.fill)

/-- The thread goes on at `a` in sequence: loop ends are looked at. The fetch buffer is not filled anew, except where it no longer
holds the start of a loop, or the program has run ahead of it (R143). `pc` is where the descriptor stood. -/
def Module.advance (m : Module) (site t pc a : Nat) : Module :=
  let th := (m.core site).th t
  let r := loopEnd th.stack a th
  let m1 := m.updCore site (fun c => c.updTh t (fun _ => { r.1 with stack := r.2.1, pc := r.2.2 }))
  match r.1.moveTo pc r.2.2 with
  | some x => ((m1.updCore site (fun c => c.updTh t (fun y =>
      { y with fetchSeen := x.fetchSeen, fetchBuf := x.fetchBuf, fetching := x.fetching }))).fetchNext site t).checkFetch site t
  | none => m1.refetch site t r.2.2

/-- What each kind of descriptor does at issue. -/
abbrev Body := Module → Nat → Nat → List Byte → Issued

/-- Runs a body for the thread's current descriptor and moves the thread on. -/
def Module.issue (m : Module) (site t : Nat) (bs : List Byte) (f : Body) : Module :=
  let pc := ((m.core site).th t).pc
  match f m site t bs with
  | .next m1 => m1.advance site t pc (((m1.core site).th t).pc + 32)
  | .goto m1 a => (m1.updCore site (fun c => c.updTh t (fun x => { x with pc := a }))).refetch site t a
  | .stall => m
  | .waits m1 => m1.updCore site (fun c => c.updTh t (fun x => { x with wait := some bs }))
  | .fault code cause addr => m.threadFault site t code cause pc (getLe bs 0 1) addr 0
  | .over m1 => m1

/-- A descriptor row: the descriptor is issued if the thread can issue it now. -/
def doIssue (d : Desc) (f : Body) (m : Module) : Module :=
  if m.mayIssue d.site d.thread d.bytes then m.issue d.site d.thread d.bytes f else m

/-- A descriptor row's meaning: the bytes carry the row's opcode. -/
def onDesc (d : Desc) (op : Nat) (f : Body) (s : State) : Host.Outcome State Fault Refusal :=
  onModule (d.wf && getLe d.bytes 0 1 == op) (doIssue d f) s

/-! ## Descriptors in flight (R133, R146) -/

/-- How many descriptors of a class a thread has in flight. -/
def Thread.inClass (t : Thread) (cls : Nat) : Nat := countOf (fun (f : InFlight) => f.cls == cls) t.flight

/-- Adds a descriptor to those in flight; its number is the thread's next. -/
def Module.launch (m : Module) (site t cls : Nat) (bs : List Byte) (done : Bool) : Module × Nat :=
  let th := (m.core site).th t
  let f : InFlight := { id := th.nextId, cls := cls, bytes := bs, pc := th.pc, next := 0, pieces := [], done := done }
  (m.updCore site (fun c => c.updTh t (fun x => { x with flight := x.flight ++ [f], nextId := x.nextId + 1 })), th.nextId)

/-- A descriptor in flight. -/
def Thread.find (t : Thread) (id : Nat) : Option InFlight := t.flight.find? (fun f => f.id == id)
/-- Changes a descriptor in flight. -/
def Module.updFlight (m : Module) (site t id : Nat) (f : InFlight → InFlight) : Module :=
  m.updCore site (fun c => c.updTh t (fun x => { x with flight := modFirst (fun q => q.id == id) f x.flight }))

/-- A descriptor completes: it is gone and its event counter is incremented (R146). -/
def Module.complete1 (m : Module) (site t : Nat) (f : InFlight) : Module :=
  let e := getLe f.bytes 3 1
  m.updCore site (fun c =>
    let c1 := c.updTh t (fun x => { x with flight := x.flight.filter (fun q => q.id != f.id) })
    if bitOf e 4 then c1.bump (e % 16) 1 else c1)

/-- Checks common to engine descriptors, in order: fields, the event byte, the class's own; then the body. -/
def engine (ok : Bool) (c : Core) (t : Nat) (bs : List Byte) (f : Issued) : Issued :=
  if !ok then .fault 0x01 0 0
  else match c.eventBad t bs with
    | some code => .fault code 0 0
    | none => f

/-! ## Scratchpad ranges of descriptors (R135, R136) -/

/-- The parts of a range in the three windows, as window, offset and length; none where some byte of it lies in no window.
In whole mode the windows adjoin, and a range may reach from one into the next. -/
def padPieces (split : Bool) (off len : Nat) : Option (List (Nat × Nat × Nat)) :=
  let part (w : Nat) : Nat × Nat × Nat :=
    let lo := max off (w * 2 ^ 21)
    let hi := min (off + len) (w * 2 ^ 21 + winSize split)
    (w, lo - w * 2 ^ 21, hi - lo)
  let ps := ([0, 1, 2].map part).filter (fun p => p.2.2 != 0)
  if (ps.map (fun p => p.2.2)).foldl (· + ·) 0 = len then some ps else none

/-- A scratchpad offset is one of R136's. -/
def padOk (split : Bool) (off : Nat) : Bool := (padPieces split off 1).isSome

/-- A thread's view of a range as an engine reads it, with the first bad byte and poison as found. -/
def Core.spanRead (c : Core) (t off n : Nat) : Option PadRead :=
  (padPieces c.split off n).map (fun ps =>
    ps.foldl (fun (a : PadRead) (p : Nat × Nat × Nat) =>
      let r := c.scratch.read (foldPad c.split t) p.2.1 p.2.2
      ⟨a.bytes ++ r.bytes, match a.bad with | some x => some x | none => r.bad, a.poison || r.poison⟩) ⟨[], none, false⟩)

/-- An engine of the core reads a range: its bytes, or the module after the thread's fault (R136, R206, R234, R235). -/
def Module.padGet (m : Module) (site t : Nat) (f : InFlight) (requester off n : Nat) : Except Module (List Byte) :=
  match (m.core site).spanRead t off n with
  | none => .error (m.flightFault site t f 0x03 0 off)
  | some r => match m.padFault site t f requester r off with
    | some m1 => .error m1
    | none => .ok r.bytes

/-- The same for a reader that carries poison on (STR.STORE, KH.WRITE, KH.SCATTER, NR: R235). -/
def Module.padGetRaw (m : Module) (site t : Nat) (f : InFlight) (requester off n : Nat) : Except Module (List Byte × Bool) :=
  match (m.core site).spanRead t off n with
  | none => .error (m.flightFault site t f 0x03 0 off)
  | some r => match m.padFault site t f requester { r with poison := false } off with
    | some m1 => .error m1
    | none => .ok (r.bytes, r.poison)

/-- Several ranges one after another. -/
def Module.padGets (m : Module) (site t : Nat) (f : InFlight) (requester n : Nat) : List Nat → Except Module (List (List Byte))
  | [] => .ok []
  | o :: os =>
    match m.padGet site t f requester o n with
    | .error m1 => .error m1
    | .ok bs => (m.padGets site t f requester n os).map (bs :: ·)

/-- An engine of the core writes part of its scratchpad. Bad parity under an alias: event 0x22 and fault 0x0A (R233). -/
def Module.padWrite (m : Module) (site t : Nat) (f : InFlight) (requester win o : Nat) (bs : List Byte) (poison : Bool) : Except Module Module :=
  let c := m.core site
  let fold := foldPad c.split t
  let bad := if win = 0 then [] else c.scratch.badWords fold o bs.length
  let m1 := m.updCore site (fun c => { c with scratch := c.scratch.write fold win o bs poison })
  match bad with
  | [] => .ok m1
  | w :: _ =>
    let m2 := bad.foldl (fun acc k => acc.parityEvent 0x22 2 site (k * 8) requester t 0 0xFFFF) m1
    .error (m2.flightFault site t f 0x0A 0 (padAddr site + w * 8))

/-- An engine of the core writes a range; the error is the module after the thread's fault. -/
def Module.padPut (m : Module) (site t : Nat) (f : InFlight) (requester off : Nat) (bs : List Byte) (poison : Bool) : Except Module Module :=
  let rec go : List (Nat × Nat × Nat) → List Byte → Module → Except Module Module
    | [], _, m => .ok m
    | (w, o, k) :: ps, bs, m =>
      match m.padWrite site t f requester w o (bs.take k) poison with
      | .error m1 => .error m1
      | .ok m1 => go ps (bs.drop k) m1
  match padPieces (m.core site).split off bs.length with
  | none => .error (m.flightFault site t f 0x03 0 off)
  | some ps => go ps bs m

/-- Several writes one after another. -/
def Module.padPuts (m : Module) (site t : Nat) (f : InFlight) (requester : Nat) : List (Nat × List Byte) → Except Module Module
  | [] => .ok m
  | (o, bs) :: rest =>
    match m.padPut site t f requester o bs false with
    | .error m1 => .error m1
    | .ok m1 => m1.padPuts site t f requester rest

/-- A range of the normal window, with parity and poison as found. -/
def Core.readPad (c : Core) (t o n : Nat) : PadRead := c.scratch.read (foldPad c.split t) o n

/-- A descriptor with a field replaced: registers are added at issue, so what is in flight holds the sums (R135). -/
def putField (bs : List Byte) (off size v : Nat) : List Byte := overlay bs off (leBytes size v)

/-- Whether a descriptor of the thread issued earlier than number `id` and satisfying `p` is still in flight. -/
def Thread.earlier (t : Thread) (id : Nat) (p : InFlight → Bool) : Bool := t.flight.any (fun f => decide (f.id < id) && p f)

end Sys2Proof.Machine
end

