-- ==== Sys2Proof/Machine/Control.lean ====
section
/-! DEFINITION. Descriptors the sequencer executes itself: CT (R139 to R142, R151) and SY (R144 to R150); the issue of bank-ops
by a core (R96, R106, R108, R126); an opcode that does not exist (R138). -/

namespace Sys2Proof.Machine

/-! ## CT (R139 to R142) -/

/-- CT.NOP. -/
def bodyCtNop : Body := fun m _ _ bs => if fits bs [] then .next m else .fault 0x01 0 0
def execCtNop (d : Desc) (s : State) : Host.Outcome State Fault Refusal := onDesc d 0x00 bodyCtNop s

/-- CT.END: once nothing of the thread is in flight, its work completes with its status word and the result (R151, R165). -/
def bodyCtEnd : Body := fun m site t bs =>
  let th := (m.core site).th t
  if !fits bs [(4, 0xFFFFFFFF)] then .fault 0x01 0 0
  else if !th.flight.isEmpty then .waits m
  else
    let m1 := m.endItem site t th.status (getLe bs 4 4) []
    let m2 := m1.updCore site (fun c => (c.clearFetch t).updTh t (fun x => { x with wait := none, stack := [] }))
    .over ((m2.dropReads (isFetch site t)).fenceMarked site)
def execCtEnd (d : Desc) (s : State) : Host.Outcome State Fault Refusal := onDesc d 0x01 bodyCtEnd s

/-- The `i`-th descriptor after `pc` as the program's memory holds it now; zeros where it cannot be read. -/
def Module.peek (m : Module) (site t pc i : Nat) : List Byte :=
  let a := pc + 32 * i
  let c := m.core site
  if bitOf a 47 then
    match c.padProgram site a with
    | some o => (c.readPad t o 32).bytes
    | none => []
  else match m.walk (m.ownerOf site) a 5 with
    | .ok pa => m.readMemBytes pa 32
    | _ => []

/-- CT.LOOP (R139, R141, R142): a body that extends past a CT.END, CT.RET or CT.JUMP, which may only be
its last descriptor, is a format fault. -/
def bodyCtLoop : Body := fun m site t bs =>
  let th := (m.core site).th t
  let body := getLe bs 1 1
  let ra := getLe bs 2 1 % 8
  let rb := getLe bs 2 1 / 16 % 8
  let count := getLe bs 4 4
  let stops (i : Nat) : Bool := let op := getLe (m.peek site t th.pc (i + 1)) 0 1; op == 0x01 || op == 0x06 || op == 0x04
  if !fits bs [(1, 0xFF), (2, 0x77), (4, 0xFFFFFFFF), (8, 2 ^ 64 - 1), (16, 2 ^ 64 - 1)] ∨ body = 0 ∨
      (rb = 0 ∧ getLe bs 16 8 ≠ 0) then .fault 0x01 0 0
  else if (List.range (body - 1)).any stops then .fault 0x01 0 0
  else if count = 0 then .next (m.updCore site (fun c => c.updTh t (fun x => { x with pc := x.pc + 32 * body })))
  else if 8 ≤ th.stack.length then .fault 0x06 0 0
  else
    let f : Frame := .loop (th.pc + 32) (th.pc + 32 + 32 * body) count [(ra, getLe bs 8 8), (rb, getLe bs 16 8)]
    .next (m.updCore site (fun c => c.updTh t (fun x => { x with stack := f :: x.stack })))
def execCtLoop (d : Desc) (s : State) : Host.Outcome State Fault Refusal := onDesc d 0x02 bodyCtLoop s

/-- A transfer of control to an address: legal program addresses only; loops it leaves are popped (R132, R135, R141). -/
def Module.transfer (m : Module) (site t a : Nat) : Issued :=
  if !(m.core site).programOk site a then .fault 0x03 0 a
  else .goto (m.updCore site (fun c => c.updTh t (fun x => { x with stack := leaveLoops a x.stack }))) a

/-- The condition of CT.BRANCH (R140). -/
def branchTaken (c : Core) (th : Thread) (cond operand value : Nat) : Bool :=
  let x := th.x (operand % 8)
  let n := SMap.get 0 c.counters (operand % 16)
  match cond with
  | 0 => true
  | 1 => x == value
  | 2 => x != value
  | 3 => decide (toSigned 64 x < toSigned 64 value)
  | 4 => decide (toSigned 64 value ≤ toSigned 64 x)
  | 5 => seqGe n (value % 2 ^ 32)
  | 6 => !seqGe n (value % 2 ^ 32)
  | _ => th.status != stOk

/-- CT.BRANCH (R139, R140, R145). -/
def bodyCtBranch : Body := fun m site t bs =>
  let c := m.core site
  let th := c.th t
  let cond := getLe bs 1 1
  let opMask := if 1 ≤ cond ∧ cond ≤ 4 then 7 else if cond = 5 ∨ cond = 6 then 15 else 0
  let valMask := if 1 ≤ cond ∧ cond ≤ 4 then 2 ^ 64 - 1 else if cond = 5 ∨ cond = 6 then 2 ^ 32 - 1 else 0
  if 7 < cond ∨ !fits bs [(1, 0xFF), (2, opMask), (4, 0xFFFFFFFF), (8, valMask)] then .fault 0x01 0 0
  else if (cond = 5 ∨ cond = 6) ∧ !c.owns t (getLe bs 2 1 % 16) then .fault 0x05 0 0
  else if branchTaken c th cond (getLe bs 2 1) (getLe bs 8 8) then
    m.transfer site t ((th.pc + 2 ^ 64 + 32 * getLe bs 4 4 - (if 2 ^ 31 ≤ getLe bs 4 4 then 32 * 2 ^ 32 else 0)) % 2 ^ 64)
  else .next m
def execCtBranch (d : Desc) (s : State) : Host.Outcome State Fault Refusal := onDesc d 0x03 bodyCtBranch s

/-- CT.JUMP (R139). -/
def bodyCtJump : Body := fun m site t bs =>
  if !fits bs [(2, 7), (8, 2 ^ 64 - 1)] then .fault 0x01 0 0
  else m.transfer site t (addReg ((m.core site).th t) (getLe bs 8 8) (getLe bs 2 1 % 8))
def execCtJump (d : Desc) (s : State) : Host.Outcome State Fault Refusal := onDesc d 0x04 bodyCtJump s

/-- CT.CALL (R139, R141). -/
def bodyCtCall : Body := fun m site t bs =>
  let th := (m.core site).th t
  let a := addReg th (getLe bs 8 8) (getLe bs 2 1 % 8)
  if !fits bs [(2, 7), (8, 2 ^ 64 - 1)] then .fault 0x01 0 0
  else if !(m.core site).programOk site a then .fault 0x03 0 a
  else if 8 ≤ th.stack.length then .fault 0x06 0 0
  else .goto (m.updCore site (fun c => c.updTh t (fun x => { x with stack := .call (x.pc + 32) :: x.stack }))) a
def execCtCall (d : Desc) (s : State) : Host.Outcome State Fault Refusal := onDesc d 0x05 bodyCtCall s

/-- The innermost call entry: its return address and what lies below it; loops above it are popped (R141). -/
def popCall : List Frame → Option (Nat × List Frame)
  | [] => none
  | .call ret :: rest => some (ret, rest)
  | .loop .. :: rest => popCall rest

/-- CT.RET (R141): back to the caller, where a loop's end may stand. -/
def bodyCtRet : Body := fun m site t bs =>
  let th := (m.core site).th t
  if !fits bs [] then .fault 0x01 0 0
  else match popCall th.stack with
    | none => .fault 0x06 0 0
    | some (ret, rest) =>
      let r := loopEnd rest ret th
      .goto (m.updCore site (fun c => c.updTh t (fun _ => { r.1 with stack := r.2.1 }))) r.2.2
def execCtRet (d : Desc) (s : State) : Host.Outcome State Fault Refusal := onDesc d 0x06 bodyCtRet s

/-- Writes an index register. -/
def Module.setX (m : Module) (site t x : Nat) (v : Word) : Module := m.updCore site (fun c => c.updTh t (fun th => th.setReg x v))

/-- CT.SETREG (R139, R171). -/
def bodyCtSetreg : Body := fun m site t bs =>
  let c := m.core site
  let src := getLe bs 1 1
  let n := getLe bs 2 1 / 16
  if 3 < src ∨ !fits bs [(1, 0xFF), (2, if src = 2 then 0xF7 else 7), (8, if src = 0 then 2 ^ 64 - 1 else 0)] then .fault 0x01 0 0
  else if src = 2 ∧ !c.owns t n then .fault 0x05 0 0
  else
    let v : Word := match src with
      | 0 => BitVec.ofNat 64 (getLe bs 8 8)
      | 1 => m.coreInfo site
      | 2 => BitVec.ofNat 64 (SMap.get 0 c.counters n)
      | _ => BitVec.ofNat 64 (c.th t).status
    .next (m.setX site t (getLe bs 2 1 % 8) v)
def execCtSetreg (d : Desc) (s : State) : Host.Outcome State Fault Refusal := onDesc d 0x07 bodyCtSetreg s

/-- CT.ADDREG (R139). -/
def bodyCtAddreg : Body := fun m site t bs =>
  let th := (m.core site).th t
  if !fits bs [(1, 7), (2, 0x77), (8, 2 ^ 64 - 1)] then .fault 0x01 0 0
  else .next (m.setX site t (getLe bs 2 1 % 8)
    (BitVec.ofNat 64 (th.x (getLe bs 2 1 / 16 % 8) + th.x (getLe bs 1 1 % 8) + getLe bs 8 8)))
def execCtAddreg (d : Desc) (s : State) : Host.Outcome State Fault Refusal := onDesc d 0x08 bodyCtAddreg s

/-- CT.POST (R151, R488): a progress completion, dropped and counted where no slot is free that no taken entry has reserved. -/
def bodyCtPost : Body := fun m site t bs =>
  if !fits bs [(4, 0xFFFFFFFF)] then .fault 0x01 0 0
  else match ((m.core site).th t).item with
    | none => .next m
    | some it => match m.packet it.part it.seq with
      | none => .next m
      | some p =>
        if m.slotFree (.work it.part) then .next (m.queueWork it.part (p.completion 1 (getLe bs 4 4)) p.vector false)
        else .next (m.updRing (.work it.part) (fun r => { r with drops := r.drops + 1 }))
def execCtPost (d : Desc) (s : State) : Host.Outcome State Fault Refusal := onDesc d 0x09 bodyCtPost s

/-! ## SY (R144 to R150) -/

/-- Kinds of packets between cores. -/
def pkSend : Nat := 1
def pkGather : Nat := 2
def pkBcast : Nat := 3
def pkSignal : Nat := 4
def pkAck : Nat := 5
def pkNack : Nat := 6

/-- A packet enters the deck network; it is held while its pair's route marker is on its way (R326). -/
def Module.inject (m : Module) (p : NetPkt) : Module :=
  { m with net := { m.net with pkts := m.net.pkts ++ [{ p with held := decide ((p.src, p.dst) ∈ m.net.heldPairs) }] } }

/-- SY.WAIT (R144, R145). -/
def bodySyWait : Body := fun m site t bs =>
  let c := m.core site
  let n := getLe bs 4 1
  if !fits bs [(4, 0x0F), (8, 0xFFFFFFFF)] then .fault 0x01 0 0
  else if !c.owns t n then .fault 0x05 0 0
  else if seqGe (SMap.get 0 c.counters n) (getLe bs 8 4) then .next m
  else .waits m
def execSyWait (d : Desc) (s : State) : Host.Outcome State Fault Refusal := onDesc d 0x70 bodySyWait s

/-- A remote signal's target: an enabled core of the partition (R150). -/
def Module.signalTo (m : Module) (site t target n inc : Nat) : Issued :=
  if Config.sites ≤ target ∨ m.ownerOf target ≠ m.ownerOf site then .fault 0x03 0 0
  else if !(m.core target).enabled then .fault 0x0D 1 0
  else
    let th := (m.core site).th t
    let ctx := match th.item with | some it => it.ctx | none => 0
    .next (m.inject {
      kind := pkSignal, src := site, thread := t, id := th.nextId, dst := target, off := th.pc, data := leBytes 4 inc,
      bad := [], last := true, counter := n, countOn := true, tag := ctx, parts := 0, part := m.ownerOf site, held := false })

/-- SY.SIGNAL (R144, R149, R150). -/
def bodySySignal : Body := fun m site t bs =>
  let c := m.core site
  let n := getLe bs 4 1
  let remote := bitOf (getLe bs 1 1) 1
  let inc := getLe bs 8 4
  if !fits bs [(1, 3), (4, 0x0F), (6, if remote then 0xFFFF else 0), (8, 0xFFFFFFFF)] ∨ inc = 0 then .fault 0x01 0 0
  else if !remote ∧ !c.owns t n then .fault 0x05 0 0
  else if bitOf (getLe bs 1 1) 0 ∧ !(c.th t).flight.isEmpty then .waits m
  else if remote then m.signalTo site t (getLe bs 6 2) n inc
  else .next (m.updCore site (fun c => c.bump n inc))
def execSySignal (d : Desc) (s : State) : Host.Outcome State Fault Refusal := onDesc d 0x71 bodySySignal s

/-- SY.FENCE (R144, R149): class bits as SY.FENCE numbers them; 0 means all. -/
def bodySyFence : Body := fun m site t bs =>
  let k := getLe bs 1 1
  if !fits bs [(1, 0x3F)] then .fault 0x01 0 0
  else if ((m.core site).th t).flight.any (fun f => k == 0 || bitOf k f.cls) then .waits m
  else .next m
def execSyFence (d : Desc) (s : State) : Host.Outcome State Fault Refusal := onDesc d 0x72 bodySyFence s

/-- SY.SET (R144, R145). -/
def bodySySet : Body := fun m site t bs =>
  let n := getLe bs 4 1
  if !fits bs [(4, 0x0F), (8, 0xFFFFFFFF)] then .fault 0x01 0 0
  else if !(m.core site).owns t n then .fault 0x05 0 0
  else .next (m.updCore site (fun c => { c with counters := SMap.set 0 c.counters n (getLe bs 8 4) }))
def execSySet (d : Desc) (s : State) : Host.Outcome State Fault Refusal := onDesc d 0x73 bodySySet s

/-! ## Opcodes that do not exist (R138) -/

/-- The listed opcodes. -/
def opcodeListed (op : Nat) : Bool :=
  decide (op ≤ 0x09 ∨ (0x10 ≤ op ∧ op ≤ 0x12) ∨ (0x20 ≤ op ∧ op ≤ 0x24) ∨ (0x30 ≤ op ∧ op ≤ 0x3B) ∨ (0x40 ≤ op ∧ op ≤ 0x43) ∨
    op = 0x50 ∨ op = 0x51 ∨ (0x60 ≤ op ∧ op ≤ 0x63) ∨ (0x70 ≤ op ∧ op ≤ 0x73))

/-- INVALID_OPCODE: the thread faults before the descriptor acts. -/
def doInvalidOpcode (d : Desc) (m : Module) : Module := doIssue d (fun _ _ _ _ => .fault 0x02 0 0) m
def execInvalidOpcode (d : Desc) (s : State) : Host.Outcome State Fault Refusal :=
  onModule (d.wf && !opcodeListed (getLe d.bytes 0 1)) (doInvalidOpcode d) s

/-! ## Bank-ops from a core (R106, R108, R126, R133) -/

/-- Broadcasts of a thread that its decks' transoms still hold. -/
def Module.undelivered (m : Module) (site t : Nat) : Nat :=
  countOf (fun (q : BankSeq) => !q.undelivered.isEmpty && (match q.core with | some (s, k, _) => s == site && k == t | none => false))
    m.mem.seqs

/-- A BK descriptor: its record is checked in the order of R126; it waits at issue while the queue of its class, or its own
slice's queue, is full, or an earlier broadcast of the same issuer has yet to reach its slice (R109). -/
def bodyBank : Body := fun m site t bs =>
  let c := m.core site
  let th := c.th t
  let r := bkRec bs
  let ctx := match th.item with | some it => it.ctx | none => 0
  match recordBad bs with
  | some _ => .fault 0x01 0 0
  | none =>
    if r.scope = 3 then .fault 0x01 0 0
    else match c.eventBad t bs with
      | some code => .fault code 0 0
      | none =>
        if rowsBad bs then .fault 0x04 3 0
        else if (if c.split then 1 else 2) ≤ m.undelivered site t ∨
            (r.scope = 0 ∧ (8 ≤ (m.slice site).bankSeqs.length ∨ m.behindBroadcast (site * 65536 + ctx) site)) then .stall
        else
          let l := m.launch site t 4 bs false
          let target := if r.scope = 0 then site else clusterOf site
          .next (l.1.issueBank (m.ownerOf site) (site * 65536 + ctx) (some (site, t, l.2)) none bs target 10)
def execBkRow (d : Desc) (s : State) : Host.Outcome State Fault Refusal := onDesc d 0x50 bodyBank s
def execBkStat (d : Desc) (s : State) : Host.Outcome State Fault Refusal := onDesc d 0x51 bodyBank s

/-- A bank-op of a core completes: the status word keeps the most severe status, the event is incremented; a bank state fault
faults the thread instead (R107, R126, R165). -/
def Module.bankDone (m : Module) (b : BankSeq) (site t id : Nat) : Module :=
  match ((m.core site).th t).find id with
  | none => m
  | some f =>
    if b.status = stBankState then m.flightFault site t f 0x08 0 0
    else (m.updCore site (fun c => c.updTh t (fun x => { x with status := worst x.status b.status }))).complete1 site t f

/-- BANKOP_COMPLETION (R107): every slice in scope has finished; the event, or the command's completion, is posted. -/
def doBankopCompletion (id : Nat) (m : Module) : Module :=
  match m.seqOf id with
  | none => m
  | some b =>
    if !b.pending.isEmpty then m
    else
      let m1 := m.closeSeq b
      let m2 := match b.core with
        | some (site, t, f) => m1.bankDone b site t f
        | none => m1
      match b.cmd with
      | some cmd => m2.complete cmd b.status b.detail
      | none => m2
def execBankopCompletion (id : Nat) (s : State) : Host.Outcome State Fault Refusal :=
  onModule true (doBankopCompletion id) s

end Sys2Proof.Machine
end

