-- ==== Sys2Proof/Machine/Array.lean ====
section
/-! DEFINITION. The matrix array (chapter 5): MX.LOADW, MX.RUN, MX.DRAIN, MX.SPLIT and MX.ELEM, the order between their queues
(R155), pairings (R190), the arithmetic of chains and output stages (R191 to R193), split mode (R199 to R203). -/

namespace Sys2Proof.Machine

/-! ## Pairings (R190) -/

/-- A pairing of weight and input format is legal for the mode. -/
def pairOk (wf xf : Nat) (trans split : Bool) : Bool :=
  let half := decide (xf = 1 ∨ xf = 2)
  let fp8 (k : Nat) : Bool := k == 3 || k == 4
  if wf = 1 ∨ wf = 2 then half
  else if fp8 wf then half || fp8 xf
  else if wf = 5 ∨ wf = 6 then !split && (half || (isMx xf && !trans))
  else if isMx wf then !split && (half || (isMx xf && !trans))
  else wf == 10 && xf == 10 && !trans

/-! ## Helpers -/

/-- The half a thread's MX descriptors act on, and the half an event names. -/
def Core.mxHalf (c : Core) (t : Nat) : Nat := if c.split then t else 0

/-- A sparse map from a function over the first `n` keys, starting at `base`. -/
def mapFrom {α : Type} [DecidableEq α] (d : α) (base n : Nat) (f : Nat → α) : SMap α :=
  (List.range n).filterMap (fun k => if f k = d then none else some (base + k, f k))

/-- An MX.SPLIT of the thread is in flight: later MX descriptors wait for it. -/
def Thread.splitting (t : Thread) : Bool := t.flight.any (fun f => getLe f.bytes 0 1 == 0x23)

/-- The index register of byte 7 is added to a field; the register field is then clear. -/
def mxResolve (th : Thread) (bs : List Byte) (fs : List (Nat × Nat)) : List Byte :=
  let r := getLe bs 7 1 / 16 % 8
  let b1 := fs.foldl (fun acc f => putField acc f.1 f.2 (addReg th (getLe bs f.1 f.2) r)) bs
  if fs = [] then b1 else putField b1 7 1 (getLe bs 7 1 % 16)

/-- The first sum of a field and the register of byte 7 that is no scratchpad offset (R135). -/
def mxBadOffset (c : Core) (th : Thread) (bs : List Byte) (offs : List Nat) : Option Nat :=
  (offs.map (fun o => addReg th (getLe bs o 3) (getLe bs 7 1 / 16 % 8))).find? (fun a => !padOk c.split a)

/-- Issue of an MX descriptor into a queue of its half (R133, R155). -/
def Module.enqueueMx (m : Module) (site t : Nat) (bs : List Byte) (depth : Nat) (queue : ArrayHalf → List (Nat × List Byte))
    (put : ArrayHalf → List (Nat × List Byte) → ArrayHalf) : Issued :=
  let c := m.core site
  let h := c.mxHalf t
  if (c.th t).splitting ∨ depth ≤ (queue (c.half h)).length then .stall
  else
    let l := m.launch site t 2 bs false
    .next (l.1.updCore site (fun c => c.updHalf h (fun a => put a (queue a ++ [(l.2, bs)]))))

/-! ## Issue (R154, R208) -/

/-- The element format, and whether the operand comes from a feed stream. -/
def mxFmt (bs : List Byte) : Nat := getLe bs 2 1
def mxStream (bs : List Byte) : Bool := bitOf (getLe bs 1 1) 0
/-- The scratchpad fields: none with a feed stream. -/
def mxOffs (bs : List Byte) : List Nat := if mxStream bs then [] else [4]
/-- A stream slot of the other thread, in split mode (R161). -/
def mxAlien (t : Nat) (bs : List Byte) : Bool := mxStream bs && getLe bs 7 1 / 8 != t

/-- MX.LOADW's fields (R154, R181, R208). -/
def loadwOk (bs : List Byte) : Bool :=
  let fmt := mxFmt bs
  let rows := getLe bs 8 1
  let cols := getLe bs 9 1
  let stream := mxStream bs
  let scaled := bitOf (getLe bs 1 1) 1
  fits bs [(1, 3), (2, 0xFF), (3, 0xFF), (4, 0xFFFFFF), (7, if stream then 0x0F else 0x70), (8, 0xFF), (9, 0xFF),
    (10, 0xFFFF), (12, if scaled then 0xFFFFFF else 0)] &&
  decide (1 ≤ fmt ∧ fmt ≤ 10 ∧ 1 ≤ rows ∧ rows ≤ 32 ∧ 1 ≤ cols ∧ cols ≤ 32) && (!isMx fmt || rows == 32) &&
  (!scaled || (fmt == 10 && !stream)) && (!stream || (getLe bs 4 3 == 0 && getLe bs 10 2 == 0))
/-- What a LOADW in split mode may not ask for (R160, R161, R208). -/
def loadwWide (t : Nat) (bs : List Byte) : Bool := decide (16 < getLe bs 8 1) || isMx (mxFmt bs) || mxAlien t bs
/-- MX.LOADW (R181). -/
def bodyMxLoadw : Body := fun m site t bs =>
  let c := m.core site
  let th := c.th t
  engine (loadwOk bs) c t bs (
    if c.split ∧ loadwWide t bs then .fault 0x05 0 0
    else match mxBadOffset c th bs (mxOffs bs) with
      | some a => .fault 0x03 0 a
      | none => m.enqueueMx site t (mxResolve th bs ((mxOffs bs).map (fun o => (o, 3)))) 2 (·.weights) (fun a q => { a with weights := q }))
def execMxLoadw (d : Desc) (s : State) : Host.Outcome State Fault Refusal := onDesc d 0x20 bodyMxLoadw s

/-- MX.RUN's fields (R154, R183, R208). -/
def mxRunOk (bs : List Byte) : Bool :=
  let fmt := mxFmt bs
  let count := getLe bs 8 1
  fits bs [(1, 0x1F), (2, 0xFF), (3, 0xFF), (4, 0xFFFFFF), (7, if mxStream bs then 0x0F else 0x70), (8, 0xFF), (10, 0xFFFF),
    (12, 0xFFFFFFFF)] &&
  decide (1 ≤ fmt ∧ fmt ≤ 10 ∧ 1 ≤ count ∧ count ≤ 16) && (!mxStream bs || (getLe bs 4 3 == 0 && getLe bs 10 2 == 0))
/-- What a RUN in split mode may not ask for. -/
def mxRunWide (t : Nat) (bs : List Byte) : Bool :=
  decide (8 < getLe bs 8 1) || isMx (mxFmt bs) || bitOf (getLe bs 1 1) 1 || mxAlien t bs
/-- MX.RUN (R183). -/
def bodyMxRun : Body := fun m site t bs =>
  let c := m.core site
  let th := c.th t
  engine (mxRunOk bs) c t bs (
    if c.split ∧ mxRunWide t bs then .fault 0x05 0 0
    else match mxBadOffset c th bs (mxOffs bs) with
      | some a => .fault 0x03 0 a
      | none => m.enqueueMx site t (mxResolve th bs ((mxOffs bs).map (fun o => (o, 3)))) 4 (·.runs) (fun a q => { a with runs := q }))
def execMxRun (d : Desc) (s : State) : Host.Outcome State Fault Refusal := onDesc d 0x21 bodyMxRun s

/-- MX.DRAIN's fields (R154, R188, R208). -/
def mxDrainOk (bs : List Byte) : Bool :=
  let fmt := mxFmt bs
  let stoch := bitOf (getLe bs 1 1) 2
  let rows := getLe bs 8 1
  fits bs [(1, 7), (2, 0xFF), (3, 0xFF), (4, 0xFFFFFF), (7, 0x70), (8, 0xFF), (10, 0xFFFF), (12, 0xFFFFFFFF),
    (16, if stoch then 0xFFFFFFFF else 0)] &&
  decide ((fmt ≤ 9 ∨ fmt = 11) ∧ 1 ≤ rows ∧ rows ≤ 16) && (!stoch || decide (fmt ∈ [1, 3, 4, 5, 6]))
/-- MX.DRAIN (R188, R194). -/
def bodyMxDrain : Body := fun m site t bs =>
  let c := m.core site
  let th := c.th t
  engine (mxDrainOk bs) c t bs (
    if c.split ∧ 8 < getLe bs 8 1 then .fault 0x05 0 0
    else match mxBadOffset c th bs [4] with
      | some a => .fault 0x03 0 a
      | none => m.enqueueMx site t (mxResolve th bs [(4, 3)]) 4 (·.drains) (fun a q => { a with drains := q }))
def execMxDrain (d : Desc) (s : State) : Host.Outcome State Fault Refusal := onDesc d 0x22 bodyMxDrain s

/-- MX.SPLIT (R160, R203): it waits in flight until the array's queues are empty. -/
def bodyMxSplit : Body := fun m site t bs =>
  let c := m.core site
  let whole := !bitOf (getLe bs 1 1) 0
  engine (fits bs [(1, 1), (3, 0xFF)]) c t bs (
    if t = 1 ∨ (whole ∧ (c.half0.fenced ∨ c.half1.fenced)) then .fault 0x05 0 0
    else if (c.th t).splitting then .stall
    else
      let l := m.launch site t 2 bs false
      .next (l.1.updCore site (fun c => { c with wholePending := whole })))
def execMxSplit (d : Desc) (s : State) : Host.Outcome State Fault Refusal := onDesc d 0x23 bodyMxSplit s

/-- MX.ELEM's fields (R154, R204). -/
def mxElemOk (bs : List Byte) : Bool :=
  fits bs [(1, 1), (2, 0xFF), (3, 0xFF), (4, 0xFFFFFF), (7, 0x70), (8, 0xFFFFFF), (12, 0xFFFFFF), (16, 0xFFFFFFFF)] &&
  decide ((mxFmt bs = 1 ∨ mxFmt bs = 2) ∧ 1 ≤ getLe bs 16 4 ∧ getLe bs 16 4 ≤ 2 ^ 20)
/-- MX.ELEM (R204): it waits in the run queue. -/
def bodyMxElem : Body := fun m site t bs =>
  let c := m.core site
  let th := c.th t
  engine (mxElemOk bs) c t bs (
    match mxBadOffset c th bs [4, 8, 12] with
    | some a => .fault 0x03 0 a
    | none => m.enqueueMx site t (mxResolve th bs [(4, 3), (8, 3), (12, 3)]) 4 (·.runs) (fun a q => { a with runs := q }))
def execMxElem (d : Desc) (s : State) : Host.Outcome State Fault Refusal := onDesc d 0x24 bodyMxElem s

/-! ## Feed streams (R205, R206) -/

/-- A busy stream slot. -/
def Core.stream (c : Core) (slot : Nat) : Option Stream := (c.streams.find? (fun p => p.1 == slot)).map (·.2)
/-- Counts by level of a STR descriptor, 0 the run length in bytes (R152). -/
def stCount (b : List Byte) (l : Nat) : Nat := (match l with | 0 => getLe b 13 2 | 1 => getLe b 15 2 | 2 => getLe b 17 2 | _ => getLe b 19 1) + 1
/-- Signed strides of levels 1 to 3. -/
def stStride (b : List Byte) (l : Nat) : Int := toSigned 32 (getLe b (16 + 4 * l) 4)

/-- The offset from base of run `k`. -/
def stRun (b : List Byte) (k : Nat) : Int :=
  let i1 := k % stCount b 1
  let i2 := k / stCount b 1 % stCount b 2
  let i3 := k / stCount b 1 / stCount b 2
  i1 * stStride b 1 + i2 * stStride b 2 + i3 * stStride b 3

/-- The address of the byte at position `p` of a stream's sequence. -/
def Stream.addr (q : Stream) (p : Nat) : Nat :=
  ((q.base : Int) + stRun q.desc (p / stCount q.desc 0) + (p % stCount q.desc 0 : Nat)).toNat

/-- A stream's descriptor has feed set. -/
def Stream.isFeed (q : Stream) : Bool := bitOf (getLe q.desc 2 1) 5

/-- How taking a descriptor's bytes from its slot ends: it waits, it has them, or its thread has faulted. -/
inductive Take where
  | wait (m : Module)
  | have_ (m : Module) (bs : List Byte)
  | fault (m : Module)
deriving DecidableEq, Repr

/-- What a descriptor has taken from its slot so far: an MX.RUN's vectors stand in the feeders (R179). -/
def Core.taken (c : Core) (t : Nat) (f : InFlight) : List Byte :=
  if getLe f.bytes 0 1 = 0x21 then (c.half (c.mxHalf t)).feeder
  else match f.pieces with | p :: _ => (p.data.getD ([], false)).1 | [] => []
/-- Bytes it has taken are noted. -/
def Module.putTaken (m : Module) (site t : Nat) (f : InFlight) (bs : List Byte) : Module :=
  if getLe f.bytes 0 1 = 0x21 then m.updCore site (fun c => c.updHalf (c.mxHalf t) (fun a => { a with feeder := bs }))
  else m.updFlight site t f.id (fun g => { g with pieces := [{ seq := 0, pos := 0, len := bs.length, skip := 0, demand := false, data := some (bs, false) }] })

/-- The address that byte `i` of a stream's feed buffer came from. -/
def Stream.feedAddr (q : Stream) (addr : Nat → Nat) (i : Nat) : Nat :=
  addr (q.pos - (q.pieces.map (·.len)).foldl (· + ·) 0 - q.feed.length + i)

/-- A descriptor at the array takes what its slot's feed stream has delivered, up to the `n` bytes it needs, after every
earlier descriptor that names the slot. -/
def Module.takeFeed (m : Module) (site t slot n : Nat) (f : InFlight) : Take :=
  let c := m.core site
  let names (g : InFlight) : Bool :=
    let op := getLe g.bytes 0 1
    (op == 0x20 || op == 0x21) && bitOf (getLe g.bytes 1 1) 0 && getLe g.bytes 7 1 % 16 == slot && !g.done
  if n = 0 then .have_ m []
  else if (c.th t).earlier f.id names then .wait m
  else match c.stream slot with
    | none => .wait m
    | some q =>
      if q.cancelled then .wait m
      else if !q.isFeed then .fault (m.flightFault site t f 0x01 0 0)
      else
        let old := c.taken t f
        let got := q.feed.take (n - old.length)
        let all := old ++ got.map (·.1)
        let m1 := m.updCore site (fun c => { c with
          streams := c.streams.map (fun (p : Nat × Stream) => if p.1 = slot then (p.1, { p.2 with feed := p.2.feed.drop got.length }) else p) })
        match got.findIdx? (·.2) with
        | some i => .fault (m1.flightFault site t f 0x09 0 (q.feedAddr q.addr i))
        | none =>
          let m2 := m1.putTaken site t f all
          if all.length = n then .have_ m2 all else .wait m2

/-! ## Loading weights (R178, R181) -/

/-- Records and bytes per record of a tile. -/
def tileShape (fmt rows cols : Nat) : Nat × Nat := if isMx fmt then (cols, blockBytes fmt) else (rows, packedBytes fmt cols)

/-- The shadow buffer a tile's records fill; every other weight is +0. -/
def tileOf (fmt rows cols : Nat) (recs : List (List Byte)) (scales : List Nat) : SMap Word :=
  let w := codeBits fmt
  let cell (k : Nat) : Word :=
    let r := k / 32
    let c := k % 32
    if rows ≤ r ∨ cols ≤ c then 0
    else if isMx fmt then BitVec.ofNat 64 (leNat ((nth [] recs c).take (4 * w)) / 2 ^ (w * r) % 2 ^ w)
    else BitVec.ofNat 64 (getLe (nth [] recs r) (c * (w / 8)) (w / 8))
  let scale (c : Nat) : Word :=
    if isMx fmt then (if c < cols then BitVec.ofNat 64 (getLe (nth [] recs c) (4 * w) 1) else 127)
    else if fmt = 10 then BitVec.ofNat 64 (nth 0x3F800000 scales c) else 0
  mapFrom 0 0 1024 cell ++ mapFrom 0 1024 32 scale

/-- An MX.LOADW may fill the shadow buffer: it is first in its queue, the buffer is empty or swapped out, and no earlier
run still has to swap (R155, R187). -/
def Module.mayLoad (m : Module) (site t : Nat) (f : InFlight) : Bool :=
  let a := (m.core site).half ((m.core site).mxHalf t)
  (match a.weights with | (id, _) :: _ => id == f.id | [] => false) && !a.shadowFull &&
  !(a.runs.any (fun r => decide (r.1 < f.id) && getLe r.2 0 1 == 0x21 && bitOf (getLe r.2 1 1) 2))

/-- The weights are in the shadow buffer: the descriptor completes. -/
def Module.fillShadow (m : Module) (site t : Nat) (f : InFlight) (recs : List (List Byte)) (scales : List Nat) : Module :=
  let b := f.bytes
  let fmt := getLe b 2 1
  let m1 := m.updCore site (fun c => c.updHalf (c.mxHalf t) (fun a => { a with
    shadow := tileOf fmt (getLe b 8 1) (getLe b 9 1) recs scales, shadowInfo := [fmt, getLe b 8 1, getLe b 9 1],
    shadowFull := true, weights := a.weights.filter (fun q => q.1 != f.id) }))
  m1.complete1 site t f

/-- A check of the array fails: the thread faults and the half is fenced until the next bring-up, whose S7 tests it
again; the field repair record is not changed (R202, R203, R468). -/
def Module.halfCheck (m : Module) (site t half : Nat) (f : InFlight) : Module :=
  let m1 := m.threadFault site t 0x0B 0 f.pc (getLe f.bytes 0 1) 0 1
  m1.fenceHalf site half stCancelled

/-- An MX.LOADW executes when its turn comes; `check`: a byte of a weight buffer has bad parity (R202). -/
def Module.completeLoadw (m : Module) (site t : Nat) (f : InFlight) (check : Bool) : Module :=
  if !m.mayLoad site t f then m
  else if check then m.halfCheck site t ((m.core site).mxHalf t) f
  else
    let b := f.bytes
    let shape := tileShape (getLe b 2 1) (getLe b 8 1) (getLe b 9 1)
    if bitOf (getLe b 1 1) 0 then
      match m.takeFeed site t (getLe b 7 1 % 16) (shape.1 * shape.2) f with
      | .wait m1 => m1
      | .fault m1 => m1
      | .have_ m1 bs => m1.fillShadow site t f (runsOf shape.2 shape.1 bs) []
    else
      match m.padGets site t f 3 shape.2 ((List.range shape.1).map (fun k => getLe b 4 3 + k * getLe b 10 2)) with
      | .error m1 => m1
      | .ok recs =>
        if bitOf (getLe b 1 1) 1 then
          match m.padGet site t f 3 (getLe b 12 3) 128 with
          | .error m1 => m1
          | .ok sc => m.fillShadow site t f recs ((List.range 32).map (fun c => getLe sc (4 * c) 4))
        else m.fillShadow site t f recs []

/-! ## Running vectors (R183 to R193, R197, R198) -/

/-- +0. -/
def zeroVal : Val := .fin false 0 0

/-- A weight of a buffer as a value; MX elements without their scale. -/
def weightVal (buf : SMap Word) (fmt r c : Nat) : Val :=
  let w := (SMap.get 0 buf (r * 32 + c)).toNat
  if fmt = 10 then .ofInt (toSigned 8 w) else decodeF (fmtOf fmt) w

/-- A power of two as E8M0 gives it; NaN for 0xFF (R212). -/
def scaleVal (x : Nat) : Val := if x = 0xFF then .nan else .fin false 1 ((x : Int) - 127)

/-- One input vector: its elements without block scale, and the scale byte (127 where there is none). -/
def vectorOf (fmt : Nat) (bs : List Byte) : List Val × Nat :=
  if isMx fmt then
    let w := codeBits fmt
    let d := leNat (bs.take (4 * w))
    ((List.range 32).map (fun k => decodeF (fmtOf fmt) (d / 2 ^ (w * k) % 2 ^ w)), getLe bs (4 * w) 1)
  else (decodeElems fmt (bs.length / (codeBits fmt / 8)) bs, 127)

/-- A chain: products added one by one in order, one rounding to FP32 each (R191). -/
def chain (n : Nat) (x w : Nat → Val) : Word32 := (List.range n).foldl (fun s r => to32 ((f32 s).add ((x r).mul (w r)))) 0

/-- The 32 lane outputs of one vector (R185, R192, R197, R198). `n` is the number of rows of the half. -/
def laneOutputs (buf : SMap Word) (wf rows xf n : Nat) (trans : Bool) (bs : List Byte) : List Word32 :=
  let v := vectorOf xf bs
  let x (k : Nat) : Val := nth zeroVal v.1 k
  let sw (c : Nat) : Nat := (SMap.get 0 buf (1024 + c)).toNat
  if xf = 10 then
    let e (k : Nat) : Int := ((x k).toInt).getD 0
    let w (r j : Nat) : Int := toSigned 8 (SMap.get 0 buf (r * 32 + j)).toNat
    (List.range 32).map (fun j => BitVec.ofInt 32 (((List.range n).map (fun r => e r * w r j)).foldl (· + ·) 0))
  else if trans then
    let y (c : Nat) : Val := if isMx wf then f32 (to32 ((x c).mul (scaleVal (sw c)))) else x c
    (List.range 32).map (fun k => if k < rows then chain 32 y (weightVal buf wf k) else 0)
  else
    (List.range 32).map (fun j =>
      let s := chain n x (fun r => weightVal buf wf r j)
      if isMx wf ∨ isMx xf then
        to32 (((f32 s).mul (if isMx wf then scaleVal (sw j) else .fin false 1 0)).mul (if isMx xf then scaleVal v.2 else .fin false 1 0))
      else s)

/-- The fields of a run. -/
def runSwap (b : List Byte) : Bool := bitOf (getLe b 1 1) 2
def runAcc (b : List Byte) : Bool := bitOf (getLe b 1 1) 3
def runBank (b : List Byte) : Nat := b2n (bitOf (getLe b 1 1) 4)

/-- The tile record of the buffer a run will use. -/
def ArrayHalf.runInfo (a : ArrayHalf) (swap : Bool) : List Nat := if swap then a.shadowInfo else a.activeInfo

/-- Bytes of one input vector (R183). -/
def vectorBytes (info : List Nat) (xf : Nat) (trans : Bool) : Nat :=
  if isMx xf then blockBytes xf else (if trans then nth 0 info 2 else nth 0 info 1) * (codeBits xf / 8)

/-- The key in `accInfo` of the number type of vector or row `i`'s entry (R180). -/
def typeKey (bank i : Nat) : Nat := bank * 64 + 34 + i
/-- The number type of a bank as an accumulating run of `n` vectors finds it: that of the entries it adds to (R180, R184); none where
they differ. -/
def ArrayHalf.typeOf (a : ArrayHalf) (bank n int : Nat) : Bool :=
  (List.range n).all (fun i => let ty := SMap.get 0 a.accInfo (typeKey bank i); if int = 1 then ty == 2 else ty != 2)

/-- The checks of R184 and R192, with the tile the run uses. -/
def ArrayHalf.runOk (a : ArrayHalf) (b : List Byte) (info : List Nat) (split : Bool) : Bool :=
  let xf := getLe b 2 1
  let n := getLe b 8 1
  let sc := getLe b 12 4
  let scOk := match decodeF fp32 sc with | .fin _ man _ => man != 0 | _ => false
  nth 0 info 1 != 0 && (!isMx xf || nth 0 info 1 == 32) && pairOk (nth 0 info 0) xf (bitOf (getLe b 1 1) 1) split &&
  (if xf = 10 then scOk && (!runAcc b || (a.typeOf (runBank b) n 1 && SMap.get 0 a.accInfo (runBank b * 64 + 1) == sc))
   else sc == 0 && (!runAcc b || a.typeOf (runBank b) n 0))

/-- The buffers exchanged (R178). -/
def ArrayHalf.swapped (a : ArrayHalf) : ArrayHalf :=
  { a with active := a.shadow, activeInfo := a.shadowInfo, shadow := a.active, shadowInfo := a.activeInfo, shadowFull := false }

/-- The entry of a half's accumulators that vector or row `i` of a bank uses (R180, R199). -/
def accEntry (split : Bool) (bank i : Nat) : Nat := if split then bank * 8 + i else bank * 16 + i

/-- One vector's outputs go into, or are added to, its accumulator entry (R180, R183, R191, R192). -/
def accumulate (acc : SMap Word) (e : Nat) (fresh int : Bool) (outs : List Word32) : SMap Word :=
  (outs.zip (List.range 32)).foldl (fun a p =>
    let k := p.2 * 32 + e
    let old : Word32 := BitVec.ofNat 32 (SMap.get 0 a k).toNat
    let v : Word32 := if fresh then p.1 else if int then old + p.1 else fadd old p.1
    SMap.set 0 a k (BitVec.ofNat 64 v.toNat)) acc

/-- An overwriting run sets the number type of its bank and of the entries it writes, and latches INT8 scales (R180, R192). -/
def ArrayHalf.latchBank (a : ArrayHalf) (b : List Byte) : ArrayHalf :=
  let k := runBank b * 64
  let int := getLe b 2 1 == 10
  let ty := if int then 2 else 1
  if runAcc b then a
  else
    let rest := a.accInfo.filter (fun p => p.1 / 64 != runBank b)
    let mine := mapFrom 0 k 64 (fun i =>
      if i = 0 then ty else if i = 1 then (if int then getLe b 12 4 else 0)
      else if i < 34 then (if int then (SMap.get 0 a.active (1024 + (i - 2))).toNat else 0)
      else if i - 34 < getLe b 8 1 then ty else SMap.get 0 a.accInfo (k + i))
    { a with accInfo := rest.filter (fun p => decide (p.1 < k)) ++ mine ++ rest.filter (fun p => decide (k < p.1)) }

/-- All vectors of a run pass the active buffer. -/
def ArrayHalf.run (a : ArrayHalf) (b : List Byte) (split : Bool) (vecs : List (List Byte)) : ArrayHalf :=
  let xf := getLe b 2 1
  let a1 := a.latchBank b
  let outs := vecs.map (laneOutputs a.active (nth 0 a.activeInfo 0) (nth 0 a.activeInfo 1) xf (if split then 16 else 32) (bitOf (getLe b 1 1) 1))
  { a1 with
    acc := (outs.zip (List.range outs.length)).foldl
      (fun (acc : SMap Word) (p : List Word32 × Nat) => accumulate acc (accEntry split (runBank b) p.2) (!runAcc b) (xf == 10) p.1) a1.acc }

/-- A descriptor has left its queue with all its effects done; DESCRIPTOR_COMPLETION posts it. -/
def Module.mxDone (m : Module) (site t id : Nat) : Module := m.updFlight site t id (fun g => { g with done := true, pieces := [] })

/-- A run enters the array (R184 to R193). -/
def Module.enterRun (m : Module) (site t : Nat) (f : InFlight) (vecs : Module → Except Module (List (List Byte))) : Module :=
  let c := m.core site
  let h := c.mxHalf t
  let b := f.bytes
  let m1 := m.updCore site (fun c => c.updHalf h (fun a =>
    let a1 := { a with runs := a.runs.filter (fun q => q.1 != f.id), feeder := [] }
    if runSwap b then a1.swapped else a1))
  let a := (m1.core site).half h
  if !a.runOk b a.activeInfo c.split then m1.flightFault site t f 0x01 0 0
  else match vecs m1 with
    | .error m2 => m2
    | .ok vs => (m1.updCore site (fun c => c.updHalf h (fun a => a.run b c.split vs))).mxDone site t f.id

/-- MX.ELEM runs: one result for each element, rounded once (R204). -/
def Module.enterElem (m : Module) (site t : Nat) (f : InFlight) : Module :=
  let b := f.bytes
  let fmt := getLe b 2 1
  let n := getLe b 16 4
  let m1 := m.updCore site (fun c => c.updHalf (c.mxHalf t) (fun a => { a with runs := a.runs.filter (fun q => q.1 != f.id) }))
  match m1.padGet site t f 3 (getLe b 4 3) (2 * n), m1.padGet site t f 3 (getLe b 8 3) (2 * n) with
  | .error m2, _ => m2
  | _, .error m2 => m2
  | .ok x, .ok y =>
    let op (p : Val × Val) : Val := if bitOf (getLe b 1 1) 0 then p.1.add p.2 else p.1.mul p.2
    let outs := ((decodeElems fmt n x).zip (decodeElems fmt n y)).map op
    match m1.padPut site t f 3 (getLe b 12 3) (encodeAny fmt (fun _ => .near) outs) false with
    | .error m2 => m2
    | .ok m2 => m2.mxDone site t f.id

/-- A run at the head of its queue may enter as far as R155 and R186 go. -/
def Thread.runFree (th : Thread) (f : InFlight) : Bool :=
  let op (g : InFlight) : Nat := getLe g.bytes 0 1
  getLe f.bytes 0 1 == 0x24 ||
  (!(runSwap f.bytes && th.earlier f.id (fun g => op g == 0x20)) &&
   !(th.earlier f.id (fun g => op g == 0x22 && b2n (bitOf (getLe g.bytes 1 1) 0) == runBank f.bytes)))

/-- The core works and the thread's MX descriptors may start: no switch of the thread and no entry to Shuttered is under way (R207,
R355, R422). -/
def Module.arrayOn (m : Module) (site t : Nat) : Bool :=
  (m.core site).enabled && m.runs (clusterOf site) && !m.resetting site && !(t ∈ (m.core site).switching)

/-- MX_RUN_ENTRY: the run, or MX.ELEM, at the head of a half's run queue enters the array. In whole mode `half` only says
where a parity error lies. The check of R184 comes before any byte of a stream is taken. -/
def doMxRunEntry (site half : Nat) (parityBad : Bool) (m : Module) : Module :=
  let c := m.core site
  let t := c.mxHalf half
  let th := c.th t
  match ((c.half t).runs.head?).bind (fun r => th.find r.1) with
  | none => m
  | some f =>
    let b := f.bytes
    if !m.arrayOn site t ∨ !th.runFree f then m
    else if getLe b 0 1 = 0x24 then (if parityBad then m.halfCheck site t half f else m.enterElem site t f)
    else
      let vb := vectorBytes ((c.half t).runInfo (runSwap b)) (getLe b 2 1) (bitOf (getLe b 1 1) 1)
      let n := getLe b 8 1
      let info := (c.half t).runInfo (runSwap b)
      if bitOf (getLe b 1 1) 0 ∧ (c.half t).runOk b info c.split then
        match m.takeFeed site t (getLe b 7 1 % 16) (n * vb) f with
        | .wait m1 => m1
        | .fault m1 => m1
        | .have_ m1 bs => if parityBad then m1.halfCheck site t half f else m1.enterRun site t f (fun _ => .ok (runsOf vb n bs))
      else if parityBad then m.halfCheck site t half f
      else m.enterRun site t f (fun m1 => m1.padGets site t f 3 vb ((List.range n).map (fun i => getLe b 4 3 + i * getLe b 10 2)))
def execMxRunEntry (site half : Nat) (parityBad : Bool) (s : State) : Host.Outcome State Fault Refusal :=
  onModule (siteOk site && decide (half < 2)) (doMxRunEntry site half parityBad) s

/-! ## Draining (R188, R192 to R194) -/

/-- One lane of an entry, scaled and ready for conversion: an FP32 entry by out_scale; an INT32 entry by in_scale, column
scale and out_scale, each product rounded to FP32. `e` is the entry of row `i`. -/
def ArrayHalf.drainLane (a : ArrayHalf) (bank i e : Nat) (out : Word32) (j : Nat) : Val :=
  let w : Word32 := BitVec.ofNat 32 (SMap.get 0 a.acc (j * 32 + e)).toNat
  let info (k : Nat) : Word32 := BitVec.ofNat 32 (SMap.get 0 a.accInfo (bank * 64 + k))
  if SMap.get 0 a.accInfo (typeKey bank i) = 2 then
    f32 (fmul (fmul (fmul (to32 (.ofInt w.toInt)) (info 1)) (info (2 + j))) out)
  else f32 (fmul w out)

/-- One output row of a drain. `phys` is the physical entry that R225 counts. -/
def ArrayHalf.drainRow (a : ArrayHalf) (site : Nat) (b : List Byte) (bank i e phys : Nat) : List Byte :=
  let fmt := getLe b 2 1
  if fmt = 11 then (List.range 32).flatMap (fun j => leBytes 4 (SMap.get 0 a.acc (j * 32 + e)).toNat)
  else
    let rnd (j : Nat) : Rnd :=
      if bitOf (getLe b 1 1) 2 then .stoch (stochU (getLe b 16 4) (2 ^ 62 + site * 2 ^ 10 + phys * 2 ^ 5 + j)) else .near
    encodeAny fmt rnd ((List.range 32).map (a.drainLane bank i e (BitVec.ofNat 32 (getLe b 12 4))))

/-- The rows a drain writes, each with its scratchpad offset. -/
def ArrayHalf.drainOut (a : ArrayHalf) (site t : Nat) (split : Bool) (b : List Byte) : List (Nat × List Byte) :=
  let bank := b2n (bitOf (getLe b 1 1) 0)
  (List.range (getLe b 8 1)).map (fun i =>
    let e := accEntry split bank i
    (getLe b 4 3 + i * getLe b 10 2, a.drainRow site b bank i e (if split then t * 16 + e else e)))
/-- The half after a drain: the entries drained are 0 where it clears them (R194). -/
def ArrayHalf.drained (a : ArrayHalf) (split : Bool) (b : List Byte) : ArrayHalf :=
  let es := (List.range (getLe b 8 1)).map (accEntry split (b2n (bitOf (getLe b 1 1) 0)))
  if bitOf (getLe b 1 1) 1 then { a with acc := a.acc.filter (fun p => !(p.1 % 32 ∈ es)) } else a

/-- MX_DRAIN_START: the drain at the head of its queue reads its bank and writes its rows, once every earlier run into the
bank has completed (R155). `parityBad`: an accumulator entry it reads has bad parity (R202). -/
def doMxDrainStart (site half : Nat) (parityBad : Bool) (m : Module) : Module :=
  let c := m.core site
  let t := c.mxHalf half
  let th := c.th t
  match ((c.half t).drains.head?).bind (fun r => th.find r.1) with
  | none => m
  | some f =>
    let b := f.bytes
    let bank := b2n (bitOf (getLe b 1 1) 0)
    let run (g : InFlight) : Bool := getLe g.bytes 0 1 == 0x21 && runBank g.bytes == bank
    if !m.arrayOn site t ∨ th.earlier f.id run then m
    else
      let a := c.half t
      let m1 := m.updCore site (fun c => c.updHalf t (fun a => { a with drains := a.drains.filter (fun q => q.1 != f.id) }))
      if getLe b 2 1 = 11 ∧ (!a.typeOf bank (getLe b 8 1) 1 ∨ getLe b 12 4 ≠ 0x3F800000) then m1.flightFault site t f 0x01 0 0
      else if parityBad then m1.halfCheck site t half f
      else
        let m2 := m1.updCore site (fun c => c.updHalf t (fun a => a.drained c.split b))
        match m2.padPuts site t f 3 (a.drainOut site t c.split b) with
        | .error m3 => m3
        | .ok m3 => m3.mxDone site t f.id
def execMxDrainStart (site half : Nat) (parityBad : Bool) (s : State) : Host.Outcome State Fault Refusal :=
  onModule (siteOk site && decide (half < 2)) (doMxDrainStart site half parityBad) s

/-! ## Changing the mode (R155, R160, R201) -/

/-- The array takes a mode: a change empties buffers and accumulators. -/
def Core.setMode (c : Core) (split : Bool) : Core :=
  let c1 := { c with wholePending := false }
  if c.split = split then c1 else { c1 with split := split, half0 := c.half0.cleared, half1 := c.half1.cleared }

/-- An MX.SPLIT takes effect once nothing else of the array is in flight and, for whole mode, thread 1 has ended; one to whole mode
that waits while a half is fenced raises the split resource fault (R203). -/
def Module.completeSplit (m : Module) (site t : Nat) (f : InFlight) : Module :=
  let c := m.core site
  let split := bitOf (getLe f.bytes 1 1) 0
  let others (th : Thread) : Bool := th.flight.any (fun g => g.cls == 2 && getLe g.bytes 0 1 != 0x23)
  if !split ∧ (c.half0.fenced ∨ c.half1.fenced) then m.flightFault site t f 0x05 0 0
  else if others c.t0 ∨ others c.t1 ∨ (!split ∧ (c.t1.item.isSome ∨ c.saved1.isSome)) then m
  else (m.updCore site (fun c => c.setMode split)).complete1 site t f

/-- An MX descriptor completes (R146). -/
def Module.completeMx (m : Module) (site t : Nat) (f : InFlight) (check : Bool) : Module :=
  match getLe f.bytes 0 1 with
  | 0x20 => m.completeLoadw site t f check
  | 0x23 => m.completeSplit site t f
  | _ => if f.done then m.complete1 site t f else m

end Sys2Proof.Machine
end

