-- ==== Sys2Proof/Machine/BringUp.lean ====
section
/-! DEFINITION. From power to ready (chapter 15): the stages S0 to S8, their reports, the map of units of S6, cold
warming, suspension by a coolant stop, and what stops a start. -/

namespace Sys2Proof.Machine

/-! ## Which units a listed entry takes out of service (R80, R466) -/

/-- The entry takes the core of a site out of service by itself (R20, R26, R31). -/
def RecEntry.coreOut (e : RecEntry) (site : Nat) : Bool :=
  if e.kind = 0 ∨ e.kind = 2 then e.unit == site
  else if e.kind = 5 ∨ e.kind = 6 then e.unit == clusterOf site
  else if e.kind = 7 then e.unit == stackOfSite site
  else if e.kind = 8 then e.unit == deckOf (clusterOf site)
  else false
/-- The entry takes the slice of a site out of service. -/
def RecEntry.sliceOut (e : RecEntry) (site : Nat) : Bool := e.kind != 0 && e.coreOut site
/-- Both halves of a site's array are listed (R203). -/
def halvesOut (l : List RecEntry) (site : Nat) : Bool :=
  l.any (fun e => e.kind == 1 && e.unit == site * 2) && l.any (fun e => e.kind == 1 && e.unit == site * 2 + 1)
/-- Cells of a cluster that are listed, as a mask; three take the cluster out of service (R26). -/
def cellsOut (l : List RecEntry) (c : Nat) : Nat := maskOf 4 (fun i => l.any (fun e => e.kind == 11 && e.unit == c * 4 + i))
def clusterOut (l : List RecEntry) (c : Nat) : Bool := decide (3 ≤ (maskList (cellsOut l c) 4).length)
/-- A list takes the core, or the slice, of a site out of service. -/
def coreListed (l : List RecEntry) (s : Nat) : Bool := l.any (fun e => e.coreOut s) || halvesOut l s || clusterOut l (clusterOf s)
def sliceListed (l : List RecEntry) (s : Nat) : Bool := l.any (fun e => e.sliceOut s) || clusterOut l (clusterOf s)
/-- Sites whose core, whose slice, a list takes out of service. -/
def coresOut (l : List RecEntry) : List Nat := allSites.filter (coreListed l)
def slicesOut (l : List RecEntry) : List Nat := allSites.filter (sliceListed l)

/-- Everything known to be out of service: fuse map, field repair record, results of this start (R466). -/
def Module.outList (m : Module) : List RecEntry := m.bring.fuse ++ m.bring.record ++ m.bring.findings

/-- Whether a number is a unit of a kind, as R80 codes it. -/
def unitOk (kind unit : Nat) : Bool :=
  match kind with
  | 0 => siteOk unit
  | 1 => siteOk (unit / 2)
  | 2 => siteOk unit
  | 3 => siteOk unit
  | 4 => siteOk (unit % 65536) && decide (unit / 65536 < 64)
  | 5 => clusterOk unit
  | 6 => clusterOk unit
  | 7 => decide (unit < Config.stackCount)
  | 8 => decide (unit < Config.decks)
  | 9 => decide (unit / 2048 < Config.bridges ∧ unit % 64 < 34)
  | 10 => decide (unit / 32 < Config.bridges)
  | 11 => clusterOk (unit / 4)
  | 12 => decide (unit < Config.sensors)
  | 13 => siteOk (unit % 65536) && decide (unit / 65536 < 64)
  | _ => false

/-- The detail of an entry of the fuse map (R80); of a page and a bridge lane the map's own number tells which page of the slice and
which spare. -/
def fuseDetail (kind unit d : Nat) : Nat :=
  match kind with
  | 3 => devAddr unit (d % 8064 * 65536)
  | 4 => 4032
  | 9 => nth 0xFF [32, 33, 0xFF] (d % 3)
  | _ => 0

/-- The fuse repair map as entries (R466): the units that exist, with the details of R80. -/
def fuseEntries : List RecEntry :=
  (Config.fuseMap.filter (fun f => unitOk f.1 f.2.1)).map (fun f => ⟨f.1, 0, 0, f.2.1, fuseDetail f.1 f.2.1 f.2.2⟩)

/-- A result of this start: kept once, and logged as 0x81 when no source marks the unit yet (R466, R476). -/
def Module.addFinding (m : Module) (e : RecEntry) : Module :=
  if m.outList.any (fun r => r.kind == e.kind && r.unit == e.unit && r.detail == e.detail) then m
  else ({ m with bring := { m.bring with findings := m.bring.findings ++ [e] } }).bringEvent 0x81 e.cause e.kind 2 e.unit e.detail

/-- A finding of the operand as an entry, coded as R80 codes it. -/
def findingEntry (f : Finding) : RecEntry := ⟨UnitKind.code f.kind, 1, f.cause, f.unit, f.detail⟩

/-! ## Stage reports (R455, R456) -/

/-- Stage `n` is the one in progress and may go on. -/
def Module.inStage (m : Module) (n : Nat) : Bool :=
  m.bring.active && !m.bring.suspended && !m.bring.stageFailed && m.bring.stage == n

/-- Changes the report of a stage. -/
def Module.updReport (m : Module) (n : Nat) (f : Report → Report) : Module :=
  { m with bring := { m.bring with reports := SMap.upd {} m.bring.reports n f } }

/-- A stage starts: its report shows running (R455); at S5 a Cold group calls for warming (R385); at S8 what ended
the last run is no longer shown (R581). -/
def Module.beginStage (m : Module) (n : Nat) : Module :=
  let m1 := m.updReport n (fun r => { quick := m.bring.quick, result := 1, attempt := min (r.attempt + 1) 255 })
  let b := m1.bring
  { m1 with bring := { b with
    stage := n, warming := n == 5 && allGroups.any (fun g => m.band g == 0),
    lastTrip := b.lastTrip && n != 8, lastRail := b.lastRail && n != 8, lastFeeds := b.lastFeeds && n != 8 } }

/-- A stage ends: the whole report is written (R455, R456). `before` is the module as it stood at the start. -/
def Module.writeReport (m : Module) (n : Nat) (before : Module) (result dur cause unit : Nat) : Module :=
  let cores := (coresOut m.outList).length - (coresOut before.outList).length
  let slices := (slicesOut m.outList).length - (slicesOut before.outList).length
  m.updReport n (fun r => { r with
    result := result, duration := min dur (2 ^ 32 - 1), fenced := cores, cause := cause, unit := unit % 65536, detail := slices })

/-- A stage passes, with the first of its causes; the next one starts (R454). -/
def Module.passStage (m : Module) (n : Nat) (before : Module) (dur cause unit : Nat) : Module :=
  let changed := m.bring.findings.length != before.bring.findings.length
  (m.writeReport n before (if changed then 3 else 2) dur cause unit).beginStage (n + 1)

/-- A cause that stops the start: stage_failed, the report with result 4, event 0x80 (fatal), rails as they are
(R475, R593). -/
def Module.failStage (m : Module) (n event cause kind unit detail dur : Nat) : Module :=
  let m1 := (m.updReport n (fun r => { r with
    result := 4, duration := min dur (2 ^ 32 - 1), cause := cause, unit := unit % 65536, detail := detail })).setStageFailed true
  let m2 := (m1.bringEvent event cause kind 2 unit detail).fatalRecord
  { m2 with bring := { m2.bring with active := false, suspended := false } }

/-- The first finding of a stage with a cause of a list. -/
def firstCause (fs : List Finding) (causes : List Nat) : Option Finding := fs.find? (fun f => decide (f.cause ∈ causes))
/-- Cause and unit of the first finding; 0 with none. -/
def headCause (fs : List Finding) : Nat × Nat := match fs with | [] => (0, 0) | f :: _ => (f.cause, f.unit)
/-- The unit a finding of a cause names (R457): a network half, which has no kind in R476, is numbered deck × 2 + half. -/
def findingOk (f : Finding) : Bool :=
  let unit (k : UnitKind) : Bool := f.kind == k && unitOk (UnitKind.code k) f.unit
  match f.cause with
  | 0x34 => unit .slice | 0x35 => unit .bridgeLane
  | 0x41 => unit .cluster | 0x42 => f.kind == .none && decide (f.unit < 20) | 0x43 => unit .stack | 0x44 => unit .deck
  | 0x45 => unit .cell | 0x46 => unit .sensor | 0x47 => unit .bridgeGroup
  | 0x71 => unit .arrayHalf | 0x72 => unit .core | 0x73 => unit .bankUnit | 0x74 => unit .router | 0x75 => unit .bridgeGroup
  | 0x76 => unit .core
  | 0x21 | 0x48 | 0x61 | 0x81 | 0x91 | 0x92 => true
  | _ => false
/-- Every finding belongs to stage `n`, with a unit of its cause's kind (R457). -/
def findingsOf (n : Nat) (fs : List Finding) : Bool := fs.all (fun f => f.cause / 16 == n && findingOk f)

/-- With deck 0 fenced the host port stops: the error is fatal, and every rail but standby goes off (R592, R593). -/
def Module.deckZeroLost (m : Module) : Module :=
  if 0 ∈ m.bring.decksFenced then
    let m1 := (m.escalate 0x81).fatalRecord.railsOff
    { m1 with bring := { m1.bring with active := false } }
  else m

/-! ## S0 to S4 (R459 to R463) -/

/-- S0: the module controller boots; its self-check stops the start (R454, R457, R589). -/
def doS0Standby (romOk : Bool) (controllerRev dur : Nat) (m : Module) : Module :=
  if m.inStage 0 then
    if romOk then
      let m1 := { m with
        power := { m.power with standby := true }, clocks := { m.clocks with mgmtRefOk := true },
        bring := { m.bring with controllerRev := controllerRev % 256 } }
      m1.passStage 0 m dur 0 0
    else m.failStage 0 0x80 0x0002 0xFF 0 0 dur
  else m
/-- The management port answers from the end of S0, failed or not, and has read its straps (R573, R580, R589). -/
def Mgmt.started (g : Mgmt) : Mgmt := { g with up := true, strap := Config.mgmtSa.toNat }
def execS0Standby (romOk : Bool) (controllerRev : Nat) (dur : Nat) (s : State) : Host.Outcome State Fault Refusal :=
  onState true (fun s => { s with
    m := doS0Standby romOk controllerRev dur s.m, mgmt := if s.m.inStage 0 then s.mgmt.started else s.mgmt }) s

/-- The active image slot. -/
def Module.activeSlot (m : Module) : Nat := if (nth {} m.bring.slots 1).active then 1 else 0
/-- Marks a slot active (R459, R522). -/
def Module.setActive (m : Module) (k : Nat) : Module :=
  { m with bring := { m.bring with
    slots := [{ (nth {} m.bring.slots 0) with active := k == 0 }, { (nth {} m.bring.slots 1) with active := k == 1 }] } }

/-- S1: images verified, with the fallback to the other slot; a deck whose link does not answer is fenced (R31,
R459). -/
def doS1Firmware (info : FwInfo) (_fs : List Finding) (dur : Nat) (m : Module) : Module :=
  if m.inStage 1 then
    if !info.slotOk ∧ !info.otherOk then m.failStage 1 0x80 0x0012 14 (1 - m.activeSlot) 0 dur
    else
      let m1 := if info.slotOk then m
        else (m.setActive (1 - m.activeSlot)).bringEvent 0x84 0x0011 14 2 m.activeSlot 0
      let s := nth {} m1.bring.slots m1.activeSlot
      let m2 := { m1 with bring := { m1.bring with
        grade := info.grade, moduleRev := info.moduleRev % 256, runModule := s.moduleVer, runDeck := s.deckVer,
        micro := s.microVer, fuse := fuseEntries } }
      let m3 := info.deadDecks.foldl (fun acc d =>
        ({ acc with bring := { acc.bring with decksFenced := insertNew d acc.bring.decksFenced } }).addFinding
          ⟨8, 1, 0x0013, d, 0⟩) m2
      let c := if !info.slotOk then (0x0011, m.activeSlot) else match info.deadDecks with | [] => (0, 0) | d :: _ => (0x0013, d)
      (m3.passStage 1 { m with bring := { m.bring with fuse := fuseEntries } } dur c.1 c.2).deckZeroLost
  else m
def execS1Firmware (info : FwInfo) (fs : List Finding) (dur : Nat) (s : State) : Host.Outcome State Fault Refusal :=
  onModule (decide (info.grade < 2) && info.deadDecks.all (fun d => decide (d < 10))) (doS1Firmware info fs dur) s

/-- What the package connects to a deck edge (R30): edges 0 north, 1 east, 2 south, 3 west. -/
inductive EdgeMacro where
  | host
  | dupieno (port : Nat)
  | bridge (n : Nat)
  | unconnected
deriving DecidableEq, Repr

/-- The table of R30. -/
def edgeMacro (deck edge : Nat) : EdgeMacro :=
  let row := deck / 5
  match edge with
  | 0 => if row = 1 then .bridge (deck + 3) else if deck = 0 then .dupieno 0 else if deck = 4 then .dupieno 1 else .unconnected
  | 1 => if deck % 5 = 4 then .unconnected else .bridge (deck - row)
  | 2 => if row = 0 then .bridge (deck + 8) else if deck = 5 then .dupieno 2 else if deck = 9 then .dupieno 3 else .unconnected
  | _ => if deck % 5 ≠ 0 then .bridge (deck - 1 - row) else if deck = 0 then .host else .unconnected

/-- Macros held powered down, by deck × 4 + edge (R30). -/
def unconnected : List Nat := (List.range 40).filter (fun i => edgeMacro (i / 4) (i % 4) == .unconnected)

/-- S2: the rails come up in the function view (R413, R460); from its end the link trains and configuration space
answers, and PWR_GOOD is released (R472, R632). Macros without a connection stay powered down from here on (R30). -/
def doS2Rails (fs : List Finding) (dur : Nat) (m : Module) : Module :=
  if m.inStage 2 then
    match firstCause fs [0x0021] with
    | some f => (m.failStage 2 0x80 0x0021 (UnitKind.code f.kind) f.unit f.detail dur).railFault 0
    | none =>
      let up := !m.port.perst && m.clocks.hostRefOk
      let m1 := { m with
        bring := { m.bring with macrosOff := unconnected },
        power := { m.power with vib := true, vdram := true, vpp := true, vlink := true, pwrGood := true },
        port := { m.port with
          linkUp := up, cfgReady := up, width := if up then 16 else m.port.width, rate := if up then 64 else m.port.rate } }
      m1.passStage 2 m dur 0 0
  else m
def execS2Rails (fs : List Finding) (dur : Nat) (s : State) : Host.Outcome State Fault Refusal :=
  onModule (findingsOf 2 fs) (doS2Rails fs dur) s

/-- CLK_RESET shows a cold or module reset from S3 on (R453). -/
def Module.showReset (m : Module) : Module :=
  match m.clocks.resets.find? (fun r => decide (r.scope ≤ 1)) with
  | none => m
  | some r => { m with clocks := { m.clocks with resetScope := r.scope, resetCause := r.cause, resetTarget := 0 } }

/-- The spare that replaces a bridge lane: the group's next one, or none (R80, R323). -/
def Module.spareFor (m : Module) (unit : Nat) : Nat :=
  let used := countOf (fun (e : RecEntry) => e.kind == 9 && e.unit / 64 == unit / 64) m.outList
  if used < 2 then 32 + used else 0xFF

/-- A deck that a stage fences leaves with its number noted; other findings join the results (R457). -/
def Module.takeFinding (m : Module) (f : Finding) : Module :=
  let m1 := if f.kind = .deck then
      { m with bring := { m.bring with decksFenced := insertNew f.unit m.bring.decksFenced } } else m
  if f.kind = .bridgeLane then
    (if m1.outList.any (fun e => e.kind == 9 && e.unit == f.unit) then m1
     else m1.addFinding { findingEntry f with detail := m1.spareFor f.unit })
  else m1.addFinding (findingEntry f)

/-- What a deck's index gains through an edge (R31). -/
def edgeStep (edge : Nat) : Int := match edge with | 0 => -5 | 1 => 1 | 2 => 5 | _ => -1

/-- Discovery over one bridge: a deck without an index takes the one that the bridge gives it; one outside the module, or another
deck's, is none. -/
def takeIndex (known : List (Nat × Int)) (from_ edge to_ : Nat) : List (Nat × Int) :=
  match known.lookup from_, known.lookup to_ with
  | some i, none =>
    let j := i + edgeStep edge
    if 0 ≤ j ∧ j < 10 ∧ !known.any (fun p => p.2 == j) then known ++ [(to_, j)] else known
  | _, _ => known
/-- One pass over the trained bridges, from either end of each. -/
def indexPass (links : List (Nat × Nat × Nat × Nat)) (known : List (Nat × Int)) : List (Nat × Int) :=
  links.foldl (fun k l => takeIndex (takeIndex k l.1 l.2.1 l.2.2.1) l.2.2.1 l.2.2.2 l.1) known
/-- The indices of the decks that discovery reaches from the one with the strap (R31). -/
def discIndices (d : Discovery) (strap : Nat) : List (Nat × Int) :=
  (List.range 10).foldl (fun k _ => indexPass d.links k) [(strap, 0)]
/-- A deck that a path gives another index than it has (R31). -/
def discConflict (d : Discovery) (known : List (Nat × Int)) : Option Int :=
  let against (a e b : Nat) : Option Int :=
    match known.lookup a, known.lookup b with
    | some i, some j => if i + edgeStep e = j then none else some j
    | _, _ => none
  d.links.findSome? (fun l => (against l.1 l.2.1 l.2.2.1).or (against l.2.2.1 l.2.2.2 l.1))

/-- What discovery comes to (R31, R457): the cause, kind, unit of what stops the start, or the decks no trained bridge reaches. -/
def discResult (d : Discovery) : Except (Nat × Nat × Nat) (List Nat) :=
  match d.straps.eraseDups with
  | [strap] =>
    let known := discIndices d strap
    match discConflict d known with
    | some j => .error (0x0032, 8, j.toNat)
    | none =>
      if d.links.any (fun l => l.1 == strap || l.2.2.1 == strap) then
        .ok ((List.range Config.decks).filter (fun i => !known.any (fun p => p.2 == (i : Int))))
      else .error (0x0033, 8, 0)
  | _ => .error (0x0031, 0xFF, 0)
def discWf (d : Discovery) : Bool := d.links.all (fun l => decide (l.2.1 < 4 ∧ l.2.2.2 < 4))

/-- S3: discovery and interconnect tests (R31, R461, R462). Causes 0x31 and 0x32 stop the start, 0x33 does for deck 0; a deck that
no trained bridge reaches is fenced, unless it is fenced already. -/
def doS3Discovery (disc : Discovery) (deckRev : Nat) (fs : List Finding) (dur : Nat) (m : Module) : Module :=
  if m.inStage 3 then
    let m0 := m.showReset
    match discResult disc with
    | .error (cause, kind, unit) => m0.failStage 3 0x80 cause kind unit 0 dur
    | .ok lost =>
      let all := (lost.filter (fun d => !(d ∈ m.bring.decksFenced))).map (fun d => Finding.mk 0x0033 .deck d 0) ++ fs
      let m1 := { m0 with bring := { m0.bring with deckRev := deckRev % 256, singleBond := disc.singleBond } }
      (all.foldl (fun acc f => acc.takeFinding f) m1).passStage 3 m dur (headCause all).1 (headCause all).2
  else m
def execS3Discovery (disc : Discovery) (deckRev : Nat) (fs : List Finding) (dur : Nat) (s : State) :
    Host.Outcome State Fault Refusal :=
  onModule (discWf disc && findingsOf 3 fs && fs.all (fun f => decide (0x0034 ≤ f.cause))) (doS3Discovery disc deckRev fs dur) s

/-- A sensor's comparator is disarmed, and its region runs at the guard level (R378). -/
def Module.guardSensor (m : Module) (s : Nat) : Module := (m.updSensor s (fun q => { q with disarmed := true })).refreshGuard (regionOf s)

/-- S4: calibration (R463). Cause 0x48 stops the start. -/
def doS4Calibration (fs : List Finding) (dur : Nat) (m : Module) : Module :=
  if m.inStage 4 then
    match firstCause fs [0x0048] with
    | some f => m.failStage 4 0x80 0x0048 (UnitKind.code f.kind) f.unit f.detail dur
    | none =>
      let halfRouters (f : Finding) : List Finding :=
        if f.cause = 0x0042 then (clustersOfHalf f.unit).map (fun c => ⟨f.cause, .router, c, 0⟩) else [f]
      let m1 := (fs.flatMap halfRouters).foldl (fun acc f => acc.takeFinding f) m
      let m2 := (fs.filter (fun f => f.cause == 0x46)).foldl (fun (acc : Module) f => acc.guardSensor f.unit) m1
      (m2.passStage 4 m dur (headCause fs).1 (headCause fs).2).deckZeroLost
  else m
def execS4Calibration (fs : List Finding) (dur : Nat) (s : State) : Host.Outcome State Fault Refusal :=
  onModule (findingsOf 4 fs) (doS4Calibration fs dur) s

/-! ## S5: memory (R464, R465) -/

/-- The 64 KiB page of a failing cell. -/
def cellPage (f : CellFail) : Nat := rowOffset f.bank f.row / 65536
/-- Rows that fail only at the two longest holds are counted and logged, not retired (R465). -/
def cellWeak (f : CellFail) : Bool := decide (3072 < f.holdMs) && decide (f.row < 4032)
/-- Cause of a failure: march or retention (R457). -/
def cellCause (f : CellFail) : Nat := if f.holdMs = 0 then 0x0051 else 0x0052
/-- A cell's page as an entry; its bank; its slice (R80). -/
def cellPageEntry (f : CellFail) : RecEntry := ⟨3, 1, (cellCause f), f.site, devAddr f.site ((cellPage f) * 65536)⟩
def cellBankEntry (f : CellFail) : RecEntry := ⟨4, 1, (cellCause f), f.bank * 65536 + f.site, 4032⟩
def cellSliceEntry (f : CellFail) : RecEntry := ⟨2, 1, (cellCause f), f.site, 0⟩

/-- Pages that this start retires for failing cells in the bank of `f`; `old` are the entries from before it (R465). -/
def pagesInBank (old : List RecEntry) (l : List CellFail) (f : CellFail) : Nat :=
  let here (g : CellFail) : Bool := g.site == f.site && g.bank == f.bank && !cellWeak g && decide (g.row < 4032)
  let isNew (g : CellFail) : Bool := !old.any (fun e => e.kind == 3 && e.unit == g.site && e.detail == (cellPageEntry g).detail)
  ((l.filter (fun g => here g && isNew g)).map cellPage).eraseDups.length

/-- Places one entry under the limits of R78: a page that does not fit becomes a slice entry; a slice entry that does
not fit leaves cause 0x54 (R465). -/
def Module.placeEntry (m : Module) (e : RecEntry) : Module :=
  let all := m.bring.record ++ m.bring.findings
  let pages := countOf (fun (r : RecEntry) => r.kind == 3) all
  let others := countOf (fun (r : RecEntry) => r.kind == 2 || r.kind == 4) all
  if e.kind = 3 then
    if pages < 65536 then m.addFinding e
    else if others < 1024 then m.addFinding ⟨2, 1, e.cause, e.unit, 0⟩
    else m.bringEvent 0x81 0x0054 2 2 e.unit 0
  else if others < 1024 then m.addFinding e
  else m.bringEvent 0x81 0x0054 2 2 (e.unit % 65536) 0

/-- The bank of `f` after its page is retired: with more than 16 pages of this start it is retired as well; where
another bank of the slice is retired, the slice leaves service (R465). -/
def Module.placeBank (m : Module) (pages : Nat) (f : CellFail) : Module :=
  if pages ≤ 16 then m
  else match m.outList.find? (fun e => e.kind == 4 && e.unit % 65536 == f.site) with
    | none => m.placeEntry (cellBankEntry f)
    | some e => if e.unit / 65536 = f.bank then m else m.placeEntry (cellSliceEntry f)

/-- What one failing cell does (R465): nothing for a weak one or in a slice that is out of service; the slice, for a
cell of the reserved area; else its page, and its bank. -/
def Module.takeFail (m : Module) (pages : Nat) (f : CellFail) : Module :=
  if cellWeak f ∨ sliceListed m.outList f.site then m
  else if 4032 ≤ f.row then m.placeEntry (cellSliceEntry f)
  else if m.outList.any (fun e => e.kind == 3 && e.unit == f.site && e.detail == (cellPageEntry f).detail) then m
  else (m.placeEntry (cellPageEntry f)).placeBank pages f

/-- All failures of the stage become entries (R465). -/
def Module.takeFails (m : Module) (l : List CellFail) : Module :=
  let old := m.outList
  l.foldl (fun acc f => acc.takeFail (pagesInBank old l f) f) m

/-- A row that only fails a long hold is counted once and logged as a correction (R465). -/
def Module.noteWeak (m : Module) (seen l : List CellFail) : Module :=
  let known (f : CellFail) : Bool := seen.any (fun g => g.site == f.site && g.bank == f.bank && g.row == f.row)
  let w := l.filter (fun f => cellWeak f && !known f)
  let m1 := { m with bring := { m.bring with weakRows := m.bring.weakRows + w.length } }
  w.foldl (fun acc f => acc.memEvent 0x01 f.site (rowOffset f.bank f.row) 1 4 0) m1

/-- RETENTION_HOLD_END: one hold of one group ends, in a full S5 only; its failures wait for the end of S5 (R464). -/
def doRetentionHoldEnd (_stack _group ms : Nat) (fails : List CellFail) (m : Module) : Module :=
  if m.inStage 5 ∧ !m.bring.quick ∧ !m.bring.warming then
    let l := fails.map (fun f => { f with holdMs := ms })
    ({ m with bring := { m.bring with fails := m.bring.fails ++ l } }).noteWeak m.bring.fails l
  else m
def execRetentionHoldEnd (stack group ms : Nat) (fails : List CellFail) (s : State) : Host.Outcome State Fault Refusal :=
  onModule (decide (stack < 40 ∧ group < 4 ∧ ms ∈ [2048, 3072, 5120, 8192]) && fails.all CellFail.wf)
    (doRetentionHoldEnd stack group ms fails) s

/-- COLD_WARMING_END: warming ends when no group is Cold, event 0x58; after 120 s it fails S5 with cause 0x53 (R385). -/
def doColdWarmingEnd (durS : Nat) (m : Module) : Module :=
  if m.inStage 5 ∧ m.bring.warming then
    if allGroups.any (fun g => m.band g == 0) then
      if 120 ≤ durS then m.failStage 5 0x80 0x0053 7 0 0 (durS * 1000000) else m
    else
      ({ m with bring := { m.bring with warming := false } }).thermEvent 0x58 0xFFFF 0xFFFF 0xFF 0xFF 0xFF 0xFF 0 (durS * 1000)
  else m
def execColdWarmingEnd (durS : Nat) (s : State) : Host.Outcome State Fault Refusal := onModule true (doColdWarmingEnd durS) s

/-- S5 ends: march failures and those of the holds act as R465 says, the report's cause counts rows that only fail a long hold as well; the
final fill leaves zeros at t = 16 (R464). -/
def doS5Memory (fails : List CellFail) (dur : Nat) (m : Module) : Module :=
  if m.inStage 5 ∧ !m.bring.warming then
    let l := fails.map (fun f => { f with holdMs := 0 }) ++ m.bring.fails
    let m1 := m.takeFails l
    let m2 := { m1 with bring := { m1.bring with fails := [] } }
    let c := match l with | [] => (0, 0) | f :: _ => ((cellCause f), f.site)
    m2.passStage 5 m dur c.1 c.2
  else m
def execS5Memory (fails : List CellFail) (dur : Nat) (s : State) : Host.Outcome State Fault Refusal :=
  onModule (fails.all CellFail.wf) (doS5Memory fails dur) s

/-! ## S6: the map of units (R466, R467) -/

/-- A core site as the list of units makes it: enabled or fenced, its halves, its microcode; the reset of an enabled core loads the
spare-row table (R195, R467). -/
def siteCore (l : List RecEntry) (micro site : Nat) : Core :=
  let out := coreListed l site
  let h0 := l.any (fun e => e.kind == 1 && e.unit == site * 2)
  let h1 := l.any (fun e => e.kind == 1 && e.unit == site * 2 + 1)
  { enabled := !out, fenced := out, half0 := { fenced := h0 }, half1 := { fenced := h1 }, split := h0 != h1, micro := micro,
    spare := if out then none else (Config.spareRow site).map Fin.val }

/-- A slice as the list makes it: state, retired pages and bank, failed bank units (R467). -/
def siteSlice (l : List RecEntry) (site : Nat) : Slice :=
  let out := sliceListed l site
  let orphan := coreListed l site
  { state := if out then 2 else if orphan then 1 else 0,
    retiredPages := (l.filter (fun e => e.kind == 3 && e.unit == site)).map (fun e => e.detail % 2 ^ 29 / 65536),
    retiredBank := ((l.find? (fun e => e.kind == 4 && e.unit % 65536 == site)).map (fun e => e.unit / 65536)),
    failedUnits := (l.filter (fun e => e.kind == 13 && e.unit % 65536 == site)).map (fun e => e.unit / 65536) }

/-- A cluster as the list makes it: its lost cells and their caps (R412), its router (R320); with three cells lost it is shuttered
and fenced with its router (R26). -/
def listCluster (l : List RecEntry) (c : Nat) (k : Cluster) : Cluster :=
  let lost := cellsOut l c
  let n := (maskList lost 4).length
  let gone := clusterOut l c
  let k1 := { k with
    lostCells := lost, limp := n == 2, cellFenced := gone,
    routerFenced := gone || l.any (fun e => (e.kind == 5 && e.unit == c) || (e.kind == 8 && e.unit == c / 64)) }
  if gone then { k1 with ladder := 2, louvres := 0, waking := false, off := true } else k1

/-- A sensor of the record: its comparator is disarmed, event 0x59 (R378). -/
def Module.disarm (m : Module) (s : Nat) : Module :=
  ((m.updSensor s (fun q => { q with disarmed := true })).sensorEvent 0x59 s 0).refreshGuard (regionOf s)

/-- Bridge lanes and groups of the list (R323, R324, R462): a lane uses a spare; a retired group, or one with more
failing lanes than the two spares, carries nothing. -/
def listGroups (l : List RecEntry) (g : SMap LaneGroup) : SMap LaneGroup :=
  l.foldl (fun acc e =>
    if e.kind = 10 then SMap.upd {} acc e.unit (fun q => { q with live := false })
    else if e.kind = 9 then
      SMap.upd {} acc (e.unit / 2048 * 32 + e.unit / 1024 % 2 * 16 + e.unit / 64 % 16) (fun q =>
        { q with sparesUsed := q.sparesUsed + 1, live := q.live && decide (q.sparesUsed < 2) })
    else acc) g

/-- Results of this start go to the field repair record, in their order; a unit marked by the fuses is not added
(R466). -/
def Module.recordFindings (m : Module) : Module :=
  m.bring.findings.foldl (fun acc e =>
    if m.bring.fuse.any (fun r => r.kind == e.kind && r.unit == e.unit && (e.kind != 3 || r.detail == e.detail)) then acc else acc.addRecord e) m

/-- S6: the map is applied, cores are reset, microcode is written (R466, R467). An unreadable record ends a quick
start, which begins again at S3 as a full one (R458). -/
def doS6Repair (fs : List Finding) (dur : Nat) (m : Module) : Module :=
  if m.inStage 6 then
    if (firstCause fs [0x0061]).isSome ∧ m.bring.quick then
      let m1 := (m.updReport 6 (fun r => { r with result := 2, duration := min dur (2 ^ 32 - 1), cause := 0x0061 })).bringEvent
        0x83 0x0061 0xFF 1 0 0
      ({ m1 with bring := { m1.bring with quick := false, recordValid := false, fails := [] } }).beginStage 3
    else
      let l := m.outList
      let h := headCause (fs.filter (fun f => f.cause != 0x0061))
      let m1 := m.recordFindings
      let m2 := { m1 with
        bring := { m1.bring with recordValid := true },
        cores := allSites.map (fun s => (s, siteCore l m.bring.micro s)),
        mem := { m1.mem with
          slices := allSites.foldl (fun acc s => SMap.set {} acc s (siteSlice l s)) [],
          failedCount := countOf (fun (e : RecEntry) => e.kind == 13) l },
        clusters := allClusters.foldl (fun acc c => SMap.upd {} acc c (listCluster l c)) m1.clusters,
        net := { m1.net with groups := listGroups l m1.net.groups } }
      let ss := (l.filter (fun e => e.kind == 12)).map (fun e => e.unit)
      (ss.foldl (fun acc s => acc.disarm s) m2).passStage 6 m dur h.1 h.2
  else m
def execS6Repair (fs : List Finding) (dur : Nat) (s : State) : Host.Outcome State Fault Refusal :=
  onModule (findingsOf 6 fs) (doS6Repair fs dur) s

/-! ## S7: known-answer runs (R468) -/

/-- A unit fails its known-answer run: it is taken out of service (R203, R125, R317, R323). -/
def Module.failUnit (m : Module) (f : Finding) (st : Nat) : Module :=
  match f.kind with
  | .arrayHalf => m.fenceHalf (f.unit / 2) (f.unit % 2) st
  | .core => m.fenceCore f.unit st
  | .bankUnit =>
    let m1 := m.updSlice (f.unit % 65536) (fun s => { s with failedUnits := insertNew (f.unit / 65536) s.failedUnits })
    { m1 with mem := { m1.mem with failedCount := m1.mem.failedCount + 1 } }
  | .router => m.dropRouter f.unit st false
  | .bridgeGroup => { m with net := { m.net with groups := SMap.upd {} m.net.groups f.unit (fun q => { q with live := false }) } }
  | _ => m

/-- S7: failures are recorded and out of service at once (R466, R468). -/
def doS7KnownAnswer (fs : List Finding) (dur : Nat) (m : Module) : Module :=
  if m.inStage 7 then
    let m1 := fs.foldl (fun acc f => (acc.addFinding (findingEntry f)).failUnit f stHwError) m
    m1.recordFindings.passStage 7 m dur (headCause fs).1 (headCause fs).2
  else m
def execS7KnownAnswer (fs : List Finding) (dur : Nat) (s : State) : Host.Outcome State Fault Refusal :=
  onModule (findingsOf 7 fs) (doS7KnownAnswer fs dur) s

/-! ## S8: the grade and ready (R469, R470) -/

/-- Enabled cores or usable slices are below the grade's minimums (R1, R3). -/
def Module.short (m : Module) : Bool :=
  decide (m.enabledCores < Config.minCores m.bring.grade) || decide (m.usableSlices < Config.minSlices m.bring.grade)

/-- S9 begins: the configured role takes effect, every port that is not disabled trains (R549, R550). -/
def Module.startFabric (m : Module) : Module :=
  { m with fab := { m.fab with
      role := m.fab.roleConfig,
      ports := m.fab.ports.map (fun p => if p.state = 4 then p else { p with state := 1, attempts := 0 }) } }

/-- DEV_STATUS.ready is set and S9 begins; a full start has established the images (R458, R471). -/
def Module.becomeReady (m : Module) : Module :=
  let m1 := { m with bring := { m.bring with imagesChanged := if m.bring.quick then m.bring.imagesChanged else false } }
  (m1.setReady true).startFabric.beginStage 9

/-- S8: normal view, scratchpads zeroed, partitions Empty, then ready or a shortfall (R228, R413, R469). -/
def doS8HostReady (_fs : List Finding) (dur : Nat) (m : Module) : Module :=
  if m.inStage 8 ∧ !m.bring.shortfall then
    let live := m.cores.map (fun (p : Nat × Core) => p.1)
    let m1 := m.zeroPads live
    let m2 := { m1 with
      clusters := SMap.updAll {} m1.clusters allClusters (fun k => { k with functionView := false, owner := none }),
      parts := { m1.parts with parts := [] } }
    if m2.short then
      let m3 := m2.writeReport 8 m 1 dur 0x0081 0
      ({ m3 with bring := { m3.bring with shortfall := true } }).bringEvent 0x82 0x0081 0xFF 2 0 0
    else (m2.writeReport 8 m 2 dur 0 0).becomeReady
  else m
def execS8HostReady (fs : List Finding) (dur : Nat) (s : State) : Host.Outcome State Fault Refusal :=
  onModule (findingsOf 8 fs) (doS8HostReady fs dur) s

def specAckShortfall : CmdSpec := { op := 0x0E, pfOnly := true, early := true, fields := [(8, 2), (10, 2)] }
/-- DEV.ACK_SHORTFALL's own rules (R470). -/
def bodyAckShortfall (c : Cmd) (_id : Nat) (m : Module) : Module × Answer :=
  if !m.bring.shortfall ∨ m.bring.ready then (m, .done stOk (d4 0))
  else if pField c 8 2 ≠ m.enabledCores then (m, .refuse stBadParam 8)
  else if pField c 10 2 ≠ m.usableSlices then (m, .refuse stBadParam 10)
  else ((m.updReport 8 (fun r => { r with result := 2 })).becomeReady, .done stOk (d4 0))
/-- DEV.ACK_SHORTFALL sets ready when both counts are the current ones (R470). -/
def doDevAckShortfall (c : Cmd) (m : Module) : Module :=
  runCmd specAckShortfall none none [] none (.devAckShortfall c) c (bodyAckShortfall c) m
def execDevAckShortfall (c : Cmd) (s : State) : Host.Outcome State Fault Refusal := onCmd c (doDevAckShortfall c) s

/-! ## Suspended stages (R474) -/

/-- A suspended stage resumes once the conditions of R389 have held; a retention hold begins again from its write. -/
def doStageResume (m : Module) : Module :=
  if m.bring.suspended ∧ m.resumeOk then
    let m1 := m.resume.updReport m.bring.stage (fun r => { r with result := 1 })
    { m1 with bring := { m1.bring with suspended := false } }
  else m
def execStageResume (s : State) : Host.Outcome State Fault Refusal := onModule true doStageResume s

/-- A stage suspended for 600 s fails with event 0x85. -/
def doStageSuspendTimeout (m : Module) : Module :=
  if m.bring.suspended ∧ m.thermal.stopAt + 600000000 ≤ m.time then
    m.failStage m.bring.stage 0x85 0 0xFF 0 0 (m.time - m.thermal.stopAt)
  else m
def execStageSuspendTimeout (s : State) : Host.Outcome State Fault Refusal := onModule true doStageSuspendTimeout s

end Sys2Proof.Machine
end

