-- ==== Sys2Proof/Machine/VectorUnit.lean ====
section
/-! DEFINITION. The vector unit: the VX descriptors' fields (R156), functions (R157), conversions (R217 to R223). A descriptor
reads its operands and writes its results at its completion, in issue order (R147). -/

namespace Sys2Proof.Machine

/-! ## Issue (R156, R157, R223) -/

/-- Fields of VX descriptors: [0] B and [1] C come from the scalars. -/
def vxSel (b : List Byte) : Nat := getLe b 28 1
def vxFmt (b : List Byte) : Nat := getLe b 2 1 % 16
def vxCount (b : List Byte) : Nat := getLe b 16 4

/-- Which bits a VX descriptor may set, given which operands it has. -/
def vxFits (b : List Byte) (fn fmt : Nat) (srcs : List Nat) (scalarB scalarC : Bool) (sel : Nat) : Bool :=
  let src (o : Nat) : Nat × Nat := (o, if o ∈ srcs then 0xFFFFFF else 0)
  fits b [(1, fn), (2, fmt), (3, 0xFF), (4, 0xFFFFFF), src 7, src 10, src 13, (16, 0xFFFFFFFF), (20, if scalarB then 0xFFFFFFFF else 0),
    (24, if scalarC then 0xFFFFFFFF else 0), (28, sel), (29, if srcs.isEmpty then 0x07 else 0x77)] &&
  decide (1 ≤ vxCount b ∧ vxCount b ≤ 2 ^ 20)

/-- The vector operands of a VX descriptor, by their offsets in it. -/
def vxSources (b : List Byte) : List Nat :=
  let sb := bitOf (vxSel b) 0
  let sc := bitOf (vxSel b) 1
  match getLe b 0 1 with
  | 0x33 => [7] ++ (if sb then [] else [10]) ++ (if sc then [] else [13])
  | 0x36 => [7]
  | 0x37 => [7]
  | 0x38 => if (vxFmt b = 10 ∨ getLe b 1 1 = 10) ∧ !sb then [7, 10] else [7]
  | 0x39 => [7]
  | 0x3A => []
  | 0x3B => [7, 10] ++ (if sb then [] else [13])
  | _ => [7] ++ (if sb then [] else [10])

/-- The field checks of R156, R157 and R223 that need no register. -/
def vxOk (b : List Byte) : Bool :=
  let sb := bitOf (vxSel b) 0
  let sc := bitOf (vxSel b) 1
  let fn := getLe b 1 1
  let fmt := vxFmt b
  let srcs := vxSources b
  match getLe b 0 1 with
  | 0x33 => decide (fmt ≤ 2) && vxFits b 0 0x0F srcs sb sc 3
  | 0x36 => decide (fmt ≤ 2 ∧ fn ≤ 10) && vxFits b 0xFF 0x0F srcs false false 0
  | 0x37 => decide (fmt ≤ 2 ∧ fn ≤ 2) && vxFits b 0xFF 0x0F srcs false false 0x1C
  | 0x38 =>
    let int := decide (fmt = 10 ∨ fn = 10)
    let stoch := bitOf (getLe b 2 1) 4
    decide (fmt ≤ 10 ∧ fn ≤ 10) && !(fmt == 10 && fn == 10) && (!stoch || decide (fn ∈ [1, 3, 4])) &&
    (!(isMx fmt || isMx fn) || vxCount b % 32 == 0) &&
    vxFits b 0xFF 0x1F srcs (int && sb) stoch (if int then 1 else 0)
  | 0x39 => decide (fmt ≤ 12) && (!isMx fmt || vxCount b % 32 == 0) && vxFits b 0 0x0F srcs false false 0
  | 0x3A => vxFits b 0 0 srcs true false 0
  | 0x3B => decide (fmt ≤ 2) && vxFits b 0 0x0F srcs sb false 1
  | _ => decide (fmt ≤ 2) && vxFits b 0 0x0F srcs sb false 1

/-- A field with its register: dst takes bits [2:0] of regs, every source bits [6:4] (R156). -/
def vxAddr (th : Thread) (b : List Byte) (off : Nat) : Nat :=
  addReg th (getLe b off 3) (if off = 4 then getLe b 29 1 % 8 else getLe b 29 1 / 16 % 8)

/-- A conversion's MX side must be 64-byte aligned (R223). R135 makes a misaligned sum an address fault in general, R223 a descriptor
format fault here: the particular rule is taken (DEDUCED). -/
def vxAligned (th : Thread) (b : List Byte) : Bool :=
  getLe b 0 1 != 0x38 ||
  ((!isMx (vxFmt b) || vxAddr th b 7 % 64 == 0) && (!isMx (getLe b 1 1) || vxAddr th b 4 % 64 == 0))

/-- Issue of a VX descriptor: four queue entries, in split mode at most two from one thread (R133). -/
def bodyVx : Body := fun m site t bs =>
  let c := m.core site
  let th := c.th t
  let offs := 4 :: vxSources bs
  engine (vxOk bs && vxAligned th bs) c t bs (
    match (offs.map (vxAddr th bs)).find? (fun a => !padOk c.split a) with
    | some a => .fault 0x03 0 a
    | none =>
      if 4 ≤ c.t0.inClass 3 + c.t1.inClass 3 ∨ (c.split ∧ 2 ≤ th.inClass 3) then .stall
      else
        let b1 := putField (offs.foldl (fun acc o => putField acc o 3 (vxAddr th bs o)) bs) 29 1 0
        .next (m.launch site t 3 b1 false).1)

/-- VX.ADD. -/
def execVxAdd (d : Desc) (s : State) : Host.Outcome State Fault Refusal := onDesc d 0x30 bodyVx s
/-- VX.SUB. -/
def execVxSub (d : Desc) (s : State) : Host.Outcome State Fault Refusal := onDesc d 0x31 bodyVx s
/-- VX.MUL. -/
def execVxMul (d : Desc) (s : State) : Host.Outcome State Fault Refusal := onDesc d 0x32 bodyVx s
/-- VX.FMA. -/
def execVxFma (d : Desc) (s : State) : Host.Outcome State Fault Refusal := onDesc d 0x33 bodyVx s
/-- VX.MAX. -/
def execVxMax (d : Desc) (s : State) : Host.Outcome State Fault Refusal := onDesc d 0x34 bodyVx s
/-- VX.MIN. -/
def execVxMin (d : Desc) (s : State) : Host.Outcome State Fault Refusal := onDesc d 0x35 bodyVx s
/-- VX.UNARY. -/
def execVxUnary (d : Desc) (s : State) : Host.Outcome State Fault Refusal := onDesc d 0x36 bodyVx s
/-- VX.REDUCE. -/
def execVxReduce (d : Desc) (s : State) : Host.Outcome State Fault Refusal := onDesc d 0x37 bodyVx s
/-- VX.CONVERT. -/
def execVxConvert (d : Desc) (s : State) : Host.Outcome State Fault Refusal := onDesc d 0x38 bodyVx s
/-- VX.COPY. -/
def execVxCopy (d : Desc) (s : State) : Host.Outcome State Fault Refusal := onDesc d 0x39 bodyVx s
/-- VX.FILL. -/
def execVxFill (d : Desc) (s : State) : Host.Outcome State Fault Refusal := onDesc d 0x3A bodyVx s
/-- VX.SELECT. -/
def execVxSelect (d : Desc) (s : State) : Host.Outcome State Fault Refusal := onDesc d 0x3B bodyVx s

/-! ## Functions (R157) -/

/-- The free value that chooses among the words a function's bound leaves, or is the result where R157 states none. -/
def vxFree (fmt fn : Nat) (v : Val) : Word32 := Config.approx (16 + fmt * 16 + fn) (to32 v)

/-- |v|. -/
def Val.abs : Val → Val
  | .nan => .nan
  | .inf _ => .inf false
  | .fin _ m e => .fin false m e

/-- VX.UNARY by sub-code. Special values as R102 gives them for the same functions of the bank units; NaN gives NaN (R211). -/
def vxUnary (fmt fn : Nat) (v : Val) : Val :=
  match fn, v with
  | 0, v => v.negate
  | 1, v => v.abs
  | 7, v => v.max zeroVal
  | _, .nan => .nan
  | 2, .inf n => .fin n 0 0
  | 2, .fin n 0 _ => .inf n
  | 3, .inf n => if n then .nan else zeroVal
  | 3, .fin n 0 _ => .inf n
  | 3, .fin true _ _ => .nan
  | 4, .inf n => if n then .nan else .inf false
  | 4, .fin n 0 e => .fin n 0 e
  | 4, .fin true _ _ => .nan
  | 5, .inf n => if n then zeroVal else .inf false
  | 6, .inf n => if n then .nan else .inf false
  | 6, .fin _ 0 _ => .inf true
  | 6, .fin true _ _ => .nan
  | 2, .fin n m e => f32 (recip1 (16 + fmt * 16 + 2) (to32 v) n m e)
  | 3, .fin _ m e => f32 (rsqrt1 (16 + fmt * 16 + 3) (to32 v) m e)
  | 4, .fin _ m e => f32 (sqrt1 (16 + fmt * 16 + 4) (to32 v) m e)
  | 8, .inf false => .inf false
  | 9, .inf false => .inf false
  | 10, .inf n => f32 (ulpNear 4 (vxFree fmt 10 v).toNat (.fin n 1 0))
  | 5, .fin n m e => f32 (ulpNear 2 (vxFree fmt 5 v).toNat (pow2Val (fixed200 n m e)))
  | 6, .fin _ m e => f32 (ulpNear 2 (vxFree fmt 6 v).toNat (log2Val m e))
  | 8, .fin n m e => f32 (ulpNear 4 (vxFree fmt 8 v).toNat (siluVal n m e))
  | 9, .fin n m e => f32 (ulpNear 4 (vxFree fmt 9 v).toNat (geluVal n m e))
  | 10, .fin n m e => f32 (ulpNear 4 (vxFree fmt 10 v).toNat (tanhVal n m e))
  | _, v => f32 (vxFree fmt fn v)

/-- VX.REDUCE over one segment. -/
def vxReduce (fmt fn : Nat) (vs : List Val) : Word32 :=
  match fn with
  | 0 => sum32 (16 + fmt * 4) false (vs.map to32)
  | 1 => match vs with | [] => 0 | v :: rest => to32 (rest.foldl Val.max v)
  | _ => sum32 (17 + fmt * 4) true (vs.map to32)

/-- Segments of `n` values. -/
def segments (n : Nat) (vs : List Val) : List (List Val) := runsOf n ((vs.length + n - 1) / n) vs

/-- The two-operand functions. -/
def vxBinary (op : Nat) (a b : Val) : Val :=
  match op with
  | 0x30 => a.add b
  | 0x31 => a.add b.negate
  | 0x32 => a.mul b
  | 0x34 => a.max b
  | _ => a.min b

/-- VX.CONVERT (R222, R223, R225). -/
def vxConvert (site : Nat) (b : List Byte) (xs ys : List Val) : List Byte :=
  let fmt := vxFmt b
  let fn := getLe b 1 1
  let vs := if fmt = 10 ∨ fn = 10 then (xs.zip ys).map (fun p => p.1.mul p.2) else xs
  let rnd (k : Nat) : Rnd :=
    if bitOf (getLe b 2 1) 4 then .stoch (stochU (getLe b 24 4) (2 * 2 ^ 62 + site * 2 ^ 20 + k)) else .near
  let bytes := encodeAny fn rnd vs
  if isMx fn then padRow bytes else bytes

/-- Bytes of a vector operand: SELECT's mask has the source format; CONVERT's multipliers are FP32. -/
def vxBytes (b : List Byte) (off : Nat) : Nat :=
  if getLe b 0 1 = 0x38 ∧ off = 10 then 4 * vxCount b else packedBytes (vxFmt b) (vxCount b)

/-- A scalar operand for every element. -/
def vxScalar (b : List Byte) (off : Nat) : List Val := List.replicate (vxCount b) (decodeF fp32 (getLe b off 4))

/-- The bytes a VX descriptor writes, from the bytes of its vector operands in the order of `vxSources`. -/
def vxResult (site : Nat) (b : List Byte) (srcs : List (List Byte)) : List Byte :=
  let op := getLe b 0 1
  let fmt := vxFmt b
  let n := vxCount b
  let raw (off : Nat) : List Byte := ((vxSources b).zip srcs).foldl (fun acc p => if p.1 = off then p.2 else acc) []
  let vec (off scalar sel : Nat) : List Val := if bitOf (vxSel b) sel then vxScalar b scalar else decodeAny fmt n (raw off)
  let xs := decodeAny fmt n (raw 7)
  let near (vs : List Val) : List Byte := encodeAny fmt (fun _ => .near) vs
  match op with
  | 0x33 => near (((xs.zip (vec 10 20 0)).zip (vec 13 24 1)).map (fun p => (p.1.1.mul p.1.2).add p.2))
  | 0x36 => near (xs.map (vxUnary fmt (getLe b 1 1)))
  | 0x37 => ((segments (32 * 2 ^ (vxSel b / 4 % 8)) xs).map (vxReduce fmt (getLe b 1 1))).flatMap (fun w => leBytes 4 w.toNat)
  | 0x38 => vxConvert site b xs (if bitOf (vxSel b) 0 then vxScalar b 20 else decodeElems 0 n (raw 10))
  | 0x39 => raw 7
  | 0x3A => (List.range n).flatMap (fun _ => (b.drop 20).take 4)
  | 0x3B =>
    let w := codeBits fmt / 8
    let mask := (List.range n).map (fun i => getLe (raw 10) (i * w) w != 0)
    near (((xs.zip (vec 13 20 0)).zip mask).map (fun p => if p.2 then p.1.1 else p.1.2))
  | _ => near ((xs.zip (vec 10 20 0)).map (fun p => vxBinary op p.1 p.2))

/-- Reads each vector operand of a VX descriptor. -/
def Module.vxRead (m : Module) (site t : Nat) (f : InFlight) : List Nat → Except Module (List (List Byte))
  | [] => .ok []
  | o :: os =>
    match m.padGet site t f 4 (getLe f.bytes o 3) (vxBytes f.bytes o) with
    | .error m1 => .error m1
    | .ok bs => (m.vxRead site t f os).map (bs :: ·)

/-- A VX descriptor executes and completes, after every earlier one of its thread (R147). `check`: the vector unit fails a check of
its own (code 0x0C of R162). -/
def Module.completeVx (m : Module) (site t : Nat) (f : InFlight) (check : Bool) : Module :=
  if ((m.core site).th t).earlier f.id (fun g => g.cls == 3) then m
  else if check then m.coreCheck site 0x0C
  else match m.vxRead site t f (vxSources f.bytes) with
    | .error m1 => m1
    | .ok srcs => match m.padPut site t f 4 (getLe f.bytes 4 3) (vxResult site f.bytes srcs) false with
      | .error m1 => m1
      | .ok m1 => m1.complete1 site t f

end Sys2Proof.Machine
end

