-- ==== Sys2Proof/Machine/Streams.lean ====
section
/-! DEFINITION. Scratchpad streams and the keyhole path (chapter 7): STR descriptors (R152, R240 to R248), KH descriptors (R153,
R250 to R252), the requests they issue and what comes back, completed table walks (R348). -/

namespace Sys2Proof.Machine

/-! ## A stream's addresses (R152) -/

/-- Fields of a STR descriptor. -/
def stSlot (b : List Byte) : Nat := getLe b 1 1 % 16
def stPads (b : List Byte) : Bool := bitOf (getLe b 1 1) 4
def stFormat (b : List Byte) : Nat := getLe b 2 1 % 16
def stCritical (b : List Byte) : Bool := bitOf (getLe b 2 1) 4
def stFeed (b : List Byte) : Bool := bitOf (getLe b 2 1) 5
def stLoad (b : List Byte) : Bool := getLe b 0 1 == 0x10
/-- All the descriptor's bytes. -/
def stTotal (b : List Byte) : Nat := stCount b 0 * stCount b 1 * stCount b 2 * stCount b 3

/-- The lowest and the highest generated address (R241). -/
def stLowest (b : List Byte) (base : Nat) : Int :=
  (base : Int) + ([1, 2, 3].map (fun l => min 0 (((stCount b l - 1 : Nat) : Int) * stStride b l))).foldl (· + ·) 0
def stHighest (b : List Byte) (base : Nat) : Int :=
  (base : Int) + ((stCount b 0 - 1 : Nat) : Int) +
    ([1, 2, 3].map (fun l => max 0 (((stCount b l - 1 : Nat) : Int) * stStride b l))).foldl (· + ·) 0

/-- How many bytes from position `p` on lie at consecutive addresses, at most `room`. -/
def Stream.span (q : Stream) : Nat → Nat → Nat → Nat
  | 0, _, _ => 0
  | fuel + 1, p, room =>
    if room = 0 ∨ stTotal q.desc ≤ p then 0
    else
      let l := min (stCount q.desc 0 - p % stCount q.desc 0) room
      if p + l < stTotal q.desc ∧ q.addr (p + l) = q.addr p + l then l + q.span fuel (p + l) (room - l) else l

/-! ## Issue (R241, R247) -/

/-- Which bits a STR descriptor may set; the format fits the run (R241). -/
def strOk (b : List Byte) : Bool :=
  let width := match stFormat b with | 0 => 4 | 11 => 4 | 1 => 2 | 2 => 2 | _ => 1
  fits b [(1, 0xFF), (2, if stLoad b then 0xFF else 0xCF), (3, 0xFF), (4, 2 ^ 48 - 1), (10, 0xFFFFFF), (13, 2 ^ 152 - 1)] &&
  decide (stFormat b ≤ 12) && stCount b 0 % width == 0 && (!stFeed b || (getLe b 10 3 == 0 && getLe b 2 1 / 64 == 0))

/-- The core a scratchpad address lies in, and its offset there. -/
def padSite (a : Nat) : Nat := (a - 2 ^ 47) / 2 ^ 23
def padOff (a : Nat) : Nat := (a - 2 ^ 47) % 2 ^ 23

/-- A space-1 extent lies in one enabled core of the partition, for a load in its normal window (R241). -/
def Module.stTarget (m : Module) (site : Nat) (load : Bool) (lo hi : Nat) : Bool :=
  decide (2 ^ 47 ≤ lo) && padSite lo == padSite hi && decide (padSite lo < Config.sites) &&
  m.ownerOf (padSite lo) == m.ownerOf site && (m.core (padSite lo)).enabled &&
  decide (padOff hi < if load then 2 ^ 21 else 3 * 2 ^ 21)

/-- STR.LOAD and STR.STORE: checks, then the slot is busy (R240, R241). A descriptor that names a busy slot waits. -/
def bodyStr : Body := fun m site t bs =>
  let c := m.core site
  let th := c.th t
  let base := addReg th (getLe bs 4 6) (getLe bs 1 1 / 32)
  let off := addReg th (getLe bs 10 3) (getLe bs 2 1 / 64)
  let lo := stLowest bs base
  let hi := stHighest bs base
  engine (strOk bs) c t bs (
    if c.split ∧ stSlot bs / 8 ≠ t then .fault 0x05 0 0
    else if lo < 0 ∨ (2 ^ 48 : Int) ≤ hi then .fault 0x03 0 base
    else if !stFeed bs ∧ (padWin c.split off (stTotal bs)).isNone then .fault 0x03 0 off
    else if stPads bs ∧ !m.stTarget site (stLoad bs) lo.toNat hi.toNat then .fault 0x03 0 base
    else if (c.stream (stSlot bs)).isSome then .stall
    else
      let l := m.launch site t 0 bs false
      .next (l.1.updCore site (fun c => { c with
        streams := SMap.set {} c.streams (stSlot bs) { desc := bs, thread := t, id := l.2, base := base, off := off } })))
/-- STR.LOAD. -/
def execStrLoad (d : Desc) (s : State) : Host.Outcome State Fault Refusal := onDesc d 0x10 bodyStr s
/-- STR.STORE. -/
def execStrStore (d : Desc) (s : State) : Host.Outcome State Fault Refusal := onDesc d 0x11 bodyStr s

/-- A slot is idle again: its stream and its descriptor are gone; a cancelled descriptor posts no event (R146, R247). -/
def Module.dropStream (m : Module) (site slot : Nat) : Module :=
  match (m.core site).stream slot with
  | none => m
  | some q => m.updCore site (fun c =>
      { c.updTh q.thread (fun x => { x with flight := x.flight.filter (fun f => f.id != q.id) }) with
        streams := c.streams.filter (fun p => p.1 != slot) })

/-- STR.CANCEL (R247): the slot requests nothing more, its feed bytes are discarded, and it is idle once what is on its way
has returned. The descriptor notes which stream it ends. -/
def bodyStrCancel : Body := fun m site t bs =>
  let c := m.core site
  let slot := stSlot bs
  engine (fits bs [(1, 0x0F), (3, 0xFF)]) c t bs (
    if c.split ∧ slot / 8 ≠ t then .fault 0x05 0 0
    else
      let l := m.launch site t 0 bs false
      match c.stream slot with
      | none => .next l.1
      | some q =>
        let m1 := l.1.updFlight site t l.2 (fun f => { f with next := q.id + 1 })
        let m2 := m1.updCore site (fun c => { c with
          streams := SMap.upd {} c.streams slot (fun q => { q with cancelled := true, feed := [], pieces := q.pieces.filter (fun p => p.data.isNone) }) })
        .next (if q.pieces.all (fun p => p.data.isSome) then m2.dropStream site slot else m2))
def execStrCancel (d : Desc) (s : State) : Host.Outcome State Fault Refusal := onDesc d 0x12 bodyStrCancel s

/-! ## Requests of a stream (R240, R242 to R246) -/

/-- The number of a request: it belongs to one descriptor and one position. -/
def pieceSeq (id pos : Nat) : Nat := id * 2 ^ 48 + pos

/-- Bytes a list of requests covers. -/
def pieceBytes (l : List Piece) : Nat := (l.map (·.len)).foldl (· + ·) 0

/-- Read requests a core, or in split mode a thread, has in flight (R243). -/
def Core.readsInFlight (c : Core) (t : Nat) : Nat :=
  ((c.streams.filter (fun p => stLoad p.2.desc && (!c.split || p.2.thread == t))).map (fun p => countOf (fun k => k.data.isNone) p.2.pieces)).foldl (· + ·) 0

/-- The feed buffer's share of one stream (R243). -/
def Core.feedShare (c : Core) (t : Nat) : Nat :=
  let n := countOf (fun (p : Nat × Stream) => p.2.isFeed && !p.2.cancelled && (!c.split || p.2.thread == t)) c.streams
  (if c.split then 16384 else 32768) / max n 1

/-- A request of `len` bytes fits the slot's window (R243). -/
def Core.windowFits (c : Core) (q : Stream) (len : Nat) : Bool :=
  let out := pieceBytes q.pieces + len
  decide (out ≤ 65536) && (!q.isFeed || decide (out + q.feed.length ≤ c.feedShare q.thread)) &&
  (!stLoad q.desc || decide (c.readsInFlight q.thread < if c.split then 256 else 512))

/-- The request is on its way: it is noted, and generation goes on behind it. -/
def Module.noteRequest (m : Module) (site slot len skip : Nat) (demand : Bool) : Module :=
  m.updCore site (fun c => { c with
    streams := SMap.upd {} c.streams slot (fun q => { q with
      pieces := q.pieces ++ [{ seq := pieceSeq q.id q.pos, pos := q.pos, len := len, skip := skip, demand := demand, data := none }],
      pos := q.pos + len, stopped := false }) })

/-- A request is a demand request when every byte before it has been delivered: none on its way, and none of a feed stream waits for
the array (R205, R245). -/
def Stream.onDemand (q : Stream) : Bool := q.pieces.isEmpty && q.feed.isEmpty

/-- A prefetch whose translation or whose answer is a fault: it is dropped and counted, and the slot stops there (R245). -/
def Module.dropPrefetch (m : Module) (site slot pos : Nat) : Module :=
  m.updCore site (fun c => { c with
    prefetchDrops := sat64 c.prefetchDrops 1,
    streams := SMap.upd {} c.streams slot (fun q => { q with
      pos := pos, stopped := true, pieces := q.pieces.filter (fun p => decide (p.pos < pos)) }) })

/-- A target core of an access from another core: unreachable with a cause (1 out of service, 3 in reset or held in
Shuttered), or reached, waking its cluster (R241, R421, R425, R447). -/
def Module.unreachable (m : Module) (site : Nat) : Option Nat :=
  if !(m.core site).enabled then some 1
  else if m.resetting site ∨ ((m.cl (clusterOf site)).ladder = 2 ∧ m.power.hold ≠ 0) then some 3
  else none

/-- A space-1 request acts on its target's scratchpad at once; what it reads or its acceptance goes back (R229, R242). -/
def Module.padRequest (m : Module) (site slot : Nat) (q : Stream) (f : InFlight) (a len : Nat) : Module :=
  let dst := padSite a
  let o := padOff a
  let req : MemReq := ⟨dst, o, 2, .stream site slot (pieceSeq q.id q.pos), !stLoad q.desc, false, [], false⟩
  if !m.mayLeave site dst then m
  else match m.unreachable dst with
  | some cause => m.flightFault site q.thread f 0x0D cause a
  | none =>
    let m0 := m.wake (clusterOf dst)
    if stLoad q.desc then
      let r := (m0.core dst).scratch.read id o len
      let m1 := match r.bad with | some p => m0.parityEvent 0x21 1 dst p 6 0xFF 0 site | none => m0
      ((m1.respond req r.bytes (r.poison || r.bad.isSome)).noteRequest site slot len 0 q.onDemand)
    else match m0.padGetRaw site q.thread f 1 (q.off + q.pos) len with
      | .error m1 => m1
      | .ok (bs, poison) =>
        ((m0.padExternal dst (o / 2 ^ 21) (o % 2 ^ 21) bs poison 6 site).acceptOf req).noteRequest site slot len 0 true

/-- The class of a core's request (R43, R240, R250). -/
def Module.coreClass (m : Module) (site dst own : Nat) (critical : Bool) : Nat :=
  if dst = site then (if critical then 0 else own)
  else if critical ∧ m.ownerOf dst = m.ownerOf site then 0 else 2

/-- A read request of a stream: a whole row or one sector (R242, R245). -/
def Module.loadRequest (m : Module) (site slot : Nat) (q : Stream) (f : InFlight) (a : Nat) : Module :=
  let c := m.core site
  let span := q.span 2048 q.pos (2048 - a % 2048)
  let row := decide (span = 2048)
  let len := if row then 2048 else min span (64 - a % 64)
  let demand := q.onDemand
  if !c.windowFits q len ∨ (q.stopped ∧ !demand) then m
  else
    let go (m : Module) (pa : Nat) : Module :=
      let dst := siteOfAddr pa
      let size := if row then 2048 else 64
      if !m.mayLeave site dst then m
      else (m.noteRequest site slot len (a % size) demand).readArrives
        ⟨dst, offOfAddr pa / size * size, m.coreClass site dst 1 (stCritical q.desc), .stream site slot (pieceSeq q.id q.pos), false, row, [], false⟩
    if demand then
      match m.demand site a 3 with
      | (m1, .ok pa) => go m1 pa
      | (m1, .fault code cause) => m1.flightFault site q.thread f code cause a
      | (_, .wait) => m
    else match m.coreHit site a 3 with
      | none => m
      | some (.ok pa) => go m pa
      | some _ => m.dropPrefetch site slot q.pos

/-- A write request of a stream: what it generates up to the row's end (R242, R246). -/
def Module.storeRequest (m : Module) (site slot : Nat) (q : Stream) (f : InFlight) (a : Nat) : Module :=
  let len := q.span 2048 q.pos (2048 - a % 2048)
  if !(m.core site).windowFits q len then m
  else match m.demand site a 4 with
    | (_, .wait) => m
    | (m1, .fault code cause) => m1.flightFault site q.thread f code cause a
    | (m1, .ok pa) =>
      match m1.padGetRaw site q.thread f 1 (q.off + q.pos) len with
      | .error m2 => m2
      | .ok (bs, poison) =>
        let dst := siteOfAddr pa
        if !m1.mayLeave site dst then m
        else (m1.noteRequest site slot len 0 true).writeArrives
          ⟨dst, offOfAddr pa, if dst = site then 1 else 2, .stream site slot (pieceSeq q.id q.pos), true, decide (bs.length = 2048), bs, poison⟩

/-- The core's engines work for a thread: clocks run, no reset, no switch of the thread under way. -/
def Module.engineOn (m : Module) (site t : Nat) : Bool := m.arrayOn site t

/-- Descriptors in flight other than streams run to completion during a switch (R355). -/
def Module.engineRuns (m : Module) (site : Nat) : Bool := (m.core site).enabled && m.clocked site && !m.resetting site

/-- The length of the next request of a stream (R242). -/
def Stream.nextLen (q : Stream) : Nat :=
  let a := q.addr q.pos
  if stPads q.desc then q.span 64 q.pos (64 - a % 64)
  else
    let span := q.span 2048 q.pos (2048 - a % 2048)
    if !stLoad q.desc ∨ span = 2048 then span else min span (64 - a % 64)

/-- A slot has a request ready and room for it in its window (R240). -/
def Module.slotReady (m : Module) (site slot : Nat) : Bool :=
  let c := m.core site
  match c.stream slot with
  | none => false
  | some q =>
    ((c.th q.thread).find q.id).isSome && !q.cancelled && decide (q.pos < stTotal q.desc) && m.engineOn site q.thread &&
    c.windowFits q q.nextLen && (!q.stopped || q.onDemand)

/-- The slot whose turn it is: the first ready one after the slot served last (R240). -/
def Module.slotTurn (m : Module) (site : Nat) : Option Nat :=
  ((List.range 16).map (fun i => ((m.core site).lastSlot + 1 + i) % 16)).find? (m.slotReady site)

/-- One request of a slot whose turn it is. -/
def Module.serveSlot (m : Module) (site slot : Nat) : Module :=
  match (m.core site).stream slot with
  | none => m
  | some q =>
    match ((m.core site).th q.thread).find q.id with
    | none => m
    | some f =>
      if q.cancelled ∨ stTotal q.desc ≤ q.pos ∨ !m.engineOn site q.thread then m
      else
        let a := q.addr q.pos
        if stPads q.desc then
          let len := q.span 64 q.pos (64 - a % 64)
          if (m.core site).windowFits q len then m.padRequest site slot q f a len else m
        else if stLoad q.desc then m.loadRequest site slot q f a
        else m.storeRequest site slot q f a

/-- STREAM_REQUEST_ISSUE: the engine takes the ready slots in rotation (R240); a slot out of its turn waits. -/
def doStreamRequestIssue (site slot : Nat) (m : Module) : Module :=
  if m.slotTurn site = some slot then (m.updCore site (fun c => { c with lastSlot := slot })).serveSlot site slot else m
def execStreamRequestIssue (site slot : Nat) (s : State) : Host.Outcome State Fault Refusal :=
  onModule (siteOk site && decide (slot < 16)) (doStreamRequestIssue site slot) s

/-! ## What comes back (R243, R245, R247, R248) -/

/-- A feed stream's bytes that have arrived in order move to the feed buffer. -/
def feedReady : List Piece → List (Byte × Bool) → List Piece × List (Byte × Bool)
  | [], fb => ([], fb)
  | p :: ps, fb =>
    match p.data with
    | some (bs, poison) => feedReady ps (fb ++ bs.map (fun x => (x, poison)))
    | none => (p :: ps, fb)

/-- Changes a stream. -/
def Module.updStream (m : Module) (site slot : Nat) (f : Stream → Stream) : Module :=
  m.updCore site (fun c => { c with streams := SMap.upd {} c.streams slot f })

/-- A request of a stream is over. -/
def Module.pieceOver (m : Module) (site slot seq : Nat) : Module :=
  let m1 := m.updStream site slot (fun q => { q with pieces := q.pieces.filter (fun p => p.seq != seq) })
  match (m1.core site).stream slot with
  | some q => if q.cancelled ∧ q.pieces.isEmpty then m1.dropStream site slot else m1
  | none => m1

/-- Data, or an address fault, arrive for a request of a stream. -/
def Module.streamData (m : Module) (site slot seq : Nat) (data : List Byte) (poison : Bool) : Module :=
  match (m.core site).stream slot with
  | none => m
  | some q =>
    match q.pieces.find? (fun p => p.seq == seq), ((m.core site).th q.thread).find q.id with
    | some p, some f =>
      let a := q.addr p.pos
      if q.cancelled then m.pieceOver site slot seq
      else if data.isEmpty then
        (if p.demand ∨ !stLoad q.desc then m.flightFault site q.thread f 0x03 0 a else m.dropPrefetch site slot p.pos)
      else
        let bs := (data.drop p.skip).take p.len
        if q.isFeed then
          m.updStream site slot (fun q =>
            let r := feedReady (q.pieces.map (fun k => if k.seq = seq then { k with data := some (bs, poison) } else k)) q.feed
            { q with pieces := r.1, feed := r.2 })
        else match m.padPut site q.thread f 1 (q.off + p.pos) bs poison with
          | .error m1 => m1
          | .ok m1 =>
            if poison then m1.flightFault site q.thread f 0x09 0 a else m1.pieceOver site slot seq
    | _, _ => m

/-- A slice, or a target scratchpad, has accepted a write of a stream. -/
def Module.streamAccept (m : Module) (site slot seq : Nat) : Module :=
  match (m.core site).stream slot with
  | none => m
  | some q => if q.pieces.any (fun p => p.seq == seq) ∧ !stLoad q.desc then m.pieceOver site slot seq else m

/-- A STR descriptor completes (R146): everything delivered, taken or accepted; a cancel once its slot's stream is gone. -/
def Module.completeStr (m : Module) (site t : Nat) (f : InFlight) : Module :=
  let slot := stSlot f.bytes
  if getLe f.bytes 0 1 = 0x12 then
    (match (m.core site).stream slot with
     | some q => if f.next = q.id + 1 then m else m.complete1 site t f
     | none => m.complete1 site t f)
  else match (m.core site).stream slot with
    | some q =>
      if q.id = f.id ∧ !q.cancelled ∧ q.pos = stTotal q.desc ∧ q.pieces.isEmpty ∧ q.feed.isEmpty then
        (m.complete1 site t f).updCore site (fun c => { c with streams := c.streams.filter (fun p => p.1 != slot) })
      else m
    | none => m

/-! ## The keyhole path (R153, R250 to R252) -/

/-- A KH descriptor's kind. -/
def khList (b : List Byte) : Bool := getLe b 0 1 == 0x42 || getLe b 0 1 == 0x43
def khReads (b : List Byte) : Bool := getLe b 0 1 == 0x40 || getLe b 0 1 == 0x42
/-- Its sectors. -/
def khTotal (b : List Byte) : Nat := if khList b then getLe b 20 2 * getLe b 22 2 else getLe b 13 1

/-- Field checks of R153. A critical flag set on a WRITE or SCATTER has no effect, and is no format fault (DEDUCED: R153 lists the
flag for reads, and says that on writes it has no effect). -/
def khOk (b : List Byte) : Bool :=
  fits b ([(1, 0x77), (2, 1), (3, 0xFF), (4, 2 ^ 48 - 1), (10, 0xFFFFFF)] ++
    (if khList b then [(16, 0xFFFFFF), (20, 0xFFFF), (22, 0xFFFF), (24, 0xFFFFFFFF)] else [(13, 0xFF)])) &&
  (if khList b then decide (1 ≤ getLe b 20 2 ∧ 1 ≤ getLe b 22 2 ∧ getLe b 22 2 ≤ 1024) && getLe b 24 4 % 64 == 0
   else decide (1 ≤ getLe b 13 1 ∧ getLe b 13 1 ≤ 32))

/-- Issue of a KH descriptor: alignment and ranges of its address fields, then its queue (R133, R135). -/
def bodyKh : Body := fun m site t bs =>
  let c := m.core site
  let th := c.th t
  let base := addReg th (getLe bs 4 6) (getLe bs 1 1 % 8)
  let off := addReg th (getLe bs 10 3) (getLe bs 1 1 / 16 % 8)
  engine (khOk bs) c t bs (
    if 2 ^ 48 ≤ base ∨ base % 64 ≠ 0 then .fault 0x03 0 base
    else if !padOk c.split off ∨ off % 64 ≠ 0 then .fault 0x03 0 off
    else if khList bs ∧ (!padOk c.split (getLe bs 16 3) ∨ getLe bs 16 3 % 4 ≠ 0) then .fault 0x03 0 (getLe bs 16 3)
    else if (if c.split then 2 else 4) ≤ th.inClass 1 then .stall
    else .next (m.launch site t 1 (putField (putField (putField bs 4 6 base) 10 3 off) 1 1 0) false).1)
/-- KH.READ. -/
def execKhRead (d : Desc) (s : State) : Host.Outcome State Fault Refusal := onDesc d 0x40 bodyKh s
/-- KH.WRITE. -/
def execKhWrite (d : Desc) (s : State) : Host.Outcome State Fault Refusal := onDesc d 0x41 bodyKh s
/-- KH.GATHER. -/
def execKhGather (d : Desc) (s : State) : Host.Outcome State Fault Refusal := onDesc d 0x42 bodyKh s
/-- KH.SCATTER. -/
def execKhScatter (d : Desc) (s : State) : Host.Outcome State Fault Refusal := onDesc d 0x43 bodyKh s

/-- The address of sector `k`, or the module after the fault its index raised (R235, R252). -/
def Module.khAddr (m : Module) (site t : Nat) (f : InFlight) (k : Nat) : Except Module Nat :=
  let b := f.bytes
  if khList b then
    match m.padGet site t f 2 (getLe b 16 3 + 4 * (k / getLe b 22 2)) 4 with
    | .error m1 => .error m1
    | .ok i => .ok (getLe b 4 6 + getLe i 0 4 * getLe b 24 4 + k % getLe b 22 2 * 64)
  else .ok (getLe b 4 6 + 64 * k)

/-- Sector `k` of a KH descriptor leaves. -/
def Module.khSend (m : Module) (site t : Nat) (f : InFlight) (k va pa : Nat) : Module :=
  let b := f.bytes
  let dst := siteOfAddr pa
  let src : Src := .keyhole site t (pieceSeq f.id k)
  let noted (m : Module) : Module := m.updFlight site t f.id (fun g => { g with
    next := k + 1, pieces := g.pieces ++ [{ seq := pieceSeq f.id k, pos := 64 * k, len := 64, skip := 0, demand := true, addr := va, data := none }] })
  if !m.mayLeave site dst then m
  else if khReads b then
    (noted m).readArrives ⟨dst, offOfAddr pa / 64 * 64, if dst = site then 0 else m.coreClass site dst 1 (bitOf (getLe b 2 1) 0), src, false, false, [], false⟩
  else match m.padGetRaw site t f 2 (getLe b 10 3 + 64 * k) 64 with
    | .error m1 => m1
    | .ok (bs, poison) => (noted m).writeArrives ⟨dst, offOfAddr pa / 64 * 64, if dst = site then 1 else 2, src, true, false, bs, poison⟩

/-- Keyhole sectors in flight of a thread. -/
def Thread.sectors (th : Thread) : Nat := ((th.flight.filter (fun f => f.cls == 1)).map (fun f => f.pieces.length)).foldl (· + ·) 0

/-- A sector's fault stops the path: reads that were issued before it still land in the scratchpad (R251). -/
def Module.khFault (m : Module) (site t : Nat) (f : InFlight) (code cause a : Nat) : Module :=
  let on := (((m.core site).th t).flight.filter (fun g => g.cls == 1 && khReads g.bytes)).flatMap (fun g =>
    g.pieces.map (fun p => (t, p.seq, getLe g.bytes 10 3 + p.pos)))
  (m.updCore site (fun c => { c with late := c.late ++ on })).flightFault site t f code cause a

/-- KEYHOLE_SECTOR_ISSUE: the next sector, in descriptor order; at most eight in flight, four for a thread in split mode. -/
def doKeyholeSectorIssue (site t : Nat) (m : Module) : Module :=
  let c := m.core site
  let th := c.th t
  match th.flight.find? (fun f => f.cls == 1 && decide (f.next < khTotal f.bytes)) with
  | none => m
  | some f =>
    if !m.engineRuns site ∨ (if c.split then 4 else 8) ≤ th.sectors then m
    else match m.khAddr site t f f.next with
      | .error m1 => m1
      | .ok a =>
        if 2 ^ 48 ≤ a then m.khFault site t f 0x03 0 a
        else match m.demand site a (if khReads f.bytes then 3 else 4) with
          | (_, .wait) => m
          | (m1, .fault code cause) => m1.khFault site t f code cause a
          | (m1, .ok pa) => m1.khSend site t f f.next a pa
def execKeyholeSectorIssue (site thread : Nat) (s : State) : Host.Outcome State Fault Refusal :=
  onModule (siteThreadOk site thread) (doKeyholeSectorIssue site thread) s

/-- The descriptor a keyhole sector belongs to. -/
def Thread.khOf (th : Thread) (seq : Nat) : Option (InFlight × Piece) :=
  (th.flight.find? (fun f => f.pieces.any (fun p => p.seq == seq))).bind (fun f => (f.pieces.find? (fun p => p.seq == seq)).map (fun p => (f, p)))

/-- A keyhole sector has come back. -/
def Module.khOver (m : Module) (site t seq : Nat) (f : InFlight) : Module :=
  m.updFlight site t f.id (fun g => { g with pieces := g.pieces.filter (fun p => p.seq != seq) })

/-- Data of a sector that a fault of a later one left on its way: they are written to the scratchpad (R251). -/
def Module.khLate (m : Module) (site t seq : Nat) (data : List Byte) (poison : Bool) : Module :=
  let c := m.core site
  match takeFirst (fun (l : Nat × Nat × Nat) => l.1 == t && l.2.1 == seq) c.late with
  | none => m
  | some (l, rest) =>
    let put (s : Scratch) : Scratch :=
      match padWin c.split l.2.2 64 with
      | some (win, o) => if data.isEmpty then s else s.write (foldPad c.split t) win o (data.take 64) poison
      | none => s
    m.updCore site (fun c => { c with late := rest, scratch := put c.scratch })

/-- Data, or an address fault, arrive for a keyhole sector (R251, R235). -/
def Module.khData (m : Module) (site t seq : Nat) (data : List Byte) (poison : Bool) : Module :=
  match ((m.core site).th t).khOf seq with
  | none => m.khLate site t seq data poison
  | some (f, p) =>
    if data.isEmpty then m.flightFault site t f 0x03 0 p.addr
    else match m.padPut site t f 2 (getLe f.bytes 10 3 + p.pos) (data.take 64) poison with
      | .error m1 => m1
      | .ok m1 => if poison then m1.flightFault site t f 0x09 0 p.addr else m1.khOver site t seq f

/-- A slice has accepted a keyhole write. -/
def Module.khAccept (m : Module) (site t seq : Nat) : Module :=
  match ((m.core site).th t).khOf seq with
  | none => m
  | some (f, _) => if khReads f.bytes then m else m.khOver site t seq f

/-- A KH descriptor completes once all its sectors have (R146). -/
def Module.completeKh (m : Module) (site t : Nat) (f : InFlight) : Module :=
  if f.next = khTotal f.bytes ∧ f.pieces.isEmpty then m.complete1 site t f else m

/-! ## Completed table walks (R348, R350, R641) -/

/-- The access of a core that a walk serves waits for it: the next request of a stream, the next sector of a keyhole descriptor, the
next sector of the fetch unit. -/
def Module.walkWanted (m : Module) (w : Walk) : Bool :=
  match w.src with
  | .stream site slot _ =>
    (match (m.core site).stream slot with
     | some q => m.slotReady site slot && !stPads q.desc && q.addr q.pos == w.va && stLoad q.desc == !w.write &&
        w.prefetch == (stLoad q.desc && !q.onDemand) && m.ownerOf site == w.part && (m.coreHit site w.va 3).isNone
     | none => false)
  | .keyhole site t _ =>
    (match ((m.core site).th t).flight.find? (fun f => f.cls == 1 && decide (f.next < khTotal f.bytes)) with
     | some f => (match m.khAddr site t f f.next with | .ok a => a == w.va | .error _ => false) && khReads f.bytes == !w.write &&
        !w.prefetch && m.engineRuns site && m.ownerOf site == w.part && (m.coreHit site w.va 3).isNone
     | none => false)
  | .fetch site t _ =>
    ((m.core site).th t).fetchRoom && ((m.core site).th t).fetchPos == w.va && !w.write && m.ownerOf site == w.part &&
    (m.coreHit site w.va 5).isNone
  | _ => false

/-- The walk's fault reaches the access that waits for it (R162, R245, R251). -/
def Module.walkFault (m : Module) (w : Walk) (e : WalkEnd) : Module :=
  match w.src with
  | .stream site slot _ =>
    match (m.core site).stream slot with
    | none => m
    | some q =>
      if w.prefetch then m.dropPrefetch site slot q.pos
      else match ((m.core site).th q.thread).find q.id, m.demandEnd site w.va e with
        | some f, (m1, .fault code cause) => m1.flightFault site q.thread f code cause w.va
        | _, _ => m
  | .keyhole site t _ =>
    match ((m.core site).th t).flight.find? (fun f => f.cls == 1 && decide (f.next < khTotal f.bytes)), m.demandEnd site w.va e with
    | some f, (m1, .fault code cause) => m1.khFault site t f code cause w.va
    | _, _ => m
  | .fetch site t _ =>
    let put (x : Fetched) : Module := ((m.putFetch site t w.va (w.va, some [x])).updCore site (fun c => c.updTh t Thread.fill)).checkFetch site t
    match e with
    | .fault cause bad => put (.fail 0x04 cause w.va bad)
    | .poison => put (.fail 0x09 0 w.va none)
    | .ok _ => m
  | _ => m

/-- The fetch unit goes on once its address translates. -/
def Module.walkDone (m : Module) (w : Walk) : Module :=
  match w.src with
  | .fetch site t _ => m.fetchNext site t
  | _ => m

/-- A core's walk ends: counted for the partition; its leaf and the upper-level entries it has read go to the core's caches; where the access
cannot have the address, its fault reaches it. -/
def Module.coreWalked (m : Module) (site : Nat) (w : Walk) : Module :=
  let m1 := (m.countWalk w.part).fillCore site w.part w.va
  match m.coreWalk site w.part w.va (accOf w.src w.write) with
  | .ok _ => m1.walkDone w
  | e => m1.walkFault w e

/-- The requester other than a core that a walk serves, by its cache. -/
def walkCache : Src → CacheOf
  | .firmware _ => .dispatcher
  | .engine deck _ => .engine deck
  | _ => .host

/-- TABLE_WALK_COMPLETE: a walk ends that an access of a core waits for, or that another requester makes ahead of its access. One that firmware
holds ends later (R345). -/
def doTableWalkComplete (w : Walk) (m : Module) : Module :=
  if m.walkHeld w.part w.va then m
  else match w.src with
  | .stream site _ _ => if m.walkWanted w then m.coreWalked site w else m
  | .keyhole site _ _ => if m.walkWanted w then m.coreWalked site w else m
  | .fetch site _ _ => if m.walkWanted w then m.coreWalked site w else m
  | .nr _ _ _ => m
  | s => m.lookedUp (walkCache s) w.part w.va
def execTableWalkComplete (w : Walk) (s : State) : Host.Outcome State Fault Refusal := onModule w.wf (doTableWalkComplete w) s

end Sys2Proof.Machine
end

