-- ==== Sys2Proof/Machine/Routes.lean ====
section
/-! DEFINITION. The sum a reduction tree forms (R309 to R311, R314) and the ways of its contributions. -/

namespace Sys2Proof.Machine

/-! ## Reduction trees (R309 to R314) -/

/-- A value on its way through a tree: 16 FP32 or 32 widened BF16 elements, or poison. -/
structure Partial where
  vals : List Word32
  poison : Bool
deriving DecidableEq, Repr

/-- An input of a combination on its way to the tree's end: the routers still before it, nearest to the end first; its place
among inputs that enter where it starts (its site; 65,536 for the engine port); its value. -/
structure TreeIn where
  back : List Nat
  order : Nat
  val : Partial
deriving DecidableEq, Repr

/-- The port of router `r` on which a flit of its neighbour `q` arrives: 1 west, 2 north, 3 east, 4 south (R310). -/
def portFrom (r q : Nat) : Nat := if xOf q < xOf r then 1 else if yOf q < yOf r then 2 else if xOf r < xOf q then 3 else 4

/-- The 64 bytes of a contribution as FP32 values, BF16 widened (R311). -/
def treeVals (bf : Bool) (bs : List Byte) : List Word32 :=
  if bf then (runsOf 2 32 bs).map (fun b => wide (leNat b)) else (runsOf 4 16 bs).map (fun b => BitVec.ofNat 32 (leNat b))
/-- A value as the 64 bytes of a flit. -/
def treeBytes (bf : Bool) (vs : List Word32) : List Byte :=
  if bf then vs.flatMap (fun v => leBytes 2 (v.toNat / 65536)) else vs.flatMap (fun v => leBytes 4 v.toNat)

/-- One combination (R311): inputs are added in their order, each add rounds once; a BF16 sum rounds once more on leaving; a
single input passes unchanged. -/
def combine (bf : Bool) : List Partial → Partial
  | [] => ⟨[], false⟩
  | [p] => p
  | p :: ps =>
    let s := ps.foldl (fun (a : Partial) q => ⟨List.zipWith fadd a.vals q.vals, a.poison || q.poison⟩) p
    if bf then { s with vals := s.vals.map (fun v => wide (toBf v)) } else s

/-- Inputs in the order of their place. -/
def byOrder (l : List TreeIn) : List TreeIn :=
  l.foldl (fun acc x => acc.filter (fun y => y.order ≤ x.order) ++ [x] ++ acc.filter (fun y => x.order < y.order)) []

/-- The sum at router `r`: local inputs by ascending site, then west, north, east and south, the engine port last (R310,
R314). The first argument bounds the routes' length. -/
def sumAt (bf : Bool) : Nat → Nat → List TreeIn → Partial
  | 0, _, _ => ⟨[], false⟩
  | n + 1, r, ins =>
    let here := ins.filter (fun i => i.back.isEmpty)
    let locals := (byOrder (here.filter (fun i => i.order < 65536))).map (·.val)
    let engines := (here.filter (fun i => 65536 ≤ i.order)).map (·.val)
    let port (k : Nat) : List Partial :=
      let arrive := ins.filter (fun i => match i.back with | q :: _ => portFrom r q == k | [] => false)
      match arrive with
      | [] => []
      | i :: _ => match i.back with
        | q :: _ => [sumAt bf n q (arrive.map (fun i => { i with back := i.back.drop 1 }))]
        | [] => []
    combine bf (locals ++ port 1 ++ port 2 ++ port 3 ++ port 4 ++ engines)

/-- The way of an input to the tree's end on a deck, read backwards. -/
def Module.treeBack (m : Module) (src dst : Nat) : List Nat := (((meshRoute m.routerLive src dst).getD [src]).reverse).drop 1

/-- What the members of a deck bring to a router of it. -/
def Module.deckIns (m : Module) (bf : Bool) (d dst : Nat) (got : List Contribution) : List TreeIn :=
  (got.filter (fun g => deckOf (clusterOf g.site) == d)).map (fun g =>
    { back := m.treeBack (clusterOf g.site) dst, order := g.site, val := ⟨treeVals bf g.data, g.poison⟩ })

/-- The next deck of an engine's partial towards the root's deck (R314). -/
def Module.engineNext (m : Module) (d root : Nat) : Nat :=
  match m.deckRoute (d * 64 + 27) root with | some (_ :: e :: _) => e | _ => root

/-- Decks whose engines handle partials: those with members, and those their partials pass. -/
def Module.treeDecks (m : Module) (root : Nat) (sites : List Nat) : List Nat :=
  let rd := deckOf (clusterOf root)
  let ds := (sites.map (fun s => deckOf (clusterOf s))).eraseDups
  (List.range Config.decks).filter (fun d => d == rd || ds.any (fun e =>
    decide (d ∈ (m.deckRoute (e * 64 + 27) rd).getD [])))

/-- An engine's partial: its own deck's contributions first, then the others' by ascending deck (R314). -/
def Module.engineSum (m : Module) (bf : Bool) (root : Nat) (got : List Contribution) : Nat → Nat → List Partial
  | 0, _ => []
  | n + 1, d =>
    let own := if d = root then [] else
      match m.deckIns bf d (d * 64 + 27) got with
      | [] => []
      | ins => [sumAt bf 40 (d * 64 + 27) ins]
    let others := ((List.range Config.decks).filter (fun e => e != root && e != d && m.engineNext e root == d)).flatMap
      (fun e => m.engineSum bf root got n e)
    match own ++ others with
    | [] => []
    | l => [combine bf l]

/-- The sum that reaches the root's router (R310, R311, R314). -/
def Module.treeSum (m : Module) (bf : Bool) (root : Nat) (got : List Contribution) : Partial :=
  let c := clusterOf root
  let rd := deckOf c
  let ins := m.deckIns bf rd c got
  let far := (m.engineSum bf rd got 10 rd).map (fun p => ({ back := m.treeBack (rd * 64 + 27) c, order := 65536, val := p } : TreeIn))
  sumAt bf 40 c (ins ++ far)

/-- The way of a member's contribution to the root (R309, R314). -/
def Module.treeWay (m : Module) (site root : Nat) : Option (List Nat) :=
  let c := clusterOf site
  let d := deckOf c
  let rd := deckOf (clusterOf root)
  if d = rd then meshRoute m.routerLive c (clusterOf root)
  else (meshRoute m.routerLive c (d * 64 + 27)).bind (fun p => (m.route (d * 64 + 27) (rd * 64 + 27) 0).bind (fun q =>
      (meshRoute m.routerLive (rd * 64 + 27) (clusterOf root)).map (fun r => p ++ q ++ r)))

/-- The routers of a contribution's way from its member to the root, the engines' at (3, 3) among them (R309, R314). -/
def Module.treePath (m : Module) (site root : Nat) : List Nat :=
  let c := clusterOf site
  let rd := deckOf (clusterOf root)
  let eng (d : Nat) : Nat := d * 64 + 27
  let leg (a b : Nat) : List Nat := (meshRoute m.routerLive a b).getD [a]
  if deckOf c = rd then leg c (clusterOf root)
  else leg c (eng (deckOf c)) ++ (((m.deckRoute (eng (deckOf c)) rd).getD []).drop 1).map eng ++
    (leg (eng rd) (clusterOf root)).drop 1

/-- The routers of a way with the port on which it enters each: local first, the engine's from another deck (R310, R314). -/
def pathPorts (p : List Nat) : List (Nat × Nat) :=
  (p.zip (0 :: ((p.zip (p.drop 1)).map (fun x => if deckOf x.1 = deckOf x.2 then portFrom x.2 x.1 else 5))))

/-- The routers that first meet contributions of two formats (R312), each with the number of inputs it has taken. -/
def Module.mixedAt (m : Module) (r : Reduction) : List (Nat × Nat) :=
  let ps := r.got.map (fun g => (g.fmt, m.treePath g.site r.root))
  let here (c : Nat) : List (Nat × List Nat) := ps.filter (fun p => decide (c ∈ p.2))
  let mixed (c : Nat) : Bool := (here c).any (fun p => p.1 == 0) && (here c).any (fun p => p.1 == 1)
  ((((ps.flatMap (·.2)).eraseDups).filter mixed).filter (fun c => (here c).all (fun p => (p.2.takeWhile (· != c)).all (fun q => !mixed q)))).map
    (fun c => (c, (here c).length))

end Sys2Proof.Machine
end

