-- ==== Sys2Proof/Machine/Network.lean ====
section
/-! DEFINITION. The deck network's events (chapter 10): packets between cores (R150, R315, R316), reductions (R310 to R314), link
errors (R302), fenced routers and their route tables (R317 to R320), half clocks (R307, R409), bridges (R322 to R326). -/

namespace Sys2Proof.Machine

/-! ## Packets between cores -/

/-- A refused signal, kept apart from a refused transfer. -/
def pkSigNack : Nat := 7
/-- The virtual channel of a kind (R297). -/
def pkVc (k : Nat) : Nat := if k ≤ 3 then 0 else 3
/-- The packet type code of a kind (R301). -/
def pkCode (k : Nat) : Nat :=
  match k with | 1 => 0x10 | 2 => 0x11 | 3 => 0x12 | 4 => 0x30 | 5 => 0x31 | _ => 0x32

/-- The next packet of a pair, if it is of this kind, its route can be used and it is not held: order is kept on each virtual
channel (R305, R318, R326). -/
def Module.nextPkt (m : Module) (src dst : Nat) (kind : Nat → Bool) (vc : Nat) : Option (NetPkt × Module) :=
  match takeFirst (fun p => p.src == src && p.dst == dst && pkVc p.kind == vc) m.net.pkts with
  | none => none
  | some (p, rest) =>
    if kind p.kind ∧ !p.held ∧ m.passes src dst then some (p, { m with net := { m.net with pkts := rest } }) else none

/-- The transfer a packet belongs to is still in flight at its thread. -/
def Module.transfer? (m : Module) (site t id : Nat) : Option InFlight := ((m.core site).th t).find id

/-- An acknowledgement of `p` from where it went to `to`, counting `n` destinations. -/
def Module.ackPkt (m : Module) (p : NetPkt) (dest n : Nat) : Module :=
  m.inject { p with kind := pkAck, src := p.dst, dst := dest, data := [], bad := [], parts := n }
/-- A negative acknowledgement of `p` to its thread: cause 1 out of service, 3 in reset (R316, R447). -/
def Module.nackPkt (m : Module) (p : NetPkt) (dest cause : Nat) : Module :=
  m.inject { p with kind := if p.kind = pkSignal then pkSigNack else pkNack, src := p.dst, dst := dest, data := [], bad := [], parts := cause }

/-- Writes a packet's flits at the destination, each with its poison (R229, R300, R302). -/
def Module.landFlits (m : Module) (p : NetPkt) (source : Nat) : Module :=
  (List.range (p.data.length / 64)).foldl (fun acc k =>
    let o := p.off + 64 * k
    acc.padExternal p.dst (o / 2 ^ 21) (o % 2 ^ 21) ((p.data.drop (64 * k)).take 64) (decide (k ∈ p.bad)) 5 source) m

/-- The destination's counter, if the descriptor enables it. -/
def Module.bumpAt (m : Module) (site counter : Nat) (on : Bool) : Module :=
  if on then m.updCore site (fun c => c.bump counter 1) else m

/-- A data packet reaches a core: refused where it is out of service or in reset, else written; `done` acts on the last packet
of a transfer. Packets of a transfer that its thread has abandoned are dropped (R163). -/
def Module.landAt (m : Module) (p : NetPkt) (issuer : Nat) (done : Module → Module) : Module :=
  if (m.transfer? issuer p.thread p.id).isNone ∨ m.ownerOf p.dst ≠ p.part then m
  else match m.unreachable p.dst with
    | some cause => m.nackPkt p issuer cause
    | none =>
      let m1 := (m.wake (clusterOf p.dst)).landFlits p issuer
      if p.last then done m1 else m1

/-- NR_SEND_PACKET (R316). -/
def doNrSendPacket (src dst : Nat) (m : Module) : Module :=
  match m.nextPkt src dst (· == pkSend) 0 with
  | none => m
  | some (p, m1) => m1.landAt p src (fun x => (x.bumpAt dst p.counter p.countOn).ackPkt p src 1)
def execNrSendPacket (src dst : Nat) (s : State) : Host.Outcome State Fault Refusal :=
  onModule (siteOk src && siteOk dst) (doNrSendPacket src dst) s

/-- A root counts the last packet of a part of a tag, which landed at `place`; the counter follows once `parts` of them are in. Two
parts of one rank land at one place and count once (R315). -/
def Module.countPart (m : Module) (root tag place parts counter : Nat) (on : Bool) : Module :=
  let hit (g : Gather) : Bool := g.root == root && g.tag == tag
  let seen := insertNew place (match m.net.gathers.find? hit with | some g => g.seen | none => [])
  let rest := m.net.gathers.filter (fun g => !hit g)
  if parts ≤ seen.length then ({ m with net := { m.net with gathers := rest } }).bumpAt root counter on
  else { m with net := { m.net with gathers := rest ++ [⟨root, tag, seen⟩] } }

/-- NR_GATHER_PACKET (R315). -/
def doNrGatherPacket (src dst : Nat) (m : Module) : Module :=
  match m.nextPkt src dst (· == pkGather) 0 with
  | none => m
  | some (p, m1) => m1.landAt p src (fun x => (x.countPart dst p.tag p.off p.parts p.counter p.countOn).ackPkt p src 1)
def execNrGatherPacket (src dst : Nat) (s : State) : Host.Outcome State Fault Refusal :=
  onModule (siteOk src && siteOk dst) (doNrGatherPacket src dst) s

/-- A broadcast's record at a deck's engine. -/
def DeckCast.is (c : DeckCast) (deck src thread id : Nat) : Bool :=
  c.deck == deck && c.src == src && c.thread == thread && c.id == id

/-- NR_BCAST_PACKET (R316): at an engine a copy leaves for every core of its list; at a core it is written. -/
def doNrBcastPacket (src dst : Nat) (m : Module) : Module :=
  match m.nextPkt src dst (· == pkBcast) 0 with
  | none => m
  | some (p, m1) =>
    if dst < 65536 then m1.landAt p p.tag (fun x => (x.bumpAt dst p.counter p.countOn).ackPkt p src 1)
    else match m1.net.casts.find? (fun c => c.is (dst - 65536) src p.thread p.id) with
      | none => m1
      | some c => c.cores.foldl (fun acc s => acc.inject { p with src := dst, dst := s, tag := src }) m1
def execNrBcastPacket (src dst : Nat) (s : State) : Host.Outcome State Fault Refusal :=
  onModule (endpointOk src && endpointOk dst) (doNrBcastPacket src dst) s

/-- SIGNAL_PACKET (R150, R447). -/
def doSignalPacket (src dst : Nat) (m : Module) : Module :=
  match m.nextPkt src dst (· == pkSignal) 3 with
  | none => m
  | some (p, m1) =>
    if m1.ownerOf dst ≠ p.part then m1
    else match m1.unreachable dst with
      | some cause => m1.nackPkt p src cause
      | none => (m1.wake (clusterOf dst)).updCore dst (fun c => c.bump p.counter (leNat p.data))
def execSignalPacket (src dst : Nat) (s : State) : Host.Outcome State Fault Refusal :=
  onModule (siteOk src && siteOk dst) (doSignalPacket src dst) s

/-- Acknowledgements reach the issuing thread; with the last the descriptor completes (R146, R316). -/
def Module.acked (m : Module) (site t id n : Nat) : Module :=
  match m.transfer? site t id with
  | none => m
  | some f => if f.next ≤ n then m.complete1 site t f else m.updFlight site t id (fun q => { q with next := q.next - n })

/-- An acknowledgement reaches a deck's engine, which returns one with its count once all its cores have answered. -/
def Module.castAcked (m : Module) (p : NetPkt) : Module :=
  let hit (c : DeckCast) : Bool := c.is (p.dst - 65536) p.tag p.thread p.id
  match m.net.casts.find? hit with
  | none => m
  | some c =>
    if c.acks + 1 < c.cores.length then
      { m with net := { m.net with casts := modFirst hit (fun c => { c with acks := c.acks + 1 }) m.net.casts } }
    else ({ m with net := { m.net with casts := m.net.casts.filter (fun c => !hit c) } }).ackPkt p p.tag c.cores.length

/-- NR_ACK (R315, R316): at a deck's engine or at the issuing core. -/
def doNrAck (src dst : Nat) (m : Module) : Module :=
  match m.nextPkt src dst (· == pkAck) 3 with
  | none => m
  | some (p, m1) => if dst < 65536 then m1.acked dst p.thread p.id p.parts else m1.castAcked p
def execNrAck (src dst : Nat) (s : State) : Host.Outcome State Fault Refusal :=
  onModule (endpointOk src && endpointOk dst) (doNrAck src dst) s

/-- A transfer or signal of a thread fails: code 0x0D with a cause (R150, R316, R319). A signal's thread faults while it still
runs the work that sent it. -/
def Module.transferFails (m : Module) (site t id cause : Nat) : Module :=
  let m1 := { m with net := { m.net with casts := m.net.casts.filter (fun c => !(c.src == site && c.thread == t && c.id == id)) } }
  match m.transfer? site t id with
  | none => m1
  | some f => m1.flightFault site t f 0x0D cause 0
/-- The same for a signal that left at program address `pc`. -/
def Module.signalFails (m : Module) (site t ctx pc cause : Nat) : Module :=
  match ((m.core site).th t).item with
  | some it => if it.ctx = ctx then m.threadFault site t 0x0D cause pc 0x71 0 0 else m
  | none => m

/-- NR_NACK (R316, R447). -/
def doNrNack (src dst : Nat) (m : Module) : Module :=
  match m.nextPkt src dst (fun k => k == pkNack || k == pkSigNack) 3 with
  | none => m
  | some (p, m1) =>
    if p.kind = pkSigNack then m1.signalFails dst p.thread p.tag p.off p.parts else m1.transferFails dst p.thread p.id p.parts
def execNrNack (src dst : Nat) (s : State) : Host.Outcome State Fault Refusal :=
  onModule (siteOk src && siteOk dst) (doNrNack src dst) s

/-! ## Reductions at the root (R310 to R314) -/

/-- The tree of a number on a deck (R308). -/
def Module.tree (m : Module) (deck n : Nat) : Option Tree := (m.net.trees.find? (fun t => t.1 == deck && t.2.1 == n)).map (fun t => t.2.2)
/-- A tree can be used: no member of it has been fenced (R308). -/
def Module.treeWhole (m : Module) (t : Tree) : Bool := !t.broken && t.members.all (fun s => (m.core s).enabled)

/-- The 64 bytes that arrive for an address, with their poison; where formats differ, each router that found it logs the mismatch, and
after any mismatch the flit passed on carries undefined data (R312). -/
def Module.reduced (m : Module) (r : Reduction) : List Byte × Bool × Module :=
  let bf (f : Nat) : Bool := r.got.all (fun g => g.fmt == f)
  let note (acc : Module) (x : Nat × Nat) : Module :=
    acc.netEvent 0x39 (deckOf x.1) (x.1 % 64) 0xFF 0xFF 0xFF 0xFF 2 r.tree 0 x.2 r.tag r.off r.root r.root
  if !r.spoiled ∧ (bf 0 ∨ bf 1) then
    let p := m.treeSum (bf 1) r.root r.got
    (treeBytes (bf 1) p.vals, p.poison, m)
  else (m.unknown 64, true, (m.mixedAt r).foldl note { m with free := m.free + 1 })

/-- Every contribution of a complete address stands first in its member's lane (R313). -/
def Net.lanesFree (n : Net) (r : Reduction) : Bool :=
  n.reductions.all (fun q => q == r || q.root != r.root || q.tree != r.tree ||
    q.got.all (fun h => r.got.all (fun g => g.site != h.site || decide (g.order < h.order))))

/-- A flit of an instance is written at the root; with the last the root's counter is incremented (R312). -/
def Module.landSum (m : Module) (r : Reduction) (i : RootInst) : Module :=
  let x := m.reduced r
  let mine (q : RootInst) : Bool := q == i
  let left := i.left.filter (· != r.off)
  let m1 := (x.2.2.wake (clusterOf r.root)).padExternal r.root (r.off / 2 ^ 21) (r.off % 2 ^ 21) x.1 x.2.1 5 r.root
  if left.isEmpty then
    ({ m1 with net := { m1.net with insts := (match takeFirst mine m1.net.insts with | some (_, l) => l | none => m1.net.insts) } }).bumpAt
      r.root (i.remote % 16) (bitOf i.remote 4)
  else { m1 with net := { m1.net with insts := modFirst mine (fun q => { q with left := left, tracked := true }) m1.net.insts } }

/-- REDUCE_FLIT: combining routers and engines on the way change nothing that software sees; at the root's router the next
address whose contributions are complete, and first in their lanes (R313), arrives. A core tracks at most 8 instances (R312). -/
def doReduceFlit (deck tree cluster : Nat) (m : Module) : Module :=
  match m.tree deck tree with
  | none => m
  | some t =>
    if clusterOf t.root ≠ deck * 64 + cluster then m
    else if !m.treeWhole t then { m with net := m.net.discard t.root tree }
    else
      let full (r : Reduction) : Bool := r.root == t.root && r.tree == tree && r.got.length == t.members.length && m.net.lanesFree r
      match takeFirst full m.net.reductions with
      | none => m
      | some (r, rest) =>
        let m1 := { m with net := { m.net with reductions := rest } }
        let busy := countOf (fun (q : RootInst) => q.root == t.root && q.tracked) m.net.insts
        match m.net.insts.find? (fun q => q.root == t.root && q.tree == tree && q.tag == r.tag && decide (r.off ∈ q.left)) with
        | none => m1
        | some i =>
          if (m.unreachable t.root).isSome then m1
          else if !i.tracked ∧ 8 ≤ busy then m
          else m1.landSum r i
def execReduceFlit (deck tree cluster : Nat) (s : State) : Host.Outcome State Fault Refusal :=
  onModule (decide (deck < Config.decks ∧ tree < 8 ∧ cluster < 64)) (doReduceFlit deck tree cluster) s

/-! ## Changes of routes (R309, R318, R320, R326) -/

/-- Trees a member of which reaches its root on another way than before are recomputed: instances in progress are discarded
(R309). -/
def Module.reshapeTrees (m : Module) (old : Module) : Module :=
  let moved (t : Tree) : Bool := t.members.any (fun s => old.treeWay s t.root != m.treeWay s t.root)
  (m.net.trees.filter (fun t => moved t.2.2)).foldl (fun acc t => { acc with net := acc.net.discard t.2.2.root t.2.1 }) m

/-- A change of routes without a fence: pairs with packets on the way whose route changes are held until their marker returns
(R326). -/
def Module.reroute (m : Module) (f : Module → Module) : Module :=
  let m1 := f m
  let pairs := (m.net.pkts.map (fun p => (p.src, p.dst))).eraseDups
  let moved := pairs.filter (fun p => m.endRoute p.1 p.2 != m1.endRoute p.1 p.2 && !(p ∈ m1.net.heldPairs))
  ({ m1 with net := { m1.net with heldPairs := m1.net.heldPairs ++ moved } }).reshapeTrees m

/-- The marker of a pair returns (R326): it has passed what was sent before it; what was held leaves. -/
def Module.markBack (m : Module) (src dst : Nat) : Module :=
  let mine (p : NetPkt) : Bool := p.src == src && p.dst == dst
  if (src, dst) ∈ m.net.heldPairs ∧ !m.net.pkts.any (fun p => mine p && !p.held) then
    { m with net := { m.net with
        heldPairs := m.net.heldPairs.filter (fun p => !(p == (src, dst))),
        pkts := m.net.pkts.map (fun p => if mine p then { p with held := false } else p) } }
  else m

/-- Decks that no bridge path joins to deck 0 any more are fenced (R324). -/
def Module.fenceIslands (m : Module) : Module :=
  let reach := deckBall m.bridgeLost 0 10
  ((List.range Config.decks).filter (fun d => !(d ∈ reach) && !(d ∈ m.bring.decksFenced))).foldl (fun acc d => acc.fenceDeck d 0x37) m

/-- A bridge that has no group left, or whose retraining failed, is down (R324). -/
def Module.bridgeFalls (m : Module) (b : Nat) (failed : Bool) : Module :=
  if (failed ∨ (m.liveGroups b).isEmpty) ∧ !(m.net.bridge b).down then
    let e := bridgeEnds b
    ((m.netEvent 0x37 e.1 0xFF 0xFF b 0xFF 0xFF 0 0xFF 0 0 0 0 0xFFFF 0xFFFF).updBridge b
      (fun q => { q with down := failed, retraining := false })).fenceIslands
  else m

/-- Bridges at a router, with its edge position (R28, R29). -/
def bridgesAt (c : Nat) : List (Nat × Nat) :=
  (List.range Config.bridges).flatMap (fun b => ((List.range 8).filter (fun k => edgeRouter b true k == c || edgeRouter b false k == c)).map
    (fun k => (b, k)))

/-- A pair of live clusters of a deck that no relay serves; the higher one (R320). -/
def Module.unserved (m : Module) (d : Nat) : Option Nat :=
  let cs := (clustersOf d).filter m.routerLive
  if cs.length = 64 then none
  else cs.find? (fun b => (cs.filter (· < b)).any (fun a => (meshRoute m.routerLive a b).isNone || (meshRoute m.routerLive b a).isNone))

/-- Clusters no relay serves are fenced, event 0x3A, until every pair has a route (R320); at most 64 on a deck. -/
def Module.serveDeck (d : Nat) : Nat → Module → Module
  | 0, m => m
  | n + 1, m => match m.unserved d with
    | none => m
    | some c =>
      let m1 := m.netEvent 0x3A d (c % 64) 0xFF 0xFF 0xFF 0xFF 0 0xFF 0 0 0 0 0xFFFF 0xFFFF
      Module.serveDeck d n ((m1.recordUnit .router c 0 0x3A).dropRouter c stHwError false)

/-- The entries of one fence (R318, R320, R323, R324): 0x33 for a router the device fenced itself, 0x3C for each bridge whose groups are
parked (a deck that goes out of service has its bridges down instead). -/
def Module.logFence (m : Module) (p : Nat × Bool) : Module :=
  let c := p.1
  let park (acc : Module) (q : Nat × Nat) : Module :=
    acc.netEvent 0x3C (deckOf c) (c % 64) 0xFF q.1 (2 * q.2) 0xFF 0 0xFF (acc.liveGroups q.1).length 0 0 0 0xFFFF 0xFFFF
  (if deckOf c ∈ m.bring.decksFenced then [] else bridgesAt c).foldl park
    (if p.2 then m.netEvent 0x33 (deckOf c) (c % 64) 0xFF 0xFF 0xFF 0xFF 0 0xFF 0 0 0 0 0xFFFF 0xFFFF else m)

/-- New route tables are in force (R318 steps 4 and 5, R320); routers that the loss of a bridge takes with it wait for the next ones
(R324). -/
def Module.loadTables (m : Module) : Module :=
  if m.net.newFences.isEmpty then m
  else
    let old := m.before
    let m1 := (List.range Config.decks).foldl (fun acc d => Module.serveDeck d 64 acc) m
    let bs := ((m1.net.newFences.flatMap (fun p => bridgesAt p.1)).map (·.1)).eraseDups
    let m2 := m1.net.newFences.foldl (fun acc p => acc.logFence p) m1
    let m3 := (bs.filter (fun b => !(old.liveGroups b).isEmpty)).foldl (fun acc b => acc.bridgeFalls b false) m2
    let m4 := m3.reshapeTrees old
    { m4 with net := { m4.net with newFences := m4.net.newFences.drop m1.net.newFences.length } }

/-- ROUTER_FENCE (R317, R318): neighbours stop sending, the cluster is out of service. -/
def doRouterFence (cluster : Nat) (m : Module) : Module := m.fenceRouter cluster
def execRouterFence (cluster _cause : Nat) (s : State) : Host.Outcome State Fault Refusal :=
  onModule (clusterOk cluster) (doRouterFence cluster) s

/-- The code of an endpoint (R300). -/
def endCode (e : Nat) : Nat := if 65536 ≤ e then 0x3F0A else e

/-- The entry about a request that a fenced router ended, event 0x34: it names the router, the requester and the target (R302, R319). -/
def Module.lossEvent (m : Module) (router endpoint dest addr : Nat) : Module :=
  m.netEvent 0x34 (deckOf router) (router % 64) 0xFF 0xFF 0xFF 0xFF 0 0xFF 0 1 0 addr (endCode endpoint) dest

/-- A request of the host or of another module waits for a route (R318). -/
def Module.holdCmd (m : Module) (i : Instr) : Module :=
  { m with net := { m.net with heldCmds := m.net.heldCmds ++ [(m.port.nextId, i)] } }

/-! ## Link errors (R302) -/

/-- The packet type codes of R301. -/
def typeKnown (k : Nat) : Bool := decide (k ∈ [0x01, 0x02, 0x03, 0x04, 0x05, 0x10, 0x11, 0x12, 0x20, 0x30, 0x31, 0x32, 0x33, 0x34, 0x35])

/-- The virtual channel of a flit, the tree of a reduction flit, and the tag with its upper half where the type carries one (R300). -/
def flitVc (f : Flit) : Nat := f.flags % 4
def flitTree (f : Flit) : Nat := f.address / 2 ^ 23 % 8
def flitTag (f : Flit) : Nat := f.tag + (if f.typ = 0x20 ∨ f.typ = 0x11 then f.address / 2 ^ 26 % 65536 * 65536 else 0)

/-- An endpoint is the one a code names: a site, an attachment, or a deck's collective engine, which has one code on every deck
(R300). -/
def codeIs (code e : Nat) : Bool := if code % 16384 = 0x3F0A then decide (65536 ≤ e) else e == code % 16384

/-- A flit is the head of a packet between cores. -/
def flitHeads (f : Flit) (p : NetPkt) : Bool :=
  pkCode p.kind == f.typ && codeIs f.dest p.dst && codeIs f.src p.src && (3 < p.kind || p.off == f.address % 2 ^ 23)
/-- A flit is the head of a request to a slice. -/
def Module.asks (m : Module) (f : Flit) (r : MemReq) : Bool :=
  r.site == f.dest % 16384 && (match m.srcEnd r with | some e => codeIs f.src e | none => false) &&
  devAddr r.site r.off / 64 == f.address / 64 &&
  (if f.typ = 0x03 then r.write else !r.write && r.row == (f.typ == 0x02) && (f.typ == 0x01 || f.typ == 0x02))
/-- A flit is the head of a response of a slice. -/
def Module.answers (m : Module) (f : Flit) (r : Response) : Bool :=
  r.req.site == f.src % 16384 && (match m.srcEnd r.req with | some e => codeIs f.dest e | none => false) &&
  devAddr r.req.site r.req.off / 64 == f.address / 64 && (if f.typ = 0x05 then r.accept else !r.accept && f.typ == 0x04)

/-- The reduction a flit belongs to (R310). -/
def flitSums (f : Flit) (r : Reduction) : Bool :=
  f.typ == 0x20 && r.root == f.dest % 16384 && r.tree == (flitTree f) && r.tag == (flitTag f) && r.off == f.address % 2 ^ 23
/-- A contribution is part of what a flit of the reduction carries over this link (R310). -/
def Module.carries (m : Module) (f : Flit) (root : Nat) (g : Contribution) : Bool :=
  decide ((f.cluster, f.inPort) ∈ pathPorts (m.treePath g.site root)) && (f.inPort != 0 || g.site == f.src % 16384)

/-- The packet is discarded; its loss is still to be reported (R302). A reduction loses what the flit carried. -/
def Module.losePacket (m : Module) (f : Flit) : Module :=
  let lost (m : Module) (l : LostPkt) : Module := { m with net := { m.net with lost := m.net.lost ++ [(f.cluster, l)] } }
  if f.typ = 0x20 then
    { m with net := { m.net with
      reductions := modFirst (flitSums f) (fun r => { r with got := r.got.filter (fun g => !m.carries f r.root g) }) m.net.reductions } }
  else match takeFirst (flitHeads f) m.net.pkts with
    | some (p, rest) => lost { m with net := { m.net with pkts := rest } } (.core p)
    | none => match takeFirst (m.answers f) m.mem.responses with
      | some (r, rest) => lost { m with mem := { m.mem with responses := rest } } (.response r)
      | none => match takeFirst (fun (w : Waiting) => m.asks f w.req) (m.slice (f.dest % 16384)).waiting with
        | some (w, rest) => lost (m.updSlice (f.dest % 16384) (fun s => { s with waiting := rest })) (.request w.req)
        | none => m

/-- The flit's data is poisoned: the head flit of a packet, what it carries of a reduction, a response, a write (R302). -/
def Module.poisonPacket (m : Module) (f : Flit) : Module :=
  let bad (w : Waiting) : Waiting := { w with req := { w.req with poison := true } }
  if f.typ = 0x20 then
    { m with net := { m.net with reductions := modFirst (flitSums f) (fun r => { r with
        got := r.got.map (fun g => if m.carries f r.root g then { g with poison := true } else g) }) m.net.reductions } }
  else if m.net.pkts.any (flitHeads f) then
    { m with net := { m.net with pkts := modFirst (flitHeads f) (fun p => { p with bad := insertNew 0 p.bad }) m.net.pkts } }
  else if f.typ = 0x04 then
    { m with mem := { m.mem with responses := modFirst (m.answers f) (fun r => { r with poison := true }) m.mem.responses } }
  else if f.typ = 0x03 ∧ f.dest % 16384 < Config.sites then
    m.updSlice (f.dest % 16384) (fun s => { s with waiting := modFirst (fun w => m.asks f w.req) bad s.waiting })
  else m

/-- A network entry about an arriving flit, with the fields of its control field (R329). -/
def Module.flitEvent (m : Module) (event : Nat) (f : Flit) (count : Nat) : Module :=
  m.netEvent event (deckOf f.cluster) (f.cluster % 64) f.inPort 0xFF 0xFF 0xFF (flitVc f) (if f.typ = 0x20 then (flitTree f) else 0xFF) 0 count (flitTag f)
    (if 0x10 ≤ f.typ ∧ f.typ ≤ 0x20 then f.address % 2 ^ 23 else f.address) f.src f.dest

/-- A reduction flit on a port that the tree expects nothing on, or with more contributions than the tree has members: event 0x39, and
what the router passes on is poisoned (R312). -/
def Module.checkSum (m : Module) (f : Flit) : Module :=
  match m.tree (deckOf f.cluster) (flitTree f) with
  | none => m
  | some t =>
    let expected := t.members.any (fun s => decide ((f.cluster, f.inPort) ∈ pathPorts (m.treePath s t.root)))
    if f.typ = 0x20 ∧ (!expected ∨ t.members.length < f.aux) then
      let m1 := m.flitEvent 0x39 f 1
      { m1 with net := { m1.net with reductions := modFirst (flitSums f) (fun r => { r with spoiled := true }) m1.net.reductions } }
    else m

/-- A control error on a router's port; the sixteenth within 1 s fences the router. -/
def Module.ctrlError (m : Module) (f : Flit) : Module :=
  let k := f.cluster * 8 + f.inPort
  let ts := (SMap.get [] m.net.ctrlErrs k).filter (fun t => decide (m.time < t + 1000000)) ++ [m.time]
  let m1 := { m with net := { m.net with ctrlErrs := SMap.set [] m.net.ctrlErrs k ts } }
  if 16 ≤ ts.length then m1.fenceRouter f.cluster else m1

/-- FLIT_ARRIVAL (R299, R301, R302, R312): a good flit goes on; a bad one is corrected, poisoned or discarded. -/
def doFlitArrival (f : Flit) (m : Module) : Module :=
  if !m.routerLive f.cluster then m
  else if f.ctrl = 2 then ((m.flitEvent 0x32 f 1).losePacket f).ctrlError f
  else
    let m1 := if f.ctrl = 1 then (m.flitEvent 0x31 f 1).ctrlError f else m
    if !typeKnown f.typ then (m1.flitEvent 0x32 f 1).losePacket f
    else (if f.poison then (m1.flitEvent 0x30 f 1).poisonPacket f else m1).checkSum f
def execFlitArrival (f : Flit) (s : State) : Host.Outcome State Fault Refusal := onModule f.wf (doFlitArrival f) s

/-! ## Transom traffic between decks (R297, R327) -/

/-- TRANSOM: a bank-op broadcast that another deck's engine sent on reaches this deck's transom, in the order its issuer sent
them (R108, R305); a deck controller that relocks holds it (R444). -/
def doTransom (deck id : Nat) (m : Module) : Module :=
  let l := SMap.get [] m.net.transom deck
  let issuer (i : Nat) : Option Nat := (m.seqOf i).map (·.issuer)
  if id ∈ l ∧ !m.relocking (.deck deck) ∧ !(l.takeWhile (· != id)).any (fun i => issuer i == issuer id) then
    { m with
      net := { m.net with transom := SMap.set [] m.net.transom deck (l.filter (· != id)) },
      mem := { m.mem with transom := SMap.upd [] m.mem.transom deck (fun t => t ++ [id]) } }
  else m
def execTransom (deck id : Nat) (s : State) : Host.Outcome State Fault Refusal :=
  onModule (decide (deck < Config.decks)) (doTransom deck id) s

/-! ## Half clocks (R307, R409) -/

/-- Every cluster of the half is at point 2 or below, or in Ajar or deeper (R409). -/
def Module.halfIdle (m : Module) (h : Nat) : Bool := (clustersOfHalf h).all (fun c => decide ((m.cl c).point ≤ 2 ∨ 1 ≤ (m.cl c).ladder))
/-- A cluster of the half waits to be raised above point 2, or has come back from Ajar above it (R409). -/
def Module.halfNeeded (m : Module) (h : Nat) : Bool :=
  (clustersOfHalf h).any (fun c => decide ((m.cl c).ladder = 0 ∧ (2 < (m.cl c).point ∨ (2 = (m.cl c).point ∧ 2 < (m.cl c).goal))))

/-- HALF_SLOW_DECISION: the 10 ms are over; the power manager asks for 0.8 GHz. -/
def doHalfSlowDecision (half : Nat) (m : Module) : Module :=
  if m.power.halfSlowOn ∧ m.halfIdle half ∧ !bitOf m.clocks.halfSlow half then
    { m with net := { m.net with slowWanted := insertNew half m.net.slowWanted } }
  else m
def execHalfSlowDecision (half : Nat) (s : State) : Host.Outcome State Fault Refusal :=
  onModule (decide (half < 2 * Config.decks)) (doHalfSlowDecision half) s

/-- HALF_FREQUENCY_CHANGE (R307): at the power manager's request, 1 ms or more after the half's last change. -/
def doHalfFrequencyChange (half : Nat) (slow : Bool) (m : Module) : Module :=
  let last := SMap.get 0 m.net.halfFreqAt half
  let wanted := if slow then m.power.halfSlowOn && decide (half ∈ m.net.slowWanted) && m.halfIdle half
    else m.halfNeeded half || !m.power.halfSlowOn
  if bitOf m.clocks.halfSlow half ≠ slow ∧ wanted ∧ (last = 0 ∨ last - 1 + 1000 ≤ m.time) then
    { m with
      clocks := { m.clocks with halfSlow := setBit m.clocks.halfSlow half slow },
      net := { m.net with halfFreqAt := SMap.set 0 m.net.halfFreqAt half (m.time + 1), slowWanted := m.net.slowWanted.filter (· != half) } }
  else m
def execHalfFrequencyChange (half : Nat) (slow : Bool) (s : State) : Host.Outcome State Fault Refusal :=
  onModule (decide (half < 2 * Config.decks)) (doHalfFrequencyChange half slow) s

/-! ## Bridges (R322 to R324) -/

/-- A bridge entry of a group. -/
def Module.groupEvent (m : Module) (event b dir g lane count : Nat) : Module :=
  let e := bridgeEnds b
  m.netEvent event (if dir = 0 then e.2 else e.1) 0xFF 0xFF b g lane 0 0xFF (m.liveGroups b).length count 0 0 0xFFFF 0xFFFF

/-- A bridge, a group, a direction that exist. -/
def bridgeOk (b : Nat) : Bool := decide (b < Config.bridges)
def groupOk (b g dir : Nat) : Bool := decide (b < Config.bridges ∧ g < 16 ∧ dir < 2)

/-- A failed frame asks for a replay; the 65th retry within 1 ms retrains the group, event 0x38 (R322). -/
def Module.frameFails (m : Module) (b dir g : Nat) : Module :=
  let ts := (m.net.group b dir g).retries.filter (fun t => decide (m.time < t + 1000)) ++ [m.time]
  let m1 := m.updGroup b dir g (fun q => { q with retries := ts, replaying := true })
  if ts.length ≤ 64 then m1
  else (m1.reroute (fun x => x.updGroup b dir g (fun q => { q with retraining := true, retries := [] }))).groupEvent 0x38 b dir g 0xFF ts.length

/-- BRIDGE_FRAME_RECEIVE (R322): CRC and sequence number are checked; frames after a failed one are dropped until its replay. -/
def doBridgeFrameReceive (b g dir seq : Nat) (crcOk : Bool) (m : Module) : Module :=
  let q := m.net.group b dir g
  if m.bridgeLost b ∨ !q.live ∨ q.retraining then m
  else if seq ≠ q.nextSeq then (if q.replaying then m else m.frameFails b dir g)
  else if !crcOk then m.frameFails b dir g
  else m.updGroup b dir g (fun q => { q with nextSeq := (q.nextSeq + 1) % 256, replaying := false })
def execBridgeFrameReceive (bridge group dir seq : Nat) (crcOk : Bool) (s : State) : Host.Outcome State Fault Refusal :=
  onModule (groupOk bridge group dir && decide (seq < 256)) (doBridgeFrameReceive bridge group dir seq crcOk) s

/-- A lane's number in the field repair record (R80). -/
def laneUnit (b dir g lane : Nat) : Nat := b * 2048 + dir * 1024 + g * 64 + lane
/-- A group's number there. -/
def groupUnit (b dir g : Nat) : Nat := b * 32 + dir * 16 + g

/-- A group is retired, event 0x36 (R323); its failure counts towards the bridge's retraining (R324). -/
def Module.retireGroup (m : Module) (b dir g : Nat) : Module :=
  let m1 := m.reroute (fun x => (x.updGroup b dir g (fun q => { q with live := false, retraining := false })).updBridge b
    (fun q => { q with groupFails := q.groupFails.filter (fun t => decide (x.time < t + 1000000)) ++ [x.time] }))
  ((m1.recordUnit .bridgeGroup (groupUnit b dir g) 0 0x36).groupEvent 0x36 b dir g 0xFF 0).bridgeFalls b false

/-- LANE_FAILURE (R323): the group retrains with a spare, lane 32 or 33, event 0x35; a third failure finds none (R80). -/
def doLaneFailure (b g dir lane : Nat) (m : Module) : Module :=
  let q := m.net.group b dir g
  if m.bridgeLost b ∨ !q.live then m
  else if 2 ≤ q.sparesUsed then (m.recordUnit .bridgeLane (laneUnit b dir g lane) 0xFF 0x36).retireGroup b dir g
  else
    let m1 := m.reroute (fun x => x.updGroup b dir g (fun q => { q with retraining := true, sparesUsed := q.sparesUsed + 1 }))
    (m1.recordUnit .bridgeLane (laneUnit b dir g lane) (32 + q.sparesUsed) 0x35).groupEvent 0x35 b dir g lane 0
def execLaneFailure (bridge group dir lane : Nat) (s : State) : Host.Outcome State Fault Refusal :=
  onModule (groupOk bridge group dir && decide (lane < 34)) (doLaneFailure bridge group dir lane) s

/-- Spares a group has left in a direction. -/
def Net.sparesLeft (n : Net) (b g : Nat) : Nat := 2 - max (n.group b 0 g).sparesUsed (n.group b 1 g).sparesUsed

/-- CAL.BRIDGE waits for its group's retraining in both directions: it then tells the lanes in use and the spares left (R520). -/
def Module.calBridgeDone (m : Module) (b g : Nat) : Module :=
  if (m.net.group b 0 g).retraining ∨ (m.net.group b 1 g).retraining then m
  else match m.engine.cmds.find? (fun s => s.opcode == 0x6B && s.phase == .running && s.info == [b, g]) with
  | some s => m.complete s.id stOk (d4 (if m.groupUp b g then 32 else 0) ++ d4 (m.net.sparesLeft b g))
  | none => m

/-- GROUP_RETRAIN_DONE (R323): traffic returns; a group that does not train is retired. -/
def doGroupRetrainDone (b g dir : Nat) (ok : Bool) (m : Module) : Module :=
  let q := m.net.group b dir g
  if !q.retraining ∨ !q.live then m
  else if !ok then (m.retireGroup b dir g).calBridgeDone b g
  else (m.reroute (fun x => x.updGroup b dir g (fun q => { q with retraining := false, nextSeq := 0, replaying := false, retries := [] }))).calBridgeDone b g
def execGroupRetrainDone (bridge group dir : Nat) (ok : Bool) (s : State) : Host.Outcome State Fault Refusal :=
  onModule (groupOk bridge group dir) (doGroupRetrainDone bridge group dir ok) s

/-- BRIDGE_RETRAIN (R324): three groups failed within 1 s; traffic takes other routes. -/
def doBridgeRetrain (b : Nat) (m : Module) : Module :=
  let q := m.net.bridge b
  if m.bridgeLost b ∨ q.retraining ∨ (q.groupFails.filter (fun t => decide (m.time < t + 1000000))).length < 3 then m
  else m.reroute (fun x => x.updBridge b (fun q => { q with retraining := true, groupFails := [] }))
def execBridgeRetrain (bridge : Nat) (s : State) : Host.Outcome State Fault Refusal :=
  onModule (bridgeOk bridge) (doBridgeRetrain bridge) s

/-- BRIDGE_RETRAIN_END (R324): the bridge is back, or down. -/
def doBridgeRetrainEnd (b : Nat) (ok : Bool) (m : Module) : Module :=
  if !(m.net.bridge b).retraining then m
  else m.reroute (fun x => if ok then x.updBridge b (fun q => { q with retraining := false }) else x.bridgeFalls b true)
def execBridgeRetrainEnd (bridge : Nat) (ok : Bool) (s : State) : Host.Outcome State Fault Refusal :=
  onModule (bridgeOk bridge) (doBridgeRetrainEnd bridge ok) s

end Sys2Proof.Machine
end

