-- ==== Sys2Proof/Machine/FabLink.lean ====
section
/-! DEFINITION. Dupieno ports and their links (R530 to R536, R547): training, sequence numbers, credits, replay; sending and
forwarding transactions by the routing table (R537, R543, R544). -/

namespace Sys2Proof.Machine

/-! ## Transactions (R534, R537, R538) -/

/-- The fabric channel of a type: FV0 requests, FV1 responses, FV2 steps, FV3 control (R534, R538). -/
def chanOf (t : Trans) : Nat :=
  if t.typ ∈ [0x01, 0x02, 0x03, 0x18] then 0 else if t.typ ∈ [0x04, 0x05, 0x06] then 1 else if t.typ = 0x10 then 2 else 3
/-- A listed transaction type (R538). -/
def transKnown (t : Trans) : Bool := decide (t.typ ∈ [0x01, 0x02, 0x03, 0x04, 0x05, 0x06, 0x10, 0x18]) || decide (0x20 ≤ t.typ ∧ t.typ < 0x30)
/-- The flits a transaction takes when it begins a body: a 32-byte header and its payload in bodies of 238 bytes (R533). -/
def transFlits (t : Trans) : Nat := (32 + t.payload.length + 237) / 238
/-- A payload in whole 64-byte units (R537). -/
def padUnits (bs : List Byte) : List Byte := bs ++ List.replicate ((64 - bs.length % 64) % 64) 0

/-- A transaction of this module, 255 hops left (R537). -/
def Module.trans (m : Module) (typ dest : Nat) : Trans :=
  { typ := typ, flags := 0, dest := dest % 4096, src := m.ownId % 4096, partition := 0, tag := 0, epoch := 0, address := 0, aux := 0,
    step := 0, hops := 255, payload := [] }

/-! ## The sending end (R535, R536) -/

/-- The port carries flits (R548). -/
def FabPort.up (p : FabPort) : Bool := p.state == 2 || p.state == 3
/-- Flits in the replay buffer, of 512 (R535). -/
def FabPort.kept (p : FabPort) : Nat := (p.replayBuf.map (fun r => transFlits r.2)).foldl (· + ·) 0

/-- Sends a transaction: its flits take sequence numbers and credits and stay in the replay buffer. -/
def FabPort.emit (p : FabPort) (cls : Nat) (t : Trans) : FabPort :=
  let n := transFlits t
  { p with
    replayBuf := p.replayBuf ++ [((p.txSeq + n - 1) % 4096, t)],
    txSeq := (p.txSeq + n) % 4096,
    credits := modNth p.credits (2 * chanOf t + cls) (fun c => c - n) }

/-- What can leave of a port's queue: in order within a stream, while credits and the replay buffer last; a stream that waits
holds no other back (R536). In a fabric pause the data transactions of this module, `own`, wait (R545). -/
def pumpQueue (own : Option Nat) : List (Nat × Trans) → List Nat → FabPort → FabPort × List Trans
  | [], _, p => (p, [])
  | (c, t) :: rest, blocked, p =>
    let k := 2 * chanOf t + c
    if own = some t.src ∧ chanOf t < 3 then
      let r := pumpQueue own rest blocked p
      ({ r.1 with queue := (c, t) :: r.1.queue }, r.2)
    else if k ∈ blocked ∨ nth 0 p.credits k < transFlits t ∨ 512 < p.kept + transFlits t then
      let r := pumpQueue own rest (k :: blocked) p
      ({ r.1 with queue := (c, t) :: r.1.queue }, r.2)
    else
      let r := pumpQueue own rest blocked (p.emit c t)
      (r.1, t :: r.2)

/-- Sends what a port can send. -/
def Module.pump (m : Module) (p : Nat) : Module :=
  let q := m.fport p
  if !q.up then m
  else
    let r := pumpQueue (if m.fab.paused then some m.fab.deviceId else none) q.queue [] { q with queue := [] }
    let m1 := m.updFport p (fun _ => r.1)
    { m1 with flight := { m1.flight with out := m1.flight.out ++ r.2.map (fun t => (p, t)) } }
/-- Sends what all ports can send. -/
def Module.pumpAll (m : Module) : Module := (List.range 4).foldl (fun acc p => acc.pump p) m

/-- A transaction joins a port's queue. -/
def Module.push (m : Module) (p cls : Nat) (t : Trans) : Module :=
  (m.updFport p (fun q => { q with queue := q.queue ++ [(cls, t)] })).pump p

/-! ## Routes (R543) -/

/-- The egress port for a destination; none: local or no route. -/
def Module.egress (m : Module) (dest : Nat) : Option Nat :=
  let r := SMap.get 0 m.fab.routes dest
  if 1 ≤ r ∧ r ≤ 4 then some (r - 1) else none

/-- The egress port of a transaction: control transactions also take the table of the coming commit, by which a module that has
just joined is reached (R548). -/
def Module.wayOf (m : Module) (t : Trans) : Option Nat :=
  match m.egress t.dest with
  | some p => some p
  | none =>
    let r := SMap.get 0 m.fab.nextRoutes t.dest
    if chanOf t = 3 ∧ 1 ≤ r ∧ r ≤ 4 then some (r - 1) else none

/-- Sends a transaction of this module towards its destination; unchanged where no route leads there. -/
def Module.sendTo (m : Module) (t : Trans) : Module :=
  match m.wayOf t with
  | some p => m.push p 0 t
  | none => m

/-- A control transaction with its sequence number (R537). -/
def Module.control (m : Module) (t : Trans) : Module × Trans :=
  ({ m with fab := { m.fab with ctlSeq := (m.fab.ctlSeq + 1) % 2 ^ 32 } }, { t with tag := m.fab.ctlSeq, payload := padUnits t.payload })
/-- Sends a control transaction by the routing table. -/
def Module.sendControl (m : Module) (t : Trans) : Module := let c := m.control t; c.1.sendTo c.2
/-- Sends a control transaction out of a port. -/
def Module.sendOn (m : Module) (p : Nat) (t : Trans) : Module := let c := m.control t; c.1.push p 0 c.2

/-- Answers `t`, which came in at `port`, with ACK (0x05) or NACK (0x06): to its source by the table, else back where it came
from (R540, R541). -/
def Module.reply (m : Module) (port : Nat) (t : Trans) (typ reason : Nat) (payload : List Byte) (flags : Nat) : Module :=
  let a : Trans := { m.trans typ t.src with
    flags := flags, partition := t.partition, tag := t.tag, epoch := t.epoch, address := t.address, aux := t.aux, step := reason,
    payload := payload }
  match m.egress t.src with
  | some p => m.push p 0 a
  | none => m.push port 0 a
/-- Refuses a transaction (R541). -/
def Module.nackTo (m : Module) (port : Nat) (t : Trans) (reason : Nat) : Module := m.reply port t 0x06 reason [] 0

/-- The port opposite in a ring: D1 faces D3, D0 faces D2 (R543). -/
def opposite (p : Nat) : Nat := (p + 2) % 4

/-- A data transaction: what a receiving module admits or refuses (R540, R541). -/
def isData (t : Trans) : Bool := decide (t.typ ∈ [0x01, 0x02, 0x03, 0x10])

/-- A transit transaction: one hop less, discarded at 0, event 0x9C; class 0 on entering a dimension, 1 after the ring's wrap
link (R543, R544). A data transaction that ends here is refused with reason 7 (R541). -/
def Module.forward (m : Module) (port cls : Nat) (t : Trans) : Module :=
  let refuse (m : Module) : Module := if isData t then m.nackTo port t 7 else m
  if t.hops ≤ 1 then refuse (m.fabEvent 0x9C t.partition port t.src 7 t.typ t.tag t.epoch t.address 0 0)
  else match m.wayOf t with
    | some p => m.push p (if p = opposite port then (if (m.fport port).wrap then 1 else cls) else 0) { t with hops := t.hops - 1 }
    | none => refuse m

/-- A transaction arrives at a port that is up: for this module it acts, else it goes on. Before the module has an ID, data
transactions are refused (R549). -/
def Module.arrive (m : Module) (port cls : Nat) (t : Trans) (here : Module → Module) : Module :=
  if !(m.fport port).up then m
  else if !transKnown t then m.fabEvent 0x9C t.partition port t.src 0 t.typ t.tag t.epoch t.address 0 0
  else if 0x20 ≤ t.typ ∧ t.typ ≤ 0x23 then here m
  else if !m.fab.idValid then (if isData t then m.nackTo port t 7 else m)
  else if t.dest = m.fab.deviceId then here m
  else m.forward port cls t

/-- A transaction row: the type is the row's. -/
def onTrans (port : Nat) (t : Trans) (typ : Nat) (here : Module → Module) (s : State) : Host.Outcome State Fault Refusal :=
  onModule (decide (port < Config.ports) && t.wf && t.typ == typ) (fun m => m.arrive port 0 t here) s

/-! ## Training (R547, R548) -/

/-- The port's own HELLO: serial number, configured role, port number, device ID if assigned, fabric epochs (R547). -/
def Module.helloBody (m : Module) (p : Nat) : List Byte :=
  packRec 64 [⟨0, 16, Config.serial.toNat⟩, ⟨16, 1, m.fab.roleConfig⟩, ⟨17, 1, p⟩, ⟨18, 2, m.ownId⟩, ⟨20, 4, m.epochs.algEpoch⟩,
    ⟨24, 4, m.epochs.routeEpoch⟩, ⟨28, 4, m.epochs.powerEpoch⟩]

/-- Numbers the flits kept over a training from 0 on (R535, R547). -/
def renumber : Nat → List (Nat × Trans) → List (Nat × Trans)
  | _, [] => []
  | n, (_, t) :: rest => ((n + transFlits t - 1) % 4096, t) :: renumber (n + transFlits t) rest

/-- Credits a peer advertises at flit sync (R536). -/
def freshCredits : List Nat := [128, 128, 128, 128, 128, 128, 16, 16]

/-- Flit sync: both directions begin at 0; what the replay buffer holds takes credits again. -/
def FabPort.sync (p : FabPort) : FabPort :=
  let spend (cs : List Nat) (r : Nat × Trans) : List Nat := modNth cs (2 * chanOf r.2) (fun c => c - transFlits r.2)
  { p with
    replayBuf := renumber 0 p.replayBuf, txSeq := p.kept % 4096, rxSeq := 0, sameReplays := 0, nakSent := false,
    credits := p.replayBuf.foldl spend freshCredits, attempts := 0 }

/-- A port entry with the fields at hand (R566). -/
def Module.portEvent (m : Module) (event p count : Nat) : Module :=
  m.fabEvent event 0xFF p (if (m.fport p).peerValid then (m.fport p).peerId else 0xFFFF) 0 0 0 0 0 count 0

/-- A port is down: what it carried is lost, event 0x91 (R547, R548). -/
def Module.portDown (m : Module) (p : Nat) : Module :=
  (m.portEvent 0x91 p 0).updFport p (fun q => { q with
    state := 0, replayBuf := [], queue := [], peerValid := false, peerId := 0, peerPort := 0, peerSerial := 0, sameReplays := 0,
    nakSent := false })

/-- A port in service retrains for errors, event 0x92; its replay buffer is kept (R532, R535). -/
def Module.retrainPort (m : Module) (p : Nat) : Module :=
  (m.portEvent 0x92 p (m.fport p).sameReplays).updFport p (fun q => { q with
    state := 1, retrains := min (q.retrains + 1) 0xFFFF, sameReplays := 0, attempts := 0 })

/-- The width a mask of good lanes allows: 2 for x8, 3 for x4 on either half, 0 for none (R531, R547). -/
def widthOf (lanes : Nat) : Nat := if lanes % 256 = 255 then 2 else if lanes % 16 = 15 ∨ lanes / 16 % 16 = 15 then 3 else 0

/-- The end of a training attempt: the configured role takes effect (R525); the third that fails, or a failed lane in both
halves, leaves the port down. -/
def Module.trained (m : Module) (p lanes : Nat) : Module :=
  let q := m.fport p
  if q.state ≠ 1 then m
  else
    let w := widthOf lanes
    if w ≠ 0 then
      let m0 := m.updFport p (fun q => { q.sync with state := w })
      let m1 := ({ m0 with fab := { m0.fab with role := m0.fab.roleConfig } }).portEvent 0x90 p 0
      m1.sendOn p { m1.trans 0x20 0 with payload := m1.helloBody p }
    else if lanes % 256 ≠ 0 ∨ 2 ≤ q.attempts then m.portDown p
    else m.updFport p (fun q => { q with attempts := q.attempts + 1 })

/-- PORT_TRAIN_RETRY: a port that is down, and not disabled, trains again (R547). -/
def doPortTrainRetry (port : Nat) (m : Module) : Module :=
  if (m.fport port).state = 0 ∧ m.bring.ready then m.updFport port (fun q => { q with state := 1, attempts := 0 }) else m
def execPortTrainRetry (port : Nat) (s : State) : Host.Outcome State Fault Refusal :=
  onModule (decide (port < Config.ports)) (doPortTrainRetry port) s

/-- FEC_ERROR_THRESHOLD (R532): the symbols and codewords of the window are counted; 16 uncorrectable codewords within 1 ms, or
corrected symbols above 1 in 1,000 over 1 s at 21.25 G symbols/s a lane, retrain the port. -/
def doFecErrorThreshold (port uncorr corr : Nat) (m : Module) : Module :=
  let q := m.fport port
  if !q.up then m
  else
    let m1 := m.updFport port (fun q => { q with corrected := sat64 q.corrected corr, uncorr := sat64 q.uncorr uncorr })
    let limit := if q.state = 2 then 170000000 else 85000000
    if 16 ≤ uncorr ∨ limit < corr then m1.retrainPort port else m1
def execFecErrorThreshold (port uncorr corr : Nat) (s : State) : Host.Outcome State Fault Refusal :=
  onModule (decide (port < Config.ports)) (doFecErrorThreshold port uncorr corr) s

/-! ## Acknowledgement and replay (R535) -/

/-- The replay buffer is sent again; the eighth time without progress the port retrains. -/
def Module.replayPort (m : Module) (p : Nat) : Module :=
  let q := m.fport p
  if q.replayBuf.isEmpty then m
  else
    let m1 := m.updFport p (fun q => { q with replays := sat64 q.replays 1, sameReplays := q.sameReplays + 1 })
    if 8 ≤ q.sameReplays + 1 then m1.retrainPort p else m1

/-- FABRIC_ACK_TIMEOUT. -/
def doFabricAckTimeout (port : Nat) (m : Module) : Module := if (m.fport port).up then m.replayPort port else m
def execFabricAckTimeout (port : Nat) (s : State) : Host.Outcome State Fault Refusal :=
  onModule (decide (port < Config.ports)) (doFabricAckTimeout port) s

/-- An acknowledgement up to flit `a`: transactions whose last flit it covers leave the replay buffer. -/
def FabPort.ackTo (p : FabPort) (a : Nat) : FabPort :=
  let rest := p.replayBuf.filter (fun r => !decide ((a + 4096 - r.1) % 4096 < 2048))
  if rest.length = p.replayBuf.length then p else { p with replayBuf := rest, sameReplays := 0 }

/-- What the header of an accepted flit tells the sending end: acknowledgement, credits, nak. -/
def Module.flitHeader (m : Module) (p : Nat) (f : FabFlit) : Module :=
  let m1 := m.updFport p (fun q =>
    let q1 := q.ackTo f.ack
    { q1 with
      rxSeq := (q.rxSeq + 1) % 4096, nakSent := false,
      credits := (List.range 8).map (fun i => min (nth 0 freshCredits i) (nth 0 q1.credits i + nth 0 f.credits i)) })
  (if f.nak then m1.replayPort p else m1).pump p

end Sys2Proof.Machine
end

