-- ==== Sys2Proof/Machine/Nr.lean ====
section
/-! DEFINITION. NR descriptors (R158, R310, R315, R316, R540), and the data transactions of the fabric that this module serves
(R541, R542). -/

namespace Sys2Proof.Machine

/-! ## The fields of R158 -/

def nrFlags (b : List Byte) : Nat := getLe b 1 1
def nrRemote (b : List Byte) : Nat := getLe b 2 1
def nrSite (b : List Byte) : Nat := getLe b 4 2
def nrModule (b : List Byte) : Nat := getLe b 6 2
def nrSrc (b : List Byte) : Nat := getLe b 8 3
def nrDst (b : List Byte) : Nat := getLe b 11 3
def nrLength (b : List Byte) : Nat := getLe b 16 4
def nrTree (b : List Byte) : Nat := getLe b 20 1
def nrParts (b : List Byte) : Nat := getLe b 22 2
def nrRank (b : List Byte) : Nat := getLe b 24 2
def nrTag (b : List Byte) : Nat := getLe b 28 4
/-- The operation: 0 SEND, 1 REDUCE, 2 GATHER, 3 BCAST. -/
def nrOp (b : List Byte) : Nat := getLe b 0 1 - 0x60
/-- The descriptor stays inside this module. -/
def nrLocal (b : List Byte) : Bool := bitOf (nrModule b) 15
/-- Where the data lands: GATHER adds rank × length. -/
def nrLanding (b : List Byte) : Nat := nrDst b + (if nrOp b = 2 then nrRank b * nrLength b else 0)

/-- The format of R158 and R11: a field that belongs to another operation is reserved; GATHER's rank is below its parts (R315). -/
def nrOk (b : List Byte) : Bool :=
  let op := nrOp b
  let only (l : List Nat) (v : Nat) : Nat := if op ∈ l then v else 0
  fits b [(1, 7 + only [1] 8 + only [3] 16), (2, 0x1F), (3, 0xFF), (4, only [0, 1, 2] 0xFFFF), (6, if nrLocal b then 0x8000 else 0x0FFF),
    (8, 0xFFFFFF), (11, 0xFFFFFF), (16, 0xFFFFFFFF), (20, only [1] 7), (22, only [1, 2] 0xFFFF), (24, only [2] 0xFFFF),
    (28, only [1, 2] 0xFFFFFFFF)] &&
  nrLength b % 64 == 0 && decide (64 ≤ nrLength b ∧ nrLength b ≤ 2 ^ 21) && (op != 2 || decide (nrRank b < nrParts b)) &&
  (nrLocal b || op == 0 || op == 2)

/-- A range lies wholly inside one window of R136, unfolded (R158). -/
def oneWindow (off len : Nat) : Bool := off / 2 ^ 21 == (off + len - 1) / 2 ^ 21 && decide (off / 2 ^ 21 ≤ 2)

/-- The cores a broadcast reaches: the enabled cores of the cluster, or of the partition (R158, R316). -/
def Module.castCores (m : Module) (site : Nat) (b : List Byte) : List Nat :=
  let p := m.ownerOf site
  let cs := if bitOf (nrFlags b) 4 then allClusters.filter (fun c => (m.cl c).owner == some p) else [clusterOf site]
  (cs.flatMap sitesOf).filter (fun s => (m.core s).enabled)

/-- The destination is an enabled core of the partition (R158). -/
def Module.nrTarget (m : Module) (site : Nat) (b : List Byte) : Bool :=
  decide (nrSite b < Config.sites) && (m.core (nrSite b)).enabled && m.ownerOf (nrSite b) == m.ownerOf site

/-- The tree a REDUCE names, if R310's checks pass. -/
def Module.nrTreeOk (m : Module) (site : Nat) (b : List Byte) : Bool :=
  match m.tree (deckOf (clusterOf site)) (nrTree b) with
  | none => false
  | some t => t.part == m.ownerOf site && m.treeWhole t && decide (site ∈ t.members) && t.root == nrSite b &&
      t.members.length == nrParts b

/-- Why a descriptor may not be issued, in the order format, address, network: the fault's code and cause. -/
def Module.nrBad (m : Module) (site t : Nat) (b : List Byte) : Option (Nat × Nat) :=
  let op := nrOp b
  if !nrOk b then some (0x01, 0)
  else match (m.core site).eventBad t b with
    | some code => some (code, 0)
    | none =>
      if !nrLocal b ∧ m.fab.idValid ∧ nrModule b = m.fab.deviceId then some (0x01, 0)
      else if !oneWindow (nrLanding b) (nrLength b) then some (0x03, 0)
      else if !nrLocal b then (if m.bring.fabricReady then none else some (0x0D, 4))
      else if op ≠ 3 ∧ !m.nrTarget site b then some (0x03, 0)
      else if op = 1 ∧ !m.nrTreeOk site b then some (0x01, 0)
      else none

/-! ## Source data -/

/-- The bytes of the source range, 64 at a time with the poison of each (R234, R235); the error is the module after the fault. -/
def Module.nrRead (m : Module) (site t : Nat) (f : InFlight) (off : Nat) : Nat → Except Module (List (List Byte × Bool))
  | 0 => .ok []
  | n + 1 =>
    match m.padGetRaw site t f 5 off 64 with
    | .error m1 => .error m1
    | .ok r => (m.nrRead site t f (off + 64) n).map (r :: ·)

/-- Flits in packets of 2 KiB: the first flit's number, the bytes, the poisoned flits (R300). -/
def packets : Nat → Nat → List (List Byte × Bool) → List (Nat × List Byte × List Nat)
  | 0, _, _ => []
  | n + 1, k, fs =>
    if fs.isEmpty then []
    else
      let now := fs.take 32
      (k, now.flatMap (·.1), (List.range now.length).filter (fun i => (nth ([], false) now i).2)) :: packets n (k + 32) (fs.drop 32)

/-! ## Inside the module (R310, R315, R316) -/

/-- The packets of a transfer to one endpoint. -/
def Module.nrInject (m : Module) (site t id dst : Nat) (b : List Byte) (ps : List (Nat × List Byte × List Nat)) : Module :=
  let last := match ps.getLast? with | some p => p.1 | none => 0
  ps.foldl (fun acc p => acc.inject {
    kind := nrOp b + (if nrOp b = 0 then 1 else 0), src := site, thread := t, id := id, dst := dst, off := nrLanding b + 64 * p.1,
    data := p.2.1, bad := p.2.2, last := p.1 == last, counter := nrRemote b % 16, countOn := bitOf (nrRemote b) 4, tag := nrTag b,
    parts := nrParts b, part := m.ownerOf site, held := false }) m

/-- A broadcast: one copy to the engine of each deck with a core in scope (R316). -/
def Module.nrCast (m : Module) (site t id : Nat) (b : List Byte) (ps : List (Nat × List Byte × List Nat)) : Module :=
  let cores := m.castCores site b
  (List.range Config.decks).foldl (fun acc d =>
    let here := cores.filter (fun s => deckOf (clusterOf s) == d)
    if here.isEmpty then acc
    else ({ acc with net := { acc.net with casts := acc.net.casts ++ [(⟨d, site, t, id, here, 0⟩ : DeckCast)] } } : Module).nrInject site t id (65536 + d) b ps) m

/-- A contribution joins the first entry of its address that lacks this member, or begins one. -/
def contribute (r : Reduction) (c : Contribution) : List Reduction → List Reduction
  | [] => [{ r with got := [c] }]
  | q :: qs =>
    if q.root == r.root && q.tree == r.tree && q.tag == r.tag && q.off == r.off && !q.got.any (fun g => g.site == c.site) then
      { q with got := q.got ++ [c] } :: qs
    else q :: contribute r c qs

/-- One more than the last place a member has taken in a tree's lane (R313). -/
def Net.laneEnd (n : Net) (site root tree : Nat) : Nat :=
  (((n.reductions.filter (fun r => r.root == root && r.tree == tree)).flatMap (fun r => r.got.filter (fun g => g.site == site))).map
    (fun g => g.order + 1)).foldl max 0

/-- A REDUCE's flits enter the tree; the root's own descriptor opens the instance (R310, R312). -/
def Module.nrReduce (m : Module) (site : Nat) (b : List Byte) (fs : List (List Byte × Bool)) : Module :=
  let part := m.ownerOf site
  let base := m.net.laneEnd site (nrSite b) (nrTree b)
  let one (acc : Nat × List Reduction) (f : List Byte × Bool) : Nat × List Reduction :=
    (acc.1 + 64, contribute ⟨nrSite b, part, nrTree b, nrTag b, acc.1, false, []⟩
      ⟨site, base + acc.1, b2n (bitOf (nrFlags b) 3), f.1, f.2⟩ acc.2)
  let rs := (fs.foldl one (nrDst b, m.net.reductions)).2
  let inst : RootInst := ⟨nrSite b, part, nrTree b, nrTag b, nrRemote b, (List.range fs.length).map (fun k => nrDst b + 64 * k), false⟩
  { m with net := { m.net with reductions := rs, insts := if site = nrSite b then m.net.insts ++ [inst] else m.net.insts } }

/-! ## To other modules (R540) -/

/-- WRITE_SP transactions of a transfer: at most 2 KiB each; an address holds site and the 22 low bits of the offset (R538). -/
def Module.nrTrans (m : Module) (site : Nat) (b : List Byte) (tag : Nat) (ps : List (Nat × List Byte × List Nat)) : List Trans :=
  let last := match ps.getLast? with | some p => p.1 | none => 0
  ps.map (fun p => { m.trans 0x01 (nrModule b) with
    flags := b2n (!p.2.2.isEmpty) + 2 * b2n (p.1 == last), partition := m.ownerOf site, tag := tag,
    address := nrSite b * 2 ^ 22 + (nrLanding b + 64 * p.1) % 2 ^ 22,
    aux := nrRemote b % 32 + 32 * b2n (nrOp b == 2) + 65536 * nrParts b, payload := p.2.1 })

/-- A transfer leaves for another module and waits for its ACK; without a route it is refused at the source with reason 7, event
0x94, and the thread faults (R541, R543). -/
def Module.nrLeave (m : Module) (site t : Nat) (b : List Byte) (ps : List (Nat × List Byte × List Nat)) : Module :=
  let tag := if nrOp b = 2 then nrTag b else m.flight.nextTag
  let ts := m.nrTrans site b tag ps
  let l := m.launch site t 5 b false
  match m.egress (nrModule b) with
  | none =>
    let a := match ts with | x :: _ => x.address | [] => 0
    match l.1.transfer? site t l.2 with
    | some f => (l.1.fabEvent 0x94 (m.ownerOf site) 0xFF (nrModule b) 7 0x01 tag 0 a 0 0).flightFault site t f 0x0D 4 a
    | none => l.1
  | some _ =>
    let x : FabXfer := ⟨tag, nrModule b, site, t, l.2, []⟩
    ts.foldl (fun acc q => acc.sendTo q) { l.1 with flight := { l.1.flight with
      xfers := l.1.flight.xfers ++ [x], nextTag := (l.1.flight.nextTag + 1) % 2 ^ 32 } }

/-! ## The descriptors -/

/-- An NR descriptor: checked, its source read with poison carried on, its packets sent (R158, R235). At most four are in flight
in a thread, two in split mode (R133). One for another module leaves through the attachment in the half of its cluster (R32). -/
def bodyNr : Body := fun m site t bs =>
  let c := m.core site
  let th := c.th t
  match m.nrBad site t bs with
  | some (code, cause) => .fault code cause 0
  | none =>
    if (if c.split then 2 else 4) ≤ th.inClass 5 then .stall
    else
      let f : InFlight := { id := th.nextId, cls := 5, bytes := bs, pc := th.pc, next := 0, pieces := [], done := false }
      match m.nrRead site t f (addReg th (nrSrc bs) (nrFlags bs % 8)) (nrLength bs / 64) with
      | .error m1 => .over m1
      | .ok fs =>
        let ps := packets (nrLength bs / 64) 0 fs
        if !nrLocal bs then
          (match m.egress (nrModule bs) with
           | some p =>
             let e := leaveEnd p (clusterOf site)
             if m.noWay site e then .fault 0x0D 2 0 else if m.mayLeave site e then .next (m.nrLeave site t bs ps) else .stall
           | none => .next (m.nrLeave site t bs ps))
        else
          let l := m.launch site t 5 bs (nrOp bs == 1)
          if nrOp bs = 1 then .next (l.1.nrReduce site bs fs)
          else
            let n := if nrOp bs = 3 then (m.castCores site bs).length else 1
            let m1 := l.1.updFlight site t l.2 (fun q => { q with next := n })
            .next (if nrOp bs = 3 then m1.nrCast site t l.2 bs ps else m1.nrInject site t l.2 (nrSite bs) bs ps)

def execNrSend (d : Desc) (s : State) : Host.Outcome State Fault Refusal := onDesc d 0x60 bodyNr s
def execNrReduce (d : Desc) (s : State) : Host.Outcome State Fault Refusal := onDesc d 0x61 bodyNr s
def execNrGather (d : Desc) (s : State) : Host.Outcome State Fault Refusal := onDesc d 0x62 bodyNr s
def execNrBcast (d : Desc) (s : State) : Host.Outcome State Fault Refusal := onDesc d 0x63 bodyNr s

/-- An NR.REDUCE completes once its last flit stands in the first router's lane (R146, R310). -/
def Module.completeNr (m : Module) (site t : Nat) (f : InFlight) : Module := if f.done then m.complete1 site t f else m

/-! ## Data transactions served here (R541, R542) -/

/-- The partition admits remote transactions (R541). -/
def Module.admits (m : Module) (p : Nat) : Bool := (m.part p).state == 2 && bitOf m.fab.admission p

/-- An earlier transaction of the same stream from the same module still waits: this one is delivered after it (R539, R545). -/
def Module.behindHeld (m : Module) (t : Trans) : Bool := m.net.heldCmds.any (fun h => match h.2 with
  | .writeSp _ x => x.src == t.src && chanOf x == chanOf t
  | .writeVa _ x => x.src == t.src && chanOf x == chanOf t
  | .readVa _ x => x.src == t.src && chanOf x == chanOf t
  | .step _ x => x.src == t.src && chanOf x == chanOf t
  | _ => false)

/-- WRITE_SP: to an enabled core of the partition, inside one window; the last of a transfer counts and is acknowledged (R539,
R540). -/
def doWriteSp (port : Nat) (t : Trans) (m : Module) : Module :=
  let site := t.address / 2 ^ 22 % 2 ^ 14
  let off := t.address % 2 ^ 22
  if m.behindHeld t then m.holdCmd (.writeSp port t)
  else if !m.admits t.partition then m.nackTo port t 1
  else if Config.sites ≤ site ∨ m.ownerOf site ≠ t.partition ∨ t.payload.isEmpty ∨ !oneWindow off t.payload.length then m.nackTo port t 3
  else if (m.unreachable site).isSome ∨ m.noWay (enterEnd port t.address) site then m.nackTo port t 2
  else if !m.mayLeave (enterEnd port t.address) site then m.holdCmd (.writeSp port t)
  else
    let m1 := (List.range ((t.payload.length + 63) / 64)).foldl (fun (acc : Module) k =>
      let o := off + 64 * k
      acc.padExternal site (o / 2 ^ 21) (o % 2 ^ 21) ((t.payload.drop (64 * k)).take 64) (bitOf t.flags 0) 5 0xFFFF) (m.wake (clusterOf site))
    if !bitOf t.flags 1 then m1
    else
      let on := bitOf t.aux 4
      let m2 := if bitOf t.aux 5 then m1.countPart site t.tag off (t.aux / 65536) (t.aux % 16) on else m1.bumpAt site (t.aux % 16) on
      m2.reply port t 0x05 0 [] 0
def execWriteSp (port : Nat) (t : Trans) (s : State) : Host.Outcome State Fault Refusal := onTrans port t 0x01 (doWriteSp port t) s

/-- The parts of a range of virtual addresses inside rows: offset in the range, address, length. -/
def rowParts : Nat → Nat → Nat → Nat → List (Nat × Nat × Nat)
  | 0, _, _, _ => []
  | n + 1, o, va, len =>
    if len = 0 then [] else
    let k := min len (2048 - va % 2048)
    (o, va, k) :: rowParts n (o + k) (va + k) (len - k)

/-- The parts of a range of virtual addresses inside sectors. -/
def sectorParts : Nat → Nat → Nat → Nat → List (Nat × Nat × Nat)
  | 0, _, _, _ => []
  | n + 1, o, va, len =>
    if len = 0 then [] else
    let k := min len (64 - va % 64)
    (o, va, k) :: sectorParts n (o + k) (va + k) (len - k)

/-- Translates the parts of a remote access as demand accesses of a partition: device addresses, or the NACK's reason with what
the fault logs and counts (R541). -/
def Module.remoteAddrs (m : Module) (part acc : Nat) (src : Src) : List (Nat × Nat × Nat) → Except (Nat × Module) (List (Nat × Nat × Nat))
  | [] => .ok []
  | (o, va, k) :: rest =>
    match m.walk part va acc with
    | .ok pa => if m.refusedAt (siteOfAddr pa) src then .error (2, m) else (m.remoteAddrs part acc src rest).map ((o, pa, k) :: ·)
    | .fault cause bad => .error (3, (m.logBad part 0 0xFFFF va (.fault cause bad)).countFault part)
    | .poison => .error (3, m)

/-- Every part of a remote access is translated by a walk of its own (R350 gives these accesses no cache). -/
def Module.remoteWalked (m : Module) (part : Nat) (l : List (Nat × Nat × Nat)) : Module :=
  l.foldl (fun (acc : Module) _ => acc.countWalk part) m
/-- Firmware holds a walk that a remote access needs (R345). -/
def Module.remoteHeld (m : Module) (part : Nat) (l : List (Nat × Nat × Nat)) : Bool := l.any (fun x => m.walkHeld part x.2.1)

/-- A hold refuses a write where no device-side slot is free, or the group is in Over (R542). -/
def Module.holdRefuses (m : Module) (pa : Nat) : Bool :=
  let s := siteOfAddr pa
  let g := groupOf s (offOfAddr pa)
  m.halted g || (m.held g && !(m.slice s).holdFree false)

/-- Opens the record of an access served for `t`. -/
def Module.serve (m : Module) (port : Nat) (t : Trans) (n : Nat) : Module × Nat :=
  let num := m.flight.nextOp
  ({ m with flight := { m.flight with
      nextOp := num + 1, serving := m.flight.serving ++ [⟨num, port, t, List.range n, [], false⟩] } }, num)

/-- The requester of piece `i` of a served access. -/
def servedSrc (t : Trans) (num i : Nat) : Src := .fabric t.src (num * 64 + i)

/-- A part of a remote access has no way from the attachment that its address chooses, or must wait for it (R32, R318). -/
def Module.enterLost (m : Module) (port : Nat) (l : List (Nat × Nat × Nat)) : Bool :=
  l.any (fun x => m.noWay (enterEnd port x.2.1) (siteOfAddr x.2.1))
def Module.enterWaits (m : Module) (port : Nat) (l : List (Nat × Nat × Nat)) : Bool :=
  l.any (fun x => !m.mayLeave (enterEnd port x.2.1) (siteOfAddr x.2.1))

/-- WRITE_VA: translated, then written at P2; acknowledged once the slices have accepted it (R541, R542). -/
def doWriteVa (port : Nat) (t : Trans) (m : Module) : Module :=
  let parts := rowParts 3 0 t.address (min t.payload.length 2048)
  if m.behindHeld t then m.holdCmd (.writeVa port t)
  else if !m.admits t.partition then m.nackTo port t 1
  else if m.remoteHeld t.partition parts then m.holdCmd (.writeVa port t)
  else match m.remoteAddrs t.partition 4 (servedSrc t 0 0) parts with
    | .error (r, m1) => (m1.remoteWalked t.partition parts).nackTo port t r
    | .ok l =>
      let m1 := m.remoteWalked t.partition parts
      if m.enterLost port l then m1.nackTo port t 2
      else if m.enterWaits port l then m.holdCmd (.writeVa port t)
      else if l.any (fun x => m.holdRefuses x.2.1) then m1.nackTo port t 4
      else
        let o := m1.serve port t l.length
        (List.range l.length).foldl (fun (acc : Module) i =>
          let x := nth (0, 0, 0) l i
          acc.writeArrives ⟨siteOfAddr x.2.1, offOfAddr x.2.1, 2, servedSrc t o.2 i, true, decide (x.2.2 = 2048),
            (t.payload.drop x.1).take x.2.2, bitOf t.flags 0⟩) o.1
def execWriteVa (port : Nat) (t : Trans) (s : State) : Host.Outcome State Fault Refusal := onTrans port t 0x02 (doWriteVa port t) s

/-- READ_VA: a whole row, or sectors, read at P2 (R541, R542). -/
def doReadVa (port : Nat) (t : Trans) (m : Module) : Module :=
  let row := t.aux == 2048 && t.address % 2048 == 0
  let parts := if row then [(0, t.address, 2048)] else sectorParts 33 0 t.address (min t.aux 2048)
  if m.behindHeld t then m.holdCmd (.readVa port t)
  else if !m.admits t.partition then m.nackTo port t 1
  else if m.remoteHeld t.partition parts then m.holdCmd (.readVa port t)
  else match m.remoteAddrs t.partition 3 (servedSrc t 0 0) parts with
    | .error (r, m1) => (m1.remoteWalked t.partition parts).nackTo port t r
    | .ok l =>
      let m1 := m.remoteWalked t.partition parts
      if m.enterLost port l then m1.nackTo port t 2
      else if m.enterWaits port l then m.holdCmd (.readVa port t)
      else
      let o := m1.serve port t l.length
      (List.range l.length).foldl (fun (acc : Module) i =>
        let a := (nth (0, 0, 0) l i).2.1
        acc.readArrives ⟨siteOfAddr a, offOfAddr a / 64 * 64, 2, servedSrc t o.2 i, false, row, [], false⟩) o.1
def execReadVa (port : Nat) (t : Trans) (s : State) : Host.Outcome State Fault Refusal := onTrans port t 0x03 (doReadVa port t) s

/-- A served access. -/
def Module.servedOp (m : Module) (num : Nat) : Option RemoteOp := m.flight.serving.find? (fun o => o.num == num)
/-- A served access is over. -/
def Module.servedOver (m : Module) (num : Nat) : Module :=
  { m with flight := { m.flight with serving := m.flight.serving.filter (fun o => o.num != num) } }
/-- Changes a served access. -/
def Module.updServed (m : Module) (num : Nat) (f : RemoteOp → RemoteOp) : Module :=
  { m with flight := { m.flight with serving := modFirst (fun o => o.num == num) f m.flight.serving } }

/-- The served access that a request of a slice belongs to. -/
def servedNum (w : Waiting) : Option Nat := match w.req.src with | .fabric _ tag => some (tag / 64) | _ => none
/-- Reads of other modules that have waited 1 ms at a group in Over (R542). -/
def Module.lateServed (m : Module) : List Nat :=
  (m.mem.slices.flatMap (fun p => ((p.2.holdSlots ++ p.2.waiting).filter (fun w =>
    !w.req.write && m.rowHalted p.1 (w.req.off / 2048) && decide (w.at_ + 1000 ≤ m.time))).filterMap servedNum)).eraseDups
/-- Those are refused with reason 4, and what is left of them waits no more (R542). -/
def Module.refuseLate (m : Module) : Module :=
  m.lateServed.foldl (fun (a : Module) num => match a.servedOp num with
    | none => a
    | some o =>
      let keep (w : Waiting) : Bool := servedNum w != some num
      let a1 := { a with mem := { a.mem with slices := a.mem.slices.map (fun (p : Nat × Slice) =>
        (p.1, { p.2 with waiting := p.2.waiting.filter keep, holdSlots := p.2.holdSlots.filter keep })) } }
      (a1.servedOver num).nackTo o.port o.t 4) m

/-- A slice has accepted a piece of a remote write; the last of a transfer is acknowledged (R538). -/
def Module.fabricAccept (m : Module) (seq : Nat) : Module :=
  match m.servedOp (seq / 64) with
  | none => m
  | some o =>
    let left := o.left.filter (· != seq % 64)
    if !left.isEmpty then m.updServed o.num (fun q => { q with left := left })
    else
      let m1 := m.servedOver o.num
      if bitOf o.t.flags 1 then m1.reply 0 o.t 0x05 0 [] 0 else m1

/-- Data of a piece of a remote read; with the last, DATA goes back (R541). An empty answer is a slice that went out of use. -/
def Module.fabricData (m : Module) (seq : Nat) (bytes : List Byte) (poison : Bool) : Module :=
  match m.servedOp (seq / 64) with
  | none => m
  | some o =>
    if bytes.isEmpty then (m.servedOver o.num).nackTo 0 o.t 2
    else
      let i := seq % 64
      let left := o.left.filter (· != i)
      let data := o.data ++ [(i, bytes)]
      if !left.isEmpty then m.updServed o.num (fun q => { q with left := left, data := data, poison := q.poison || poison })
      else
        let all := (List.range data.length).flatMap (fun k => ((data.find? (fun d => d.1 == k)).map (·.2)).getD [])
        let skip := if bytes.length = 2048 then 0 else o.t.address % 64
        (m.servedOver o.num).reply 0 o.t 0x04 0 ((all.drop skip).take (min o.t.aux 2048)) (b2n (o.poison || poison))

/-! ## Answers to NR transfers (R540 to R542, R548) -/

/-- The oldest transfer with a tag to a device. -/
def FabXfer.is (tag dest : Nat) (x : FabXfer) : Bool := x.tag == tag && x.dest == dest
/-- Takes it from those waiting. -/
def Module.takeXfer (m : Module) (tag dest : Nat) : Option (FabXfer × Module) :=
  (takeFirst (FabXfer.is tag dest) m.flight.xfers).map (fun r => (r.1, { m with flight := { m.flight with xfers := r.2 } }))

/-- The thread of a transfer faults: code 0x0D cause 4 with the transaction's address (R541). -/
def Module.xferFails (m : Module) (x : FabXfer) (addr : Nat) : Module :=
  match m.transfer? x.site x.thread x.id with
  | some f => m.flightFault x.site x.thread f 0x0D 4 addr
  | none => m

/-- A transfer refused: a hold's refusal is kept for retransmission, every other ends the transfer, event 0x94 (R541, R542). -/
def Module.xferNack (m : Module) (port : Nat) (t : Trans) : Module :=
  if t.step = 4 then
    let mine (o : Nat × Trans) : Bool := o.2.typ == 0x01 && o.2.tag == t.tag && o.2.dest == t.src && o.2.address == t.address
    let back := match (m.flight.out.filter mine).getLast? with | some o => [o.2] | none => []
    let keep (x : FabXfer) : FabXfer := { x with held := x.held ++ back }
    { m with flight := { m.flight with xfers := modFirst (FabXfer.is t.tag t.src) keep m.flight.xfers } }
  else match m.takeXfer t.tag t.src with
    | none => m
    | some (x, m1) => (m1.fabEvent 0x94 t.partition port t.src t.step t.typ t.tag t.epoch t.address 0 0).xferFails x t.address

/-- NR_ACK_TIMEOUT: 10 ms without ACK (R548). -/
def doNrAckTimeout (tag : Nat) (m : Module) : Module :=
  match takeFirst (fun (x : FabXfer) => x.tag == tag && x.held.isEmpty) m.flight.xfers with
  | none => m
  | some (x, rest) => ({ m with flight := { m.flight with xfers := rest } }).xferFails x 0
def execNrAckTimeout (tag : Nat) (s : State) : Host.Outcome State Fault Refusal :=
  onModule (decide (tag < 2 ^ 32)) (doNrAckTimeout tag) s

end Sys2Proof.Machine
end

