-- ==== Sys2Proof/Machine/CoreEvents.lean ====
section
/-! DEFINITION. A core's own events: the end of a wait at issue (R144, R149, R151, R160), the completion of a descriptor (R146),
the watchdog (R166, R423). -/

namespace Sys2Proof.Machine

/-- What a descriptor that waits at issue does when it is looked at again. -/
def waitBody (op : Nat) : Body :=
  match op with
  | 0x70 => bodySyWait
  | 0x71 => bodySySignal
  | 0x72 => bodySyFence
  | 0x01 => bodyCtEnd
  | _ => fun _ _ _ _ => .stall

/-- The MX.SPLIT a thread waits in. -/
def Thread.splitWait (t : Thread) : Option InFlight := t.flight.find? (fun f => getLe f.bytes 0 1 == 0x23)

/-- WAIT_RELEASE: a wait whose condition now holds ends and the thread goes on; one whose condition does not stays (R144, R149). -/
def doWaitRelease (site t : Nat) (m : Module) : Module :=
  if !m.running site t then m
  else
    let th := (m.core site).th t
    match th.wait with
    | some bs =>
      match waitBody (getLe bs 0 1) m site t bs with
      | .waits _ => m
      | .stall => m
      | _ => (m.updCore site (fun c => c.updTh t (fun x => { x with wait := none }))).issue site t bs (waitBody (getLe bs 0 1))
    | none => match th.splitWait with
      | some f => m.completeSplit site t f
      | none => m
def execWaitRelease (site thread : Nat) (s : State) : Host.Outcome State Fault Refusal :=
  onModule (siteThreadOk site thread) (doWaitRelease site thread) s

/-- DESCRIPTOR_COMPLETION: a descriptor all of whose effects have taken place completes, by its class (R146). `check`: the array half
or the vector unit that runs it fails a check (R162, R202). -/
def doDescriptorCompletion (site t id : Nat) (check : Bool) (m : Module) : Module :=
  if !(m.core site).enabled ∨ !m.clocked site ∨ m.resetting site then m
  else match ((m.core site).th t).find id with
    | none => m
    | some f => match f.cls with
      | 0 => m.completeStr site t f
      | 1 => m.completeKh site t f
      | 2 => m.completeMx site t f check
      | 3 => m.completeVx site t f check
      | 5 => m.completeNr site t f
      | _ => m
def execDescriptorCompletion (site thread id : Nat) (check : Bool) (s : State) : Host.Outcome State Fault Refusal :=
  onModule (siteThreadOk site thread) (doDescriptorCompletion site thread id check) s

/-- The waits the watchdog bounds: SY.WAIT, SY.FENCE, a release signal, a whole-mode MX.SPLIT, also one that the thread waits for in
CT.END (R166). -/
def Thread.watched (t : Thread) : Option (Nat × Nat) :=
  let split := match t.splitWait with
    | some f => if getLe f.bytes 1 1 = 0 then some (0x23, f.pc) else none
    | none => none
  match t.wait with
  | some bs => if getLe bs 0 1 = 0x70 ∨ getLe bs 0 1 = 0x71 ∨ getLe bs 0 1 = 0x72 then some (getLe bs 0 1, t.pc) else split
  | none => split

/-- WATCHDOG_EXPIRY: code 0x07, unless a hold of PWR.LADDER or a coolant stop suspends the period, or the work is switched out
(R166, R423). -/
def doWatchdogExpiry (site t : Nat) (m : Module) : Module :=
  let c := m.core site
  let held := m.thermal.stop ∨ (m.power.hold ≠ 0 ∧ (m.cl (clusterOf site)).ladder ≠ 0)
  if !c.enabled ∨ (c.th t).halted ∨ held ∨ t ∈ c.switching then m
  else match (c.th t).watched with
    | some (op, pc) => m.threadFault site t 0x07 0 pc op 0 0
    | none => m
def execWatchdogExpiry (site thread : Nat) (s : State) : Host.Outcome State Fault Refusal :=
  onModule (siteThreadOk site thread) (doWatchdogExpiry site thread) s

end Sys2Proof.Machine
end

