-- ==== Sys2Proof/Machine/Collect.lean ====
section
/-! DEFINITION. Layout records and shard maps (R278 to R292), reduction trees' command (R308), and the collectives of the deck
collective engines, inside the module (R327) and across modules (R556 to R561). -/

namespace Sys2Proof.Machine

/-! ## Reading through a partition's tables -/

/-- The engine's own requests, as the slices tell requesters apart. -/
def engineSrc : Src := .engine 0 0

/-- The cache an engine translates a partition's addresses through: that of the lowest deck on which the partition has clusters (the spec
names no engine). -/
def Module.engineCache (m : Module) (part : Nat) : CacheOf :=
  .engine (((List.range Config.decks).find? (fun d => (clustersOf d).any (fun c => (m.cl c).owner == some part))).getD 0)
/-- What reads of an engine leave in its cache (R350). -/
def Module.engineLooked (m : Module) (part : Nat) (vas : List Nat) : Module :=
  vas.foldl (fun (acc : Module) va => acc.lookedUp (m.engineCache part) part va) m

/-- Translates an address for an engine; an error carries the command's status (R292, R541, R641). -/
def Module.engineAddr (m : Module) (part va acc : Nat) : Except (Nat × Module) Nat :=
  match m.lookup (m.engineCache part) part va acc with
  | .ok pa => if m.refusedAt (siteOfAddr pa) engineSrc then .error (stFenced, m) else .ok pa
  | .fault cause bad => .error (stProgramFault, m.logBad part 0 0xFFFF va (.fault cause bad))
  | .poison => .error (stPoisoned, m)

/-- The bytes of a range of virtual addresses, and whether any of them are poisoned. -/
def Module.vaBytes (m : Module) (part va n : Nat) : Except (Nat × Module) (List Byte × Bool) :=
  (rowParts (n / 2048 + 2) 0 va n).foldl (fun acc x => acc.bind (fun a => (m.engineAddr part x.2.1 3).map (fun pa =>
    (a.1 ++ m.readMemBytes pa x.2.2, a.2 || m.readPoison pa x.2.2)))) (.ok ([], false))

/-! ## Shard maps (R278, R279, R289 to R291) -/

/-- One dimension of a shard map: kind 0 replicated, 1 block, 2 cyclic; parts; granule. -/
structure Dim where
  kind : Nat
  n : Nat
  granule : Nat
deriving DecidableEq, Repr

/-- A shard map with its part list: format, rank, four extents and strides, part kind, the dimensions, and each part's unit and
base. -/
structure Shard where
  fmt : Nat
  rank : Nat
  shape : List Nat
  stride : List Int
  kind : Nat
  parts : Nat
  dims : List Dim
  list : Nat
  units : List (Nat × Nat)
deriving DecidableEq, Repr

/-- The map that 128 bytes spell; its part list is still to be read. -/
def shardOf (b : List Byte) : Shard :=
  { fmt := getLe b 0 1, rank := getLe b 1 1, shape := (List.range 4).map (fun k => getLe b (16 + 4 * k) 4),
    stride := (List.range 4).map (fun k => toSigned 64 (getLe b (32 + 8 * k) 8)), kind := getLe b 64 1, parts := getLe b 66 2,
    dims := (List.range 4).map (fun k => ⟨getLe b (80 + 8 * k) 1, getLe b (82 + 8 * k) 2, getLe b (84 + 8 * k) 4⟩),
    list := getLe b 72 8, units := [] }

/-- Extent, stride and sharding of dimension `k`. -/
def Shard.ext (s : Shard) (k : Nat) : Nat := nth 1 s.shape k
def Shard.str (s : Shard) (k : Nat) : Int := nth 0 s.stride k
def Shard.dim (s : Shard) (k : Nat) : Dim := nth ⟨0, 1, 0⟩ s.dims k
/-- Elements of the global tensor. -/
def Shard.count (s : Shard) : Nat := s.ext 0 * s.ext 1 * s.ext 2 * s.ext 3
/-- Bytes of one element of an unpacked format. -/
def Shard.size (s : Shard) : Nat := codeBits s.fmt / 8

/-- How far dimension `k` moves an address from the base (R279). -/
def Shard.reach (s : Shard) (k : Nat) : Int :=
  if k = 0 ∧ isMx s.fmt then ((s.ext 0 / 32 - 1) * blockBytes s.fmt : Nat) else ((s.ext k - 1 : Nat) : Int) * s.str k
/-- The layout is valid (R279); its base is 0 (R289). -/
def Shard.layoutOk (s : Shard) : Bool :=
  let low := ((List.range 4).map (fun k => min 0 (s.reach k))).foldl (· + ·) 0
  let high := ((List.range 4).map (fun k => max 0 (s.reach k))).foldl (· + ·) 0
  decide (s.fmt ≤ 12 ∧ 1 ≤ s.rank ∧ s.rank ≤ 4) &&
  (List.range 4).all (fun k => if k < s.rank then s.ext k != 0 else s.ext k == 1 && s.str k == 0) &&
  (if isMx s.fmt then s.ext 0 % 32 == 0 && s.str 0 == 0 else s.str 0 == (s.size : Int)) &&
  low == 0 && decide (high < 2 ^ 48)

/-- A dimension's entry is valid (R289, R291). -/
def Shard.dimOk (s : Shard) (k : Nat) : Bool :=
  let d := s.dim k
  let mx := k == 0 && isMx s.fmt
  match d.kind with
  | 0 => d.n == 1 && d.granule == 0
  | 1 => decide (1 ≤ d.n ∧ d.n ≤ s.parts) && d.granule == 0 && (!mx || (s.ext k + d.n - 1) / max d.n 1 % 32 == 0)
  | 2 => decide (1 ≤ d.n ∧ d.n ≤ s.parts ∧ 1 ≤ d.granule) && (!mx || d.granule % 32 == 0)
  | _ => false

/-- Reserved bytes of the record are 0 (R10, R278, R289). -/
def shardReserved (b : List Byte) : Bool :=
  getLe b 2 6 == 0 && getLe b 8 8 == 0 && getLe b 65 1 == 0 && getLe b 68 4 == 0 && getLe b 112 16 == 0 &&
  (List.range 4).all (fun k => getLe b (81 + 8 * k) 1 == 0)

/-- The map is valid as far as its 128 bytes show. -/
def Shard.ok (s : Shard) : Bool :=
  s.layoutOk && (List.range 4).all s.dimOk && decide (s.kind ≤ 3 ∧ 1 ≤ s.parts ∧ s.parts ≤ 10240) && s.list % 16 == 0 &&
  (s.dim 0).n * (s.dim 1).n * (s.dim 2).n * (s.dim 3).n == s.parts

/-- The units of a part kind (R290). -/
def unitsOf (kind : Nat) : Nat := match kind with | 0 => Config.sites | 1 => Config.clusters | 2 => Config.decks | _ => 2 ^ 32
/-- The sites of a unit inside the module. -/
def unitSites (kind u : Nat) : List Nat := match kind with | 0 => [u] | 1 => sitesOf u | 2 => (clustersOf u).flatMap sitesOf | _ => []

/-- The status for a part outside the partition, or with no core in service (R292). A deck lies in the partition when every
cluster of it with a router in service does. -/
def Module.unitBad (m : Module) (part kind u : Nat) : Option Nat :=
  let ss := unitSites kind u
  let live := ss.filter (fun s => !(m.cl (clusterOf s)).routerFenced)
  if (if kind = 2 then live else ss).any (fun s => (m.cl (clusterOf s)).owner != some part) then some stNotPermitted
  else if !ss.isEmpty ∧ !ss.any (fun s => (m.core s).enabled) then some stFenced
  else none

/-- Reads a shard map and its part list: checked as R292 orders; `off` is the parameter's offset. -/
def Module.shard (m : Module) (part va off : Nat) : Except (Module × Answer) Shard :=
  let fail (e : Nat × Module) : Module × Answer := (e.2, .refuse e.1 0)
  if va % 8 ≠ 0 then .error (m, .refuse stBadParam off)
  else match m.vaBytes part va 128 with
    | .error e => .error (fail e)
    | .ok (_, true) => .error (m, .refuse stPoisoned 0)
    | .ok (b, false) =>
      let s := shardOf b
      if !shardReserved b ∨ !s.ok then .error (m, .refuse stBadParam off)
      else match m.vaBytes part s.list (16 * s.parts) with
        | .error e => .error (fail e)
        | .ok (_, true) => .error (m, .refuse stPoisoned 0)
        | .ok (l, false) =>
          let es := chunks 16 s.parts l
          let us := es.map (fun e => (getLe e 0 4, getLe e 8 8))
          if es.any (fun e => getLe e 4 4 != 0 || decide (unitsOf s.kind ≤ getLe e 0 4)) then .error (m, .refuse stBadParam off)
          else match us.findSome? (fun u => m.unitBad part s.kind u.1) with
            | some st => .error (m, .refuse st 0)
            | none => .ok { s with units := us }

/-- Part position and local index of an index of a dimension (R291). -/
def Dim.place (d : Dim) (extent i : Nat) : Nat × Nat :=
  match d.kind with
  | 1 => let b := max ((extent + d.n - 1) / max d.n 1) 1; (i / b, i % b)
  | 2 => (i / max d.granule 1 % max d.n 1, i / (max d.granule 1 * max d.n 1) * d.granule + i % max d.granule 1)
  | _ => (0, i)

/-- The part that holds global element `e` (dimension 0 varies fastest) and the element's byte offset in its share (R291). -/
def Shard.at (s : Shard) (e : Nat) : Nat × Int :=
  let step (acc : Nat × Nat × Int × Nat) (k : Nat) : Nat × Nat × Int × Nat :=
    let x := (s.dim k).place (s.ext k) (acc.2.2.2 % max (s.ext k) 1)
    (acc.1 + x.1 * acc.2.1, acc.2.1 * (s.dim k).n, acc.2.2.1 + (x.2 : Int) * s.str k, acc.2.2.2 / max (s.ext k) 1)
  let r := (List.range 4).foldl step (0, 1, 0, e)
  (r.1, r.2.2.1)
/-- The unit and the address of global element `e`; an address outside the space names nothing. -/
def Shard.home (s : Shard) (e : Nat) : Nat × Nat :=
  let p := s.at e
  let u := nth (0, 0) s.units p.1
  let a := (u.2 : Int) + p.2
  (u.1, if a < 0 then 2 ^ 48 else a.toNat)
/-- Every dimension's kind is one of these. -/
def Shard.kinds (s : Shard) (l : List Nat) : Bool := (List.range 4).all (fun k => decide ((s.dim k).kind ∈ l))

/-! ## WORK.TREE (R308, R309) -/

def specWorkTree : CmdSpec := { op := 0x39, target := true, fields := [(8, 1), (9, 1), (10, 2), (16, 8)] }
/-- The first bad field; root and members belong to a set only. -/
def badWorkTree (c : Cmd) : Option Nat :=
  if 7 < pField c 8 1 then some 8
  else if 2 < pField c 9 1 then some 9
  else if (if pField c 9 1 = 0 then Config.sites ≤ pField c 10 2 else pField c 10 2 ≠ 0) then some 10
  else if pField c 9 1 ≠ 0 ∧ pField c 16 8 ≠ 0 then some 16
  else none

/-- The members a map names: its core parts, or every enabled core of its cluster parts. -/
def Module.treeMembers (m : Module) (s : Shard) : List Nat :=
  ((s.units.flatMap (fun u => unitSites s.kind u.1)).filter (fun x => (m.core x).enabled)).eraseDups

/-- The trees of a number that a partition holds. -/
def Module.treesOf (m : Module) (part t : Nat) : List (Nat × Nat × Tree) :=
  m.net.trees.filter (fun x => x.2.1 == t && x.2.2.part == part)
/-- An instance of a tree is in progress. -/
def Module.treeBusy (m : Module) (part t : Nat) : Bool :=
  (m.treesOf part t).any (fun x => m.net.reductions.any (fun r => r.root == x.2.2.root && r.tree == t) ||
    m.net.insts.any (fun r => r.root == x.2.2.root && r.tree == t))

/-- The claims of R511: the tree on every deck it needs. -/
def Module.treeClaims (m : Module) (c : Cmd) : List Claim :=
  let t := pField c 8 1
  if pField c 9 1 = 0 then
    match m.shard (cmdPart c) (pField c 16 8) 16 with
    | .ok s => (m.treeDecks (pField c 10 2) (m.treeMembers s)).map (fun d => .tree d t)
    | .error _ => []
  else (m.treesOf (cmdPart c) t).map (fun x => .tree x.1 t)

/-- Sets a tree. -/
def Module.setTree (m : Module) (part t root : Nat) (s : Shard) : Module × Answer :=
  let all := s.units.flatMap (fun u => unitSites s.kind u.1)
  let mem := m.treeMembers s
  let ds := m.treeDecks root mem
  if 1 < s.kind then (m, .refuse stBadParam 16)
  else if !(root ∈ all) ∨ !(root ∈ mem) then (m, .refuse stBadParam 10)
  else if ds.any (fun d => (m.tree d t).isSome) then (m, .refuse stLimit 0)
  else
    let x : Tree := ⟨part, root, mem, false⟩
    ({ m with net := { m.net with trees := m.net.trees ++ ds.map (fun d => (d, t, x)) } }, .done stOk (d4 mem.length))

/-- WORK.TREE's own rules. -/
def bodyWorkTree (c : Cmd) (_id : Nat) (m : Module) : Module × Answer :=
  let n := cmdPart c
  let t := pField c 8 1
  whenLive n m (
    if pField c 9 1 = 0 then
      (if m.poolMoving n then (m, .again)
       else match m.shard n (pField c 16 8) 16 with
       | .error e => e
       | .ok s => (m.engineLooked n [pField c 16 8, s.list]).setTree n t (pField c 10 2) s)
    else if pField c 9 1 = 1 ∧ m.treeBusy n t then (m, .refuse stBusy 0)
    else
      let drop (a : Net) (x : Nat × Nat × Tree) : Net := a.discard x.2.2.root t
      let net := (m.treesOf n t).foldl drop m.net
      ({ m with net := { net with trees := net.trees.filter (fun x => !(x.2.1 == t && x.2.2.part == n)) } }, .done stOk (d4 0)))
def doWorkTree (c : Cmd) (m : Module) : Module := runCmd specWorkTree (badWorkTree c) none (m.treeClaims c) none (.workTree c) c (bodyWorkTree c) m
def execWorkTree (c : Cmd) (s : State) : Host.Outcome State Fault Refusal := onCmd c (doWorkTree c) s

/-! ## Values of a collective (R311, R327, R558) -/

/-- The value of an element's bytes, BF16 widened (R311). -/
def elemOf (bf : Bool) (b : List Byte) : Nat := if bf then leNat (b.take 2) * 65536 else leNat (b.take 4)
/-- An element's bytes. -/
def elemBytes (bf : Bool) (v : Nat) : List Byte := if bf then leBytes 2 (v / 65536) else leBytes 4 v

/-- One combination of an engine: each add rounds once, a BF16 sum rounds once more on leaving, poison is carried. -/
def sumElems (bf : Bool) : List (List (Nat × Bool)) → List (Nat × Bool)
  | [] => []
  | [l] => l
  | l :: ls =>
    let add (x y : Nat × Bool) : Nat × Bool := ((fadd (BitVec.ofNat 32 x.1) (BitVec.ofNat 32 y.1)).toNat, x.2 || y.2)
    let s := ls.foldl (List.zipWith add) l
    if bf then s.map (fun x => ((wide (toBf (BitVec.ofNat 32 x.1))).toNat, x.2)) else s

/-- Reads elements by address. -/
def Module.readElems (m : Module) (part : Nat) (bf : Bool) : List Nat → Except (Nat × Module) (List (Nat × Bool))
  | [] => .ok []
  | a :: rest => (m.vaBytes part a (if bf then 2 else 4)).bind (fun x =>
      (m.readElems part bf rest).map ((elemOf bf x.1, x.2) :: ·))

/-! ## The algorithms (R557, R558) -/

/-- A message of a collective: step, sender, receiver, chunk. -/
abbrev Msg := Nat × Nat × Nat × Nat

/-- The record in force; no bytes stand for the default record (R557). -/
def algTimeout (r : List Byte) : Nat := if r.isEmpty then 20 else getLe r 2 2
/-- The algorithm an instance takes: 0 direct, 1 ring, 2 two-level. -/
def algOf (r : List Byte) (op bytes : Nat) (spans : Bool) : Nat :=
  if r.isEmpty then (if (op = 0 ∨ op = 2) ∧ 2 ^ 20 < bytes then 1 else if spans then 2 else 0)
  else
    let es := chunks 8 (getLe r 0 1) (r.drop 8)
    match es.find? (fun e => getLe e 0 1 == op && (getLe e 4 4 == 0 || decide (bytes ≤ getLe e 4 4))) with
    | some e => if getLe e 1 1 = 1 ∧ bitOf (getLe r 1 1) 0 then 0 else getLe e 1 1
    | none => 0

/-- Ops 0 and 2 add; 1 and 3 move. -/
def opAdds (op : Nat) : Bool := op == 0 || op == 2

/-- The first participant of the same group. -/
def groupHead (devs : List Nat) (i : Nat) : Nat := (devs.findIdx? (fun d => d / 256 == nth 0 devs i / 256)).getD i

/-- Direct: what passes for chunk `k`, formed by participant `o`. -/
def directPlan (op n o k : Nat) : List Msg :=
  let others := (List.range n).filter (· != o)
  (if opAdds op then others.map (fun q => (0, q, o, k)) else []) ++ (if op = 2 then [] else others.map (fun q => (1, o, q, k)))
/-- Ring: chunk `k` starts at part k + 1 and follows the ring; sums and moved chunks go on from part k. -/
def ringPlan (op n k : Nat) : List Msg :=
  let base := if opAdds op then n - 1 else 0
  (if opAdds op then (List.range (n - 1)).map (fun h => (h, (k + 1 + h) % n, (k + 2 + h) % n, k)) else []) ++
  (if op = 2 then [] else (List.range (n - 1)).map (fun h => (base + h, (k + h) % n, (k + h + 1) % n, k)))
/-- Two-level: inside the groups, then among their lowest-numbered parts, then back. -/
def twoPlan (op : Nat) (devs : List Nat) (o k : Nat) : List Msg :=
  let n := devs.length
  let head := groupHead devs
  let heads := (List.range n).filter (fun i => head i == i)
  let tails := (List.range n).filter (fun i => head i != i)
  if opAdds op then
    tails.map (fun i => (0, i, head i, k)) ++ heads.flatMap (fun i => (heads.filter (· != i)).map (fun j => (1, i, j, k))) ++
    (tails.filter (fun i => op == 0 || i == o)).map (fun i => (2, head i, i, k))
  else
    ((List.range n).filter (fun i => i != o && head i == head o)).map (fun i => (0, o, i, k)) ++
    (heads.filter (· != head o)).map (fun j => (1, head o, j, k)) ++
    (tails.filter (fun i => head i != head o)).map (fun i => (2, head i, i, k))

/-- Everything that passes between the participants. -/
def Collective.plan (c : Collective) : List Msg :=
  let ks := if c.op = 3 then (List.range c.owners.length).take 1 else List.range c.owners.length
  ks.flatMap (fun k =>
    let o := nth 0 c.owners k
    if c.alg = 1 then ringPlan c.op c.devs.length k
    else if c.alg = 2 then twoPlan c.op c.devs o k
    else directPlan c.op c.devs.length o k)

/-- Whether a step adds what arrives, or takes it over. -/
def Collective.addsAt (c : Collective) (s : Nat) : Bool :=
  opAdds c.op && (if c.alg = 1 then decide (s + 1 < c.devs.length) else if c.alg = 2 then decide (s < 2) else s == 0)
/-- Where an input stands in the order of addition of a step: on a ring what arrives comes first; across groups by group. -/
def Collective.rank (c : Collective) (s i : Nat) : Nat :=
  if c.alg = 1 then (if i = c.me then 1 else 0) else if c.alg = 2 ∧ s = 1 then nth 0 c.devs i / 256 else i

/-- Bytes of a chunk. -/
def Collective.chunkBytes (c : Collective) (k : Nat) : Nat := (nth [] c.own k).length * (if c.fmt = 1 then 2 else 4)
/-- What arrived of a message, in order. -/
def Collective.pieces (c : Collective) (x : Msg) : List StepData :=
  c.got.filter (fun g => g.step == x.1 && g.src == x.2.1 && g.chunk == x.2.2.2)
/-- A message has arrived whole. -/
def Collective.arrived (c : Collective) (x : Msg) : Bool :=
  let ps := c.pieces x
  ps.any (·.last) && decide (c.chunkBytes x.2.2.2 ≤ (ps.map (fun p => p.data.length)).foldl (· + ·) 0)
/-- Its values. -/
def Collective.received (c : Collective) (x : Msg) : List (Nat × Bool) :=
  let w := if c.fmt = 1 then 2 else 4
  let one (p : StepData) : List (Nat × Bool) := (runsOf w (p.data.length / w) p.data).map (fun b => (elemOf (c.fmt == 1) b, p.poison))
  ((c.pieces x).flatMap one).take (nth [] c.own x.2.2.2).length

/-- Puts an input in its place. -/
def insertRank (x : Nat × List (Nat × Bool)) : List (Nat × List (Nat × Bool)) → List (Nat × List (Nat × Bool))
  | [] => [x]
  | y :: ys => if x.1 < y.1 then x :: y :: ys else y :: insertRank x ys

/-- What this module holds of chunk `k` before step `upto`. -/
def Collective.value (c : Collective) (k upto : Nat) : List (Nat × Bool) :=
  let step (v : List (Nat × Bool)) (s : Nat) : List (Nat × Bool) :=
    let ins := c.plan.filter (fun x => x.1 == s && x.2.2.1 == c.me && x.2.2.2 == k)
    match ins with
    | [] => v
    | x :: _ =>
      if c.addsAt s then
        let all := ins.foldl (fun acc y => insertRank (c.rank s y.2.1, c.received y) acc) [(c.rank s c.me, v)]
        sumElems (c.fmt == 1) (all.map (·.2))
      else c.received x
  (List.range upto).foldl step (nth [] c.own k)

/-- More than any plan's steps. -/
def Collective.allSteps (c : Collective) : Nat := 2 * c.devs.length + 3
/-- Everything this module waits for has arrived. -/
def Collective.complete (c : Collective) : Bool := (c.plan.filter (fun x => x.2.2.1 == c.me)).all c.arrived
/-- A message of this module can be sent: what it builds on has arrived, and it has not been sent. -/
def Collective.sendable (c : Collective) (x : Msg) : Bool :=
  x.2.1 == c.me && !((x.1, x.2.2.1, x.2.2.2) ∈ c.sent) &&
  (c.plan.filter (fun y => decide (y.1 < x.1) && y.2.2.1 == c.me && y.2.2.2 == x.2.2.2)).all c.arrived

/-! ## An instance's course -/

/-- Changes the instance of a tag and partition. -/
def Module.updColl (m : Module) (tag part : Nat) (f : Collective → Collective) : Module :=
  { m with flight := { m.flight with colls := modFirst (fun c => c.tag == tag && c.part == part) f m.flight.colls } }
/-- The instance of a tag and partition; one whose command has ended is no more. -/
def Module.coll (m : Module) (tag part : Nat) : Option Collective :=
  m.flight.colls.find? (fun c => c.tag == tag && c.part == part && (m.cmd c.cmd).isSome)
/-- The other modules of an instance. -/
def Collective.partners (c : Collective) : List Nat :=
  ((List.range c.devs.length).filter (· != c.me)).map (fun i => nth 0 c.devs i)

/-- A STEP of an instance. -/
def Module.stepTrans (m : Module) (c : Collective) (dev : Nat) : Trans :=
  { m.trans 0x10 dev with partition := c.part, tag := c.tag, epoch := c.epoch }

/-- An instance ends: its command completes with the status; unless the end came from a partner, every partner is told by a STEP
with abort set, whose step field carries the status (R560). -/
def Module.endColl (m : Module) (c : Collective) (st : Nat) (tell : Bool) : Module :=
  let m1 := { m with flight := { m.flight with colls := m.flight.colls.filter (fun q => !(q.tag == c.tag && q.part == c.part)) } }
  let m2 := if tell then c.partners.foldl (fun (a : Module) d => a.sendTo { a.stepTrans c d with flags := 8, step := st }) m1 else m1
  if st = stOk then m2.complete c.cmd stOk [] else m2.complete c.cmd st (d4 0)

/-- The payloads of a message: at most 4,096 bytes each; flag [0] poison, [1] last. -/
def Module.stepsFor (m : Module) (c : Collective) (x : Msg) : List Trans :=
  let w := if c.fmt = 1 then 2 else 4
  let v := c.value x.2.2.2 x.1
  let n := max ((v.length * w + 4095) / 4096) 1
  (List.range n).map (fun i =>
    let part := (v.drop (i * (4096 / w))).take (4096 / w)
    { m.stepTrans c (nth 0 c.devs x.2.2.1) with
      flags := b2n (part.any (·.2)) + 2 * b2n (i + 1 == n), address := i * 4096, aux := x.2.2.2, step := x.1,
      payload := padUnits (part.flatMap (fun e => elemBytes (c.fmt == 1) e.1)) })

/-- Sends what can be sent. -/
def Module.sendSteps (m : Module) (c : Collective) : Module × Collective :=
  let xs := c.plan.filter c.sendable
  let m1 := (xs.flatMap (m.stepsFor c)).foldl (fun (a : Module) t => a.sendTo t) m
  (m1, { c with sent := c.sent ++ xs.map (fun x => (x.1, x.2.2.1, x.2.2.2)) })

/-- Writes that lie back to back inside a row become one. -/
def joinWrites : List (Nat × List Byte × Bool) → List (Nat × List Byte × Bool)
  | [] => []
  | x :: rest =>
    match joinWrites rest with
    | y :: ys => if x.1 + x.2.1.length = y.1 ∧ x.1 / 2048 = y.1 / 2048 then (x.1, x.2.1 ++ y.2.1, x.2.2 || y.2.2) :: ys else x :: y :: ys
    | [] => [x]

/-- The output elements for a device, in address runs. -/
def Collective.output (c : Collective) (dev : Nat) : List (Nat × List Byte × Bool) :=
  let vals := (List.range c.own.length).map (fun k => c.value k c.allSteps)
  joinWrites ((c.outs.filter (fun o => o.1 == dev)).map (fun o =>
    let v := nth (0, false) (nth [] vals o.2.1) o.2.2.1
    (o.2.2.2, elemBytes (c.fmt == 1) v.1, v.2)))

/-- Writes a run through the partition's tables; an error carries the status, `none` that a held row has no slot free. -/
def Module.writeRuns (m : Module) (part : Nat) : List (Nat × List Byte × Bool) → Except (Nat × Module) (Option Module)
  | [] => .ok (some m)
  | (a, bs, p) :: rest =>
    match m.engineAddr part a 4 with
    | .error e => .error e
    | .ok pa => match (m.engineLooked part [a]).rowWrite pa bs p with
      | none => .ok none
      | some m1 => m1.writeRuns part rest

/-- The outputs of other modules leave as WRITE_VA, each to be acknowledged (R559). -/
def Module.remoteWrites (m : Module) (c : Collective) : List Trans :=
  ((c.outs.map (·.1)).eraseDups.filter (· != m.ownId)).flatMap (fun d => (c.output d).map (fun x =>
    { m.trans 0x02 d with flags := b2n x.2.2 + 2, partition := c.part, tag := c.tag, epoch := c.epoch, address := x.1, payload := x.2.1 }))

/-- An instance goes on: it sends what it can, and once all has arrived it writes its outputs and ends. -/
def Module.advanceColl (m : Module) (c : Collective) : Module :=
  let r := m.sendSteps c
  let m1 := r.1.updColl c.tag c.part (fun _ => r.2)
  let c1 := r.2
  if !c1.complete then m1
  else if c1.wrote then (if c1.writes.isEmpty then m1.endColl c1 stOk false else m1)
  else match m1.writeRuns c1.part (c1.output m1.ownId) with
    | .error e => e.2.endColl c1 e.1 true
    | .ok none => m1
    | .ok (some m2) =>
      let ts := m2.remoteWrites c1
      let m3 := ts.foldl (fun (a : Module) t => a.sendTo t) m2
      let c2 := { c1 with wrote := true, writes := ts.map (fun t => (t, false)) }
      if ts.isEmpty then m3.endColl c2 stOk false else m3.updColl c1.tag c1.part (fun _ => c2)

/-- Instances whose outputs wait for a slot of a held row try again. -/
def Module.retryColls (m : Module) : Module :=
  (m.flight.colls.filter (fun c => c.complete && !c.wrote)).foldl (fun (a : Module) c =>
    match a.coll c.tag c.part with | some k => a.advanceColl k | none => a) m

/-! ## WORK.COLLECTIVE (R327, R559) -/

def specWorkCollective : CmdSpec := { op := 0x38, target := true, fields := [(8, 1), (9, 1), (12, 4), (16, 8), (24, 8)] }
def badWorkCollective (c : Cmd) : Option Nat := if 3 < pField c 8 1 then some 8 else if 7 < pField c 9 1 then some 9 else none

/-- R327's conditions on the two maps: offset of the parameter in breach. -/
def collBad (op : Nat) (i o : Shard) : Option Nat :=
  if 1 < i.fmt then some 16
  else if o.fmt ≠ i.fmt ∨ o.shape ≠ i.shape then some 24
  else if (op = 0 ∨ op = 3) ∧ !i.kinds [0, 1] then some 16
  else if op = 1 ∧ !o.kinds [0] then some 24
  else if op = 2 ∧ !((o.dim 0).kind == 1 && (o.dim 0).n == i.parts && o.parts == i.parts) then some 24
  else none

/-- Decks on which a partition owns clusters. -/
def Module.decksOf (m : Module) (part : Nat) : List Nat :=
  (List.range Config.decks).filter (fun d => (clustersOf d).any (fun c => (m.cl c).owner == some part))
/-- The claims of R511: the engine lane on the partition's decks. -/
def Module.collClaims (m : Module) (c : Cmd) : List Claim := (m.decksOf (cmdPart c)).map (fun d => .tree d (pField c 9 1))

/-- The participants: the modules of the input's parts; where data only move, those of the output's parts too; this module
alone where the input lies inside it. -/
def Module.collDevs (m : Module) (op : Nat) (i o : Shard) : List Nat :=
  if i.kind ≠ 3 then [m.ownId]
  else (i.units.map (·.1) ++ (if opAdds op ∨ o.kind ≠ 3 then [] else o.units.map (·.1))).eraseDups

/-- The elements of each chunk: one chunk per module part, by the output's parts where the sum is scattered; one chunk where
the input lies inside the module. A broadcast moves what part 0 holds. -/
def collChunks (op : Nat) (i o : Shard) : List (List Nat) :=
  let all := (List.range i.count).filter (fun e => op != 3 || (i.at e).1 == 0)
  if i.kind ≠ 3 then [all]
  else
    let s := if op = 2 then o else i
    (List.range i.parts).map (fun k => all.filter (fun e => (s.at e).1 == k))

/-- The output elements this module writes: its own shares, and in shares of modules that do not take part the chunks it forms. -/
def collOuts (own me : Nat) (devs owners : List Nat) (o : Shard) (chunks : List (List Nat)) : List (Nat × Nat × Nat × Nat) :=
  if devs.length ≤ me then []
  else (List.range chunks.length).flatMap (fun k =>
    let es := nth [] chunks k
    (List.range es.length).filterMap (fun j =>
      let h := o.home (nth 0 es j)
      let d := if o.kind = 3 then h.1 else own
      if d = own ∨ (!(d ∈ devs) ∧ nth 0 owners k = me) then some (d, k, j, h.2) else none))

/-- The addresses of the elements this module reads for chunk `k`. -/
def Module.collReads (m : Module) (c : Cmd) (i o : Shard) (k : Nat) : List Nat :=
  let op := pField c 8 1
  let devs := m.collDevs op i o
  let me := (devs.findIdx? (· == m.ownId)).getD devs.length
  let owners := if i.kind ≠ 3 then [0] else i.units.map (fun u => (devs.findIdx? (· == u.1)).getD 0)
  if me < devs.length ∧ (opAdds op ∨ nth 0 owners k = me) then (nth [] (collChunks op i o) k).map (fun e => (i.home e).2) else []
/-- What the reads of an accepted command leave in the engine's cache: both maps, their part lists, the elements. -/
def Module.collLooked (m : Module) (c : Cmd) (i o : Shard) : Module :=
  m.engineLooked (cmdPart c) ([pField c 16 8, i.list, pField c 24 8, o.list] ++
    (List.range (collChunks (pField c 8 1) i o).length).flatMap (m.collReads c i o))

/-- Builds the instance of an accepted command. -/
def Module.newColl (m : Module) (c : Cmd) (id : Nat) (i o : Shard) : Except (Nat × Module) Collective :=
  let op := pField c 8 1
  let part := cmdPart c
  let own := m.ownId
  let devs := m.collDevs op i o
  let me := (devs.findIdx? (· == own)).getD devs.length
  let cks := collChunks op i o
  let owners := if i.kind ≠ 3 then [0] else i.units.map (fun u => (devs.findIdx? (· == u.1)).getD 0)
  let bf := i.fmt == 1
  let spans := 1 < ((devs.map (· / 256)).eraseDups).length
  let alg0 := algOf m.epochs.algRecord op (i.count * i.size) spans
  let alg := if alg0 = 1 ∧ owners ≠ List.range devs.length then 0 else alg0
  let mine (k : Nat) : Except (Nat × Module) (List (Nat × Bool)) :=
    let es := nth [] cks k
    if me < devs.length ∧ (opAdds op ∨ nth 0 owners k = me) then m.readElems part bf (m.collReads c i o k)
    else .ok (es.map (fun _ => (0, false)))
  let vals := (List.range cks.length).foldl (fun (acc : Except (Nat × Module) (List (List (Nat × Bool)))) k =>
    acc.bind (fun l => (mine k).map (fun v => l ++ [v]))) (.ok [])
  vals.map (fun v => {
    tag := pField c 12 4, part := part, op := op, lane := pField c 9 1, cmd := id, fmt := i.fmt, epoch := m.epochs.algEpoch,
    alg := alg, me := me, devs := devs, owners := owners, own := v, got := [], sent := [], deadline := 0, progress := m.time,
    outs := collOuts own me devs owners o cks, wrote := false, writes := [] })

/-- Takes a STEP into its instance: data, or the abort that ends it (R559, R560). -/
def Module.takeStep (m : Module) (c : Collective) (t : Trans) : Module :=
  if bitOf t.flags 3 then m.endColl c t.step false
  else match c.devs.findIdx? (· == t.src) with
    | none => m
    | some i =>
      let g : StepData := ⟨t.step, t.aux, i, t.payload, bitOf t.flags 0, bitOf t.flags 1⟩
      m.advanceColl { c with got := c.got ++ [g], progress := m.time, deadline := 0 }

/-- STEPs that came before their instance join it (R559). -/
def Module.takeEarly (m : Module) (tag part : Nat) : Module :=
  let mine (t : Trans) : Bool := t.tag == tag && t.partition == part
  let ts := m.flight.early.filter mine
  ts.foldl (fun (a : Module) t => match a.coll tag part with | some c => a.takeStep c t | none => a)
    { m with flight := { m.flight with early := m.flight.early.filter (fun t => !mine t) } }

/-- WORK.COLLECTIVE's own rules. A partner without a route ends the accepted instance as reason 7 does
(R292, R541, R543). -/
def bodyWorkCollective (c : Cmd) (id : Nat) (m : Module) : Module × Answer :=
  let n := cmdPart c
  whenLive n m (
    if m.poolMoving n then (m, .again)
    else match m.shard n (pField c 16 8) 16 with
    | .error e => e
    | .ok i => match m.shard n (pField c 24 8) 24 with
      | .error e => e
      | .ok o => match collBad (pField c 8 1) i o with
        | some off => (m, .refuse stBadParam off)
        | none =>
          if (m.decksOf n).any (fun d => (m.tree d (pField c 9 1)).isSome) then (m, .refuse stLimit 0)
          else match m.newColl c id i o with
            | .error e => (e.2, .refuse e.1 0)
            | .ok k =>
              let m0 := m.collLooked c i o
              let m1 := { m0 with flight := { m0.flight with colls := m0.flight.colls ++ [k] } }
              match k.partners.find? (fun d => (m.egress d).isNone) with
              | some d => ((m1.fabEvent 0x94 n 0xFF d 7 0x10 k.tag k.epoch 0 0 0).endColl k stHwError true, .later)
              | none => ((m1.advanceColl k).takeEarly k.tag n, .later))
def doWorkCollective (c : Cmd) (m : Module) : Module :=
  runCmd specWorkCollective (badWorkCollective c) none (m.collClaims c) none (.workCollective c) c (bodyWorkCollective c) m
def execWorkCollective (c : Cmd) (s : State) : Host.Outcome State Fault Refusal := onCmd c (doWorkCollective c) s

/-! ## STEP and its answers (R553, R558 to R560) -/

/-- A STEP of the epoch in force: it joins its instance, or waits for it. -/
def Module.actStep (m : Module) (t : Trans) : Module :=
  match m.coll t.tag t.partition with
  | some c => m.takeStep c t
  | none => { m with flight := { m.flight with early := m.flight.early ++ [t] } }

/-- A collective engine of the partition's decks stands still: its deck's controller relocks or is being reset (R444, R446). -/
def Module.enginesStill (m : Module) (part : Nat) : Bool :=
  ((m.clustersOfPart part).map deckOf).any (fun d =>
    m.relocking (.deck d) || m.clocks.resets.any (fun r => r.scope == 3 && r.target == d))

/-- STEP: it waits while an engine stands still; admitted as R541 has it; one of a newer epoch is held, one of an older refused (R553). -/
def doStep (port : Nat) (t : Trans) (m : Module) : Module :=
  if m.behindHeld t || m.enginesStill t.partition then m.holdCmd (.step port t)
  else if !m.admits t.partition then m.nackTo port t 1
  else if t.epoch = m.epochs.algEpoch then m.actStep t
  else if seqNewer t.epoch m.epochs.algEpoch then
    { m with
      fab := { m.fab with epochStalls := sat64 m.fab.epochStalls 1 },
      flight := { m.flight with heldPkts := m.flight.heldPkts ++ [(m.time, t)] } }
  else m.nackTo port t 5
def execStep (port : Nat) (t : Trans) (s : State) : Host.Outcome State Fault Refusal := onTrans port t 0x10 (doStep port t) s

/-- STEP_TIMEOUT (R560): an instance without progress ends, event 0x9B, unless a SLOW moved its deadline beyond now; STEPs whose
instance was never issued are refused with reason 6 (R541). -/
def doStepTimeout (tag part : Nat) (m : Module) : Module :=
  match m.coll tag part with
  | some c =>
    if m.time < c.deadline ∨ (c.complete ∧ c.writes.isEmpty) then m
    else
      let missing := (c.plan.find? (fun x => x.2.2.1 == c.me && !c.arrived x)).map (fun x => nth 0 c.devs x.2.1)
      (m.fabEvent 0x9B part 0xFF (missing.getD 0xFFFF) 0 0x10 tag c.epoch 0 0 (algTimeout m.epochs.algRecord)).endColl c stHwError true
  | none =>
    let mine (t : Trans) : Bool := t.tag == tag && t.partition == part
    let ts := (m.flight.early.filter mine).filter (fun t => !bitOf t.flags 3)
    ts.foldl (fun (a : Module) t => a.nackTo 0 t 6) { m with flight := { m.flight with early := m.flight.early.filter (fun t => !mine t) } }
def execStepTimeout (tag part : Nat) (s : State) : Host.Outcome State Fault Refusal :=
  onModule (decide (tag < 2 ^ 32) && partOk part) (doStepTimeout tag part) s

/-- DATA: the engines of this model read other modules' memory by no READ_VA of their own, so a DATA answers nothing. -/
def doDataTransaction (_port : Nat) (_t : Trans) (m : Module) : Module := m
def execDataTransaction (port : Nat) (t : Trans) (s : State) : Host.Outcome State Fault Refusal :=
  onTrans port t 0x04 (doDataTransaction port t) s

/-- The WRITE_VA of a collective that an answer names. -/
def writeNamed (t : Trans) (w : Trans × Bool) : Bool := w.1.dest == t.src && w.1.address == t.address
/-- The instance whose WRITE_VA an answer names. -/
def Module.collOfWrite (m : Module) (t : Trans) : Option Collective :=
  (m.coll t.tag t.partition).bind (fun c => if c.writes.any (writeNamed t) then some c else none)

/-- A stop of the port a transfer went through counts its end (R341, R548). -/
def Module.portCounts (m : Module) (dest : Nat) : Module :=
  match m.egress dest with
  | none => m
  | some p =>
    let note (q : Stop) : Stop := if q.target = .port p then { q with completed := q.completed + 1 } else q
    { m with parts := { m.parts with stops := m.parts.stops.map note } }

/-- ACK: a collective's write, or the NR transfer of its tag, is acknowledged (R538, R540). -/
def doAck (_port : Nat) (t : Trans) (m : Module) : Module :=
  match m.collOfWrite t with
  | some c => m.advanceColl { c with writes := c.writes.filter (fun w => !writeNamed t w), progress := m.time, deadline := 0 }
  | none => match m.takeXfer t.tag t.src with
    | none => m
    | some (x, m0) =>
      let m1 := m0.portCounts x.dest
      match m1.transfer? x.site x.thread x.id with
      | some f => m1.complete1 x.site x.thread f
      | none => m1
def execAck (port : Nat) (t : Trans) (s : State) : Host.Outcome State Fault Refusal := onTrans port t 0x05 (doAck port t) s

/-- The status a reason ends a collective with (R541). -/
def nackStatus (r : Nat) : Nat :=
  if r = 1 then stNotPermitted else if r = 2 then stFenced else if r = 3 then stProgramFault else if r = 5 then stEpoch else stHwError

/-- NACK (R541, R542, R560): a collective's instance ends, a write refused for a hold waits for its retransmission; an NR
transfer faults or waits likewise. -/
def doNack (port : Nat) (t : Trans) (m : Module) : Module :=
  let ended (c : Collective) : Module :=
    let m1 := if t.step = 5 then m else m.fabEvent 0x94 t.partition port t.src t.step t.typ t.tag t.epoch t.address 0 0
    m1.endColl c (nackStatus t.step) true
  match m.collOfWrite t with
  | some c =>
    if t.step = 4 then m.updColl c.tag c.part (fun k => { k with writes := k.writes.map (fun w => if writeNamed t w then (w.1, true) else w) })
    else ended c
  | none =>
    if m.flight.xfers.any (FabXfer.is t.tag t.src) then m.xferNack port t
    else match m.coll t.tag t.partition with
      | some c => if t.step = 4 then m else ended c
      | none => m
def execNack (port : Nat) (t : Trans) (s : State) : Host.Outcome State Fault Refusal := onTrans port t 0x06 (doNack port t) s

/-- The WRITE_VAs of collectives that a hold refused. -/
def Module.heldWrites (m : Module) (tag : Nat) : List Trans :=
  ((m.flight.colls.filter (fun c => c.tag == tag)).flatMap (·.writes)).filterMap (fun w => if w.2 then some w.1 else none)

/-- NACK_RETRANSMIT: what a hold refused is sent again with flag [2], every 100 µs (R542). -/
def doNackRetransmit (tag : Nat) (m : Module) : Module :=
  let again (t : Trans) : Trans := { t with flags := setBit t.flags 2 true }
  let ts := ((m.flight.xfers.filter (fun x => x.tag == tag)).flatMap (·.held) ++ m.heldWrites tag).map again
  ts.foldl (fun (acc : Module) t => acc.sendTo t) { m with flight := { m.flight with
    xfers := m.flight.xfers.map (fun x => if x.tag = tag then { x with held := [] } else x),
    colls := m.flight.colls.map (fun c => if c.tag = tag then { c with writes := c.writes.map (fun w => (w.1, false)) } else c) } }
def execNackRetransmit (tag : Nat) (s : State) : Host.Outcome State Fault Refusal :=
  onModule (decide (tag < 2 ^ 32)) (doNackRetransmit tag) s

/-! ## SLOW (R390, R561, R562) -/

/-- The modules to which this one owes SLOW: partners of its instances, receivers of transfers that wait for their ACK. -/
def Module.slowPartners (m : Module) : List Nat :=
  (m.flight.colls.flatMap Collective.partners ++ m.flight.xfers.map (·.dest)).eraseDups
/-- The reason of a hold: 1 thermal, 2 coolant. -/
def Module.slowReason (m : Module) : Nat := if m.thermal.stop then 2 else 1
/-- The forecast time until the last held group leaves write hold, at most 500 ms: the spec states no forecast model, so a free
value. -/
def Module.slowDelay (m : Module) : Nat := (Config.freeWord m.free).toNat % 501

/-- SLOW_SEND: while R390 applies, one SLOW to each partner; it carries no tag, partition or epoch. -/
def doSlowSend (m : Module) : Module :=
  if !m.anyHeld then { m with fab := { m.fab with slowTx := false } }
  else
    let starts := !m.fab.slowTx && !m.slowPartners.isEmpty
    let m0 := { m with free := m.free + 1, fab := { m.fab with slowTx := !m.slowPartners.isEmpty } }
    let m1 := if starts then m0.setCause .thm 7 else m0
    m.slowPartners.foldl (fun (a : Module) d => a.sendTo { a.trans 0x25 d with step := m.slowReason, aux := m.slowDelay }) m1
def execSlowSend (s : State) : Host.Outcome State Fault Refusal := onModule true doSlowSend s

/-- SLOW: the deadline of every instance shared with the sender moves to the later of what it is and now plus the delay, no more
than 500 ms beyond the step timeout since the last progress. -/
def doSlow (_port : Nat) (t : Trans) (m : Module) : Module :=
  let limit (c : Collective) : Nat := c.progress + algTimeout m.epochs.algRecord * 1000
  let move (c : Collective) : Collective :=
    if t.src ∈ c.partners then
      { c with deadline := max c.deadline (min (max (limit c) (m.time + t.aux * 1000)) (limit c + 500000)) }
    else c
  let quiet := match m.fab.slowAt with | some a => decide (a + 10000 ≤ m.time) | none => true
  let m1 := { m with
    flight := { m.flight with colls := m.flight.colls.map move },
    fab := { m.fab with slowRx := sat64 m.fab.slowRx 1, slowAt := some m.time } }
  if quiet then m1.setCause .fab 10 else m1
def execSlow (port : Nat) (t : Trans) (s : State) : Host.Outcome State Fault Refusal := onTrans port t 0x25 (doSlow port t) s

/-- The hold record of R565. -/
def Module.holdRecord (m : Module) : List Byte :=
  let heldStacks := maskOf Config.stackCount (fun s => m.thermal.stop || (List.range 4).any (fun g => m.held (s * 4 + g)))
  packRec 32 [⟨0, 2, m.ownId⟩, ⟨2, 1, m.slowReason⟩, ⟨4, 4, m.slowDelay⟩, ⟨8, 4, (m.time - m.thermal.holdSince.getD m.time) / 1000⟩,
    ⟨12, 8, heldStacks⟩, ⟨20, 8, m.time / 1000⟩]

/-- A manager keeps the latest hold report, logs event 0x9A and raises hold_report (R562). -/
def Module.takeHoldReport (m : Module) (port src typ tag : Nat) (bytes : List Byte) : Module :=
  ({ m with flight := { m.flight with holdReport := bytes.take 32 } }).fabEvent 0x9A 0xFF port src (getLe bytes 2 1) typ tag
    0 0 0 (getLe bytes 8 4)

/-- HOLD_REPORT_SEND: after 50 ms of hold, and every 50 ms, the module reports to its group manager, event 0x57 (R390); a group manager
takes its own report at once. -/
def doHoldReportSend (m : Module) : Module :=
  if m.anyHeld ∧ heldFor m.time 50000 m.thermal.holdSince then
    let m1 := m.thermEvent 0x57 0xFFFF 0xFFFF 0xFF 0xFF 0xFF 0xFF 0 ((m.time - m.thermal.holdSince.getD m.time) / 1000)
    let m2 := { m1 with free := m1.free + 1 }
    if m.fab.idValid && m.fab.manager == m.fab.deviceId then m2.takeHoldReport 0xFF m.fab.deviceId 0x26 0 m.holdRecord
    else m2.sendControl { m1.trans 0x26 m1.fab.manager with payload := m.holdRecord }
  else m
def execHoldReportSend (s : State) : Host.Outcome State Fault Refusal := onModule true doHoldReportSend s

/-- HOLD_REPORT. -/
def doHoldReport (port : Nat) (t : Trans) (m : Module) : Module := m.takeHoldReport port t.src t.typ t.tag t.payload
def execHoldReport (port : Nat) (t : Trans) (s : State) : Host.Outcome State Fault Refusal := onTrans port t 0x26 (doHoldReport port t) s

end Sys2Proof.Machine
end

