-- ==== Sys2Proof/Machine/FabPlan.lean ====
section
/-! DEFINITION. What the lead manager computes: the topology, device IDs and groups (R550), and every module's routing table
under the torus or the up/down scheme (R543, R556). -/

namespace Sys2Proof.Machine

/-! ## The topology (R549) -/

/-- A module of a topology, by serial number. -/
def topoNode (ns : List TopoNode) (serial : Nat) : Option TopoNode := ns.find? (fun n => n.serial == serial)
/-- The link of a module at a port: the peer's serial number and port. -/
def topoLink (ns : List TopoNode) (serial p : Nat) : Option (Nat × Nat) :=
  (topoNode ns serial).bind (fun n => (n.links.find? (fun l => l.1 == p)).map (fun l => l.2))
/-- Every peer that a module names has reported itself. -/
def topoClosed (ns : List TopoNode) : Bool := ns.all (fun n => n.links.all (fun l => (topoNode ns l.2.1).isSome))

/-- Modules within `k` hops of one, with their distance. -/
def topoBall (ns : List TopoNode) (serial : Nat) : Nat → List (Nat × Nat)
  | 0 => [(serial, 0)]
  | k + 1 =>
    let b := topoBall ns serial k
    let edge := (b.filter (fun x => x.2 == k)).flatMap (fun x => ((topoNode ns x.1).map (·.links)).getD [])
    let fresh := ((edge.map (fun l => l.2.1)).eraseDups).filter (fun s => !b.any (fun x => x.1 == s) && (topoNode ns s).isSome)
    b ++ fresh.map (fun s => (s, k + 1))
/-- Hops between two modules; none: no way. -/
def topoDist (ns : List TopoNode) (a b : Nat) : Option Nat := ((topoBall ns a ns.length).find? (fun x => x.1 == b)).map (·.2)

/-- Inserts by a key, after what has the same. -/
def insertBy {α : Type} (key : α → Nat) (x : α) : List α → List α
  | [] => [x]
  | y :: ys => if key x < key y then x :: y :: ys else y :: insertBy key x ys
/-- Sorts by a key. -/
def sortBy {α : Type} (key : α → Nat) (l : List α) : List α := l.foldl (fun acc x => insertBy key x acc) []

/-! ## Device IDs (R550, R551) -/

/-- The lowest member number from 1 that is not taken in a group. -/
def freeMember (taken : List Nat) (g : Nat) : Nat :=
  ((List.range 256).find? (fun i => decide (1 ≤ i) && !(g * 256 + i ∈ taken))).getD 0

/-- The group a worker joins: the nearest manager's with room, the lower group first among equals; one that is to keep its ID
stays in its group. -/
def joinGroup (ns : List TopoNode) (heads : List (Nat × Nat)) (counts : List Nat) (w : Nat) (kept : Option Nat) : Option Nat :=
  let room (h : Nat × Nat) : Bool := decide (countOf (· == h.2) counts < 255)
  match kept with
  | some id => some (id / 256)
  | none =>
    let near := (heads.filter room).filterMap (fun h => (topoDist ns h.1 w).map (fun d => (d * 16 + h.2, h.2)))
    ((sortBy (·.1) near).head?).map (·.2)

/-- IDs of all modules: the lead manager 0, the first 15 group managers by serial number the heads of groups 1 to 15, every worker
in the nearest manager's group with its recorded member number or the lowest free one. `roster` is what the flash records;
`keep` (in service) leaves every recorded ID as it is. Modules without room get none. -/
def assignIds (ns : List TopoNode) (lead : Nat) (roster : List (Nat × Nat)) (keep : Bool) : List (Nat × Nat) :=
  let others := sortBy (·.serial) (ns.filter (fun n => n.serial != lead))
  let recorded (s : Nat) : Option Nat := (roster.find? (fun r => r.1 == s)).map (·.2)
  let managers := (others.filter (fun n => n.role == 1)).take 15
  let heads := (lead, 0) :: (List.range managers.length).map (fun i => ((nth ⟨0, 0, []⟩ managers i).serial, i + 1))
  let workers := (others.map (·.serial)).filter (fun s => !heads.any (fun h => h.1 == s))
  let place (acc : List (Nat × Nat)) (w : Nat) : List (Nat × Nat) :=
    match joinGroup ns heads (acc.map (·.2)) w (if keep then recorded w else none) with
    | some g => acc ++ [(w, g)]
    | none => acc
  let groups := workers.foldl place []
  let old := groups.filterMap (fun x => match recorded x.1 with
    | some id => if id / 256 = x.2 ∧ id % 256 ≠ 0 then some (x.1, id) else none
    | none => none)
  let fixed := heads.map (fun h => (h.1, h.2 * 256)) ++ old
  let new (acc : List (Nat × Nat)) (x : Nat × Nat) : List (Nat × Nat) :=
    if acc.any (fun a => a.1 == x.1) then acc else acc ++ [(x.1, x.2 * 256 + freeMember (acc.map (·.2)) x.2)]
  groups.foldl new fixed

/-- A module's ID among those assigned. -/
def idOf (ids : List (Nat × Nat)) (serial : Nat) : Option Nat := (ids.find? (fun x => x.1 == serial)).map (·.2)

/-! ## The routing record (R556) -/

/-- Scheme of a routing record; no bytes stand for the default record. -/
def routeScheme (r : List Byte) : Nat := getLe r 0 1
/-- The links to avoid: device ID and port. -/
def routeAvoid (r : List Byte) : List (Nat × Nat) := (chunks 4 (getLe r 1 1) (r.drop 8)).map (fun e => (getLe e 0 2, getLe e 2 1))
/-- A record is well formed. -/
def routeRecordOk (r : List Byte) : Bool :=
  decide (8 ≤ r.length) && decide (routeScheme r ≤ 2) && getLe r 2 6 == 0 && r.length == 8 + 4 * getLe r 1 1 &&
  (chunks 4 (getLe r 1 1) (r.drop 8)).all (fun e => decide (getLe e 0 2 < 4096 ∧ getLe e 2 1 < 4) && getLe e 3 1 == 0)

/-- The topology without the links to avoid, in both directions. -/
def avoidLinks (ids : List (Nat × Nat)) (avoid : List (Nat × Nat)) (ns : List TopoNode) : List TopoNode :=
  let bad (s p : Nat) : Bool := match idOf ids s with | some id => decide ((id, p) ∈ avoid) | none => false
  ns.map (fun n => { n with links := n.links.filter (fun l => !bad n.serial l.1 && !bad l.2.1 l.2.2) })

/-! ## The torus (R543) -/

/-- The module that lies `k` links on from one out of port `p`, where each link faces the opposite port. -/
def walkPort (ns : List TopoNode) (p : Nat) : Nat → Nat → Option Nat
  | 0, s => some s
  | k + 1, s => match topoLink ns s p with
    | some (t, q) => if q = opposite p then walkPort ns p k t else none
    | none => none
/-- The length of the ring through a module out of port `p`: 2 to 64. -/
def ringLength (ns : List TopoNode) (p s : Nat) : Option Nat :=
  (List.range 65).find? (fun k => decide (2 ≤ k) && walkPort ns p k s == some s)

/-- The lengths of the torus and each module's coordinates, counted from the lead manager: D1 leads to x + 1, D0 to y + 1. -/
def torusOf (ns : List TopoNode) (lead : Nat) : Option (Nat × Nat × List (Nat × Nat × Nat)) :=
  match ringLength ns 1 lead, ringLength ns 0 lead with
  | some lx, some ly =>
    let at_ (x y : Nat) : Option Nat := (walkPort ns 0 y lead).bind (walkPort ns 1 x)
    let cs := (List.range ly).flatMap (fun y => (List.range lx).filterMap (fun x => (at_ x y).map (fun s => (s, x, y))))
    let ok (c : Nat × Nat × Nat) : Bool :=
      walkPort ns 1 1 c.1 == at_ ((c.2.1 + 1) % lx) c.2.2 && walkPort ns 0 1 c.1 == at_ c.2.1 ((c.2.2 + 1) % ly)
    if cs.length = ns.length ∧ (cs.map (·.1)).eraseDups.length = ns.length ∧ cs.all ok then some (lx, ly, cs) else none
  | _, _ => none

/-- The shorter way round a ring of `n` from `a` to `b`: forwards among equals. -/
def forwards (n a b : Nat) : Bool := decide (2 * ((b + n - a) % n) ≤ n)
/-- The port from one place of a torus to another: X first, then Y; 4 at the place itself. -/
def torusPort (lx ly : Nat) (a b : Nat × Nat) : Nat :=
  if a.1 ≠ b.1 then (if forwards lx a.1 b.1 then 1 else 3)
  else if a.2 ≠ b.2 then (if forwards ly a.2 b.2 then 0 else 2)
  else 4
/-- The ports of a place whose link is its ring's wrap link, as a mask. -/
def wrapMask (lx ly x y : Nat) : Nat :=
  (if y + 1 = ly then 1 else 0) + (if x + 1 = lx then 2 else 0) + (if y = 0 then 4 else 0) + (if x = 0 then 8 else 0)

/-! ## Up/down (R543) -/

/-- A module's parent in the breadth-first spanning tree: its port, the parent, the parent's port; ties to the lower device ID,
then to the lower port. -/
def treeParent (ns : List TopoNode) (ids : List (Nat × Nat)) (lead s : Nat) : Option (Nat × Nat × Nat) :=
  match topoDist ns lead s with
  | none => none
  | some d =>
    let ups := (((topoNode ns s).map (·.links)).getD []).filter (fun l => topoDist ns lead l.2.1 == some (d - 1) && decide (0 < d))
    (sortBy (fun (l : Nat × Nat × Nat) => (idOf ids l.2.1).getD 4096 * 4 + l.1) ups).head?
/-- A module and those above it, up to the root. -/
def treePath (ns : List TopoNode) (ids : List (Nat × Nat)) (lead : Nat) : Nat → Nat → List Nat
  | 0, s => [s]
  | k + 1, s => match treeParent ns ids lead s with
    | some l => s :: treePath ns ids lead k l.2.1
    | none => [s]
/-- The port from one module to another over the tree; 4 at the module itself; none without a way. -/
def treePort (ns : List TopoNode) (ids : List (Nat × Nat)) (lead a b : Nat) : Option Nat :=
  let up := treePath ns ids lead ns.length b
  if a = b then some 4
  else if (topoDist ns lead b).isNone ∨ (topoDist ns lead a).isNone then none
  else match (up.takeWhile (· != a)).getLast? with
    | some c => if a ∈ up then (treeParent ns ids lead c).map (fun l => l.2.2) else (treeParent ns ids lead a).map (·.1)
    | none => (treeParent ns ids lead a).map (·.1)

/-! ## The tables -/

/-- What ID_ASSIGN carries to one module: ID, manager, coordinates, scheme, wrap mask, table entries by device ID (1 to 4 port +
1, 5 local). -/
structure ModulePlan where
  serial : Nat
  id : Nat
  manager : Nat
  x : Nat
  y : Nat
  scheme : Nat
  wrap : Nat
  table : List (Nat × Nat)
deriving DecidableEq, Repr

/-- Every module's plan under a routing record; `none` where the record asks for a torus that the cabling is not, or leaves a
module without a route (R556). -/
def planRoutes (all : List TopoNode) (ids : List (Nat × Nat)) (lead : Nat) (record : List Byte) : Option (List ModulePlan) :=
  let ns := avoidLinks ids (routeAvoid record) (all.filter (fun n => (idOf ids n.serial).isSome))
  let torus := if routeScheme record = 2 then none else torusOf ns lead
  if routeScheme record = 1 ∧ torus.isNone then none
  else if torus.isNone ∧ ns.any (fun n => (topoDist ns lead n.serial).isNone) then none
  else some (ids.map (fun n =>
    let place (s : Nat) : Nat × Nat := match torus with
      | some t => ((t.2.2.find? (fun c => c.1 == s)).map (fun c => (c.2.1, c.2.2))).getD (0, 0)
      | none => (0, 0)
    let me := place n.1
    let code (s : Nat) : Option Nat := match torus with
      | some t => some (torusPort t.1 t.2.1 me (place s) + 1)
      | none => (treePort ns ids lead n.1 s).map (· + 1)
    { serial := n.1, id := n.2, manager := n.2 / 256 * 256, x := me.1, y := me.2, scheme := if torus.isSome then 1 else 2,
      wrap := match torus with | some t => wrapMask t.1 t.2.1 me.1 me.2 | none => 0,
      table := sortBy (·.1) (ids.filterMap (fun k => (code k.1).map (fun c => (k.2, c)))) }))

/-- Entries of one ID_ASSIGN segment. -/
def segmentEntries : Nat := 128
/-- The segments of a plan: the first device ID of each and its payload. -/
def ModulePlan.segments (p : ModulePlan) (lead : Nat) : List (Nat × List Byte) :=
  let top := (p.table.map (·.1)).foldl max 0
  let head := packRec 32 [⟨0, 16, p.serial⟩, ⟨16, 2, p.id⟩, ⟨18, 2, p.manager⟩, ⟨20, 2, lead⟩, ⟨22, 1, p.x⟩, ⟨23, 1, p.y⟩, ⟨26, 1, p.scheme⟩,
    ⟨27, 1, p.wrap⟩]
  (List.range (top / segmentEntries + 1)).map (fun k =>
    (k * segmentEntries, head ++ (List.range segmentEntries).map (fun i => BitVec.ofNat 8 (SMap.get 0 p.table (k * segmentEntries + i)))))

end Sys2Proof.Machine
end

