-- ==== Sys2Proof/Machine/FabMode.lean ====
section
/-! DEFINITION. Epochs and the manager hierarchy (R545, R552 to R555): the MODE commands and transactions in two phases, the pause
of a routing change, epoch polls and holds, heartbeats and acting managers; the FAB commands (R525, R565). The payloads of the
control transactions are the model's choice, named in notes/assumptions. -/

namespace Sys2Proof.Machine

/-! ## Modules in scope (R550, R554) -/

/-- The other modules of the fabric: those with an entry in the table to come, else in the table in force. -/
def Module.others (m : Module) : List Nat :=
  ((if m.fab.nextRoutes.isEmpty then m.fab.routes else m.fab.nextRoutes).map (fun r => r.1)).filter (fun d => d != m.fab.deviceId)
/-- Members of a group other than this module. -/
def Module.groupOthers (m : Module) (g : Nat) : List Nat := m.others.filter (fun d => d / 256 == g)
/-- This module's group. -/
def Module.group (m : Module) : Nat := m.fab.deviceId / 256
/-- A group manager or the lead manager; the lead manager. -/
def Module.isHead (m : Module) : Bool := m.fab.idValid && m.fab.deviceId % 256 == 0
def Module.isLead (m : Module) : Bool := m.fab.idValid && m.fab.deviceId == m.fab.lead
/-- The other modules of a scope: 0 none, 1 the manager's group, 2 the whole fabric. -/
def Module.inScope (m : Module) (scope : Nat) : List Nat :=
  if scope = 1 then m.groupOthers m.group else if scope = 2 then m.others else []
/-- To whom the manager sends itself: the lead manager reaches workers through their group managers, and those of a group it
acts for directly. -/
def Module.sendsTo (m : Module) (scope : Nat) : List Nat :=
  if scope = 2 then m.others.filter (fun d => d / 256 == m.group || d % 256 == 0 || (m.fab.acting && d / 256 == m.fab.actingGroup))
  else m.inScope scope
/-- A control transaction to several modules. -/
def Module.sendEach (m : Module) (ds : List Nat) (t : Trans) : Module := ds.foldl (fun (a : Module) d => a.sendControl { t with dest := d }) m
/-- The route to a module leads through a port that is up. -/
def Module.reaches (m : Module) (d : Nat) : Bool :=
  d == m.fab.deviceId || (match m.egress d with | some p => (m.fport p).up | none => false)
/-- Fabric-scope commands are served: S9 has ended and a lead manager is reachable (R552). -/
def Module.fabricOpen (m : Module) : Bool := m.bring.fabricReady && m.reaches m.fab.lead
/-- This module may issue a command of a scope: 1 is a manager's, 2 the lead manager's (R524, R526). -/
def Module.tierOk (m : Module) (scope : Nat) : Bool := if scope = 2 then m.isLead else if scope = 1 then m.isHead else true

/-- A group manager passes on to its members what the lead manager sends to the whole fabric; the copies name the lead manager
as their source. -/
def Module.passOn (m : Module) (t : Trans) : Module :=
  if t.address / 256 = 2 ∧ m.isHead ∧ !m.isLead then m.sendEach (m.groupOthers m.group) t else m

/-! ## Staged values (R526, R554) -/

def Module.stagedOf (m : Module) (kind : Nat) : Option Staged := m.epochs.staged.find? (fun v => v.kind == kind)
def Module.updStaged (m : Module) (kind : Nat) (f : Staged → Staged) : Module :=
  { m with epochs := { m.epochs with staged := modFirst (fun v => v.kind == kind) f m.epochs.staged } }
/-- Kinds whose commit changes routes: the routing setting, and the default records of S9. -/
def routing (kind : Nat) : Bool := kind == 1 || kind == 255

/-- A pause ends (R545). -/
def Module.unpause (m : Module) : Module := ({ m with fab := { m.fab with paused := false, drained := false } }).pumpAll

/-- A staged value is discarded and its claim released. -/
def Module.unstage (m : Module) (kind : Nat) : Module :=
  let m1 := { m with epochs := { m.epochs with staged := m.epochs.staged.filter (fun v => v.kind != kind) } }
  if routing kind then ({ m1 with fab := { m1.fab with nextRoutes := [], nextScheme := 0 } }).unpause else m1

/-- STEPs held for an epoch, after a setting changed: those of the epoch in force act, older ones are refused (R553). -/
def Module.releaseHeldSteps (m : Module) : Module :=
  let go (a : Module) (x : Nat × Trans) : Module :=
    if x.2.epoch = a.epochs.algEpoch then a.actStep x.2
    else if seqNewer x.2.epoch a.epochs.algEpoch then { a with flight := { a.flight with heldPkts := a.flight.heldPkts ++ [x] } }
    else a.nackTo 0 x.2 5
  m.flight.heldPkts.foldl go { m with flight := { m.flight with heldPkts := [] } }

/-- The algorithm setting changes: every instance that spans modules ends with ST_EPOCH_MISMATCH (R560). -/
def Module.takeAlgorithm (m : Module) (v : List Byte) (e : Nat) : Module :=
  let m1 := (m.flight.colls.filter (fun c => decide (1 < c.devs.length))).foldl (fun (a : Module) c => a.endColl c stEpoch true) m
  { m1 with epochs := { m1.epochs with algRecord := v, algEpoch := e } }
/-- The routing setting changes, and the table that was sent ahead comes into force (R545). -/
def Module.takeRoutes (m : Module) (e : Nat) : Module :=
  let f := m.fab
  let f1 := if f.nextRoutes.isEmpty then f else { f with routes := f.nextRoutes, scheme := f.nextScheme, nextRoutes := [], nextScheme := 0 }
  ({ m with fab := f1, epochs := { m.epochs with routeEpoch := e } }).unpause
/-- A power-cap profile: one PWR.LIMIT and a PWR.OPPOINT for each partition it names (R527). -/
def Module.takeProfile (m : Module) (v : List Byte) (e : Nat) : Module :=
  let set (a : Module) (n : Nat) : Module := let p := getLe v (8 + n) 1; if p = 0xFF then a else a.setTarget n p
  let m1 := { m with power := { m.power with limit := getLe v 0 2 }, epochs := { m.epochs with powerEpoch := e } }
  (List.range 64).foldl set m1

/-- A staged value takes effect at an epoch, and DEV_EPOCH advances to it (R526, R554). -/
def Module.applyStaged (m : Module) (v : Staged) (e : Nat) : Module :=
  let m1 :=
    if v.kind = 0 then m.takeAlgorithm v.value e
    else if v.kind = 1 then ({ m with epochs := { m.epochs with routeRecord := v.value } }).takeRoutes e
    else if v.kind = 2 then m.takeProfile v.value e
    else (m.takeAlgorithm v.value e).takeRoutes e
  let m2 := { m1 with epochs := { m1.epochs with epoch := e, staged := m1.epochs.staged.filter (fun x => x.kind != v.kind) } }
  m2.releaseHeldSteps

/-! ## The manager's side (R545, R554, R555) -/

/-- Address of the MODE transactions of a staged value: kind and scope. -/
def Staged.addr (v : Staged) : Nat := v.kind + 256 * v.scope

/-- A MODE transaction of this manager to the scope of a value. -/
def Module.modeSend (m : Module) (v : Staged) (typ step epoch : Nat) : Module :=
  m.sendEach (m.sendsTo v.scope) { m.trans typ 0 with address := v.addr, step := step, epoch := epoch }

/-- MODE_PREP: the value in parts of 256 bytes; aux is its length, step the part. -/
def Module.sendPrep (m : Module) (v : Staged) : Module :=
  let n := max 1 ((v.value.length + 255) / 256)
  (List.range n).foldl (fun (a : Module) i => a.sendEach (m.sendsTo v.scope)
    { m.trans 0x27 0 with address := v.addr, aux := v.value.length, step := i, payload := (v.value.drop (256 * i)).take 256 }) m

/-- The newest of the acknowledged epochs and DEV_EPOCH. -/
def Module.newestAck (m : Module) (v : Staged) : Nat :=
  v.acks.foldl (fun e a => if seqNewer a.2 e then a.2 else e) m.epochs.epoch

/-- The commit of a value takes place here and in its scope; the command that asked for it completes with the epoch. -/
def Module.commitNow (m : Module) (v : Staged) (e : Nat) : Module :=
  let m1 := (m.modeSend v 0x29 0 e).applyStaged v e
  match v.commit with
  | some id => m1.complete id stOk (d4 e)
  | none => m1
/-- In a pause: once this module and every other has drained, the commit follows (R545). -/
def Module.drainCheck (m : Module) (kind : Nat) : Module :=
  match m.stagedOf kind with
  | none => m
  | some v => match v.pausing with
    | none => m
    | some e => if v.mine ∧ m.fab.drained ∧ v.expect.all (fun d => decide (d ∈ v.drained)) then m.commitNow v e else m
/-- A commit begins: a routing change pauses the fabric first (R545), any other value is committed at once. -/
def Module.beginCommit (m : Module) (v : Staged) (e : Nat) (cmd : Option Nat) : Module :=
  if routing v.kind ∧ m.bring.fabricReady then
    let m1 := m.updStaged v.kind (fun x => { x with pausing := some e, drained := [], commit := cmd })
    ({ m1 with fab := { m1.fab with paused := true, drained := false } }).modeSend v 0x29 1 e
  else m.commitNow { v with commit := cmd } e

/-- Every acknowledgement has come: MODE.PREPARE completes, a value of the fabric's own is committed. -/
def Module.ackCheck (m : Module) (kind : Nat) : Module :=
  match m.stagedOf kind with
  | none => m
  | some v =>
    if !v.mine ∨ v.pausing.isSome ∨ v.expect.any (fun d => !v.acks.any (fun a => a.1 == d)) then m
    else if v.auto then m.beginCommit v ((m.newestAck v + 1) % 2 ^ 32) none
    else match v.cmd with
      | some id => (m.updStaged kind (fun x => { x with cmd := none })).complete id stOk []
      | none => m

/-- The manager gives a prepare up: MODE_ABORT to the scope; the command that waits for it is answered. -/
def Module.dropPrepare (m : Module) (v : Staged) (st : Nat) (detail : List Byte) : Module :=
  let m0 := (m.modeSend v 0x2A 0 0).unstage v.kind
  let m1 := if v.auto then { m0 with fab := { m0.fab with replan := true } } else m0
  let m2 := match v.cmd with | some id => m1.complete id st detail | none => m1
  match v.commit with | some id => m2.complete id st detail | none => m2

/-- This module stages a value of its own for a scope, and asks the others to. -/
def Module.prepare (m : Module) (kind scope : Nat) (value : List Byte) (auto : Bool) (cmd : Option Nat) : Module :=
  let v : Staged :=
    { kind := kind, scope := scope, value := value, manager := m.fab.deviceId, mine := true, auto := auto, expect := m.inScope scope,
      acks := [], pausing := none, drained := [], cmd := cmd, commit := none }
  let m1 := { m with epochs := { m.epochs with staged := m.epochs.staged ++ [v] } }
  (m1.sendPrep v).ackCheck kind

/-- The lead manager's tables for a routing record sent ahead of its commit: each module's ID_ASSIGN segments, flooded; flag 1
marks the last segment. -/
def Module.sendPlan (m : Module) (plan : List ModulePlan) : Module :=
  let ports := (List.range 4).filter (fun p => (m.fport p).up)
  let one (a : Module) (p : ModulePlan) : Module :=
    let segs := p.segments m.fab.deviceId
    (List.range segs.length).foldl (fun (a : Module) i =>
      let s := nth (0, []) segs i
      let t : Trans := { m.trans 0x23 p.id with address := s.1, flags := if i + 1 = segs.length then 2 else 0, payload := s.2 }
      ports.foldl (fun (a : Module) q => a.sendOn q t) a) a
  (plan.filter (fun p => p.serial != Config.serial.toNat)).foldl one m
/-- The lead manager's own part of a plan waits for the commit. -/
def Module.planSelf (m : Module) (plan : List ModulePlan) : Module :=
  match plan.find? (fun p => p.serial == Config.serial.toNat) with
  | none => m
  | some p => { m with fab := { m.fab with nextRoutes := p.table, nextScheme := p.scheme } }
/-- The plan of a routing record for the fabric as it is. -/
def Module.planFor (m : Module) (record : List Byte) : Option (List ModulePlan) :=
  planRoutes m.flight.topo m.fab.roster Config.serial.toNat record

/-- The modules that have a way to the lead manager, as they reported themselves. -/
def Module.liveNodes (m : Module) : List TopoNode :=
  m.flight.topo.filter (fun n => (topoDist m.flight.topo Config.serial.toNat n.serial).isSome)
/-- Numbers of modules whose ID is new to this start of the fabric. -/
def Module.joined (m : Module) (ids : List (Nat × Nat)) : Bool := ids.any (fun x => !(x.2 ∈ m.fab.members))

/-- Routes are computed again in service and committed (R548); a module that joins takes its ID at once and the settings in force
with the commit. While the epoch is claimed the change waits. -/
def Module.refab (m : Module) : Module :=
  if !m.isLead then m
  else if !m.claimsFree [.epoch] then { m with fab := { m.fab with replan := true } }
  else
    let ns := m.liveNodes
    let lead := Config.serial.toNat
    let ids := assignIds ns lead m.fab.roster true
    let plan := match planRoutes ns ids lead m.epochs.routeRecord with
      | some p => p
      | none => (planRoutes ns ids lead []).getD []
    let kept := m.fab.roster.filter (fun r => !ids.any (fun x => x.1 == r.1 || x.2 == r.2))
    let m1 := { m with fab := { m.fab with replan := false, roster := kept ++ ids, members := (m.fab.members ++ ids.map (fun (x : Nat × Nat) => x.2)).eraseDups } }
    let m2 := (m1.planSelf plan).sendPlan plan
    if m.joined ids then m2.prepare 255 2 m.epochs.algRecord true none else m2.prepare 1 2 m.epochs.routeRecord true none
/-- A change of routes that waited for the epoch is tried again. -/
def Module.replanTry (m : Module) : Module := if m.fab.replan then m.refab else m

/-! ## The MODE transactions -/

/-- MODE_ACK to a manager: step 0 staged, 1 busy, 2 drained; the epoch is DEV_EPOCH. -/
def Module.modeAck (m : Module) (dest kind step : Nat) : Module :=
  m.sendControl { m.trans 0x28 dest with address := kind, step := step, epoch := m.epochs.epoch }

/-- MODE_PREP: the parts are collected; with the last one the value is staged and acknowledged, or, where a value is staged or the
epoch is claimed, answered as busy (R554, R555). -/
def doModePrep (_port : Nat) (t : Trans) (m : Module) : Module :=
  let m0 := m.passOn t
  let fresh := t.step = 0
  if !fresh ∧ m0.flight.prepFrom ≠ t.src then m0
  else
    let buf := (if fresh then [] else m0.flight.prep) ++ t.payload
    let m1 := { m0 with flight := { m0.flight with prep := buf, prepFrom := t.src } }
    if buf.length < t.aux then m1
    else
      let m2 := { m1 with flight := { m1.flight with prep := [], prepFrom := 0 } }
      let kind := t.address % 256
      if !m2.claimsFree [.epoch] then m2.modeAck t.src kind 1
      else
        let v : Staged :=
          { kind := kind, scope := t.address / 256, value := buf.take t.aux, manager := t.src, mine := false, auto := false,
            expect := [], acks := [], pausing := none, drained := [], cmd := none, commit := none }
        ({ m2 with epochs := { m2.epochs with staged := m2.epochs.staged ++ [v] } }).modeAck t.src kind 0
def execModePrep (port : Nat) (t : Trans) (s : State) : Host.Outcome State Fault Refusal := onTrans port t 0x27 (doModePrep port t) s

/-- MODE_ACK: an acknowledgement with its epoch, a drained module, or busy, on which the manager aborts its prepare and answers
ST_BUSY (R545, R554, R555). -/
def doModeAck (_port : Nat) (t : Trans) (m : Module) : Module :=
  match m.stagedOf t.address with
  | none => m
  | some v =>
    if !v.mine ∨ !(t.src ∈ v.expect) then m
    else if t.step = 1 then (if v.pausing.isSome then m else m.dropPrepare v stBusy [])
    else if t.step = 2 then (m.updStaged v.kind (fun x => { x with drained := insertNew t.src x.drained })).drainCheck v.kind
    else (m.updStaged v.kind (fun x => { x with acks := x.acks.filter (fun a => a.1 != t.src) ++ [(t.src, t.epoch)] })).ackCheck v.kind
def execModeAck (port : Nat) (t : Trans) (s : State) : Host.Outcome State Fault Refusal := onTrans port t 0x28 (doModeAck port t) s

/-- The value of a manager that a MODE transaction names. -/
def Module.stagedFrom (m : Module) (t : Trans) : Option Staged :=
  match m.stagedOf (t.address % 256) with
  | some v => if v.manager = t.src ∧ !v.mine then some v else none
  | none => none

/-- MODE_COMMIT: step 1 begins the pause of a routing change, step 0 applies the staged value at the epoch (R545, R554). -/
def doModeCommitTransaction (_port : Nat) (t : Trans) (m : Module) : Module :=
  let m0 := m.passOn t
  match m0.stagedFrom t with
  | none => m0
  | some v =>
    if t.step = 1 then
      let m1 := m0.updStaged v.kind (fun x => { x with pausing := some t.epoch })
      { m1 with fab := { m1.fab with paused := true, drained := false } }
    else m0.applyStaged v t.epoch
def execModeCommitTransaction (port : Nat) (t : Trans) (s : State) : Host.Outcome State Fault Refusal :=
  onTrans port t 0x29 (doModeCommitTransaction port t) s

/-- MODE_ABORT: the staged value is discarded (R554). -/
def doModeAbortTransaction (_port : Nat) (t : Trans) (m : Module) : Module :=
  let m0 := m.passOn t
  match m0.stagedFrom t with
  | none => m0
  | some v => m0.unstage v.kind
def execModeAbortTransaction (port : Nat) (t : Trans) (s : State) : Host.Outcome State Fault Refusal :=
  onTrans port t 0x2A (doModeAbortTransaction port t) s

/-- Replay buffers and attachment buffers hold nothing that is to leave before the routes change: what this module itself holds
back in the pause does not count (R545). -/
def Module.portsDrained (m : Module) : Bool :=
  m.fab.ports.all (fun p => p.replayBuf.isEmpty && p.queue.all (fun q => decide (q.2.src = m.fab.deviceId) || chanOf q.2 == 3))

/-- ROUTING_PAUSE_DRAINED: a module whose buffers are empty reports to the manager of the change (R545). -/
def doRoutingPauseDrained (m : Module) : Module :=
  if !m.fab.paused ∨ m.fab.drained ∨ !m.portsDrained then m
  else
    let m1 := { m with fab := { m.fab with drained := true } }
    match m1.epochs.staged.find? (fun v => v.pausing.isSome) with
    | none => m1
    | some v => if v.mine then m1.drainCheck v.kind else m1.modeAck v.manager v.kind 2
def execRoutingPauseDrained (s : State) : Host.Outcome State Fault Refusal := onModule true doRoutingPauseDrained s

/-- MODE_ACK_TIMEOUT: acknowledgements are missing, so the prepare is aborted, event 0x96; its command answers ST_HW_ERROR with the
number of modules missing (R554). -/
def doModeAckTimeout (kind : Nat) (m : Module) : Module :=
  match m.stagedOf kind with
  | none => m
  | some v =>
    let missing := v.expect.filter (fun d => !v.acks.any (fun a => a.1 == d))
    if !v.mine ∨ v.pausing.isSome ∨ missing.isEmpty then m
    else (m.fabEvent 0x96 0xFF 0xFF (missing.headD 0xFFFF) kind 0x27 0 m.epochs.epoch 0 missing.length 0).dropPrepare v stHwError
      (d4 missing.length)
def execModeAckTimeout (kind : Nat) (s : State) : Host.Outcome State Fault Refusal := onModule (decide (kind < 256)) (doModeAckTimeout kind) s

/-! ## Epoch polls and holds (R553, R554) -/

/-- Where a module's polls go: to its manager, and to the lead manager too while its manager is lost (R552). -/
def Module.pollDests (m : Module) : List Nat :=
  (if m.fab.managerLost then [m.fab.manager, m.fab.lead] else [m.fab.manager]).filter (fun d => d != m.fab.deviceId)
/-- EPOCH_POLL to the manager. -/
def Module.poll (m : Module) : Module := m.sendEach m.pollDests { m.trans 0x2B 0 with epoch := m.epochs.epoch }

/-- EPOCH_INFO to a module: the epochs of the settings in force. -/
def Module.epochInfo (m : Module) (dest : Nat) : Module :=
  m.sendControl { m.trans 0x2C dest with
    epoch := m.epochs.epoch,
    payload := packRec 64 [⟨0, 4, m.epochs.algEpoch⟩, ⟨4, 4, m.epochs.routeEpoch⟩, ⟨8, 4, m.epochs.powerEpoch⟩] }

/-- EPOCH_POLL: a manager answers with EPOCH_INFO. -/
def doEpochPoll (_port : Nat) (t : Trans) (m : Module) : Module := m.epochInfo t.src
def execEpochPoll (port : Nat) (t : Trans) (s : State) : Host.Outcome State Fault Refusal := onTrans port t 0x2B (doEpochPoll port t) s

/-- EPOCH_INFO: the manager lives; a staged value whose commit was missed takes effect at the epoch returned, and held packets go
on (R552 to R554). -/
def doEpochInfo (_port : Nat) (t : Trans) (m : Module) : Module :=
  let m0 := { m with
    flight := { m.flight with hbMissed := 0 },
    fab := { m.fab with managerLost := m.fab.managerLost && t.src != m.fab.manager } }
  let now (k : Nat) : Nat := if k = 1 then m0.epochs.routeEpoch else if k = 2 then m0.epochs.powerEpoch else m0.epochs.algEpoch
  let then_ (k : Nat) : Nat := getLe t.payload (if k = 1 then 4 else if k = 2 then 8 else 0) 4
  match m0.epochs.staged.find? (fun v => !v.mine && seqNewer (then_ v.kind) (now v.kind)) with
  | some v => m0.applyStaged v (then_ v.kind)
  | none => m0.releaseHeldSteps
def execEpochInfo (port : Nat) (t : Trans) (s : State) : Host.Outcome State Fault Refusal := onTrans port t 0x2C (doEpochInfo port t) s

/-- EPOCH_HOLD_POLL: the `k`th held packet has waited 1 ms. -/
def doEpochHoldPoll (k : Nat) (m : Module) : Module := if k < m.flight.heldPkts.length then m.poll else m
def execEpochHoldPoll (k : Nat) (s : State) : Host.Outcome State Fault Refusal := onModule true (doEpochHoldPoll k) s

/-- EPOCH_HOLD_TIMEOUT: the `k`th held packet has waited 100 ms and is refused with reason 5, event 0x95. -/
def doEpochHoldTimeout (k : Nat) (m : Module) : Module :=
  match m.flight.heldPkts[k]? with
  | none => m
  | some (at_, t) =>
    let m1 := m.fabEvent 0x95 t.partition 0xFF t.src 5 t.typ t.tag t.epoch t.address 0 ((m.time - at_) / 1000)
    ({ m1 with flight := { m1.flight with heldPkts := m1.flight.heldPkts.eraseIdx k } }).nackTo 0 t 5
def execEpochHoldTimeout (k : Nat) (s : State) : Host.Outcome State Fault Refusal := onModule true (doEpochHoldTimeout k) s

/-- STAGED_VALUE_POLL: every 10 ms while a manager's value stays staged. -/
def doStagedValuePoll (kind : Nat) (m : Module) : Module :=
  match m.stagedOf kind with
  | some v => if v.mine then m else m.poll
  | none => m
def execStagedValuePoll (kind : Nat) (s : State) : Host.Outcome State Fault Refusal :=
  onModule (decide (kind < 256)) (doStagedValuePoll kind) s

/-- STAGED_VALUE_DISCARD: 10 s without commit or abort. -/
def doStagedValueDiscard (kind : Nat) (m : Module) : Module :=
  match m.stagedOf kind with
  | some v => if v.pausing.isSome ∨ v.cmd.isSome then m else m.unstage kind
  | none => m
def execStagedValueDiscard (kind : Nat) (s : State) : Host.Outcome State Fault Refusal :=
  onModule (decide (kind < 256)) (doStagedValueDiscard kind) s

/-! ## Heartbeats and acting managers (R552) -/

/-- The 64 bytes of a HEARTBEAT: the snapshot with the device ID at 44 and 45. -/
def Module.heartbeatRec (m : Module) : List Byte := overlay m.snapshot 44 (leBytes 2 m.ownId)

/-- HEARTBEAT_SEND: a worker reports to its manager every 100 ms. -/
def doHeartbeatSend (m : Module) : Module :=
  if !m.fab.idValid ∨ m.fab.manager = m.fab.deviceId then m
  else ({ m with flight := { m.flight with hbMissed := m.flight.hbMissed + 1 } }).sendEach m.pollDests
    { m.trans 0x24 0 with payload := m.heartbeatRec }
def execHeartbeatSend (s : State) : Host.Outcome State Fault Refusal := onModule true doHeartbeatSend s

/-- The records of a heartbeat or a summary are kept by device ID. -/
def Module.keepBeats (m : Module) (bs : List Byte) : Module :=
  let put (h : SMap (List Byte)) (r : List Byte) : SMap (List Byte) := SMap.set [] h (getLe r 44 2) r
  { m with flight := { m.flight with heartbeats := (chunks 64 (bs.length / 64) bs).foldl put m.flight.heartbeats } }

/-- HEARTBEAT: a manager keeps the record and answers with EPOCH_INFO; from a group manager it is the group's summary, and that
manager has returned. -/
def doHeartbeat (_port : Nat) (t : Trans) (m : Module) : Module :=
  let m1 := (m.keepBeats t.payload).replanTry
  if t.src % 256 ≠ 0 then m1.epochInfo t.src
  else if m1.fab.acting ∧ t.src / 256 = m1.fab.actingGroup then { m1 with fab := { m1.fab with acting := false, actingGroup := 0 } }
  else m1
def execHeartbeat (port : Nat) (t : Trans) (s : State) : Host.Outcome State Fault Refusal := onTrans port t 0x24 (doHeartbeat port t) s

/-- GROUP_SUMMARY_SEND: a group manager sends the lead manager its members' records, four to a transaction. -/
def doGroupSummarySend (m : Module) : Module :=
  if !m.isHead ∨ m.isLead then m
  else
    let rs := (m.flight.heartbeats.filter (fun h => h.1 / 256 == m.group)).map (fun h => h.2)
    (List.range (max 1 ((rs.length + 3) / 4))).foldl (fun (a : Module) i =>
      a.sendControl { m.trans 0x24 m.fab.lead with payload := ((rs.drop (4 * i)).take 4).flatten }) m
def execGroupSummarySend (s : State) : Host.Outcome State Fault Refusal := onModule true doGroupSummarySend s

/-- MANAGER_LOST: three heartbeats in a row without an answer, event 0x98. -/
def doManagerLost (m : Module) : Module :=
  if 3 ≤ m.flight.hbMissed ∧ !m.fab.managerLost then
    ({ m with fab := { m.fab with managerLost := true, lostAt := m.time + 1 } }).fabEvent 0x98 0xFF 0xFF m.fab.manager 0 0x24 0
      m.epochs.epoch 0 0 0
  else m
def execManagerLost (s : State) : Host.Outcome State Fault Refusal := onModule true doManagerLost s

/-- ACTING_MANAGER_TAKEOVER: one second later the lead manager acts for the group, event 0x98. -/
def doActingManagerTakeover (group : Nat) (m : Module) : Module :=
  if m.isLead ∧ group ≠ 0 ∧ !m.fab.acting ∧ (m.groupOthers group).length ≠ 0 then
    ({ m with fab := { m.fab with acting := true, actingGroup := group } }).fabEvent 0x98 0xFF 0xFF (group * 256) 0 0 0 m.epochs.epoch 0 0
      1000
  else m
def execActingManagerTakeover (group : Nat) (s : State) : Host.Outcome State Fault Refusal :=
  onModule (decide (group < 16)) (doActingManagerTakeover group) s

/-! ## MODE commands (R526) -/

/-- A collective algorithm record is well formed (R557). -/
def algRecordOk (r : List Byte) : Bool :=
  decide (1 ≤ getLe r 0 1 ∧ getLe r 0 1 ≤ 64 ∧ getLe r 1 1 < 2 ∧ 1 ≤ getLe r 2 2 ∧ getLe r 2 2 ≤ 1000) && getLe r 4 4 == 0 &&
  r.length == 8 + 8 * getLe r 0 1 &&
  (chunks 8 (getLe r 0 1) (r.drop 8)).all (fun e => decide (getLe e 0 1 ≤ 3 ∧ getLe e 1 1 ≤ 2) && getLe e 2 2 == 0)
/-- A power-cap profile is well formed (R527). -/
def profileOk (r : List Byte) : Bool :=
  r.length == 72 && decide (1500 ≤ getLe r 0 2 ∧ getLe r 0 2 ≤ 4400) && getLe r 2 6 == 0 &&
  (r.drop 8).all (fun b => decide (b.toNat ≤ 7 ∨ b.toNat = 0xFF))
/-- The value record of a kind is well formed. -/
def valueOk (kind : Nat) (r : List Byte) : Bool :=
  if kind = 0 then algRecordOk r else if kind = 1 then routeRecordOk r else profileOk r

def specModePrepare : CmdSpec := { op := 0x88, pfOnly := true, fields := [(8, 1), (9, 1), (12, 4), (16, 8), (24, 4)] }
/-- Kind, scope, length and value record. -/
def badModePrepare (c : Cmd) : Option Nat :=
  let n := pField c 24 4
  if 2 < pField c 8 1 then some 8 else if 2 < pField c 9 1 then some 9
  else if n = 0 ∨ 65536 < n ∨ (pField c 8 1 = 2 ∧ n ≠ 72) then some 24
  else if (hostData c).length ≠ n ∨ !valueOk (pField c 8 1) (hostData c) then some 16
  else none
/-- Target points 5 to 7 of a profile need expert rights (R527). -/
def needModePrepare (c : Cmd) : Option Nat :=
  if pField c 8 1 = 2 ∧ ((hostData c).drop 8).any (fun b => decide (5 ≤ b.toNat ∧ b.toNat ≤ 7)) then some 16 else none

/-- MODE.PREPARE's own rules (R526, R552, R554, R556). -/
def bodyModePrepare (c : Cmd) (id : Nat) (m : Module) : Module × Answer :=
  let kind := pField c 8 1
  let scope := pField c 9 1
  if !m.tierOk scope then (m, .refuse stNotPermitted 0)
  else if scope ≠ 0 ∧ !m.fabricOpen then (m, .refuse stNotReady 0)
  else if pField c 12 4 ≠ m.epochs.epoch then (m, .refuse stEpoch m.epochs.epoch)
  else if kind = 1 ∧ m.isLead then
    match m.planFor (hostData c) with
    | none => (m, .refuse stBadParam 16)
    | some plan =>
      if scope = 2 then (((m.planSelf plan).sendPlan plan).prepare kind scope (hostData c) false (some id), .later)
      else (m.prepare kind scope (hostData c) false (some id), .later)
  else (m.prepare kind scope (hostData c) false (some id), .later)
def doModePrepare (c : Cmd) (m : Module) : Module :=
  runCmd specModePrepare (badModePrepare c) (needModePrepare c) ([.epoch] ++ (if pField c 8 1 = 2 then [.power] else [])) none
    (.modePrepare c) c (bodyModePrepare c) m
def execModePrepare (c : Cmd) (s : State) : Host.Outcome State Fault Refusal := onCmd c (doModePrepare c) s

def specModeCommit : CmdSpec := { op := 0x89, pfOnly := true, fields := [(8, 1), (12, 4)] }
/-- MODE.COMMIT: a value of this kind that this module prepared and every module acknowledged, an epoch newer than every one
acknowledged (R526, R554). -/
def bodyModeCommit (c : Cmd) (id : Nat) (m : Module) : Module × Answer :=
  let e := pField c 12 4
  match m.stagedOf (pField c 8 1) with
  | none => (m, .refuse stBadParam 8)
  | some v =>
    if !v.mine ∨ v.cmd.isSome ∨ v.pausing.isSome then (m, .refuse stBadParam 8)
    else if !seqNewer e (m.newestAck v) ∨ !seqNewer e m.epochs.epoch then (m, .refuse stEpoch m.epochs.epoch)
    else (m.beginCommit v e (some id), .later)
def doModeCommit (c : Cmd) (m : Module) : Module :=
  runCmd specModeCommit (if 2 < pField c 8 1 then some 8 else none) none [] none (.modeCommit c) c (bodyModeCommit c) m
def execModeCommit (c : Cmd) (s : State) : Host.Outcome State Fault Refusal := onCmd c (doModeCommit c) s

def specModeAbort : CmdSpec := { op := 0x8A, pfOnly := true, fields := [(8, 1)] }
/-- MODE.ABORT discards the value this module prepared; a MODE.PREPARE that still waits for it ends as cancelled (R526). -/
def bodyModeAbort (c : Cmd) (_id : Nat) (m : Module) : Module × Answer :=
  match m.stagedOf (pField c 8 1) with
  | none => (m, .done stOk (d4 0))
  | some v => if v.mine then (m.dropPrepare v stCancelled [], .done stOk (d4 0)) else (m.unstage v.kind, .done stOk (d4 0))
def doModeAbort (c : Cmd) (m : Module) : Module :=
  runCmd specModeAbort (if 2 < pField c 8 1 then some 8 else none) none [] none (.modeAbort c) c (bodyModeAbort c) m
def execModeAbort (c : Cmd) (s : State) : Host.Outcome State Fault Refusal := onCmd c (doModeAbort c) s

def specModeQuery : CmdSpec := { op := 0x8B }
/-- MODE.QUERY: DEV_EPOCH and a mask of the kinds staged (R526). -/
def bodyModeQuery (_c : Cmd) (_id : Nat) (m : Module) : Module × Answer :=
  (m, .done stOk (d4 m.epochs.epoch ++ d4 (maskOf 3 (fun k => (m.stagedOf k).isSome))))
def doModeQuery (c : Cmd) (m : Module) : Module := runCmd specModeQuery none none [] none (.modeQuery c) c (bodyModeQuery c) m
def execModeQuery (c : Cmd) (s : State) : Host.Outcome State Fault Refusal := onCmd c (doModeQuery c) s

/-! ## FAB commands (R525, R565) -/

/-- Members as R565 counts them: a group manager's group, the lead manager's groups. -/
def Module.memberCount (m : Module) : Nat :=
  if m.isLead then ((m.others.map (fun d => d / 256)) ++ [0]).eraseDups.length
  else if m.isHead then (m.groupOthers m.group).length + 1 else 0

/-- A port as R565 lists it: 32 bytes. -/
def FabPort.rec565 (p : FabPort) : List Byte := packRec 32
  [⟨0, 1, p.state⟩, ⟨1, 1, if p.state = 2 then 8 else if p.state = 3 then 4 else 0⟩, ⟨2, 1, p.peerPort⟩, ⟨4, 2, p.peerId⟩,
   ⟨8, 8, p.corrected⟩, ⟨16, 4, min p.uncorr (2 ^ 32 - 1)⟩, ⟨20, 4, min p.replays (2 ^ 32 - 1)⟩, ⟨24, 4, p.retrains⟩]

/-- The record of FAB.QUERY. -/
def Module.fabRecord (m : Module) : List Byte :=
  let f := m.fab
  let flags := packBits [(0, 1, b2n m.bring.fabricReady), (1, 1, b2n f.managerLost), (2, 1, b2n f.acting),
    (3, 1, b2n (!m.epochs.staged.isEmpty)), (4, 1, b2n f.paused)]
  packRec 32 [⟨0, 2, m.ownId⟩, ⟨2, 1, f.role⟩, ⟨3, 1, f.roleConfig⟩, ⟨4, 2, f.manager⟩, ⟨6, 2, f.lead⟩, ⟨8, 2, m.memberCount⟩,
    ⟨10, 1, f.scheme⟩, ⟨11, 1, flags⟩, ⟨12, 4, m.epochs.algEpoch⟩, ⟨16, 4, m.epochs.routeEpoch⟩, ⟨20, 4, m.epochs.powerEpoch⟩,
    ⟨24, 8, f.admission⟩] ++
  (f.ports.map FabPort.rec565).flatten ++ (m.flight.holdReport ++ packRec 32 []).take 32 ++ packRec 64 []

def specFabQuery : CmdSpec := { op := 0x80, fields := [(8, 8), (16, 4)] }
/-- FAB.QUERY: the record, and on a manager the latest heartbeats of its members as far as the buffer holds them. -/
def bodyFabQuery (c : Cmd) (_id : Nat) (m : Module) : Module × Answer :=
  let beats := if m.isHead then (m.flight.heartbeats.filter (fun h => m.isLead || h.1 / 256 == m.group)).map (fun h => h.2) else []
  let r := m.fabRecord ++ (beats.take ((pField c 16 4 - 256) / 64)).flatten
  (m.toHost c r, .done stOk (d4 r.length))
def doFabQuery (c : Cmd) (m : Module) : Module :=
  runCmd specFabQuery (bufferBad c 256) none [] none (.fabQuery c) c (bodyFabQuery c) m
def execFabQuery (c : Cmd) (s : State) : Host.Outcome State Fault Refusal := onCmd c (doFabQuery c) s

def specFabRole : CmdSpec := { op := 0x81, pfOnly := true, expert := true, fields := [(8, 1)] }
/-- FAB.ROLE: the role for the next S9 or the next retraining of a port; the detail is the previous one. -/
def bodyFabRole (c : Cmd) (_id : Nat) (m : Module) : Module × Answer :=
  ({ m with fab := { m.fab with roleConfig := pField c 8 1 } }, .done stOk (d4 m.fab.roleConfig))
def doFabRole (c : Cmd) (m : Module) : Module :=
  runCmd specFabRole (if 2 < pField c 8 1 then some 8 else none) none [] none (.fabRole c) c (bodyFabRole c) m
def execFabRole (c : Cmd) (s : State) : Host.Outcome State Fault Refusal := onCmd c (doFabRole c) s

end Sys2Proof.Machine
end

