-- ==== Sys2Proof/Machine/Firmware.lean ====
section
/-! DEFINITION. Firmware images and microcode (R521 to R524, R563, R564): the FW commands, and the broadcast of an image slot over
the fabric. The result of a receiver's own signature check, and the versions an image carries, are free values. -/

namespace Sys2Proof.Machine

/-! ## CRC-32C -/

/-- One byte of CRC-32C, the Castagnoli polynomial in its reflected form. -/
def crcByte (c : BitVec 32) (b : Byte) : BitVec 32 :=
  let one (x : BitVec 32) : BitVec 32 := if x.getLsbD 0 then (x >>> 1) ^^^ 0x82F63B78#32 else x >>> 1
  one (one (one (one (one (one (one (one (c ^^^ b.setWidth 32))))))))
/-- CRC-32C of a byte list. -/
def crc32c (bs : List Byte) : Nat := ((bs.foldl crcByte (BitVec.allOnes 32)) ^^^ BitVec.allOnes 32).toNat

/-! ## Image slots (R521) -/

/-- Chunks of a slot: 2,048 of 4 KiB. -/
def slotChunks : Nat := 2048
/-- A slot; the inactive one. -/
def Module.slot (m : Module) (k : Nat) : Slot := nth {} m.bring.slots k
def Module.inactive (m : Module) : Nat := 1 - m.activeSlot
def Module.updSlot (m : Module) (k : Nat) (f : Slot → Slot) : Module :=
  { m with bring := { m.bring with slots := modNth m.bring.slots k f } }
/-- The bytes of a chunk: what was written, else what the factory left. -/
def Module.chunk (m : Module) (k i : Nat) : List Byte :=
  match SMap.get [] (m.slot k).chunks i with
  | [] => (List.range 4096).map (fun j => Config.factoryByte k (i * 4096 + j))
  | b => b
/-- A chunk is written into the inactive slot, whose valid bit is clear from then on; the images have changed (R458, R521). -/
def Module.putChunk (m : Module) (i : Nat) (b : List Byte) : Module :=
  let m1 := m.updSlot m.inactive (fun s => { s with valid := false, chunks := SMap.set [] s.chunks i b })
  { m1 with bring := { m1.bring with imagesChanged := true } }
/-- What the reserved area holds below the relocation row (R38), by slice offset: the save area as stored; the microcode copy; the
retired-page bitmap, and around it what the slice logs of itself. -/
def Module.areaByte (m : Module) (site off : Nat) : Byte :=
  let s := m.slice site
  if off < 0x1FC00000 then nth 0 (m.stored site (off / 2048) (off % 2048) 1) 0
  else if off < 0x1FE00000 then Config.microByte (m.core site).micro (off - 0x1FC00000)
  else
    let p := off - 0x1FE00000
    let b := Config.bitmapOff.val
    if b ≤ p ∧ p < b + 1008 then BitVec.ofNat 8 (maskOf 8 (fun i => decide (8 * (p - b) + i ∈ s.retiredPages)))
    else Config.sliceLogByte [s.state, s.strength, s.corrected, s.uncorrectable, s.scrubRow, s.passes] p

/-- A byte of the reserved area (R38): the relocation row is empty until a bank is retired, and then holds that bank's reserved rows
(R73). -/
def Module.reservedByte (m : Module) (site off : Nat) : Byte :=
  if off < 0x1FFE0000 then m.areaByte site off
  else match (m.slice site).retiredBank with
    | none => 0
    | some p =>
      let bank := (off / 2048) % 64
      if bank = p then 0
      else m.areaByte site (rowOff ((4032 + (if bank < p then bank else bank - 1)) * 64 + p) + off % 2048)

/-- A slot passes its check: valid, with the versions its image carries; those of a slot that was valid stand. -/
def Module.passSlot (m : Module) (k : Nat) : Module :=
  if (m.slot k).valid then m
  else
    let v (i : Nat) : Nat := (Config.freeWord (m.free + i)).toNat % 2 ^ 32
    ({ m with free := m.free + 3 }).updSlot k (fun s => { s with valid := true, moduleVer := v 0, deckVer := v 1, microVer := v 2 })
/-- A valid slot becomes the active one (R522). -/
def Module.activate (m : Module) (k : Nat) : Module :=
  if k = m.activeSlot then m else
    let m1 := m.setActive k
    { m1 with bring := { m1.bring with imagesChanged := true } }

/-! ## FW commands (R522) -/

def specFwQuery : CmdSpec := { op := 0x70, pfOnly := true, fields := [(8, 8), (16, 4)] }
/-- The 16 bytes of a slot in FW.QUERY. -/
def Slot.rec522 (s : Slot) : List Byte :=
  packRec 16 [⟨0, 1, b2n s.valid⟩, ⟨1, 1, b2n s.active⟩, ⟨4, 4, s.moduleVer⟩, ⟨8, 4, s.deckVer⟩, ⟨12, 4, s.microVer⟩]
/-- FW.QUERY's record. -/
def Module.fwRecord (m : Module) : List Byte :=
  (m.slot 0).rec522 ++ (m.slot 1).rec522 ++ packRec 32 [⟨0, 4, m.bring.runModule⟩, ⟨4, 4, m.bring.runDeck⟩, ⟨8, 4, m.bring.micro⟩]
def bodyFwQuery (c : Cmd) (_id : Nat) (m : Module) : Module × Answer := (m.toHost c m.fwRecord, .done stOk (d4 64))
def doFwQuery (c : Cmd) (m : Module) : Module := runCmd specFwQuery (bufferBad c 64) none [] none (.fwQuery c) c (bodyFwQuery c) m
def execFwQuery (c : Cmd) (s : State) : Host.Outcome State Fault Refusal := onCmd c (doFwQuery c) s

def specFwWrite : CmdSpec := { op := 0x71, pfOnly := true, fields := [(8, 8), (16, 4), (20, 4), (24, 4)] }
def badFwWrite (c : Cmd) : Option Nat :=
  let off := pField c 16 4
  let n := pField c 20 4
  if pField c 8 8 % 4096 ≠ 0 then some 8
  else if off % 4096 ≠ 0 ∨ 2 ^ 23 ≤ off then some 16
  else if n % 4096 ≠ 0 ∨ n = 0 ∨ 2 ^ 20 < n ∨ 2 ^ 23 < off + n then some 20
  else if (hostData c).length ≠ n then some 8
  else none
/-- FW.WRITE: a chunk whose CRC-32C agrees goes into the inactive slot. -/
def bodyFwWrite (c : Cmd) (_id : Nat) (m : Module) : Module × Answer :=
  let n := pField c 20 4
  if crc32c (hostData c) ≠ pField c 24 4 then (m, .refuse stBadImage 0)
  else
    let i := pField c 16 4 / 4096
    let bs := chunks 4096 (n / 4096) (hostData c)
    ((List.range bs.length).foldl (fun (a : Module) k => a.putChunk (i + k) (nth [] bs k)) m, .done stOk (d4 n))
def doFwWrite (c : Cmd) (m : Module) : Module :=
  runCmd specFwWrite (badFwWrite c) none [.slots] none (.fwWrite c) c (bodyFwWrite c) m
def execFwWrite (c : Cmd) (s : State) : Host.Outcome State Fault Refusal := onCmd c (doFwWrite c) s

def specFwVerify : CmdSpec := { op := 0x72, pfOnly := true, fields := [(8, 1)] }
/-- FW.VERIFY: whether the signature verifies is the operand. -/
def bodyFwVerify (c : Cmd) (sigOk : Bool) (_id : Nat) (m : Module) : Module × Answer :=
  let k := pField c 8 1
  if !sigOk then (m, .refuse stBadImage 0)
  else
    let m1 := m.passSlot k
    (m1, .done stOk (d4 (m1.slot k).moduleVer ++ d4 (m1.slot k).deckVer))
def doFwVerify (c : Cmd) (sigOk : Bool) (m : Module) : Module :=
  runCmd specFwVerify (if 1 < pField c 8 1 then some 8 else none) none [.slots] none (.fwVerify c sigOk) c (bodyFwVerify c sigOk) m
def execFwVerify (c : Cmd) (sigOk : Bool) (s : State) : Host.Outcome State Fault Refusal := onCmd c (doFwVerify c sigOk) s

def specFwActivate : CmdSpec := { op := 0x73, pfOnly := true, fields := [(8, 1), (9, 1)] }
/-- FW.ACTIVATE: a valid slot becomes active; now means a module reset with a full start, after the completion (R458). -/
def bodyFwActivate (c : Cmd) (id : Nat) (m : Module) : Module × Answer :=
  let k := pField c 8 1
  let old := m.activeSlot
  if !(m.slot k).valid then (m, .refuse stBadImage 0)
  else if pField c 9 1 = 0 then (m.activate k, .done stOk (d4 old))
  else
    let m1 := ((m.activate k).complete id stOk (d4 old)).cancelAll id
    (m1.moduleReset false 1, .later)
def doFwActivate (c : Cmd) (m : Module) : Module :=
  runCmd specFwActivate (if 1 < pField c 8 1 then some 8 else if 1 < pField c 9 1 then some 9 else none)
    (if pField c 9 1 = 1 then some 9 else none) [.slots] none (.fwActivate c) c (bodyFwActivate c) m
def execFwActivate (c : Cmd) (s : State) : Host.Outcome State Fault Refusal := onCmd c (doFwActivate c) s

/-! ## Microcode (R523, R564) -/

def specFwMicrocode : CmdSpec := { op := 0x74, pfOnly := true, expert := true, fields := [(8, 8), (16, 4), (20, 4)] }
def badFwMicrocode (c : Cmd) : Option Nat :=
  if pField c 8 8 % 4096 ≠ 0 then some 8
  else if pField c 16 4 = 0 ∨ 2 ^ 21 < pField c 16 4 then some 16
  else if (hostData c).length ≠ pField c 16 4 then some 8
  else none
/-- FW.MICROCODE: the new version at the next epoch; a core runs it from the first item created at or after that epoch on. The
operand lists the slices still incomplete after three rounds of repair: their cores are fenced. -/
def bodyFwMicrocode (c : Cmd) (sigOk : Bool) (version : Nat) (incomplete : List Nat) (_id : Nat) (m : Module) : Module × Answer :=
  if crc32c (hostData c) ≠ pField c 20 4 ∨ !sigOk then (m, .refuse stBadImage 0)
  else
    let usable := (m.mem.slices.filter (fun s => s.2.state != 2)).map (fun s => s.1)
    let bad := usable.filter (fun s => decide (s ∈ incomplete))
    let cores := bad.filter (fun s => (m.core s).enabled)
    let e := (m.epochs.epoch + 1) % 2 ^ 32
    let m1 := cores.foldl (fun (a : Module) s => a.fenceCore s stHwError) m
    let m2 := { m1 with
      epochs := { m1.epochs with epoch := e, microEpoch := e }, bring := { m1.bring with micro := version } }
    (m2, .done (if bad.isEmpty then stOk else stPartial) (d4 e ++ d4 (usable.length - bad.length) ++ d4 cores.length))
def doFwMicrocode (c : Cmd) (sigOk : Bool) (version : Nat) (incomplete : List Nat) (m : Module) : Module :=
  runCmd specFwMicrocode (badFwMicrocode c) none [.epoch, .slots] none (.fwMicrocode c sigOk version incomplete) c
    (bodyFwMicrocode c sigOk version incomplete) m
def execFwMicrocode (c : Cmd) (sigOk : Bool) (version : Nat) (incomplete : List Nat) (s : State) : Host.Outcome State Fault Refusal :=
  onModule (c.wf && decide (version < 2 ^ 32) && incomplete.all siteOk) (doFwMicrocode c sigOk version incomplete) s

/-! ## Broadcast: the sender (R524, R563) -/

/-- A chunk as FW_CHUNK: address its index, aux its CRC-32C, the tag the broadcast's number, step its scope. -/
def Module.chunkTrans (m : Module) (b : Broadcast) (dest i : Nat) : Trans :=
  let bytes := m.chunk b.slot i
  { m.trans 0x18 dest with tag := b.num, address := i, aux := crc32c bytes, step := b.scope, payload := bytes }
/-- Sends chunks to one module. -/
def Module.sendChunks (m : Module) (b : Broadcast) (dest : Nat) (is : List Nat) : Module :=
  is.foldl (fun (a : Module) i => a.sendTo (m.chunkTrans b dest i)) m
/-- Where a broadcast's first sending goes: scope 1 to the members, scope 2 to the members and the group managers. -/
def Module.castDests (m : Module) (scope : Nat) : List Nat := m.sendsTo scope

/-- Asks every receiver that is neither complete nor failed for its bitmap; one without a route has failed. -/
def Module.castPoll (m : Module) (b : Broadcast) : Module :=
  let ask (r : Nat × List Nat × Nat) : Nat × List Nat × Nat :=
    if r.2.2 = 1 ∨ r.2.2 = 2 then r else (r.1, r.2.1, if m.reaches r.1 then 3 else 2)
  let rs := b.receivers.map ask
  let m1 := { m with flight := { m.flight with tx := some { b with receivers := rs } } }
  m1.sendEach ((rs.filter (fun r => r.2.2 == 3)).map (fun r => r.1)) { m1.trans 0x2D 0 with address := b.num }

/-- The end: FW_COMMIT to the complete receivers, event 0x97 for every other, the completion with both counts. -/
def Module.castEnd (m : Module) (b : Broadcast) : Module :=
  let good := (b.receivers.filter (fun r => r.2.2 == 1)).map (fun r => r.1)
  let left := b.receivers.filter (fun r => r.2.2 != 1)
  let m1 := m.sendEach good { m.trans 0x2F 0 with address := b.num, step := b2n b.activate }
  let m2 := left.foldl (fun (a : Module) r => a.fabEvent 0x97 0xFF 0xFF r.1 0 0x18 0 0 0 r.2.1.length 0) m1
  let m3 := ({ m2 with flight := { m2.flight with tx := none } }).setCause .fab 6
  m3.complete b.cmd (if left.isEmpty then stOk else stPartial) (d4 good.length ++ d4 left.length)

/-- A round ends once every receiver polled has answered: repair for at most three rounds, then the commit. -/
def Module.castNext (m : Module) (b : Broadcast) : Module :=
  if b.receivers.any (fun r => r.2.2 == 3) then m
  else
    let todo := b.receivers.filter (fun r => r.2.2 == 0)
    if todo.isEmpty ∨ 3 ≤ b.round then m.castEnd b
    else
      let b1 := { b with round := b.round + 1 }
      (todo.foldl (fun (a : Module) r => a.sendChunks b1 r.1 r.2.1) m).castPoll b1

def specFwBroadcast : CmdSpec := { op := 0x75, pfOnly := true, fields := [(8, 1), (9, 1), (10, 1)] }
def badFwBroadcast (c : Cmd) : Option Nat :=
  if 1 < pField c 8 1 then some 8 else if pField c 9 1 = 0 ∨ 2 < pField c 9 1 then some 9 else if 1 < pField c 10 1 then some 10 else none
/-- FW.BROADCAST: a manager of the tier sends a valid slot. -/
def bodyFwBroadcast (c : Cmd) (id : Nat) (m : Module) : Module × Answer :=
  let scope := pField c 9 1
  if !m.tierOk scope then (m, .refuse stNotPermitted 0)
  else if !m.fabricOpen then (m, .refuse stNotReady 0)
  else if !(m.slot (pField c 8 1)).valid then (m, .refuse stBadImage 0)
  else
    let b : Broadcast :=
      { num := m.flight.nextOp, slot := pField c 8 1, scope := scope, activate := pField c 10 1 == 1, cmd := id, round := 0,
        receivers := (m.inScope scope).map (fun d => (d, List.range slotChunks, 0)) }
    let m1 := { m with flight := { m.flight with nextOp := (m.flight.nextOp + 1) % 2 ^ 32, tx := some b } }
    let m2 := (m1.castDests scope).foldl (fun (a : Module) d => a.sendChunks b d (List.range slotChunks)) m1
    let m3 := m2.castPoll b
    (m3.castNext (m3.flight.tx.getD b), .later)
def doFwBroadcast (c : Cmd) (m : Module) : Module :=
  runCmd specFwBroadcast (badFwBroadcast c) none [.slots] none (.fwBroadcast c) c (bodyFwBroadcast c) m
def execFwBroadcast (c : Cmd) (s : State) : Host.Outcome State Fault Refusal := onCmd c (doFwBroadcast c) s

/-- FW_BITMAP: a receiver's bitmap and report; the round ends with the last. -/
def doFwBitmap (_port : Nat) (t : Trans) (m : Module) : Module :=
  match m.flight.tx with
  | none => m
  | some b =>
    if t.address ≠ b.num then m
    else
      let got := leNat (t.payload.take 256)
      let missing := (List.range slotChunks).filter (fun i => !bitOf got i)
      let note (r : Nat × List Nat × Nat) : Nat × List Nat × Nat :=
        if r.1 = t.src ∧ r.2.2 = 3 then (r.1, missing, if t.step = 1 then 1 else if t.step = 2 then 2 else 0) else r
      let b1 := { b with receivers := b.receivers.map note }
      ({ m with flight := { m.flight with tx := some b1 } }).castNext b1
def execFwBitmap (port : Nat) (t : Trans) (s : State) : Host.Outcome State Fault Refusal := onTrans port t 0x2E (doFwBitmap port t) s

/-! ## Broadcast: the receiver (R563) -/

/-- A receiver begins a new broadcast with an empty bitmap. -/
def Module.castBegin (m : Module) (src num : Nat) : Module :=
  if m.flight.rxFrom = (src, num + 1) then m
  else { m with flight := { m.flight with rxFrom := (src, num + 1), rxBitmap := [], rxState := 0 } }

/-- FW_CHUNK: a group manager passes it on to its members; a good chunk goes into the inactive slot unless the slots are claimed,
and the last one brings the check. -/
def doFwChunkTransaction (_port : Nat) (t : Trans) (m : Module) : Module :=
  let m0 := if t.step = 2 ∧ m.isHead ∧ !m.isLead then (m.groupOthers m.group).foldl (fun (a : Module) d => a.sendTo { t with dest := d }) m
    else m
  if !m0.claimsFree [.slots] ∨ slotChunks ≤ t.address ∨ t.payload.length ≠ 4096 ∨ crc32c t.payload ≠ t.aux then m0
  else
    let m1 := m0.castBegin t.src t.tag
    if m1.flight.rxState ≠ 0 then m1
    else
      let m2 := m1.putChunk t.address t.payload
      let got := insertNew t.address m2.flight.rxBitmap
      let m3 := { m2 with flight := { m2.flight with rxBitmap := got } }
      if got.length < slotChunks then m3
      else
        let ok := (Config.freeWord m3.free).toNat % 2 == 0
        { m3 with free := m3.free + 1, flight := { m3.flight with rxState := if ok then 1 else 2 } }
def execFwChunkTransaction (port : Nat) (t : Trans) (s : State) : Host.Outcome State Fault Refusal :=
  onTrans port t 0x18 (doFwChunkTransaction port t) s

/-- FW_POLL: the receiver answers with its bitmap and its report. -/
def doFwPoll (_port : Nat) (t : Trans) (m : Module) : Module :=
  let mine := m.flight.rxFrom = (t.src, t.address + 1)
  let f := m.flight
  let step := if mine then f.rxState else 0
  let bits := if mine then maskOf slotChunks (fun i => decide (i ∈ f.rxBitmap)) else 0
  m.sendControl { m.trans 0x2E t.src with address := t.address, step := step, payload := leBytes 256 bits }
def execFwPoll (port : Nat) (t : Trans) (s : State) : Host.Outcome State Fault Refusal := onTrans port t 0x2D (doFwPoll port t) s

/-- FW_COMMIT: a complete receiver's inactive slot is valid, and active if the broadcast activates. -/
def doFwCommit (_port : Nat) (t : Trans) (m : Module) : Module :=
  if m.flight.rxFrom = (t.src, t.address + 1) ∧ m.flight.rxState = 1 then
    let k := m.inactive
    let m1 := m.passSlot k
    let m2 := if t.step = 1 then m1.activate k else m1
    { m2 with flight := { m2.flight with rxFrom := (0, 0), rxBitmap := [], rxState := 0 } }
  else m
def execFwCommit (port : Nat) (t : Trans) (s : State) : Host.Outcome State Fault Refusal := onTrans port t 0x2F (doFwCommit port t) s

end Sys2Proof.Machine
end

