-- ==== Sys2Proof/Machine/Commands.lean ====
section
/-! DEFINITION. The DEV, TEST, TEL and ERR commands and CAL.BRIDGE (R328, R510, R517 to R520, R528, R529, R606). -/

namespace Sys2Proof.Machine

/-! ## DEV (R328, R510, R517) -/

def specDevNop : CmdSpec := { op := 0x00 }
/-- DEV.NOP: DEV_EPOCH. -/
def bodyDevNop (_c : Cmd) (_id : Nat) (m : Module) : Module × Answer := (m, .done stOk (d4 m.epochs.epoch))
def doDevNop (c : Cmd) (m : Module) : Module := runCmd specDevNop none none [] none (.devNop c) c (bodyDevNop c) m
def execDevNop (c : Cmd) (s : State) : Host.Outcome State Fault Refusal := onCmd c (doDevNop c) s

/-- DEV.IDENTIFY's record. -/
def Module.identRecord (m : Module) : List Byte := packRec 128
  [⟨0, 8, m.devIdent.toNat⟩, ⟨8, 8, m.devRevision.toNat⟩, ⟨16, 8, m.devCores.toNat⟩, ⟨24, 1, m.bring.grade⟩, ⟨25, 1, m.decksInService⟩,
   ⟨26, 2, m.orphanSlices⟩, ⟨28, 2, m.ownId⟩, ⟨30, 1, m.fab.role⟩, ⟨32, 16, Config.serial.toNat⟩, ⟨48, 4, m.bring.runModule⟩,
   ⟨52, 4, m.bring.runDeck⟩, ⟨56, 4, m.bring.micro⟩, ⟨60, 1, m.activeSlot⟩, ⟨64, 4, m.epochs.epoch⟩, ⟨68, 2, m.power.limit⟩]
def specDevIdentify : CmdSpec := { op := 0x01, fields := [(8, 8), (16, 4)] }
def bodyDevIdentify (c : Cmd) (_id : Nat) (m : Module) : Module × Answer := (m.toHost c m.identRecord, .done stOk (d4 128))
def doDevIdentify (c : Cmd) (m : Module) : Module :=
  runCmd specDevIdentify (bufferBad c 128) none [] none (.devIdentify c) c (bodyDevIdentify c) m
def execDevIdentify (c : Cmd) (s : State) : Host.Outcome State Fault Refusal := onCmd c (doDevIdentify c) s

/-- Replaces the expert rights; DEV_CONTROL.expert_window ends with the physical function's (R510). -/
def Module.setRights (m : Module) (r : Nat) : Module :=
  { m with engine := { m.engine with rights := r, expertWindow := m.engine.expertWindow && bitOf r 0 } }
def specDevExpert : CmdSpec := { op := 0x02, pfOnly := true, early := true, fields := [(8, 8), (16, 1)] }
/-- DEV.EXPERT: grants or revokes; the detail is the previous mask. -/
def bodyDevExpert (c : Cmd) (_id : Nat) (m : Module) : Module × Answer :=
  let old := m.engine.rights
  let f := pField c 8 8
  (m.setRights (if pField c 16 1 = 0 then old ||| f else w1c old f), .done stOk (d8 old))
def doDevExpert (c : Cmd) (m : Module) : Module :=
  runCmd specDevExpert (if 1 < pField c 16 1 then some 16 else none) none [] none (.devExpert c) c (bodyDevExpert c) m
def execDevExpert (c : Cmd) (s : State) : Host.Outcome State Fault Refusal := onCmd c (doDevExpert c) s

/-- The network status record (R328). -/
def Module.netRecord (m : Module) : List Byte :=
  let live := (List.range Config.bridges).flatMap (fun b => leBytes 2 (maskOf 16 (m.groupUp b)))
  let down := leBytes 2 (maskOf Config.bridges m.bridgeDown)
  let fenced := leBytes 80 (maskOf Config.clusters (fun c => (m.cl c).routerFenced))
  let trees := (List.range Config.decks).flatMap (fun d => leBytes 1 (maskOf 8 (fun t => (m.tree d t).isSome)))
  live ++ down ++ leBytes 4 m.clocks.halfSlow ++ fenced ++ trees ++ packRec 6 []
def specDevNetQuery : CmdSpec := { op := 0x0C, fields := [(8, 8)] }
def bodyDevNetQuery (c : Cmd) (_id : Nat) (m : Module) : Module × Answer := (m.toHost c m.netRecord, .done stOk [])
def doDevNetQuery (c : Cmd) (m : Module) : Module :=
  runCmd specDevNetQuery (if c.hostOut then none else some 8) none [] none (.devNetQuery c) c (bodyDevNetQuery c) m
def execDevNetQuery (c : Cmd) (s : State) : Host.Outcome State Fault Refusal := onCmd c (doDevNetQuery c) s

/-! ## TEST.MEMORY (R518) -/

/-- Slices a TEST.MEMORY covers: one, or every usable one of the partition. -/
def Module.testSlices (m : Module) (c : Cmd) : List Nat :=
  if pField c 8 2 = 0xFFFF then m.slicesOfPart (cmdPart c) else [pField c 8 2]
/-- The site is one of the partition's; at most eight backgrounds. -/
def badTestMemory (c : Cmd) (m : Module) : Option Nat :=
  let s := pField c 8 2
  if s ≠ 0xFFFF ∧ (Config.sites ≤ s ∨ (m.cl (clusterOf s)).owner ≠ some (cmdPart c)) then some 8
  else if 8 < pField c 10 1 then some 10 else none
/-- Claims of both tests on a partition (R511). -/
def testClaims (n : Nat) (more : List Claim) : List Claim := [.partition n, .tables n, .record] ++ more

/-- Rows of a slice the test leaves alone: the reserved area, the rows of a retired bank, which lie in donor rows, retired pages,
pages of the table pool. -/
def Module.testKeeps (m : Module) (part a : Nat) : Bool :=
  offReserved (offOfAddr a) || (m.slice (siteOfAddr a)).retiredBank == some (offOfAddr a / 2048 % 64) ||
    decide (offOfAddr a / 65536 ∈ (m.slice (siteOfAddr a)).retiredPages) || inPool (m.part part) a 1
/-- A slice after the test: zeros at the partition's strength, poison cleared; what waited for its rows is gone. -/
def Module.testWipe (m : Module) (part site : Nat) : Module :=
  let gone (a : Nat) : Bool := siteOfAddr a == site && !m.testKeeps part a
  let rows := (m.slice site).pendingRows.filter (fun r => gone (rowAddr site r))
  let m1 := rows.foldl (fun (a : Module) r => a.updSlice site (fun s => s.forget r)) m
  { m1 with mem := { m1.mem with
      bytes := m1.mem.bytes.filter (fun c => !gone c.1), meta_ := m1.mem.meta_.filter (fun p => !gone (p.1 * 2048)),
      slices := SMap.upd {} m1.mem.slices site (fun s =>
        { s with undef := s.undef / 256 * 256, strength := (m.part part).strength, filled := part }) } }

/-- Failing pages of a slice by the test's findings. -/
def failPages (site : Nat) (fs : List CellFail) : List (Nat × Nat) :=
  ((fs.filter (fun f => f.site == site && decide (f.row < 4032))).map (fun f => (f.bank, cellPage f))).eraseDups
/-- A slice leaves service in a test (R20, R465). -/
def Module.testLoses (m : Module) (site : Nat) : Module :=
  let m1 := m.memEvent 0x06 site 0 0 0 0
  (if m1.recordRoom 2 then m1.recordUnit .slice site 0 0x06 else m1).loseSlice site stFenced
/-- A page is retired in a test; one the record cannot hold costs the slice (R465). -/
def Module.testPage (m : Module) (site page : Nat) : Module :=
  if (m.slice site).state = 2 ∨ page ∈ (m.slice site).retiredPages then m
  else if !m.recordRoom 3 then m.testLoses site
  else
    let off := page * 65536
    let m1 := m.updSlice site (fun s => { s with retiredPages := s.retiredPages ++ [page] })
    ((m1.memEvent 0x0B site off 0 0 0).recordUnit .page site (devAddr site off) 0x0B).setCause .mem 9
/-- A bank with more than 16 failing pages is retired, or the slice where it has a retired bank already (R465). -/
def Module.testBank (m : Module) (site bank : Nat) : Module :=
  let s := m.slice site
  if s.state = 2 ∨ s.retiredBank = some bank then m
  else if s.retiredBank.isSome ∨ !m.recordRoom 4 then m.testLoses site
  else
    let m1 := (m.loseDonors site bank).updSlice site (fun s => { s with retiredBank := some bank, failedUnits := s.failedUnits.filter (· != bank) })
    ((m1.memEvent 0x0C site (rowOffset bank 0) 0 0 0).recordUnit .bank (bank * 65536 + site) 4032 0x0C).setCause .mem 9
/-- The findings at one slice act as R465 has it. -/
def Module.testFinds (m : Module) (fs : List CellFail) (site : Nat) : Module :=
  let ps := (failPages site fs).filter (fun p => !(p.2 ∈ (m.slice site).retiredPages))
  let banks := (ps.map (fun p => p.1)).eraseDups
  banks.foldl (fun (a : Module) b =>
    let mine := ps.filter (fun p => p.1 == b)
    let a1 := mine.foldl (fun (x : Module) p => x.testPage site p.2) a
    if 16 < mine.length then a1.testBank site b else a1) m

def specTestMemory : CmdSpec := { op := 0x60, target := true, queued := true, fields := [(8, 2), (10, 1)] }
/-- TEST.MEMORY: the failing cells are the operand. -/
def bodyTestMemory (c : Cmd) (fails : List CellFail) (_id : Nat) (m : Module) : Module × Answer :=
  let n := cmdPart c
  whenLive n m (
    let ss := m.testSlices c
    if ss.any (fun s => (m.slice s).state == 2) then (m, .refuse stFenced 0)
    else if ss.any (fun s => (List.range 4).any (fun g => m.held (stackOfSite s * 4 + g))) then (m, .refuse stThermalHold 0)
    else
      let m1 := ss.foldl (fun (a : Module) s => a.testWipe n s) m
      let m2 := ss.foldl (fun (a : Module) s => a.testFinds fails s) m1
      match m2.tablesFollow (some n) with
      | .error (.status st) => (m, .refuse st 0)
      | .error .again => (m, .again)
      | .ok x =>
        let count (f : Slice → Nat) : Nat := (ss.map (fun s => f (x.slice s) - f (m.slice s))).foldl (· + ·) 0
        (x.checkPool n, .done stOk (d4 (count (fun s => s.retiredPages.length)) ++ d4 (count (fun s => b2n s.retiredBank.isSome)) ++
          d4 (count (fun s => b2n (s.state == 2))))))
def doTestMemory (c : Cmd) (fails : List CellFail) (m : Module) : Module :=
  runCmd specTestMemory (badTestMemory c m) none (testClaims (cmdPart c) ((m.testSlices c).map Claim.slice)) (some (cmdPart c))
    (.testMemory c fails) c (bodyTestMemory c fails) m
def execTestMemory (c : Cmd) (fails : List CellFail) (s : State) : Host.Outcome State Fault Refusal :=
  onModule (c.wf && fails.all CellFail.wf) (doTestMemory c fails) s

/-! ## TEST.KNOWN_ANSWER (R519) -/

/-- The engines tested: 0 selects all. -/
def testEngines (c : Cmd) : Nat := if pField c 8 1 = 0 then 31 else pField c 8 1
/-- The engine a finding comes from (R457, R468). -/
def findingEngine (f : Finding) : Nat :=
  match f.kind with | .arrayHalf => 0 | .bankUnit => 3 | .router => 4 | _ => if f.cause = 0x0076 then 2 else 1
/-- The site or cluster of a finding lies in the partition, and its unit is in service. -/
def Module.testUnit (m : Module) (n : Nat) (f : Finding) : Bool :=
  let own (c : Nat) : Bool := (m.cl c).owner == some n
  match f.kind with
  | .arrayHalf => own (clusterOf (f.unit / 2)) && (m.core (f.unit / 2)).enabled && !((m.core (f.unit / 2)).half (f.unit % 2)).fenced
  | .core => own (clusterOf f.unit) && (m.core f.unit).enabled
  | .bankUnit =>
    let s := f.unit % 65536
    own (clusterOf s) && (m.slice s).state != 2 && (m.slice s).retiredBank.isNone && !(f.unit / 65536 ∈ (m.slice s).failedUnits)
  | .router => own f.unit && !(m.cl f.unit).routerFenced
  | _ => false
/-- A unit that fails is recorded and leaves service (R4, R468). DESIGN CHOICE: a core or a half is recorded with the cause of its
check, since R80 names an event's type for a unit that fails in service and no event accompanies this one. -/
def Module.kaFails (m : Module) (f : Finding) : Module :=
  match f.kind with
  | .router => m.fenceRouter f.unit
  | .bankUnit =>
    let m1 := m.memEvent 0x10 (f.unit % 65536) (rowOffset (f.unit / 65536) 4095) 0 3 0
    (m1.recordUnit .bankUnit f.unit 0 0x10).failUnit f stHwError
  | k => (m.addRecord ⟨UnitKind.code k, 1, f.cause, f.unit, 0⟩).failUnit f stHwError

def specTestKnownAnswer : CmdSpec := { op := 0x61, target := true, queued := true, fields := [(8, 1), (9, 1)] }
/-- TEST.KNOWN_ANSWER: the units that fail are the operand. -/
def bodyTestKnownAnswer (c : Cmd) (fails : List Finding) (_id : Nat) (m : Module) : Module × Answer :=
  let n := cmdPart c
  let e := testEngines c
  whenLive n m (
    if bitOf e 4 ∧ (m.decksOf n).any (fun d => (m.tree d (pField c 9 1)).isSome) then (m, .refuse stBusy 0)
    else
      let fs := fails.filter (fun f => bitOf e (findingEngine f) && m.testUnit n f)
      let kinds (k : UnitKind) : List Finding := fs.filter (fun f => f.kind == k)
      let skipped := if bitOf e 3 then (m.slicesOfPart n).filter (fun s => (m.slice s).retiredBank.isSome) else []
      let cores := if e = 8 then [] else m.coresOfPart n
      let m1 := fs.foldl (fun (a : Module) f => if a.testUnit n f then a.kaFails f else a) m
      let pairs := ((kinds .arrayHalf).map (fun f => f.unit / 2)).eraseDups.filter (fun s => (m1.core s).fenced)
      (m1.zeroPads cores, .done (if skipped.isEmpty then stOk else stPartial)
        (d4 (((kinds .core).map (fun f => f.unit)) ++ pairs).eraseDups.length ++ d4 (kinds .arrayHalf).length ++
          d4 (kinds .bankUnit).length ++ d4 (kinds .router).length ++ d4 skipped.length)))
def doTestKnownAnswer (c : Cmd) (fails : List Finding) (m : Module) : Module :=
  let n := cmdPart c
  let trees := if bitOf (testEngines c) 4 then (m.decksOf n).map (fun d => Claim.tree d (pField c 9 1)) else []
  runCmd specTestKnownAnswer (if 31 < pField c 8 1 then some 8 else if 7 < pField c 9 1 then some 9 else none) none (testClaims n trees)
    (some n) (.testKnownAnswer c fails) c (bodyTestKnownAnswer c fails) m
def execTestKnownAnswer (c : Cmd) (fails : List Finding) (s : State) : Host.Outcome State Fault Refusal :=
  onModule (c.wf && findingsOf 7 fails) (doTestKnownAnswer c fails) s

/-! ## CAL.BRIDGE (R520) -/

/-- Lanes that fail the retraining, by the bits of the operand: 0 to 33 in direction 0, 34 to 67 in direction 1. -/
def Module.calLanes (m : Module) (b g failed : Nat) : Module :=
  (maskList failed 68).foldl (fun (a : Module) i => doLaneFailure b g (i / 34) (i % 34) a) m
def specCalBridge : CmdSpec := { op := 0x6B, pfOnly := true, expert := true, fields := [(8, 1), (9, 1)] }
/-- CAL.BRIDGE retrains one lane group in both directions; GROUP_RETRAIN_DONE completes it. -/
def bodyCalBridge (c : Cmd) (failed id : Nat) (m : Module) : Module × Answer :=
  let b := pField c 8 1
  let g := pField c 9 1
  if !m.groupUp b g ∨ m.bridgeDown b then (m, .refuse stFenced 0)
  else calGate m (
    let m1 := m.reroute (fun x => (x.updGroup b 0 g (fun q => { q with retraining := true })).updGroup b 1 g (fun q => { q with retraining := true }))
    ((m1.calLanes b g failed).updCmd id (fun s => { s with info := [b, g] }), .later))
def doCalBridge (c : Cmd) (failed : Nat) (m : Module) : Module :=
  runCmd specCalBridge (if Config.bridges ≤ pField c 8 1 then some 8 else if 15 < pField c 9 1 then some 9 else none) none
    [.group (pField c 8 1) (pField c 9 1), .record] none (.calBridge c failed) c (bodyCalBridge c failed) m
def execCalBridge (c : Cmd) (failed : Nat) (s : State) : Host.Outcome State Fault Refusal :=
  onModule (c.wf && decide (failed < 2 ^ 68)) (doCalBridge c failed) s

/-! ## TEL and ERR (R528, R529, R606) -/

def specTelSnapshot : CmdSpec := { op := 0x90, early := true, fields := [(8, 8), (16, 4)] }
def bodyTelSnapshot (c : Cmd) (_id : Nat) (m : Module) : Module × Answer := (m.toHost c m.snapshot, .done stOk (d4 64))
def doTelSnapshot (c : Cmd) (m : Module) : Module :=
  runCmd specTelSnapshot (bufferBad c 64) none [] none (.telSnapshot c) c (bodyTelSnapshot c) m
def execTelSnapshot (c : Cmd) (s : State) : Host.Outcome State Fault Refusal := onCmd c (doTelSnapshot c) s

def specErrRead : CmdSpec := { op := 0x98, early := true, fields := [(8, 8), (16, 4), (20, 4)] }
def badErrRead (c : Cmd) : Option Nat := if pField c 16 4 % 64 ≠ 0 then some 16 else bufferBad c 64
/-- The entries a function may read from a sequence number on. -/
def Log.from_ (l : Log) (fn first : Nat) : List Entry :=
  l.entries.filter (fun e => seqGe e.seq first && (fn == 0 || e.part == fn))
/-- ERR.READ: as many entries as the buffer holds. -/
def bodyErrRead (c : Cmd) (_id : Nat) (m : Module) : Module × Answer :=
  let es := (m.log.from_ c.fn (pField c 20 4)).take (pField c 16 4 / 64)
  let next := match es.getLast? with | some e => nextSeqNo e.seq | none => pField c 20 4
  (if es.isEmpty then m else m.toHost c (es.flatMap Entry.bytes), .done stOk (d4 es.length ++ d4 next ++ d4 m.log.oldest))
def doErrRead (c : Cmd) (m : Module) : Module := runCmd specErrRead (badErrRead c) none [] none (.errRead c) c (bodyErrRead c) m
def execErrRead (c : Cmd) (s : State) : Host.Outcome State Fault Refusal := onCmd c (doErrRead c) s

def specErrAck : CmdSpec := { op := 0x99, pfOnly := true, early := true, fields := [(8, 4)] }
/-- A number newer than the newest written. -/
def badErrAck (c : Cmd) (m : Module) : Option Nat :=
  let n := pField c 8 4
  if n ≠ 0 ∧ seqNewer n m.log.newest then some 8 else none
/-- The acknowledgement moves the mark: a number newer than the last one acknowledged, or the first one named that was issued. -/
def Log.moves (l : Log) (n : Nat) : Bool :=
  n != 0 && (if l.ackedOnce then seqNewer n l.acked else seqGe n l.oldest || decide (n ≤ l.newest))
/-- ERR.ACK (R606). -/
def bodyErrAck (c : Cmd) (_id : Nat) (m : Module) : Module × Answer :=
  let n := pField c 8 4
  let m1 := if m.log.moves n then { m with log := { m.log with acked := n, ackedOnce := true } } else m
  (m1, .done stOk (d4 m.log.acked))
def doErrAck (c : Cmd) (m : Module) : Module := runCmd specErrAck (badErrAck c m) none [] none (.errAck c) c (bodyErrAck c) m
def execErrAck (c : Cmd) (s : State) : Host.Outcome State Fault Refusal := onCmd c (doErrAck c) s

/-- An entry of a type about a unit, as the family's chapter lays it out (R598). -/
def Module.injected (m : Module) (e u : Nat) : Module :=
  if e ≤ 0x11 then m.memEvent e u 0 0 0 0
  else if e ≤ 0x25 then m.padEvent e (clsOf e) u 0 0 0 0 0 0
  else if 0x35 ≤ e ∧ e ≤ 0x38 ∨ e = 0x3C then m.netEvent e 0 0xFF 0xFF u 0xFF 0xFF 0 0xFF 0 0 0 0 0xFFFF 0xFFFF
  else if e ≤ 0x3C then m.netEvent e (u / 64) (u % 64) 0xFF 0xFF 0xFF 0xFF 0 0xFF 0 0 0 0 0xFFFF 0xFFFF
  else if e ≤ 0x48 then m.prtEvent e (u % 64) 0 (u % 64) 0xFFFF 0 0 0xFFFF 0
  else if e ≤ 0x59 then m.sensorEvent e u 0
  else if e = 0x60 ∨ e = 0x61 then m.powerEvent e u 0xFFFF 0 0 0 0 0
  else if e ≤ 0x68 then m.powerEvent e 0xFF u 0 0 0 0 0
  else if e ≤ 0x75 then m.clockEvent e 0 (u / 64) u 0 0 0
  else if e ≤ 0x85 then m.bringEvent e 0 0xFF 2 u 0
  else if e ≤ 0x9C then m.fabEvent e 0xFF u 0xFFFF 0 0 0 0 0 0 0
  else if e = 0xA0 then m.detect (clsOf e) e (m.partAt (clusterOf u)) [u, 0, 0] [⟨48, 2, u⟩, ⟨56, 8, 2 ^ 64 - 1⟩]
  else m.hostEvent e 0xFF u 0xFF 0 0 0 0
/-- Marks the entry detected last as injected. -/
def Log.markInjected (l : Log) : Log :=
  { l with pend := match l.pend.getLast? with | some e => l.pend.dropLast ++ [{ e with flags := setBit e.flags 0 true }] | none => [] }

def specErrInject : CmdSpec := { op := 0x9A, pfOnly := true, expert := true, early := true, fields := [(8, 1), (10, 2)] }
/-- ERR.INJECT: an entry of a type some chapter defines is written, with its interrupts; nothing else happens. -/
def bodyErrInject (c : Cmd) (_id : Nat) (m : Module) : Module × Answer :=
  let m1 := m.logAll.injected (pField c 8 1) (pField c 10 2)
  let m2 := ({ m1 with log := m1.log.markInjected }).logAll
  (m2, .done stOk (d4 m2.log.newest))
def doErrInject (c : Cmd) (m : Module) : Module :=
  runCmd specErrInject (if (eventClass (pField c 8 1)).isNone then some 8 else none) none [] none (.errInject c) c (bodyErrInject c) m
def execErrInject (c : Cmd) (s : State) : Host.Outcome State Fault Refusal := onCmd c (doErrInject c) s

end Sys2Proof.Machine
end

