-- ==== Sys2Proof/Machine/HostMem.lean ====
section
/-! DEFINITION. Requests of the host to BAR2 and BAR4, their order, configuration requests (chapter 16: R477 to R484, R499). -/

namespace Sys2Proof.Machine

/-! ## Order and completions (R119, R484) -/

/-- A posted write of the function, received before request `id`, that waits for a route or that its slice controller has not
accepted. -/
def Module.postedBefore (m : Module) (fn id : Nat) : Bool :=
  m.mem.slices.any (fun p => p.2.waiting.any (fun w => w.req.write && match w.req.src with | .host f k => f == fn && decide (k < id) | _ => false)) ||
  m.net.heldCmds.any (fun h => decide (h.1 ≤ id) && match h.2 with
    | .bar2Write f _ _ => f == fn | .bar4Write f _ _ => f == fn | .poisonedTlpWrite f _ _ _ => f == fn | _ => false)

/-- A read with all its pieces, and with no earlier posted write of its function still waiting, may return. -/
def Module.readReady2 (m : Module) (h : HostRead) : Bool :=
  h.pieces.all (fun p => p.2.isSome) && !m.postedBefore h.fn ((h.pieces.map (·.1)).headD 0)

/-- Reads of a function that are complete return, oldest first. -/
def Module.returnReads (m : Module) (fn : Nat) : Module :=
  let go := m.port.reads.filter (fun h => h.fn == fn && m.readReady2 h)
  let m1 := { m with port := { m.port with reads := m.port.reads.filter (fun h => !(h.fn == fn && m.readReady2 h)) } }
  go.foldl (fun (acc : Module) h =>
    acc.answer (.readData fn (((h.pieces.flatMap (fun p => p.2.getD [])).drop h.skip).take h.len) h.ep)) m1

/-- Data that are ready now return as soon as the earlier posted writes of the function allow (R119). -/
def Module.hostReply (m : Module) (fn : Nat) (data : List Byte) (ep : Bool) : Module :=
  let id := m.port.nextId
  let h : HostRead := ⟨fn, 0, data.length, [(id, some data)], ep⟩
  ({ m with port := { m.port with nextId := id + 1, reads := m.port.reads ++ [h] } }).returnReads fn

/-- `n` bytes of ones. -/
def ones (n : Nat) : List Byte := List.replicate n 0xFF

/-- A refused read and a refused write: all ones or dropped, and a host access error (R8, R16, R472, R483). -/
def Module.refuseRead (m : Module) (fn bar off len : Nat) : Module := (m.accessError fn bar off len).hostReply fn (ones len) false
def Module.refuseWrite (m : Module) (fn bar off len : Nat) : Module := m.accessError fn bar off len

/-- What stands before every BAR request (R472, R499): no request arrives while the link is down; before configuration space
answers, without Memory Space Enable, in D3hot or to a function that is not there it receives Unsupported Request. -/
def Module.onBar (m : Module) (fn : Nat) (f : Module → Module) : Module :=
  if m.port.perst ∨ !m.port.linkUp then m
  else if !m.port.cfgReady ∨ m.port.numVfs < fn ∨ !(m.func fn).memSpace ∨ (m.func fn).d3hot then m.answer (.unsupported fn)
  else f m

/-- A target cannot be reached now, or at all, from the attachment that bit [8] of the address chooses (R32, R318). -/
def Module.hostWaits (m : Module) (site a : Nat) : Bool := !m.noWay (hostEnd a) site && !m.mayLeave (hostEnd a) site
def Module.hostLost (m : Module) (site a : Nat) : Bool := m.noWay (hostEnd a) site
/-- The entry about a host request that no route carries (R483). -/
def Module.hostLoss (m : Module) (site a : Nat) : Module := m.lossEvent (endCluster (hostEnd a)) (hostEnd a) site a

/-! ## BAR2 (R14 to R16, R479, R482, R483) -/

/-- The function's BAR2 size and window base; base bits below the size are ignored (R480). -/
def Module.bar2Size (m : Module) (fn : Nat) : Nat := if fn = 0 then m.port.bar2Size else m.port.vfBar2Size
def Module.bar2Base (m : Module) (fn : Nat) : Nat := (m.func fn).window / max (m.bar2Size fn) 1 * m.bar2Size fn

/-- Cuts `n` bytes from address `a` at multiples of `u`. -/
def cut (u : Nat) : Nat → Nat → Nat → List (Nat × Nat)
  | 0, _, _ => []
  | k + 1, a, n => if n = 0 then [] else
    let l := min n (u - a % u)
    (a, l) :: cut u k (a + l) (n - l)
/-- All of a request's parts. -/
def cuts (u a n : Nat) : List (Nat × Nat) := cut u (n / u + 2) a n

/-- What a host address comes to: a device address, an undecoded or closed target, a retired page, a translation fault, a
poisoned table entry. -/
inductive Hit where
  | ok (pa : Nat)
  | closed
  | retired (pa : Nat)
  | fault (cause : Nat) (bad : Option Nat)
  | poison (at_ : Nat)
deriving DecidableEq, Repr

/-- Where the first poisoned entry or record of a walk stands. -/
def Module.poisonAt (m : Module) (va : Nat) : Nat → Nat → Nat
  | l, node =>
    let ea := entryAddr node l va
    let e := leNat (m.readMemBytes ea 8)
    if m.readPoison ea 8 ∨ entType e ≠ 0 then (if m.readPoison ea 8 then ea else entAddr e)
    else match l with
      | 0 => ea
      | l' + 1 => m.poisonAt va l' (entAddr e)

/-- The frame that a walk ending in a retired page reached. -/
def Module.retiredFrame (m : Module) (part va acc : Nat) : Nat :=
  let open_ : Module := { m with mem := { m.mem with
    slices := m.mem.slices.map (fun (p : Nat × Slice) => (p.1, { p.2 with retiredPages := [], retiredBank := none })) } }
  match open_.lookup .host part va acc with
  | .ok pa => pa
  | _ => 0

/-- Resolves an address behind a function's BAR2, through the port's cache (R349, R350, R479, R483). -/
def Module.hostHit (m : Module) (fn a : Nat) (write : Bool) : Hit :=
  if fn = 0 then
    if !inMemory a ∨ (m.slice (siteOfAddr a)).state = 2 ∨ offReserved (offOfAddr a) then .closed
    else if m.offRetired (siteOfAddr a) (offOfAddr a) then .retired a
    else .ok a
  else
    let st := (m.part fn).state
    if st = 0 ∨ st = 1 ∨ st = 6 then .closed
    else
      let acc := if write then 4 else 3
      match m.lookup .host fn a acc with
      | .ok pa => .ok pa
      | .fault 4 none => .retired (m.retiredFrame fn a acc)
      | .fault cause bad => .fault cause bad
      | .poison => .poison (m.poisonAt a 3 (m.part fn).root)

/-- What the translation of a request's parts leaves in the port's cache: the physical function has none to make. -/
def Module.hostLookups (m : Module) (fn : Nat) (ps : List (Nat × Nat)) : Module :=
  if fn = 0 ∨ (m.part fn).state = 0 ∨ (m.part fn).state = 1 ∨ (m.part fn).state = 6 then m
  else ps.foldl (fun (acc : Module) p => acc.lookedUp .host fn p.1) m
/-- A part of a request waits for a walk that firmware holds (R345). -/
def Module.hostWalkHeld (m : Module) (fn : Nat) (ps : List (Nat × Nat)) : Bool := fn != 0 && ps.any (fun p => m.walkHeld fn p.1)

/-- The log's part of a request that is not served: host access error, 0x0E, 0x40 or 0x07 (R483, R641). -/
def Module.logHit (m : Module) (fn off len a : Nat) (write : Bool) : Hit → Module
  | .ok _ => m
  | .closed => m.accessError fn 2 off len
  | .retired pa => m.memEntry 0x0E (siteOfAddr pa) (offOfAddr pa) 0 (if write then 2 else 0) 0 (0x8000 + fn)
  | .fault cause bad => ((m.logBad fn fn 0xFFFF a (.fault cause bad)).countFault fn).prtEvent 0x40 fn cause fn 0xFFFF a 0 0xFFFF 0
  | .poison ea => m.memEntry 0x07 (siteOfAddr ea) (offOfAddr ea) 0 (if write then 2 else 0) 0 (0x8000 + fn)

/-- The first part of a request that cannot be served. -/
def Module.badHit (m : Module) (fn : Nat) (write : Bool) (ps : List (Nat × Nat)) : Option (Nat × Hit) :=
  (ps.map (fun p => (p.1, m.hostHit fn p.1 write))).find? (fun h => match h.2 with | .ok _ => false | _ => true)

/-- The device address of an address that is served. -/
def Module.hostPa (m : Module) (fn a : Nat) (write : Bool) : Nat := match m.hostHit fn a write with | .ok pa => pa | _ => 0

/-- Data, or the address fault of a slice that went out of service, come back for a host read (R16, R482). -/
def Module.hostData (m : Module) (fn id : Nat) (data : List Byte) (poison : Bool) : Module :=
  let mine (h : HostRead) : Bool := h.fn == fn && h.pieces.any (fun p => p.1 == id)
  if data.isEmpty then
    match takeFirst mine m.port.reads with
    | none => m
    | some (h, rest) => ({ m with port := { m.port with reads := rest } }).refuseRead fn 2 0 h.len
  else
    let fill (h : HostRead) : HostRead := { h with
      ep := h.ep || poison, pieces := h.pieces.map (fun p => if p.1 = id then (p.1, some data) else p) }
    ({ m with port := { m.port with reads := modFirst mine fill m.port.reads } }).returnReads fn

/-- A read's requests: a whole row as one, else each sector it touches (R482). -/
def readReqs (pa len : Nat) : List (Nat × Bool) :=
  if len = 2048 then [(pa, true)] else (cuts 64 pa len).map (fun c => (c.1 / 64 * 64, false))

/-- BAR2_READ: the request is cut at rows and translated, its parts go out as row or sector reads at P0, and the data return
when all are there (R482). -/
def doBar2Read (fn off len : Nat) (m : Module) : Module :=
  m.onBar fn (fun m =>
    if m.bar2Size fn < off + len then m.answer (.unsupported fn)
    else if !m.bring.ready then m.refuseRead fn 2 off len
    else
      let a := m.bar2Base fn + off
      let ps := cuts 2048 a len
      if m.hostWalkHeld fn ps then m.holdCmd (.bar2Read fn off len) else
      let x := m.hostLookups fn ps
      match m.badHit fn false ps with
      | some (b, .poison ea) => ({ x with free := x.free + 1 }).logHit fn off len b false (.poison ea) |>.hostReply fn (x.unknown len) true
      | some (b, h) => (x.logHit fn off len b false h).hostReply fn (ones len) false
      | none =>
        let reqs := ps.flatMap (fun p => readReqs (m.hostPa fn p.1 false) p.2)
        if reqs.any (fun r => m.hostWaits (siteOfAddr r.1) r.1) then m.holdCmd (.bar2Read fn off len) else
        let id := m.port.nextId
        let ids := (List.range reqs.length).map (fun i => id + i)
        let skip := if (reqs.headD (0, true)).2 then 0 else a % 64
        let m1 := { x with port := { x.port with
          nextId := id + reqs.length, reads := x.port.reads ++ [⟨fn, skip, len, ids.map (fun i => (i, none)), false⟩] } }
        (ids.zip reqs).foldl (fun (acc : Module) r =>
          if acc.hostLost (siteOfAddr r.2.1) r.2.1 then
            ({ acc with free := acc.free + 1 }).hostLoss (siteOfAddr r.2.1) r.2.1 |>.hostData fn r.1 (acc.unknown (if r.2.2 then 2048 else 64)) true
          else acc.readArrives ⟨siteOfAddr r.2.1, offOfAddr r.2.1, 0, .host fn r.1, false, r.2.2, [], false⟩) m1)
def execBar2Read (fn off len : Nat) (s : State) : Host.Outcome State Fault Refusal :=
  onModule (fnOk fn && decide (0 < len ∧ len ≤ 4096)) (doBar2Read fn off len) s

/-- A write behind BAR2: cut at rows, translated, whole rows or narrow writes at P2; `poison` as received with EP (R482). `held` is the
request itself, should it have to wait for a route (R318); what no route carries is dropped (R483). -/
def Module.bar2Put (m : Module) (fn off : Nat) (data : List Byte) (poison : Bool) (held : Instr) : Module :=
  let len := data.length
  if m.bar2Size fn < off + len then m.answer (.unsupported fn)
  else if !m.bring.ready then m.refuseWrite fn 2 off len
  else
    let a := m.bar2Base fn + off
    let ps := cuts 2048 a len
    if m.hostWalkHeld fn ps then m.holdCmd held else
    let x := m.hostLookups fn ps
    match m.badHit fn true ps with
    | some (b, h) => x.logHit fn off len b true h
    | none =>
      if ps.any (fun p => m.hostWaits (siteOfAddr (m.hostPa fn p.1 true)) (m.hostPa fn p.1 true)) then m.holdCmd held else
      ps.foldl (fun (acc : Module) p =>
        let pa := m.hostPa fn p.1 true
        let id := acc.port.nextId
        if acc.hostLost (siteOfAddr pa) pa then acc.hostLoss (siteOfAddr pa) pa else
        ({ acc with port := { acc.port with nextId := id + 1 } }).writeArrives
          ⟨siteOfAddr pa, offOfAddr pa, 2, .host fn id, true, decide (p.2 = 2048), (data.drop (p.1 - a)).take p.2, poison⟩) x
/-- BAR2_WRITE. -/
def doBar2Write (fn off : Nat) (data : List Byte) (m : Module) : Module := m.onBar fn (fun m => m.bar2Put fn off data false (.bar2Write fn off data))
def execBar2Write (fn off : Nat) (data : List Byte) (s : State) : Host.Outcome State Fault Refusal :=
  onModule (fnOk fn && decide (0 < data.length ∧ data.length ≤ 4096)) (doBar2Write fn off data) s

/-! ## BAR4 (R14, R16, R229 to R235, R425) -/

/-- Size of BAR4 and what of it is decoded (R479). -/
def bar4Size : Nat := 128 * 2 ^ 30
def bar4Top : Nat := 0x1400000000

/-- The core and offset of a word behind BAR4 can be reached (R16, R425). -/
def Module.padOpen (m : Module) (a : Nat) : Bool :=
  let site := a / 2 ^ 23
  decide (a < bar4Top ∧ a % 2 ^ 23 < 0x600000) && (m.core site).enabled &&
  !((m.cl (clusterOf site)).ladder == 2 && m.power.hold != 0)

/-- One word's read: bytes and whether they go out with EP (R234, R235). -/
def Module.padWordRead (m : Module) (fn a n : Nat) : Module × List Byte × Bool :=
  let site := a / 2 ^ 23
  let o := a % 2 ^ 21
  let m0 := m.wake (clusterOf site)
  let r := (m0.core site).scratch.read id o n
  match r.bad with
  | some p => (m0.parityEvent 0x21 1 site p 6 0xFF 4 (0x8000 + fn), r.bytes, true)
  | none =>
    if r.poison then (m0.padEvent 0x24 1 site (o / 8 * 8) 0 6 0xFF 4 (0x8000 + fn), r.bytes, true) else (m0, r.bytes, false)

/-- BAR4_READ: the words are read one by one (R482). A virtual function has no BAR4 (R479). -/
def doBar4Read (fn off len : Nat) (m : Module) : Module :=
  m.onBar fn (fun m =>
    if fn ≠ 0 ∨ bar4Size < off + len then m.answer (.unsupported fn)
    else
      let ws := cuts 8 off len
      if !m.bring.ready ∨ ws.any (fun w => !m.padOpen w.1) then m.refuseRead fn 4 off len
      else if ws.any (fun w => m.hostWaits (w.1 / 2 ^ 23) w.1) then m.holdCmd (.bar4Read fn off len)
      else
        let r := ws.foldl (fun (acc : Module × List Byte × Bool) w =>
          let x := if acc.1.hostLost (w.1 / 2 ^ 23) w.1 then
              (({ acc.1 with free := acc.1.free + 1 }).hostLoss (w.1 / 2 ^ 23) (2 ^ 47 + w.1), acc.1.unknown w.2, true)
            else acc.1.padWordRead fn w.1 w.2
          (x.1, acc.2.1 ++ x.2.1, acc.2.2 || x.2.2)) (m, [], false)
        r.1.hostReply fn r.2.1 r.2.2)
def execBar4Read (fn off len : Nat) (s : State) : Host.Outcome State Fault Refusal :=
  onModule (fnOk fn && decide (0 < len ∧ len ≤ 4096)) (doBar4Read fn off len) s

/-- A write behind BAR4, word by word; through an alias window each word is one atomic operation (R231). -/
def Module.bar4Put (m : Module) (fn off : Nat) (data : List Byte) (poison : Bool) (held : Instr) : Module :=
  if fn ≠ 0 ∨ bar4Size < off + data.length then m.answer (.unsupported fn)
  else
    let ws := cuts 8 off data.length
    if !m.bring.ready ∨ ws.any (fun w => !m.padOpen w.1) then m.refuseWrite fn 4 off data.length
    else if ws.any (fun w => m.hostWaits (w.1 / 2 ^ 23) w.1) then m.holdCmd held
    else ws.foldl (fun (acc : Module) w =>
      if acc.hostLost (w.1 / 2 ^ 23) w.1 then acc.hostLoss (w.1 / 2 ^ 23) (2 ^ 47 + w.1) else
      (acc.wake (clusterOf (w.1 / 2 ^ 23))).padExternal (w.1 / 2 ^ 23) (w.1 % 2 ^ 23 / 2 ^ 21) (w.1 % 2 ^ 21)
        ((data.drop (w.1 - off)).take w.2) poison 6 (0x8000 + fn)) m
/-- BAR4_WRITE. -/
def doBar4Write (fn off : Nat) (data : List Byte) (m : Module) : Module := m.onBar fn (fun m => m.bar4Put fn off data false (.bar4Write fn off data))
def execBar4Write (fn off : Nat) (data : List Byte) (s : State) : Host.Outcome State Fault Refusal :=
  onModule (fnOk fn && decide (0 < data.length ∧ data.length ≤ 4096)) (doBar4Write fn off data) s

/-! ## Requests outside the ordinary (R483) -/

/-- UNSUPPORTED_REQUEST: an AtomicOp, locked read or I/O request, answered so and reported through AER. -/
def doUnsupportedRequest (fn kind : Nat) (m : Module) : Module :=
  if m.port.perst ∨ !m.port.linkUp then m else (m.answer (.unsupported fn)).answer (.aer fn kind)
def execUnsupportedRequest (fn kind : Nat) (s : State) : Host.Outcome State Fault Refusal :=
  onModule (fnOk fn) (doUnsupportedRequest fn kind) s

/-- AER's status bit of Poisoned TLP Received in the PCI Express Base Specification. -/
def aerPoisoned : Nat := 0x1000

/-- POISONED_TLP_WRITE: BAR2 and BAR4 take the data with its sectors poisoned; a register takes nothing. Reported as advisory
non-fatal. -/
def doPoisonedTlpWrite (fn bar off : Nat) (data : List Byte) (m : Module) : Module :=
  m.onBar fn (fun m =>
    let m1 := m.answer (.aer fn aerPoisoned)
    let held : Instr := .poisonedTlpWrite fn bar off data
    if bar = 2 then m1.bar2Put fn off data true held else if bar = 4 then m1.bar4Put fn off data true held else m1)
def execPoisonedTlpWrite (fn bar off : Nat) (data : List Byte) (s : State) : Host.Outcome State Fault Refusal :=
  onModule (fnOk fn && decide (bar = 0 ∨ bar = 2 ∨ bar = 4) && decide (0 < data.length ∧ data.length ≤ 4096))
    (doPoisonedTlpWrite fn bar off data) s

/-! ## Configuration space (R477, R479, R499, R633) -/

/-- A masked vector that is pending sends its message once nothing masks it (R498). -/
def Module.releaseVector (m : Module) (fn v : Nat) : Module :=
  let f := m.func fn
  let e := SMap.get {} f.vectors v
  if e.pending ∧ !e.masked ∧ f.msixEnable then
    (m.updFunc fn (fun f => { f with vectors := SMap.upd {} f.vectors v (fun e => { e with pending := false }) })).emit fn
      (.msix fn v e.addr e.data)
  else m

/-- What a write of configuration space does, by the register codes of the model. -/
def Module.configWrite (m : Module) (fn reg value : Nat) : Module :=
  if reg = 0x04 then
    let m1 := m.updFunc fn (fun f => { f with memSpace := bitOf value 1 })
    if bitOf value 2 then doBusMasterEnableSet fn m1 else doBusMasterEnableClear fn m1
  else if reg = 0x78 then
    let f := m.func fn
    let pay := bitsOf value 7 5
    let rd := bitsOf value 14 12
    m.updFunc fn (fun g => { g with maxPayload := if pay ≤ 2 then pay else f.maxPayload, maxRead := if rd ≤ 5 then rd else f.maxRead })
  else if reg = 0x84 then (m.updFunc fn (fun f => { f with d3hot := value % 4 == 3 })).releaseHeld fn
  else if reg = 0x100 then
    (List.range (vectorCount fn)).foldl (fun (acc : Module) v => acc.releaseVector fn v)
      (m.updFunc fn (fun f => { f with msixEnable := bitOf value 0 }))
  else if reg = 0x101 ∧ fn = 0 then
    let m1 := doVfEnableClear (min value 63) m
    { m1 with port := { m1.port with numVfs := min value 63 } }
  else if reg = 0x102 ∧ fn = 0 then
    (if 30 ≤ value ∧ value ≤ 43 then { m with port := { m.port with bar2Size := 2 ^ value } } else m)
  else if reg = 0x103 ∧ fn = 0 then
    (if 30 ≤ value ∧ value ≤ 48 then { m with port := { m.port with vfBar2Size := 2 ^ value } } else m)
  else m

/-- What a read of configuration space returns; registers the spec does not describe read a free value. -/
def Module.configRead (m : Module) (fn reg : Nat) : Nat :=
  let f := m.func fn
  if reg = 0x04 then 2 * b2n f.memSpace + 4 * b2n f.busMaster
  else if reg = 0x78 then 32 * f.maxPayload + 4096 * f.maxRead
  else if reg = 0x84 then (if f.d3hot then 3 else 0)
  else if reg = 0x100 then b2n f.msixEnable
  else if reg = 0x101 ∧ fn = 0 then m.port.numVfs
  else if reg = 0x102 ∧ fn = 0 then m.port.bar2Size.log2
  else if reg = 0x103 ∧ fn = 0 then m.port.vfBar2Size.log2
  else (Config.freeWord m.free).toNat % 2 ^ 32

/-- CONFIGURATION_REQUEST: Retry Status until configuration space answers; then served. -/
def doConfigurationRequest (fn : Nat) (write : Bool) (reg value : Nat) (m : Module) : Module :=
  if m.port.perst ∨ !m.port.linkUp then m
  else if !m.port.cfgReady then m.answer (.retry fn)
  else if m.port.numVfs < fn then m.answer (.unsupported fn)
  else if write then (m.configWrite fn reg value).answer (.readData fn [] false)
  else ({ m with free := m.free + 1 }).answer (.readData fn (leBytes 4 (m.configRead fn reg)) false)
def execConfigurationRequest (fn : Nat) (write : Bool) (reg value : Nat) (s : State) : Host.Outcome State Fault Refusal :=
  onModule (fnOk fn && decide (reg < 4096)) (doConfigurationRequest fn write reg value) s

end Sys2Proof.Machine
end

