-- ==== Sys2Proof/Machine/HostRegs.lean ====
section
/-! DEFINITION. Accesses to BAR0 (R8, R9, R480, R481, R611 to R623), the rings' registers and the letterbox (R488 to R490, R511). -/

namespace Sys2Proof.Machine

/-! ## Rings (R484, R488 to R490) -/

/-- Writing bits of a register: those under the mask are replaced (R8). -/
def mergeReg (old mask v : Nat) : Nat := old - (old &&& mask) + (v &&& mask)

/-- A ring's size is a power of two from 16 to 4,096 (R489). -/
def ringSizeOk (n : Nat) : Bool := decide (n ∈ [16, 32, 64, 128, 256, 512, 1024, 2048, 4096])

/-- Setting enable from 0 to 1 is accepted (R488, R490). -/
def RingRegs.canEnable (q : RingRegs) : Bool :=
  !q.busy && ringSizeOk q.size && ringSizeOk q.cplSize && q.base != 0 && q.cplBase != 0

/-- The ring starts: heads, tails and WRK_SEQ are 0 (R488). -/
def RingRegs.start (q : RingRegs) : RingRegs :=
  { q with enable := true, head := 0, tail := 0, cplHead := 0, cplTail := 0, seq := 0 }

/-- Taking stops; what was taken completes into the completion ring as it stands now (R488). -/
def RingRegs.stop (q : RingRegs) : RingRegs := { q with enable := false }

/-- CONTROL: error is cleared by writing 1; enable starts or stops the ring (R488 to R490). -/
def Module.ringControl (m : Module) (r : Ring) (fn off mask v : Nat) : Module :=
  let m1 := if bitOf (v &&& mask) 2 then m.updRing r (fun q => { q with error := false }) else m
  let q := m1.ring r
  if bitOf mask 0 = false then m1
  else if bitOf v 0 ∧ !q.enable then
    (if q.canEnable then m1.updRing r RingRegs.start else m1.ringMisuse r fn off)
  else if !bitOf v 0 ∧ q.enable then m1.updRing r RingRegs.stop
  else m1

/-- A doorbell takes effect: the new tail, unless it is at or above the size (R488, R490). -/
def Module.bellNow (m : Module) (r : Ring) (v off : Nat) : Module :=
  if (m.ring r).size ≤ v then m.ringMisuse r (ringFn r) off else m.updRing r (fun q => { q with tail := v })

/-- BAR0 offset of a ring's registers as its own function sees them (R481, R489). -/
def ringBase : Ring → Nat
  | .letter _ => 0x10000
  | .work n => if n = 0 then 0x100000 else 0x30000

/-- Doorbells of a function take effect, in order, once every posted write it sent earlier is accepted (R484). -/
def Module.releaseBells (m : Module) (fn : Nat) : Module :=
  if m.postedBefore fn m.port.nextId then m
  else
    let mine := m.port.bells.filter (fun (b : Ring × Nat) => ringFn b.1 == fn)
    mine.foldl (fun (acc : Module) b => acc.bellNow b.1 b.2 (ringBase b.1 + 0x10))
      { m with port := { m.port with bells := m.port.bells.filter (fun (b : Ring × Nat) => ringFn b.1 != fn) } }

/-- A doorbell write arrives (R484). -/
def Module.bell (m : Module) (r : Ring) (v : Nat) : Module :=
  ({ m with port := { m.port with bells := m.port.bells ++ [(r, v)] } }).releaseBells (ringFn r)

/-- The completion head: below the size and not past the tail (R490). -/
def RingRegs.headOk (q : RingRegs) (v : Nat) : Bool :=
  decide (v < q.cplSize) && decide ((v + q.cplSize - q.cplHead) % max q.cplSize 1 ≤ (q.cplTail + q.cplSize - q.cplHead) % max q.cplSize 1)

/-- A write of one of a ring's registers at the relative offset `o` (R488 to R490). -/
def Module.writeRing (m : Module) (r : Ring) (fn off o mask v : Nat) : Module :=
  let q := m.ring r
  let n (w : Word) : Nat := mergeReg w.toNat mask v
  let quiet (f : RingRegs → RingRegs) : Module := if q.enable ∨ q.busy then m.ringMisuse r fn off else m.updRing r f
  let old := q.read false o
  if o = 0x00 then quiet (fun q => { q with base := n old / 4096 * 4096 })
  else if o = 0x08 then quiet (fun q => { q with size := n old % 8192 })
  else if o = 0x10 then (if mask % 2 = 0 then m else m.bell r (v % 4096))
  else if o = 0x20 then quiet (fun q => { q with cplBase := n old / 4096 * 4096 })
  else if o = 0x28 then quiet (fun q => { q with cplSize := n old % 8192 })
  else if o = 0x30 then
    (if mask % 2 = 0 then m
     else if q.headOk (v % 4096) then m.updRing r (fun q => { q with cplHead := v % 4096 }) else m.ringMisuse r fn off)
  else if o = 0x40 then m.ringControl r fn off mask v
  else if o = 0x48 then quiet (fun q => { q with mirrorOn := n old % 2 == 1, mirror := n old / 8 * 8 })
  else m

/-! ## The blocks' registers (R9, R480, R510, R614 to R621) -/

/-- W1C and RW of a block's cause registers. -/
def Module.clearCauses (m : Module) (b : Blk) (mask v : Nat) : Module := m.putStatus b (w1c (m.status b) (v &&& mask))
def Module.setEnables (m : Module) (b : Blk) (mask v : Nat) : Module := m.writeEnables b (mergeReg (m.enables b) mask v)

/-- DEV_WINDOW: only base is writable (R480). -/
def Module.putWindow (m : Module) (fn mask v : Nat) : Module :=
  m.updFunc fn (fun f => { f with window := mergeReg f.window mask v / 2 ^ 30 % 2 ^ 18 * 2 ^ 30 })

/-- A quadword of the MSI-X table; unmasking sends what is pending (R498). -/
def Module.writeVector (m : Module) (fn o mask v : Nat) : Module :=
  let k := o / 16
  let w := mergeReg (m.readVector fn o).toNat mask v
  let set (e : Vector) : Vector :=
    if o % 16 = 0 then { e with addr := w } else { e with data := w % 2 ^ 32, masked := bitOf w 32 }
  (m.updFunc fn (fun f => { f with vectors := SMap.upd {} f.vectors k set })).releaseVector fn k

/-- PWR_CONTROL (R434). -/
def Module.writePwrControl (m : Module) (mask v : Nat) : Module :=
  let w := mergeReg (m.readPwr 0x08).toNat mask v
  { m with power := { m.power with
      hint := bitOf w 0, autoAjar := bitOf w 1, halfSlowOn := bitOf w 2, idleAjar := bitsOf w 15 8, idleShutter := bitsOf w 27 16 } }

/-- The registers of a block of the physical function, by block number and offset in it; `off` and `size` are for the log. -/
def Module.writeBlock (m : Module) (b o mask v off size : Nat) : Module :=
  if b = 0 then
    if o = 0x18 ∧ mask % 2 = 1 then
      (if bitOf m.engine.rights 0 then { m with engine := { m.engine with expertWindow := bitOf v 0 } } else m.accessError 0 0 off size)
    else if o = 0x38 then m.putWindow 0 mask v else m
  else if b = 1 then m.writeRing (.letter 0) 0 off o mask v
  else if b = 2 then (if o < 0x400 then m.writeVector 0 o mask v else m)
  else if b = 3 then
    if o = 0x08 then { m with telAlarm := mergeReg m.telAlarm mask v % 2 ^ 29 }
    else if o = 0x10 then m.clearCauses .tel mask v else if o = 0x18 then m.setEnables .tel mask v else m
  else if b = 4 then
    if o = 0x10 then m.clearCauses .err mask v else if o = 0x18 then m.setEnables .err mask v
    else if o = 0x20 then { m with log := { m.log with threshold := mergeReg m.log.threshold mask v % 2 ^ 13 } } else m
  else if b = 5 then
    if o = 0x08 then m.writePwrControl mask v else if o = 0x20 then m.clearCauses .pwr mask v
    else if o = 0x28 then m.setEnables .pwr mask v
    else if o = 0x200 then { m with power := { m.power with select := mergeReg m.power.select mask v % 2 ^ 10 } } else m
  else if b = 6 then
    if o = 0x00 then { m with thermal := { m.thermal with tripSeen := m.thermal.tripSeen && !bitOf (v &&& mask) 5 } }
    else if o = 0x20 then m.clearCauses .thm mask v else if o = 0x28 then m.setEnables .thm mask v
    else if o = 0x100 then { m with thermal := { m.thermal with select := mergeReg m.thermal.select mask v % 2 ^ 12 } } else m
  else if b = 7 then (if o = 0x08 then m.clearCauses .clk mask v else if o = 0x10 then m.setEnables .clk mask v else m)
  else if b = 8 then
    if o = 0x48 then m.clearCauses .mem mask v else if o = 0x50 then m.setEnables .mem mask v
    else if o = 0x200 then { m with mem := { m.mem with select := mergeReg m.mem.select mask v % 2 ^ 14 } } else m
  else if b = 9 then
    if o = 0x10 then { m with fab := { m.fab with admission := mergeReg m.fab.admission mask v } }
    else if o = 0x28 then m.clearCauses .fab mask v else if o = 0x30 then m.setEnables .fab mask v else m
  else if b = 10 then (if o = 0x10 then m.clearCauses .prt mask v else if o = 0x18 then m.setEnables .prt mask v else m)
  else m

/-! ## Expert deck windows (R173, R174, R622, R623) -/

/-- Stall counters: latch copies the live counts, clear zeroes them; a write of both latches what it clears (R173, R174). -/
def Core.latchStalls (c : Core) : Core := { c with latched := c.stalls, latchedCycles := c.cycles }
def Core.clearStalls (c : Core) : Core :=
  { c with stalls := [], cycles := 0, latched := [], latchedCycles := 0, prefetchDrops := 0 }

/-- CORE_CONTROL acts (R168, R169, R173); a reset inside a wider one that is running is absorbed (R447). -/
def Module.coreControl (m : Module) (site mask v : Nat) : Module :=
  if mask % 2 = 0 then m
  else
    let rst (b : Bool) (f : Module → Module) (m : Module) : Module := if b && !m.resetting site then (f m).fenceMarked site else m
    let m1 := rst (bitOf v 0) (fun m => m.localReset site) m
    let m2 := rst (bitOf v 1) (fun m => m.threadReset site 0) m1
    let m3 := rst (bitOf v 2) (fun m => m.threadReset site 1) m2
    m3.updCore site (fun c =>
      let live := c.latchStalls
      let c1 := if bitOf v 7 then c.clearStalls else c
      let c2 := if bitOf v 6 then { c1 with latched := live.latched, latchedCycles := live.latchedCycles } else c1
      { c2 with holdOnFault := bitOf v 3, stallSelect := bitsOf v 5 4 })

/-- A write into the window of a core block (R623). -/
def Module.writeCore (m : Module) (fn site o mask v off size : Nat) : Module :=
  if !m.windowOk (site / 1024) then m.accessError fn 0 off size
  else if o = 0x10 then
    (if !m.engine.expertWindow ∨ !(m.core site).enabled then m.accessError fn 0 off size else m.coreControl site mask v)
  else if (o = 0x40 ∨ o = 0x48) ∧ m.engine.expertWindow ∧ bitOf (v &&& mask) 24 then
    m.updCore site (fun c => c.updTh ((o - 0x40) / 8) (fun t => { t with faultValid := false }))
  else m

/-! ## BAR0 as a whole (R8, R472, R479, R489, R611, R612, R624) -/

/-- BAR0's size (R479). -/
def bar0Size (fn : Nat) : Nat := if fn = 0 then 64 * 2 ^ 20 else 2 ^ 20

/-- The access is a naturally aligned one of 32 or 64 bits (R8). -/
def bar0Aligned (off size : Nat) : Bool := decide (size = 4 ∨ size = 8) && off % size == 0

/-- A write that is served, at the register's offset `w` (R624, R621, R489). -/
def Module.writeServed (m : Module) (fn w mask v off size : Nat) : Module :=
  if fn = 0 then
    if w < 0xB0000 then m.writeBlock (w / 65536) (w % 65536) mask v off size
    else if w < 0x101000 then m.writeRing (.work 0) 0 off (w % 4096) mask v
    else if w < 0x140000 then m.accessError 0 0 off size
    else m.writeCore 0 ((w - 0x1000000) / 4096) (w % 4096) mask v off size
  else if w = 0x38 then m.putWindow fn mask v
  else if 0x10000 ≤ w ∧ w < 0x10050 then m.writeRing (.letter fn) fn off (w - 0x10000) mask v
  else if 0x20000 ≤ w ∧ w < 0x20100 then m.writeVector fn (w - 0x20000) mask v
  else if 0x30000 ≤ w ∧ w < 0x30060 then m.writeRing (.work fn) fn off (w - 0x30000) mask v
  else m

/-- Every BAR0 access ends what a lower-half read latched (R612). -/
def Module.unlatch (m : Module) (fn : Nat) : Module := m.updFunc fn (fun f => { f with latch := none })

/-- A write to BAR0: misaligned, outside what is decoded or served, or done (R8, R9, R472, R611). -/
def Module.writeBar0 (m : Module) (fn off size value : Nat) : Module :=
  m.onBar fn (fun m =>
    let m1 := m.unlatch fn
    if bar0Size fn < off + size then m1.answer (.unsupported fn)
    else if !bar0Aligned off size ∨ !m1.bar0Served fn (off / 8 * 8) then m1.refuseWrite fn 0 off size
    else
      let sh := 2 ^ (8 * (off % 8))
      m1.writeServed fn (off / 8 * 8) ((2 ^ (8 * size) - 1) * sh) (value % 2 ^ (8 * size) * sh) off size)

/-- A read of `size` bytes of BAR0 (R8, R612, R620). -/
def Module.readBar (m : Module) (fn off size : Nat) : Module :=
  m.onBar fn (fun m =>
    let w := off / 8 * 8
    let held := (m.func fn).latch
    let m1 := m.unlatch fn
    if bar0Size fn < off + size then m1.answer (.unsupported fn)
    else if !bar0Aligned off size ∨ !m1.bar0Served fn w then m1.refuseRead fn 0 off size
    else
      let m2 := if fn = 0 ∧ off = 0x30100 then { m1 with port := { m1.port with telLatch := some m1.snapshot } } else m1
      let v := (m2.readBar0 fn w).toNat
      if size = 8 then m2.hostReply fn (leBytes 8 v) false
      else if off % 8 = 0 then
        (m2.updFunc fn (fun f => { f with latch := some (off, v / 2 ^ 32) })).hostReply fn (leBytes 4 v) false
      else
        let up := match held with | some (o, u) => if o = w then u else v / 2 ^ 32 | none => v / 2 ^ 32
        m2.hostReply fn (leBytes 4 up) false)

/-- REGISTER_WRITE. -/
def doRegisterWrite (fn off size value : Nat) (m : Module) : Module := m.writeBar0 fn off size value
def execRegisterWrite (fn off size value : Nat) (s : State) : Host.Outcome State Fault Refusal :=
  onModule (fnOk fn && decide (0 < size ∧ size ≤ 512)) (doRegisterWrite fn off size value) s

/-- LOWER_HALF_READ: a 32-bit read (R612). -/
def doLowerHalfRead (fn off : Nat) (m : Module) : Module := m.readBar fn off 4
def execLowerHalfRead (fn off : Nat) (s : State) : Host.Outcome State Fault Refusal :=
  onModule (fnOk fn && off % 4 == 0) (doLowerHalfRead fn off) s

/-- TEL_SNAPSHOT_LATCH: a read of 0x3_0100 (R620). -/
def doTelSnapshotLatch (fn : Nat) (m : Module) : Module := m.readBar fn 0x30100 8
def execTelSnapshotLatch (fn : Nat) (s : State) : Host.Outcome State Fault Refusal := onModule (fnOk fn) (doTelSnapshotLatch fn) s

/-- BAR0_MISALIGNED_ACCESS: an access of another size or alignment (R8). -/
def doBar0MisalignedAccess (fn off size : Nat) (write : Bool) (m : Module) : Module :=
  if bar0Aligned off size then m
  else if write then m.writeBar0 fn off size 0 else m.readBar fn off size
def execBar0MisalignedAccess (fn off size : Nat) (write : Bool) (s : State) : Host.Outcome State Fault Refusal :=
  onModule (fnOk fn && decide (0 < size ∧ size ≤ 4096)) (doBar0MisalignedAccess fn off size write) s

/-- UNDECODED_BAR0_ACCESS: an access where nothing decodes (R481, R611). -/
def doUndecodedBar0Access (fn off size : Nat) (write : Bool) (m : Module) : Module :=
  if (if fn = 0 then !pfUndecoded (off / 8 * 8) else vfDecoded (off / 8 * 8)) then m
  else if write then m.writeBar0 fn off size 0 else m.readBar fn off size
def execUndecodedBar0Access (fn off size : Nat) (write : Bool) (s : State) : Host.Outcome State Fault Refusal :=
  onModule (fnOk fn && decide (0 < size ∧ size ≤ 4096)) (doUndecodedBar0Access fn off size write) s

/-- DEV_WINDOW_WRITE (R480). -/
def doDevWindowWrite (fn value : Nat) (m : Module) : Module := m.writeBar0 fn 0x38 8 value
def execDevWindowWrite (fn value : Nat) (s : State) : Host.Outcome State Fault Refusal := onModule (fnOk fn) (doDevWindowWrite fn value) s

/-- EXPERT_WINDOW_WRITE (R510). -/
def doExpertWindowWrite (fn value : Nat) (m : Module) : Module := m.writeBar0 fn 0x18 8 value
def execExpertWindowWrite (fn value : Nat) (s : State) : Host.Outcome State Fault Refusal :=
  onModule (fnOk fn) (doExpertWindowWrite fn value) s

/-- Offset of a register of a core's block (R622). -/
def coreReg (site o : Nat) : Nat := 0x1000000 + site * 4096 + o
/-- CORE_CONTROL with one write-only bit set and its other fields as they stand. -/
def Module.controlBit (m : Module) (fn site bit : Nat) : Module :=
  m.writeBar0 fn (coreReg site 0x10) 8 ((m.readCore site 0x10).toNat + 2 ^ bit)

/-- RESET_CORE. -/
def doResetCore (fn site : Nat) (m : Module) : Module := m.controlBit fn site 0
def execResetCore (fn site : Nat) (s : State) : Host.Outcome State Fault Refusal := onModule (fnOk fn && siteOk site) (doResetCore fn site) s
/-- RESET_THREAD0. -/
def doResetThread0 (fn site : Nat) (m : Module) : Module := m.controlBit fn site 1
def execResetThread0 (fn site : Nat) (s : State) : Host.Outcome State Fault Refusal :=
  onModule (fnOk fn && siteOk site) (doResetThread0 fn site) s
/-- RESET_THREAD1. -/
def doResetThread1 (fn site : Nat) (m : Module) : Module := m.controlBit fn site 2
def execResetThread1 (fn site : Nat) (s : State) : Host.Outcome State Fault Refusal :=
  onModule (fnOk fn && siteOk site) (doResetThread1 fn site) s
/-- STALL_LATCH. -/
def doStallLatch (fn site : Nat) (m : Module) : Module := m.controlBit fn site 6
def execStallLatch (fn site : Nat) (s : State) : Host.Outcome State Fault Refusal := onModule (fnOk fn && siteOk site) (doStallLatch fn site) s
/-- STALL_CLEAR. -/
def doStallClear (fn site : Nat) (m : Module) : Module := m.controlBit fn site 7
def execStallClear (fn site : Nat) (s : State) : Host.Outcome State Fault Refusal := onModule (fnOk fn && siteOk site) (doStallClear fn site) s
/-- CORE_FAULT_VALID_CLEAR (R174). -/
def doCoreFaultValidClear (fn site thread : Nat) (m : Module) : Module := m.writeBar0 fn (coreReg site (0x40 + 8 * thread)) 8 (2 ^ 24)
def execCoreFaultValidClear (fn site thread : Nat) (s : State) : Host.Outcome State Fault Refusal :=
  onModule (fnOk fn && siteThreadOk site thread) (doCoreFaultValidClear fn site thread) s

/-- Where a function sees a ring's registers: the physical function sees every work ring (R489). -/
def ringSeen (fn : Nat) : Ring → Nat
  | .letter _ => 0x10000
  | .work n => if fn = 0 then 0x100000 + n * 4096 else 0x30000
/-- The function can address the ring at all (R481, R489). -/
def ringVisible (fn : Nat) : Ring → Bool
  | .letter k => k == fn
  | .work n => fn == 0 || n == fn

/-- LTR_CMD_TAIL_WRITE: the letterbox doorbell. -/
def doLtrCmdTailWrite (fn value : Nat) (m : Module) : Module := m.writeBar0 fn 0x10010 8 value
def execLtrCmdTailWrite (fn value : Nat) (s : State) : Host.Outcome State Fault Refusal :=
  onModule (fnOk fn) (doLtrCmdTailWrite fn value) s
/-- WRK_SUB_TAIL_WRITE: the work ring doorbell. -/
def doWrkSubTailWrite (fn part value : Nat) (m : Module) : Module := m.writeBar0 fn (ringSeen fn (.work part) + 0x10) 8 value
def execWrkSubTailWrite (fn part value : Nat) (s : State) : Host.Outcome State Fault Refusal :=
  onModule (fnOk fn && partOk part && ringVisible fn (.work part)) (doWrkSubTailWrite fn part value) s
/-- COMPLETION_HEAD_WRITE. -/
def doCompletionHeadWrite (fn : Nat) (ring : Ring) (value : Nat) (m : Module) : Module := m.writeBar0 fn (ringSeen fn ring + 0x30) 8 value
def execCompletionHeadWrite (fn : Nat) (ring : Ring) (value : Nat) (s : State) : Host.Outcome State Fault Refusal :=
  onModule (fnOk fn && ring.wf && ringVisible fn ring) (doCompletionHeadWrite fn ring value) s
/-- RING_ENABLE: enable is set in CONTROL. -/
def doRingEnable (fn : Nat) (ring : Ring) (m : Module) : Module := m.writeBar0 fn (ringSeen fn ring + 0x40) 8 1
def execRingEnable (fn : Nat) (ring : Ring) (s : State) : Host.Outcome State Fault Refusal :=
  onModule (fnOk fn && ring.wf && ringVisible fn ring) (doRingEnable fn ring) s
/-- RING_DISABLE: enable is cleared in CONTROL. -/
def doRingDisable (fn : Nat) (ring : Ring) (m : Module) : Module := m.writeBar0 fn (ringSeen fn ring + 0x40) 8 0
def execRingDisable (fn : Nat) (ring : Ring) (s : State) : Host.Outcome State Fault Refusal :=
  onModule (fnOk fn && ring.wf && ringVisible fn ring) (doRingDisable fn ring) s

/-! ## Taking entries (R488, R490, R511) -/

/-- The port can read a ring: enabled, entries waiting, link up, and the function a bus master (R488, R499). -/
def Module.ringReadable (m : Module) (r : Ring) : Bool :=
  let q := m.ring r
  let f := m.func (ringFn r)
  m.port.linkUp && q.enable && q.head != q.tail && q.size != 0 && f.busMaster && !f.d3hot

/-- A ring entry's read fails: a host access error; the ring is disabled, event 0xA5, its error vector (R490, R602). -/
def Module.ringReadError (m : Module) (r : Ring) : Module :=
  let q := m.ring r
  let work : Nat := match r with | .letter _ => 0 | .work _ => 1
  let m1 := m.updRing r (fun q => { q.stop with error := true })
  let at_ := q.base + q.head * (64 * (work + 1))
  let m2 := m1.hostEvent 0xA1 0xFF (ringFn r) 0xFF 0 q.head at_ (64 * (work + 1))
  (m2.hostEvent 0xA5 0xFF (ringFn r) 0xFF 0 q.head at_ work).sendMsix (ringFn r) (ringErrorVector r)

/-- An entry is taken: the head moves past it, and a completion slot is reserved (R488). -/
def Module.takeEntry (m : Module) (r : Ring) : Module :=
  m.updRing r (fun q => { q with head := (q.head + 1) % max q.size 1, taken := q.taken + 1 })

/-- A letterbox whose turn it may be: an entry, a completion slot, within its limit of 8 (R511). -/
def Module.letterReady (m : Module) (fn : Nat) : Bool :=
  m.ringReadable (.letter fn) && m.slotFree (.letter fn) && decide ((m.engine.cmds.filter (fun s => s.fn == fn)).length < 8)

/-- The letterbox the rotation takes from next (R511). -/
def Module.nextLetter (m : Module) : Option Nat :=
  if 64 ≤ m.engine.cmds.length then none
  else ((List.range 64).map (fun i => (m.engine.rotation + i) % 64)).find? m.letterReady

/-- The opcodes of the opcode table (R516). -/
def knownOpcodes : List Nat :=
  [0x00, 0x01, 0x02, 0x0C, 0x0D, 0x0E, 0x10, 0x11, 0x12, 0x13, 0x14, 0x15, 0x16, 0x17, 0x18, 0x19, 0x20, 0x21, 0x22, 0x23,
   0x24, 0x25, 0x26, 0x27, 0x28, 0x29, 0x38, 0x39, 0x3A, 0x40, 0x41, 0x42, 0x43, 0x44, 0x45, 0x50, 0x51, 0x52] ++
  [0x60, 0x61, 0x68, 0x69, 0x6A, 0x6B, 0x70, 0x71, 0x72, 0x73, 0x74, 0x75, 0x80, 0x81, 0x82, 0x88, 0x89, 0x8A, 0x8B, 0x90,
   0x98, 0x99, 0x9A]

/-- LETTERBOX_ENTRY_TAKE: the entry read becomes a command taken; an opcode outside the table is answered at once (R507, R511). -/
def doLetterboxEntryTake (entry : Option (List Byte)) (m : Module) : Module :=
  match m.nextLetter with
  | none => m
  | some fn =>
    let q := m.ring (.letter fn)
    let m1 := ({ m with engine := { m.engine with rotation := (fn + 1) % 64 } }).answer (.memRead fn (q.base + q.head * 64) 64)
    match entry with
    | none => m1.ringReadError (.letter fn)
    | some b =>
      let id := m1.engine.nextId
      let op := getLe b 0 1
      let slot : CmdSlot := { id := id, fn := fn, opcode := op, tag := getLe b 2 2, flags := getLe b 1 1, partition := getLe b 4 2,
                              phase := .taken, instr := none, claims := [], cplFlags := 0, reserved := true, effect := false, info := [] }
      let m2 := (m1.takeEntry (.letter fn))
      let m3 := { m2 with engine := { m2.engine with nextId := id + 1, cmds := m2.engine.cmds ++ [slot] } }
      if op ∈ knownOpcodes then m3 else m3.refuseCmd id stBadOpcode 0
def execLetterboxEntryTake (entry : Option (List Byte)) (s : State) : Host.Outcome State Fault Refusal :=
  onModule (match entry with | none => true | some b => b.length == 64) (doLetterboxEntryTake entry) s

/-- COMPLETION_WRITE: the oldest completion waiting for the ring leaves, then the mirror, then the message (R486). -/
def doCompletionWrite (ring : Ring) (m : Module) : Module := if m.port.linkUp then m.writeCpl ring else m
def execCompletionWrite (ring : Ring) (s : State) : Host.Outcome State Fault Refusal := onModule ring.wf (doCompletionWrite ring) s

end Sys2Proof.Machine
end

