-- ==== Sys2Proof/Machine/Dispatcher.lean ====
section
/-! DEFINITION. The hardware dispatcher: work packets (R491 to R493, R497), PROGRAM and length-table items (R262 to R271, R492),
the start of an item (R131, R169). -/

namespace Sys2Proof.Machine

/-! ## Work packets (R491, R497) -/

/-- Fields of a work packet. -/
def wpKind (b : List Byte) : Nat := getLe b 0 1
def wpFlags (b : List Byte) : Nat := getLe b 1 1
def wpAddr (b : List Byte) : Nat := getLe b 8 8
def wpArg (b : List Byte) (k : Nat) : Nat := getLe b (16 + 8 * k) 8
def wpSite (b : List Byte) : Nat := getLe b 72 2
def wpThread (b : List Byte) : Nat := getLe b 74 1
def Packet.barrier (p : Packet) : Bool := bitOf p.flags 0

/-- The vectors a partition's packets may name (R491, R498). -/
def vectorOk (part v : Nat) : Bool := if part = 0 then decide (16 ≤ v ∧ v ≤ 63) else decide (2 ≤ v ∧ v ≤ 15)

/-- A packet is malformed (R491, R497). -/
def wpBad (part : Nat) (b : List Byte) : Bool :=
  let k := wpKind b
  let v := getLe b 2 1
  let notify := bitOf (wpFlags b) 1
  decide (32 ≤ wpFlags b) || getLe b 3 5 != 0 || getLe b 75 53 != 0 || (if notify then !vectorOk part v else v != 0) ||
  (if k = 0 then wpAddr b % 32 != 0 || decide (1 < wpThread b) || (wpSite b == 0xFFFF && wpThread b != 0)
   else wpSite b != 0 || wpThread b != 0 || wpAddr b % 64 != 0 || getLe b 32 40 != 0) ||
  (decide (2 ≤ k) && (wpArg b 0 % 64 != 0 || wpArg b 1 % 64 != 0 || wpArg b 1 == 0 || decide (2 ^ 30 < wpArg b 1)))

/-- A core works with both halves (R203, R265, R492). -/
def Module.coreWhole (m : Module) (site : Nat) : Bool :=
  let c := m.core site
  c.enabled && !c.half0.fenced && !c.half1.fenced

/-- Items at a core that have not ended: queued, running and saved (R492). -/
def Module.coreLoad (m : Module) (site : Nat) : Nat :=
  let c := m.core site
  c.queue.length + b2n c.t0.item.isSome + b2n c.t1.item.isSome + b2n c.saved0.isSome + b2n c.saved1.isSome

/-- The site's slice is being retired: its core gets no new item (R77). -/
def Module.retiring (m : Module) (site : Nat) : Bool := (m.stopOf (.slice site)).isSome

/-- The core the dispatcher chooses for site 0xFFFF: the fewest items, then the lowest site; none where no core may be chosen. A
core marked for fencing takes no new work (R239, R492). -/
def Module.pickCore (m : Module) (part : Nat) : Option Nat :=
  let ok := (m.sitesOfPart part).filter (fun s => m.coreWhole s && (m.core s).scratch.phase != 100 && !m.retiring s)
  ok.foldl (fun (best : Option Nat) s =>
    match best with
    | none => some s
    | some b => if m.coreLoad s < m.coreLoad b then some s else best) none

/-- A named target that cannot take the packet: outside the partition, or fenced (R492, R497). -/
def Module.targetBad (m : Module) (part site thread : Nat) : Option Nat :=
  if Config.sites ≤ site ∨ (m.cl (clusterOf site)).owner ≠ some part then some stNotPermitted
  else if !(m.core site).enabled ∨ ((m.core site).half thread).fenced then some stFenced
  else none

/-- Why a packet does not run: the first status of R497 that applies. -/
def Module.packetRefusal (m : Module) (part : Nat) (b : List Byte) : Option Nat :=
  let st := (m.part part).state
  let site := wpSite b
  let program := decide (wpKind b = 0)
  let stopping := m.parts.stops.any (fun q => match q.target with
    | .thread s t => program && s == site && t == wpThread b
    | .slice s => program && s == site
    | _ => false)
  if st = 0 ∨ st = 1 ∨ st = 5 ∨ st = 6 then some stNotReady
  else if st = 3 ∨ st = 4 ∨ stopping then some stCancelled
  else if 3 < wpKind b then some stBadOpcode
  else if wpBad part b then some stBadParam
  else if !program then none
  else if site = 0xFFFF then (if (m.pickCore part).isSome then none else some stFenced)
  else m.targetBad part site (wpThread b)

/-- The log entry of a packet that does not run (R497, R602). -/
def Module.logPacket (m : Module) (part : Nat) (p : Packet) (st : Nat) : Module := m.hostEvent 0xA3 0xFF part p.kind st p.seq p.at_ 0

/-- A packet that never creates anything more ends with at least a status (R269, R271). -/
def Module.closePacket (m : Module) (part seq st : Nat) : Module :=
  (m.updPacket part seq (fun p => { p with status := worst p.status st, done := true })).settle part seq

/-- A packet is refused, or ends without an item, and the log says so. -/
def Module.refusePacket (m : Module) (part seq st : Nat) : Module :=
  match m.packet part seq with
  | none => m
  | some p => (m.logPacket part p st).closePacket part seq st

/-- A partition of higher priority has something of the kind to do, or one of the same priority whose turn comes first after the one
served last (R357). -/
def Module.outranked (m : Module) (part last : Nat) (ready : Nat → Bool) : Bool :=
  let turn (q : Nat) : Nat := (q + 127 - last) % 64
  (List.range 64).any (fun q =>
    decide ((m.part part).priority < (m.part q).priority ∨
      ((m.part part).priority = (m.part q).priority ∧ turn q < turn part)) && ready q)
/-- A ring, a packet's item and a copy have had their turn (R357). -/
def Module.tookTurn (m : Module) (part : Nat) : Module := { m with parts := { m.parts with lastTake := part } }
def Module.createdTurn (m : Module) (part : Nat) : Module := { m with parts := { m.parts with lastCreate := part } }
def Module.copyTurn (m : Module) (part : Nat) : Module := { m with parts := { m.parts with lastCopy := part } }

/-- A ring has a packet the dispatcher can take (R488, R500, R513). -/
def Module.takeReady (m : Module) (part : Nat) : Bool :=
  m.bring.ready && m.ringReadable (.work part) && m.slotFree (.work part) && !(m.part part).hold

/-- WORK_PACKET_TAKE: the packet at the head receives its sequence number; one that cannot run completes at once (R488, R493,
R497). -/
def doWorkPacketTake (part : Nat) (entry : Option (List Byte)) (m : Module) : Module :=
  if !m.takeReady part ∨ m.outranked part m.parts.lastTake m.takeReady then m
  else
    let q := m.ring (.work part)
    let m1 := (m.tookTurn part).answer (.memRead (ringFn (.work part)) (q.base + q.head * 128) 128)
    match entry with
    | none => m1.ringReadError (.work part)
    | some b =>
      let p : Packet := {
        seq := q.seq, bytes := b, started := false, done := false, status := stOk, created := 0, ok := 0, faulted := 0,
        cancelled := 0, skipped := 0, moved := 0, pos := [], fault := [], result := 0, running := 0, info := [], chunks := [],
        header := [], lists := [], at_ := q.base + q.head * 128 }
      let m2 := (m1.takeEntry (.work part)).updRing (.work part) (fun r => { r with seq := (r.seq + 1) % 2 ^ 64 })
      match m2.packetRefusal part b with
      | some st =>
        let vec := if bitOf (wpFlags b) 1 ∧ vectorOk part (getLe b 2 1) then some (getLe b 2 1) else none
        (m2.logPacket part p st).queueWork part (({ p with status := st }).completion 0 0) vec true
      | none => m2.updPart part (fun x => { x with packets := x.packets ++ [p] })
def execWorkPacketTake (part : Nat) (entry : Option (List Byte)) (s : State) : Host.Outcome State Fault Refusal :=
  onModule (partOk part && (match entry with | none => true | some b => b.length == 128)) (doWorkPacketTake part entry) s

/-! ## Order among packets of a ring (R492, R493) -/

/-- The packets of the ring ahead of one. -/
def Module.ahead (m : Module) (part seq : Nat) : List Packet := (m.part part).packets.takeWhile (fun p => p.seq != seq)

/-- A packet may start: nothing ahead of it that has not started holds it back, a barrier finds nothing ahead, a copy no copy. -/
def Module.packetMayStart (m : Module) (part : Nat) (p : Packet) : Bool :=
  let prev := m.ahead part p.seq
  !p.started && !p.done && !(prev.any (fun q => !q.started && (q.barrier || decide (q.kind ≤ 1)))) && (!p.barrier || prev.isEmpty) &&
  (decide (p.kind ≤ 1) || !(prev.any (fun q => decide (2 ≤ q.kind))))

/-- The dispatcher creates and starts items: after ready, and not during a coolant stop (R388, R500). -/
def Module.dispatching (m : Module) : Bool := m.bring.ready && !m.thermal.stop

/-! ## Creating items (R265, R268, R492) -/

/-- A core's queue has room (R268). -/
def Module.queueRoom (m : Module) (site : Nat) : Bool := decide ((m.core site).queue.length < 4)

/-- An item joins a core's queue; a cluster in Ajar or Shuttered wakes for it (R421). At a core that has gone out of service
since its list was formed, or whose slice is being retired, the item ends at once (R26, R77). -/
def Module.queueItem (m : Module) (site : Nat) (it : Item) : Module :=
  let m1 := m.updPacket it.part it.seq (fun p => { p with created := p.created + 1, running := p.running + 1 })
  if !(m.core site).enabled ∨ ((m.core site).half it.thread).fenced then m1.itemDone site it.thread it stFenced 0 []
  else if m.retiring site ∨ (m.stopOf (.thread site it.thread)).isSome then m1.itemDone site it.thread it stCancelled 0 []
  else (m1.updCore site (fun c => { c with queue := c.queue ++ [it] })).wake (clusterOf site)

/-- The core of a PROGRAM packet. -/
def Module.programSite (m : Module) (part : Nat) (b : List Byte) : Option Nat :=
  if wpSite b = 0xFFFF then m.pickCore part else if (m.targetBad part (wpSite b) (wpThread b)).isNone then some (wpSite b) else none

/-- The item of a PROGRAM packet (R491, R492). -/
def Module.programItem (m : Module) (part : Nat) (p : Packet) : Item :=
  { part := part, seq := p.seq, ctx := 0, pc := wpAddr p.bytes, args := (List.range 7).map (fun k => BitVec.ofNat 64 (wpArg p.bytes k)),
    thread := wpThread p.bytes, epoch := m.epochs.epoch, merge := false, triple := 0, hint := bitsOf p.flags 4 2 }

/-! ## The length table (R262 to R267, R269) -/

/-- How a read of the dispatcher ends: `wait` while the row's group is in Over (R63). -/
inductive TableRead where
  | ok (bytes : List Byte)
  | fault (cause : Nat) (bad : Option Nat)
  | poison
  | wait
deriving DecidableEq, Repr

/-- Reads bytes of a partition that lie in one page, through its tables and the dispatcher's cache (R268, R350, R641); what a walk needs
may be held (R345). -/
def Module.tableRead (m : Module) (part va n : Nat) : TableRead :=
  if m.walkHeld part va then .wait
  else match m.lookup .dispatcher part va 3 with
  | .ok pa =>
    if m.rowHalted (siteOfAddr pa) (offOfAddr pa / 2048) then .wait
    else if m.readPoison pa n then .poison
    else .ok (m.readMemBytes pa n)
  | .fault cause bad => .fault cause bad
  | .poison => .poison

/-- A table that cannot be translated is reported to the host with the packet: counted, a malformed entry logged (R348, R367). -/
def Module.tableFault (m : Module) (part va cause : Nat) (bad : Option Nat) : Module :=
  (m.logBad part part 0xFFFF va (.fault cause bad)).countFault part

/-- Fields of the header (R262). -/
def ltEntries (h : List Byte) : Nat := getLe h 0 4
def ltGroups (h : List Byte) : Nat := getLe h 4 1
def ltTile (h : List Byte) : Nat := getLe h 6 1
def ltCausal (h : List Byte) : Bool := bitOf (getLe h 7 1) 0
def ltSplit (h : List Byte) : Nat := getLe h 8 4
def ltPlacement (h : List Byte) : Nat := getLe h 16 8
def ltProgram (h : List Byte) : Nat := getLe h 24 8
def ltMerge (h : List Byte) : Nat := getLe h 32 8

/-- The header is in range (R262, R269). -/
def headerOk (h : List Byte) : Bool :=
  let hp := getLe h 5 1
  decide (1 ≤ ltEntries h ∧ ltEntries h ≤ 65535 ∧ 1 ≤ ltGroups h ∧ ltGroups h ≤ 64 ∧ 1 ≤ hp ∧ hp ≤ 32 ∧ 1 ≤ ltTile h ∧ ltTile h ≤ 32) &&
  decide (ltTile h * hp ≤ 32 ∧ getLe h 7 1 < 2) && (ltSplit h == 0 || (ltSplit h % 32 == 0 && decide (ltSplit h ≤ 65536))) &&
  getLe h 12 4 == 0 && ltPlacement h % 8 == 0 && ltProgram h % 32 == 0 && ltMerge h % 32 == 0

/-- A placement entry is in range, and its clusters belong to the partition (R264). -/
def Module.placeOk (m : Module) (part e : Nat) : Bool :=
  let first := e % 65536
  let n := bitsOf e 22 16
  decide (e < 2 ^ 23 ∧ 1 ≤ n ∧ n ≤ 64 ∧ first + n ≤ 640) && (List.range n).all (fun i => (m.cl (first + i)).owner == some part)

/-- The core list of a placement entry: ascending, without fenced cores and cores with a fenced half (R265). -/
def Module.placeCores (m : Module) (e : Nat) : List Nat :=
  ((List.range (bitsOf e 22 16)).flatMap (fun i => sitesOf (e % 65536 + i))).filter m.coreWhole

/-- Reads the placement table; none with the status of the first failure, the address that failed and its fault. -/
def Module.readPlaces (m : Module) (part : Nat) (h : List Byte) : TableRead :=
  (List.range (ltGroups h)).foldl (fun (acc : TableRead) g =>
    match acc with
    | .ok bs => (match m.tableRead part (ltPlacement h + 8 * g) 8 with
      | .ok b => .ok (bs ++ b)
      | r => r)
    | r => r) (.ok [])

/-- What the dispatcher's reads of a placement table leave in its cache. -/
def Module.placesLookedUp (m : Module) (part : Nat) (h : List Byte) : Module :=
  (List.range (ltGroups h)).foldl (fun (acc : Module) g => acc.lookedUp .dispatcher part (ltPlacement h + 8 * g)) m

/-- LENGTH_TABLE: the dispatcher reads header and placement table; a faulty one ends the packet without an item (R269). -/
def doLengthTable (part seq : Nat) (m : Module) : Module :=
  match m.packet part seq with
  | none => m
  | some p =>
    if p.kind ≠ 1 ∨ !m.packetMayStart part p ∨ !m.dispatching then m
    else
      let m1 := m.lookedUp .dispatcher part (wpAddr p.bytes)
      match m.tableRead part (wpAddr p.bytes) 64 with
      | .wait => m
      | .poison => m1.refusePacket part seq stPoisoned
      | .fault cause bad => (m1.tableFault part (wpAddr p.bytes) cause bad).refusePacket part seq stProgramFault
      | .ok h =>
        if !headerOk h then m1.refusePacket part seq stBadParam
        else
          let m2 := m1.placesLookedUp part h
          match m1.readPlaces part h with
          | .wait => m
          | .poison => m2.refusePacket part seq stPoisoned
          | .fault cause bad => (m2.tableFault part (ltPlacement h) cause bad).refusePacket part seq stProgramFault
          | .ok bs =>
            let es := (List.range (ltGroups h)).map (fun g => getLe bs (8 * g) 8)
            let lists := es.map m.placeCores
            if !es.all (m.placeOk part) then m2.refusePacket part seq stBadParam
            else if lists.any (·.isEmpty) then m2.refusePacket part seq stFenced
            else m2.updPacket part seq (fun p => { p with started := true, header := h, lists := lists, pos := [0, 0, 0, 0] })
def execLengthTable (part seq : Nat) (s : State) : Host.Outcome State Fault Refusal := onModule (partOk part) (doLengthTable part seq) s

/-- An entry's fields, and whether it is faulty (R263, R269). -/
def entQ (e : List Byte) : Nat := getLe e 4 2
def entCtx (e : List Byte) : Nat := getLe e 8 4
def entryBad (e : List Byte) : Bool := decide (entCtx e < entQ e) || getLe e 16 8 % 65536 != 0 || getLe e 24 8 != 0

/-- T, key_end and the chunk count of a tile (R266). -/
def tileTokens (h e : List Byte) (t : Nat) : Nat := min (ltTile h) (entQ e - t * ltTile h)
def tileKeyEnd (h e : List Byte) (t : Nat) : Nat :=
  if ltCausal h then entCtx e - entQ e + t * ltTile h + tileTokens h e t else entCtx e
def entChunks (h e : List Byte) : Nat := if ltSplit h = 0 then 1 else (entCtx e + ltSplit h - 1) / ltSplit h

/-- Where creation stands after entry, tile, group, chunk (R266). -/
def nextPos (h e : List Byte) (i t g c : Nat) : List Nat :=
  if c + 1 < entChunks h e then [i, t, g, c + 1]
  else if g + 1 < ltGroups h then [i, t, g + 1, 0]
  else if (t + 1) * ltTile h < entQ e then [i, t + 1, 0, 0]
  else [i + 1, 0, 0, 0]

/-- The number of a row whose chunks a merge item combines. -/
def tripleNo (i t g : Nat) : Nat := 1 + (i * 2 ^ 16 + t) * 64 + g

/-- The item of a length table (R267): chunk 0xFFFF is a merge item. -/
def Module.tableItem (m : Module) (part : Nat) (p : Packet) (e : List Byte) (i t g c first n : Nat) : Item :=
  let h := p.header
  let va := wpAddr p.bytes
  { part := part, seq := p.seq, ctx := 0, pc := if c = 0xFFFF then ltMerge h else ltProgram h,
    args := [BitVec.ofNat 64 va, BitVec.ofNat 64 (i + g * 2 ^ 32 + c * 2 ^ 48),
      BitVec.ofNat 64 ((getLe e 12 4 + t * ltTile h) % 2 ^ 32 + tileTokens h e t * 2 ^ 32 + t * 2 ^ 40),
      BitVec.ofNat 64 (first + n * 2 ^ 32), BitVec.ofNat 64 (va + 64 + 32 * i), BitVec.ofNat 64 (wpArg p.bytes 0),
      BitVec.ofNat 64 (wpArg p.bytes 1)],
    thread := 0, epoch := m.epochs.epoch, merge := decide (c = 0xFFFF), triple := tripleNo i t g, hint := bitsOf p.flags 4 2 }

/-- The core of an item: position `k` of its group's list (R265). -/
def Packet.siteAt (p : Packet) (g k : Nat) : Nat :=
  let l := nth [] p.lists g
  nth 0 l (k % max l.length 1)

/-- Creation stands at a new position; past the last entry the packet creates nothing more. -/
def Module.moveOn (m : Module) (part seq : Nat) (pos : List Nat) : Module :=
  match m.packet part seq with
  | none => m
  | some p =>
    if ltEntries p.header ≤ nth 0 pos 0 then (m.updPacket part seq (fun p => { p with pos := pos, done := true })).settle part seq
    else m.updPacket part seq (fun p => { p with pos := pos })

/-- Creation stops at an entry that cannot be read; the rest count as skipped, and the merge item of a row whose chunks were only in
part created counts as cancelled (R269, R270). -/
def Module.stopCreation (m : Module) (part seq st : Nat) : Module :=
  match m.packet part seq with
  | none => m
  | some p =>
    let here := tripleNo (nth 0 p.pos 0) (nth 0 p.pos 1) (nth 0 p.pos 2)
    let cut := countOf (fun (k : Chunk) => k.triple == here && nth 0 p.pos 3 != 0) p.chunks
    ((m.logPacket part p st).updPacket part seq (fun p => { p with
      skipped := p.skipped + (ltEntries p.header - nth 0 p.pos 0), cancelled := p.cancelled + cut,
      chunks := if nth 0 p.pos 3 = 0 then p.chunks else p.chunks.filter (fun k => k.triple != here) })).closePacket part seq st

/-- What creation does at the packet's position, once it has read the entry (R266, R269, R270). -/
def Module.createAt (m : Module) (part : Nat) (p : Packet) (e : List Byte) : Module :=
  let h := p.header
  let i := nth 0 p.pos 0
  let t := nth 0 p.pos 1
  let g := nth 0 p.pos 2
  let c := nth 0 p.pos 3
  if entryBad e then
    ((m.hostEvent 0xA4 0xFF part 1 stPartial p.seq (wpAddr p.bytes + 64 + 32 * i) i).updPacket part p.seq (fun p => { p with
      skipped := p.skipped + 1, status := worst p.status stPartial })).moveOn part p.seq [i + 1, 0, 0, 0]
  else if entQ e = 0 then m.moveOn part p.seq [i + 1, 0, 0, 0]
  else
    let ke := tileKeyEnd h e t
    let first := c * ltSplit h
    let next := nextPos h e i t g c
    if ke ≤ first then m.moveOn part p.seq next
    else
      let n := if ltSplit h = 0 then ke else min (ltSplit h) (ke - first)
      let k := i + t * entChunks h e
      let site := p.siteAt g (k + c)
      if !m.queueRoom site then m
      else
        let made := if ltSplit h = 0 then 1 else (ke + ltSplit h - 1) / ltSplit h
        let ch : List Chunk := if c = 0 ∧ ltMerge h ≠ 0 ∧ 2 ≤ made then
          [⟨tripleNo i t g, made, true, p.siteAt g k, m.tableItem part p e i t g 0xFFFF 0 ke⟩] else []
        (((m.createdTurn part).updPacket part p.seq (fun p => { p with chunks := p.chunks ++ ch })).queueItem site
          (m.tableItem part p e i t g c first n)).moveOn part p.seq next

/-- The core that the packet's next item goes to has room; a position that creates no item has nothing to wait for (R268). -/
def Module.lengthReady (m : Module) (part : Nat) (p : Packet) : Bool :=
  let h := p.header
  let i := nth 0 p.pos 0
  match m.tableRead part (wpAddr p.bytes + 64 + 32 * i) 32 with
  | .wait => false
  | .ok e => m.queueRoom (p.siteAt (nth 0 p.pos 2) (i + nth 0 p.pos 1 * entChunks h e + nth 0 p.pos 3))
  | _ => true

/-- A partition has an item ready to be created: of a PROGRAM packet, a length table or a merge (R268, R357). -/
def Module.createReady (m : Module) (part : Nat) : Bool :=
  (m.part part).packets.any (fun p =>
    (p.kind == 0 && m.packetMayStart part p && (match m.programSite part p.bytes with | some s => m.queueRoom s | none => true)) ||
    (p.kind == 1 && p.started && !p.done && m.lengthReady part p) ||
    p.chunks.any (fun k => k.left == 0 && k.ok && m.queueRoom k.site))

/-- The dispatcher may create an item of the partition now: none goes before it (R357). -/
def Module.creating (m : Module) (part : Nat) : Bool := m.dispatching && !m.outranked part m.parts.lastCreate m.createReady

/-- ITEM_CREATION: one position of a length table; an entry that creates nothing is passed over. -/
def doItemCreation (part seq : Nat) (m : Module) : Module :=
  match m.packet part seq with
  | none => m
  | some p =>
    if p.kind ≠ 1 ∨ !p.started ∨ p.done ∨ !m.creating part then m
    else
      let va := wpAddr p.bytes + 64 + 32 * nth 0 p.pos 0
      let m1 := m.lookedUp .dispatcher part va
      match m.tableRead part va 32 with
      | .wait => m
      | .poison => m1.stopCreation part seq stPoisoned
      | .fault cause bad => (m1.tableFault part va cause bad).stopCreation part seq stProgramFault
      | .ok e => m1.createAt part p e
def execItemCreation (part seq : Nat) (s : State) : Host.Outcome State Fault Refusal := onModule (partOk part) (doItemCreation part seq) s

/-- MERGE_ITEM_CREATION: a row whose chunk items have all ended; if one ended badly its merge item counts as cancelled (R270). -/
def doMergeItemCreation (part seq : Nat) (m : Module) : Module :=
  match m.packet part seq with
  | none => m
  | some p => match p.chunks.find? (fun k => k.left == 0) with
    | none => m
    | some k =>
      let drop (m : Module) : Module := m.updPacket part seq (fun p => { p with chunks := p.chunks.filter (fun x => x.triple != k.triple) })
      if !k.ok then
        ((drop m).updPacket part seq (fun p => { p with cancelled := p.cancelled + 1, status := worst p.status stCancelled })).settle part seq
      else if !m.creating part ∨ !m.queueRoom k.site then m
      else (drop (m.createdTurn part)).queueItem k.site k.item
def execMergeItemCreation (part seq : Nat) (s : State) : Host.Outcome State Fault Refusal :=
  onModule (partOk part) (doMergeItemCreation part seq) s

/-- PROGRAM: the packet's one item is created; while its core's queue is full the packet waits (R492). -/
def doProgram (part seq : Nat) (m : Module) : Module :=
  match m.packet part seq with
  | none => m
  | some p =>
    if p.kind ≠ 0 ∨ !m.packetMayStart part p ∨ !m.creating part then m
    else match m.programSite part p.bytes with
      | none => m.refusePacket part seq stFenced
      | some site =>
        if !m.queueRoom site then m
        else ((m.createdTurn part).updPacket part seq (fun p => { p with started := true, done := true, info := [site, wpThread p.bytes, 0xFFFF] })).queueItem site
          (m.programItem part p)
def execProgram (part seq : Nat) (s : State) : Host.Outcome State Fault Refusal := onModule (partOk part) (doProgram part seq) s

/-! ## Starting an item (R131, R160, R167, R169, R203) -/

/-- A thread in which no work is, as the start of an item or the end of a switch leaves it. -/
def Thread.blank (t : Thread) : Thread :=
  { nextId := t.nextId, faultCode := t.faultCode, faultCause := t.faultCause, faultOp := t.faultOp, faultValid := t.faultValid,
    faultDesc := t.faultDesc, faultAddr := t.faultAddr }

/-- The thread may take work: free, no saved context before it, its half healthy, thread 1 in split mode only, a halted thread
unless hold_on_fault keeps it, no mark for fencing (R160, R167, R203, R239, R354). -/
def Core.takesWork (c : Core) (t : Nat) : Bool :=
  let th := c.th t
  c.enabled && th.item.isNone && (c.savedOf t).isNone && !(c.half t).fenced && (t == 0 || (c.split && !c.wholePending)) &&
  !(th.halted && c.holdOnFault) && c.scratch.phase != 100 && !(t ∈ c.switching)

/-- The mode suits an item: an item of a length table runs in whole mode (R265). -/
def Module.modeFits (m : Module) (site : Nat) (it : Item) : Bool :=
  match m.packet it.part it.seq with
  | some p => p.kind == 0 || !(m.core site).split
  | none => true

/-- The thread's registers, counters, stack, streams and keyhole sectors as R131 sets them. -/
def Core.startItem (c : Core) (t : Nat) (it : Item) : Core :=
  let th := (c.th t).blank
  let regs := (it.args.zip (List.range 7)).foldl (fun (x : Thread) p => x.setReg (p.2 + 1) p.1) th
  let c1 := (c.updTh t (fun _ => { regs with pc := it.pc, fetchPos := it.pc, item := some it })).updHalf (if c.split then t else 0)
    (fun h => { h with weights := [], runs := [], drains := [], feeder := [] })
  { c1 with streams := c1.streams.filter (fun p => p.2.thread != t), late := c1.late.filter (fun l => l.1 != t),
            counters := c1.counters.filter (fun p => !c1.owns t p.1) }

/-- The item starts: a context number, the thread's state, the microcode of its epoch, the ramp hint; fetch begins (R131, R353,
R410, R523). -/
def Module.startItem (m : Module) (site t : Nat) (it0 : Item) : Module :=
  let n := (m.part it0.part).nextCtx
  let it := { it0 with ctx := n }
  let m1 := m.updPart it.part (fun p => { p with
    nextCtx := (n + 1) % 65536, ctxWrapped := p.ctxWrapped || n == 65535, contexts := p.contexts ++ [⟨n, site, it, false⟩] })
  let m2 := m1.updPacket it.part it.seq (fun p => if p.kind = 0 then { p with info := [site, t, n] } else p)
  let micro (c : Core) : Core := if seqGe it.epoch m.epochs.microEpoch then { c with micro := m.bring.micro } else c
  let m3 := m2.updCore site (fun c => (micro c).startItem t it)
  ((m3.raiseHint (clusterOf site) it.hint).dropReads (isFetch site t)).fetchNext site t

/-- ITEM_START: the first item queued for the thread starts, if thread, mode and cluster allow it. -/
def doItemStart (site t : Nat) (m : Module) : Module :=
  let c := m.core site
  if !m.dispatching ∨ !m.runs (clusterOf site) ∨ (m.cl (clusterOf site)).functionView ∨ m.resetting site ∨ !c.takesWork t then m
  else match takeFirst (fun (it : Item) => it.thread == t) c.queue with
    | none => m
    | some (it, rest) =>
      if !m.modeFits site it then m
      else
        let m1 := if (c.th t).halted then m.threadReset site t else m
        (m1.updCore site (fun c => { c with queue := rest })).startItem site t it
def execItemStart (site thread : Nat) (s : State) : Host.Outcome State Fault Refusal :=
  onModule (siteThreadOk site thread) (doItemStart site thread) s

end Sys2Proof.Machine
end

