-- ==== Sys2Proof/Machine/Copies.lean ====
section
/-! DEFINITION. The copies of a work ring (R493 to R495) and reads of host memory that never return (R490, R494). -/

namespace Sys2Proof.Machine

/-! ## What a copy moves next -/

/-- Host address and length of a copy (R491). -/
def copyHost (p : Packet) : Nat := wpArg p.bytes 0
def copyLen (p : Packet) : Nat := wpArg p.bytes 1

/-- The sizes the host has set for the function: 128 bytes times a power of two (R477). -/
def Module.maxRead (m : Module) (fn : Nat) : Nat := 128 * 2 ^ (m.func fn).maxRead
def Module.maxPayload (m : Module) (fn : Nat) : Nat := 128 * 2 ^ (m.func fn).maxPayload

/-- The next request: a host read that crosses neither 4 KiB nor a row; of a COPY_OUT a whole row or a sector (R494). -/
def copyChunk (p : Packet) (maxRead : Nat) : Nat :=
  let a := wpAddr p.bytes + p.moved
  let h := copyHost p + p.moved
  let left := copyLen p - p.moved
  if p.kind = 2 then min left (min (2048 - a % 2048) (min (4096 - h % 4096) maxRead))
  else if a % 2048 = 0 ∧ 2048 ≤ left then 2048 else 64

/-- Copies that run (R495). -/
def Module.copiesRunning (m : Module) : Nat :=
  (m.parts.parts.map (fun p => countOf (fun (q : Packet) => decide (2 ≤ q.kind) && q.started) p.2.packets)).foldl (· + ·) 0

/-- A ring waits for a copy slot (R357). -/
def Module.copyReady (m : Module) (part : Nat) : Bool :=
  (m.part part).packets.any (fun p => decide (2 ≤ p.kind) && m.packetMayStart part p)

/-- The copy may issue its next request: it runs, or it may start; nothing of it is on its way; the function may master the bus. -/
def Module.copyGoes (m : Module) (part : Nat) (p : Packet) : Bool :=
  let f := m.func part
  m.bring.ready && m.port.linkUp && f.busMaster && !f.d3hot && p.pos.isEmpty && !p.done &&
  (p.started || (m.packetMayStart part p && decide (m.copiesRunning < 16) && !m.outranked part m.parts.lastCopy m.copyReady))

/-- A copy ends with a status, and a fault record where it faulted (R494). -/
def Module.endCopy (m : Module) (part seq st : Nat) (fault : List Byte) : Module :=
  (m.updPacket part seq (fun p => { p with fault := fault, pos := [] })).closePacket part seq st

/-- The copy's next address translates through the port's cache, or the copy ends (R350, R494, R641). -/
def Module.copyNext (m : Module) (part : Nat) (p : Packet) (go : Module → Nat → Nat → Module) : Module :=
  let a := wpAddr p.bytes + p.moved
  if m.walkHeld part a then m
  else
    let m1 := (if p.started then m else m.copyTurn part).lookedUp .host part a
    match m.lookup .host part a (if p.kind = 2 then 4 else 3) with
    | .ok pa =>
      let n := copyChunk p (m.maxRead part)
      go (m1.updPacket part p.seq (fun p => { p with started := true, pos := [n, pa] })) pa n
    | .fault cause bad => (m1.tableFault part a cause bad).endCopy part p.seq stProgramFault (faultRecord 0x04 cause 0 0 0xFFFF 0 a)
    | .poison => (m1.logPacket part p stPoisoned).endCopy part p.seq stPoisoned []

/-- Bytes of a copy have reached their end; after the last of them it completes. -/
def Module.copyMoved (m : Module) (part seq : Nat) : Module :=
  match m.packet part seq with
  | none => m
  | some p =>
    let n := nth 0 p.pos 0
    let m1 := m.updPacket part seq (fun p => { p with moved := p.moved + n, pos := [] })
    if copyLen p ≤ p.moved + n then m1.closePacket part seq stOk else m1

/-! ## The rows -/

/-- COPY_IN: the next read of host memory. -/
def doCopyIn (part seq : Nat) (m : Module) : Module :=
  match m.packet part seq with
  | none => m
  | some p =>
    if p.kind ≠ 2 ∨ !m.copyGoes part p then m
    else m.copyNext part p (fun m _ n => m.answer (.memRead part (copyHost p + p.moved) n))
def execCopyIn (part seq : Nat) (s : State) : Host.Outcome State Fault Refusal := onModule (partOk part) (doCopyIn part seq) s

/-- COPY_OUT: the next read of a slice, at P2. -/
def doCopyOut (part seq : Nat) (m : Module) : Module :=
  match m.packet part seq with
  | none => m
  | some p =>
    if p.kind ≠ 3 ∨ !m.copyGoes part p then m
    else m.copyNext part p (fun m pa n =>
      m.readArrives ⟨siteOfAddr pa, offOfAddr pa, 2, .copy part seq, false, decide (n = 2048), [], false⟩)
def execCopyOut (part seq : Nat) (s : State) : Host.Outcome State Fault Refusal := onModule (partOk part) (doCopyOut part seq) s

/-- The COPY_IN of a ring whose read is on its way. -/
def Module.copyWaiting (m : Module) (part : Nat) : Option Packet :=
  (m.part part).packets.find? (fun p => p.kind == 2 && p.started && !p.done && p.pos.length == 2)

/-- COPY_HOST_DATA_ARRIVAL: the data go to the slice, poisoned if they came with EP; an error ends the copy. -/
def doCopyHostDataArrival (part : Nat) (data : Option (List Byte)) (ep : Bool) (m : Module) : Module :=
  match m.copyWaiting part, data with
  | none, _ => m
  | some p, none => m.endCopy part p.seq stHostError []
  | some p, some bs =>
    let n := nth 0 p.pos 0
    let pa := nth 0 p.pos 1
    if bs.length ≠ n then m
    else
      let m1 := m.updPacket part p.seq (fun p => { p with
        pos := [n, pa, 1], status := if ep then worst p.status stPoisoned else p.status })
      m1.writeArrives ⟨siteOfAddr pa, offOfAddr pa, 2, .copy part p.seq, true, decide (n = 2048), bs, ep⟩
def execCopyHostDataArrival (part : Nat) (data : Option (List Byte)) (ep : Bool) (s : State) : Host.Outcome State Fault Refusal :=
  onModule (partOk part) (doCopyHostDataArrival part data ep) s

/-- A slice has accepted a write of a COPY_IN. -/
def Module.copyAccept (m : Module) (part seq : Nat) : Module :=
  match m.packet part seq with
  | none => m
  | some p => if p.kind = 2 ∧ p.pos.length = 3 then m.copyMoved part seq else m

/-- Data of a COPY_OUT leave for the host in address order, or a slice has refused the copy's access (R16, R494). -/
def Module.copyData (m : Module) (part seq : Nat) (data : List Byte) (poison : Bool) : Module :=
  match m.packet part seq with
  | none => m
  | some p =>
    if p.pos.isEmpty then m
    else if data.isEmpty then m.endCopy part seq stProgramFault (faultRecord 0x03 0 0 0 0xFFFF 0 (wpAddr p.bytes + p.moved))
    else
      let n := nth 0 p.pos 0
      let h := copyHost p + p.moved
      let out := (cuts (m.maxPayload part) h n).foldl (fun (acc : Module) c =>
        acc.emit part (.memWrite part c.1 ((data.drop (c.1 - h)).take c.2) poison)) m
      (out.updPacket part seq (fun p => { p with status := if poison then worst p.status stPoisoned else p.status })).copyMoved part seq

/-- COMPLETION_TIMEOUT: the read of a ring's entry fails (R490), or the read of a copy (R494). -/
def doCompletionTimeout (ring : Ring) (copy : Bool) (m : Module) : Module :=
  if copy then
    match ring with
    | .work n => doCopyHostDataArrival n none false m
    | .letter _ => m
  else if m.ringReadable ring then m.ringReadError ring else m
def execCompletionTimeout (ring : Ring) (copy : Bool) (s : State) : Host.Outcome State Fault Refusal :=
  onModule ring.wf (doCompletionTimeout ring copy) s

end Sys2Proof.Machine
end

