-- ==== Sys2Proof/Machine/FabS9.lean ====
section
/-! DEFINITION. S9 (R549 to R551): training, HELLO, beacons, the topology, IDs and tables, the default records; changes of ports in
service (R548) and FAB.PORT (R525). -/

namespace Sys2Proof.Machine

/-! ## What a module tells of itself -/

/-- A port whose peer has said HELLO and that is not being disabled; a port that retrains stays. -/
def Module.livePort (m : Module) (p : Nat) : Bool :=
  let q := m.fport p
  (q.up || q.state == 1) && q.peerSerial != 0 && (m.stopOf (.port p)).isNone
/-- This module as TOPO lists it. -/
def Module.selfNode (m : Module) : TopoNode :=
  ⟨Config.serial.toNat, m.fab.role, ((List.range 4).filter m.livePort).map (fun p => (p, (m.fport p).peerSerial, (m.fport p).peerPort))⟩
/-- The payload of TOPO: serial number, role, mask of live ports, and for each its peer's serial number and port. -/
def topoBody (n : TopoNode) : List Byte :=
  packRec 112 ([⟨0, 16, n.serial⟩, ⟨16, 1, n.role⟩, ⟨17, 1, maskOf 4 (fun p => n.links.any (fun l => l.1 == p))⟩] ++
    n.links.flatMap (fun l => [⟨32 + 20 * l.1, 16, l.2.1⟩, ⟨48 + 20 * l.1, 1, l.2.2⟩]))
/-- A module read from TOPO. -/
def nodeOf (b : List Byte) : TopoNode :=
  ⟨getLe b 0 16, getLe b 16 1, (maskList (getLe b 17 1) 4).map (fun p => (p, getLe b (32 + 20 * p) 16, getLe b (48 + 20 * p) 1 % 4))⟩

/-- Ports that are up, but for one. -/
def Module.upBut (m : Module) (p : Nat) : List Nat := (List.range 4).filter (fun q => q != p && (m.fport q).up)
/-- The port towards the lead manager: the parent, else the lowest port that is up. -/
def Module.upward (m : Module) : Option Nat :=
  if 1 ≤ m.fab.parent ∧ (m.fport (m.fab.parent - 1)).up then some (m.fab.parent - 1) else (m.upBut 4).head?
/-- A control transaction goes on out of several ports. -/
def Module.relay (m : Module) (ps : List Nat) (t : Trans) : Module :=
  if t.hops ≤ 1 then m else ps.foldl (fun (a : Module) p => a.push p 0 { t with hops := t.hops - 1 }) m
/-- BEACON: the lead manager's serial number and this module's hop count. -/
def Module.beaconOn (m : Module) (ps : List Nat) (lead : Nat) : Module :=
  ps.foldl (fun (a : Module) p => a.sendOn p { a.trans 0x21 0 with aux := m.fab.hop, payload := leBytes 16 lead }) m

/-- S9 fails: its report, and no ID; the module stays ready (R471, R551). -/
def Module.failS9 (m : Module) (cause dur : Nat) : Module :=
  let m1 := m.updReport 9 (fun r => { r with result := 4, duration := min dur (2 ^ 32 - 1), cause := cause })
  { m1 with bring := { m1.bring with active := false } }
/-- A conflict of roles or IDs, event 0x99 (R551). -/
def Module.roleConflict (m : Module) (port : Nat) : Module := m.fabEvent 0x99 0xFF port 0xFFFF 0 0 0 0 0 0 0

/-! ## The lead manager (R549 to R551) -/

/-- More than 15 group managers, or modules without an ID: logged, the rest goes on. -/
def Module.assignEvents (m : Module) (ids : List (Nat × Nat)) : Module :=
  let ns := m.liveNodes
  let extra := 15 < (ns.filter (fun n => n.role == 1)).length
  let m1 := if extra then m.roleConflict 0xFF else m
  if ids.length < ns.length then m1.roleConflict 0xFF else m1

/-- The wrap links of the ports. -/
def Module.setWrap (m : Module) (mask : Nat) : Module :=
  (List.range 4).foldl (fun (a : Module) p => a.updFport p (fun q => { q with wrap := bitOf mask p })) m

/-- Step 4 and 5 of S9: IDs, tables, and the default records as one value to be committed. -/
def Module.assign (m : Module) : Module :=
  let ns := m.liveNodes
  let lead := Config.serial.toNat
  let ids := assignIds ns lead m.fab.roster false
  let m0 := m.assignEvents ids
  match planRoutes ns ids lead [] with
  | none => m0
  | some plan =>
    let me := (plan.find? (fun p => p.serial == lead)).getD ⟨lead, 0, 0, 0, 0, 0, 0, []⟩
    let kept := m.fab.roster.filter (fun r => !ids.any (fun x => x.1 == r.1 || x.2 == r.2))
    let f := { m0.fab with
      deviceId := 0, idValid := true, manager := 0, lead := 0, x := me.x, y := me.y, scheme := me.scheme, routes := me.table,
      roster := kept ++ ids, members := ids.map (fun (x : Nat × Nat) => x.2), replan := false }
    let m1 := (({ m0 with fab := f }).setWrap me.wrap).sendPlan plan
    if m1.claimsFree [.epoch] then m1.prepare 255 2 [] true none else { m1 with fab := { m1.fab with replan := true } }

/-- A module's report reaches the lead manager: once every module named has reported, IDs are assigned; in service the routes are
computed again. -/
def Module.takeNode (m : Module) (n : TopoNode) : Module :=
  if n ∈ m.flight.topo then m
  else
    let ns := m.flight.topo.filter (fun x => x.serial != n.serial) ++ [n]
    let m1 := { m with flight := { m.flight with topo := ns } }
    if !topoClosed ns then m1 else if m1.isLead then m1.refab else if m1.inStage 9 then m1.assign else m1

/-- The lead manager's beacon starts when no port trains any more and every peer has said HELLO. -/
def Module.beaconStart (m : Module) : Module :=
  if m.inStage 9 ∧ m.fab.leadSerial.isNone ∧ m.fab.ports.any FabPort.up ∧ m.fab.ports.all (fun p => p.state != 1 && (!p.up || p.peerSerial != 0)) then
    ({ m with fab := { m.fab with leadSerial := some Config.serial.toNat, hop := 0, parent := 0 } }).beaconOn (m.upBut 4) Config.serial.toNat
  else m

/-- The module reports its ports: to itself as lead manager, else up the tree. -/
def Module.report (m : Module) : Module :=
  if m.fab.role = 2 then (if m.fab.leadSerial.isSome then m.takeNode m.selfNode else m)
  else if m.fab.leadSerial.isNone then m
  else match m.upward with
    | some p => m.sendOn p { m.trans 0x22 0 with payload := topoBody m.selfNode }
    | none => m
/-- The module's ports have changed (R548, R549). -/
def Module.topoChanged (m : Module) : Module :=
  if !m.bring.ready then m else if m.fab.role = 2 then m.beaconStart.report else m.report

/-! ## The rows -/

/-- PORT_TRAINING: an attempt ends on a mask of good lanes; 0 stands for an attempt that failed. -/
def doPortTraining (port lanes : Nat) (m : Module) : Module :=
  if (m.fport port).state = 1 then (m.trained port lanes).topoChanged else m
def execPortTraining (port lanes : Nat) (s : State) : Host.Outcome State Fault Refusal :=
  onModule (portOk port && decide (lanes < 256)) (doPortTraining port lanes) s

/-- HELLO: the peer's serial number, role, port and ID; a module that knows the lead manager tells the peer (R547, R548). -/
def doHello (port : Nat) (t : Trans) (m : Module) : Module :=
  let id := getLe t.payload 18 2
  let m1 := m.updFport port (fun q => { q with
    peerSerial := getLe t.payload 0 16, peerRole := getLe t.payload 16 1, peerPort := getLe t.payload 17 1 % 4,
    peerValid := id != 0xFFFF, peerId := if id = 0xFFFF then 0 else id % 4096 })
  let m2 := match m1.fab.leadSerial with | some l => m1.beaconOn [port] l | none => m1
  m2.topoChanged
def execHello (port : Nat) (t : Trans) (s : State) : Host.Outcome State Fault Refusal := onTrans port t 0x20 (doHello port t) s

/-- BEACON: another lead manager is a conflict, which travels on and ends S9; else the lowest hop count, and among equals the lowest
port, is the parent, and the beacon goes on (R549, R551). -/
def doBeacon (port : Nat) (t : Trans) (m : Module) : Module :=
  let lead := getLe t.payload 0 16
  let f := m.fab
  let other := (match f.leadSerial with | some l => l != lead | none => false) || (f.role == 2 && lead != Config.serial.toNat)
  if !m.inStage 9 then m
  else if other then
    let m1 := (m.relay (m.upBut port) t).roleConflict port
    ({ m1 with fab := { m1.fab with conflict := true } }).failS9 0x0092 0
  else if f.role = 2 then m
  else if f.parent = 0 ∨ t.aux + 1 < f.hop ∨ (t.aux + 1 = f.hop ∧ port + 1 < f.parent) then
    let m1 := { m with fab := { f with parent := port + 1, hop := t.aux + 1, leadSerial := some lead } }
    let m2 := if f.parent = 0 ∨ t.aux + 1 < f.hop then m1.beaconOn (m1.upBut port) lead else m1
    m2.report
  else m
def execBeacon (port : Nat) (t : Trans) (s : State) : Host.Outcome State Fault Refusal := onTrans port t 0x21 (doBeacon port t) s

/-- TOPO: the lead manager takes the report, any other module passes it up the tree. -/
def doTopo (port : Nat) (t : Trans) (m : Module) : Module :=
  if m.fab.role = 2 then m.takeNode (nodeOf t.payload)
  else match m.upward with
    | some p => if p = port then m else m.relay [p] t
    | none => m
def execTopo (port : Nat) (t : Trans) (s : State) : Host.Outcome State Fault Refusal := onTrans port t 0x22 (doTopo port t) s

/-- The table entries of a segment take the place of the old ones in its range; those beyond the last segment go. -/
def putSegment (old : SMap Nat) (base : Nat) (last : Bool) (entries : List Byte) : SMap Nat :=
  let below := old.filter (fun r => decide (r.1 < base))
  let above := if last then [] else old.filter (fun r => decide (base + segmentEntries ≤ r.1))
  let here := (List.range segmentEntries).filterMap (fun i =>
    let v := getLe entries i 1
    if v = 0 then none else some (base + i, v))
  below ++ here ++ above

/-- ID_ASSIGN, accepted from the parent's side: a module without this ID takes everything at once, in service the table waits for
the commit; what is for others goes on (R549, R550). -/
def doIdAssign (port : Nat) (t : Trans) (m : Module) : Module :=
  let b := t.payload
  if m.upward ≠ some port ∨ m.fab.role = 2 then m
  else if getLe b 0 16 ≠ Config.serial.toNat then m.relay (m.upBut port) t
  else
    let last := bitOf t.flags 1
    let f := m.fab
    let id := getLe b 16 2 % 4096
    let f1 := { f with
      deviceId := id, manager := getLe b 18 2 % 4096, lead := getLe b 20 2 % 4096, x := getLe b 22 1 % 64, y := getLe b 23 1 % 64 }
    let entries := (b.drop 32).take segmentEntries
    let f2 :=
      if !f.idValid ∨ f.deviceId ≠ id then
        { f1 with idValid := last, routes := putSegment f.routes t.address last entries, scheme := getLe b 26 1 % 4, nextRoutes := [] }
      else { f1 with nextRoutes := putSegment f.nextRoutes t.address last entries, nextScheme := getLe b 26 1 % 4 }
    ({ m with fab := f2 }).setWrap (getLe b 27 1)
def execIdAssign (port : Nat) (t : Trans) (s : State) : Host.Outcome State Fault Refusal := onTrans port t 0x23 (doIdAssign port t) s

/-- LEAD_MANAGER_TIMEOUT: no lead manager heard within 2 s (R551). -/
def doLeadManagerTimeout (m : Module) : Module :=
  if m.inStage 9 ∧ m.fab.leadSerial.isNone ∧ m.fab.role ≠ 2 then (m.roleConflict 0xFF).failS9 0x0092 2000000 else m
def execLeadManagerTimeout (s : State) : Host.Outcome State Fault Refusal := onModule true doLeadManagerTimeout s

/-- S9_FABRIC: the stage ends. With no port trained it fails with cause 0x0091; past its 5 s, on a conflict or a finding, with
0x0092; with an ID, a table and the default records committed it passes and fabric_ready is set (R549). -/
def doS9Fabric (fs : List Finding) (dur : Nat) (m : Module) : Module :=
  if !m.inStage 9 then m
  else if (firstCause fs [0x0091]).isSome ∨ m.fab.ports.all (fun p => !p.up && p.state != 1) then m.failS9 0x0091 dur
  else if (firstCause fs [0x0092]).isSome ∨ m.fab.conflict ∨ 5000000 ≤ dur then m.failS9 0x0092 dur
  else if m.fab.idValid ∧ m.epochs.algEpoch ≠ 0 ∧ m.epochs.staged.isEmpty ∧ !m.fab.replan then
    let m1 := m.writeReport 9 m 2 dur 0 0
    ({ m1 with bring := { m1.bring with active := false } }).setFabricReady true
  else m
def execS9Fabric (fs : List Finding) (dur : Nat) (s : State) : Host.Outcome State Fault Refusal :=
  onModule (findingsOf 9 fs) (doS9Fabric fs dur) s

/-! ## FAB.PORT (R525, R548) -/

def specFabPort : CmdSpec := { op := 0x82, pfOnly := true, fields := [(8, 1), (9, 1), (10, 2), (12, 1)] }
def badFabPort (c : Cmd) : Option Nat :=
  if 3 < pField c 8 1 then some 8 else match badDisable c with | some o => some o | none => if 2 < pField c 12 1 then some 12 else none
/-- FAB.PORT: a disable drains the port's transfers, after the routes that cross it are computed anew; enable and retrain train it,
a retraining with its replay buffer kept. -/
def bodyFabPort (c : Cmd) (id : Nat) (m : Module) : Module × Answer :=
  let p := pField c 8 1
  let q := m.fport p
  if pField c 12 1 = 0 then
    if q.state = 4 then (m, .done stOk (d4 0 ++ d4 0))
    else (((m.beginStop 0x100 (.port p) (pField c 9 1) (pField c 10 2) id false)).topoChanged, .later)
  else if pField c 12 1 = 1 then
    ((if q.state = 4 then m.updFport p (fun q => { q with state := 1, attempts := 0 }) else m), .done stOk (d4 0 ++ d4 0))
  else if q.state = 4 then (m, .refuse stFenced 0)
  else
    let n := if q.up then min (q.retrains + 1) 0xFFFF else q.retrains
    (m.updFport p (fun q => { q with state := 1, attempts := 0, retrains := n, sameReplays := 0 }), .done stOk (d4 0 ++ d4 0))
def doFabPort (c : Cmd) (m : Module) : Module :=
  runCmd specFabPort (badFabPort c) none [] none (.fabPort c) c (bodyFabPort c) m
def execFabPort (c : Cmd) (s : State) : Host.Outcome State Fault Refusal := onCmd c (doFabPort c) s

end Sys2Proof.Machine
end

