-- ==== Sys2Proof/Machine/FabRecv.lean ====
section
/-! DEFINITION. The receiving end of a fabric link (R533 to R538): a flit in order is taken, and the transactions that end in it
have the effect of their types. -/

namespace Sys2Proof.Machine

/-- What a transaction does at the module it is for, by its type (R538). -/
def Module.handle (m : Module) (port : Nat) (t : Trans) : Module :=
  match t.typ with
  | 0x01 => doWriteSp port t m
  | 0x02 => doWriteVa port t m
  | 0x03 => doReadVa port t m
  | 0x04 => doDataTransaction port t m
  | 0x05 => doAck port t m
  | 0x06 => doNack port t m
  | 0x10 => doStep port t m
  | 0x18 => doFwChunkTransaction port t m
  | 0x20 => doHello port t m
  | 0x21 => doBeacon port t m
  | 0x22 => doTopo port t m
  | 0x23 => doIdAssign port t m
  | 0x24 => doHeartbeat port t m
  | 0x25 => doSlow port t m
  | 0x26 => doHoldReport port t m
  | 0x27 => doModePrep port t m
  | 0x28 => doModeAck port t m
  | 0x29 => doModeCommitTransaction port t m
  | 0x2A => doModeAbortTransaction port t m
  | 0x2B => doEpochPoll port t m
  | 0x2C => doEpochInfo port t m
  | 0x2D => doFwPoll port t m
  | 0x2E => doFwBitmap port t m
  | 0x2F => doFwCommit port t m
  | _ => m

/-- FABRIC_FLIT_RECEIVE (R535): the flit expected, whole, is accepted; any other brings a nak. Kinds other than data and control
carry no transactions (R533). -/
def doFabricFlitReceive (port : Nat) (f : FabFlit) (m : Module) : Module :=
  let q := m.fport port
  if !q.up then m
  else if !f.good ∨ f.seq ≠ q.rxSeq then m.updFport port (fun q => { q with nakSent := true })
  else
    let m1 := m.flitHeader port f
    if 2 ≤ f.kind then m1
    else f.trans.foldl (fun (a : Module) t => a.arrive port (b2n (bitOf f.stream 2)) t (fun x => x.handle port t)) m1
def execFabricFlitReceive (port : Nat) (f : FabFlit) (s : State) : Host.Outcome State Fault Refusal :=
  onModule (portOk port && f.wf) (doFabricFlitReceive port f) s

end Sys2Proof.Machine
end

