-- ==== Sys2Proof/Machine/Switch.lean ====
section
/-! DEFINITION. Time slicing (R353 to R356): the quantum's expiry, saving, restoring and exchanging contexts, deferral. -/

namespace Sys2Proof.Machine

/-! ## The save slot (R38, R356) -/

/-- The first byte of the image in a slice. -/
def imageOff : Nat := 0x1F800000

/-- A line of the image or of the scratchpad belongs to the context of a thread: every line in whole mode, in split mode those of
the thread's folded scratchpad (R136). -/
def lineOf (split : Bool) (t : Nat) (line : Nat) : Bool := !split || line % 2 == t

/-- The image's rows, as row × 64 + bank. -/
def imageRows : List Nat := (List.range 1024).map (fun i => imageOff / 2048 + i)

/-- A byte of the site's slice that stands in its image. -/
def inImage (site a : Nat) : Bool := siteOfAddr a == site && decide (imageOff ≤ offOfAddr a ∧ offOfAddr a < imageOff + 2 ^ 21)

/-- The image's bytes of a context, by scratchpad offset; a byte not listed is 0. -/
def Module.imageBytes (m : Module) (site : Nat) (split : Bool) (t : Nat) : SMap Byte :=
  ((m.mem.bytes.filter (fun c => inImage site c.1)).map (fun c => (offOfAddr c.1 - imageOff, c.2))).filter (fun c => lineOf split t (c.1 / 64))

/-- The scratchpad lines that a poisoned row of the image holds. -/
def Module.imagePoison (m : Module) (site : Nat) (split : Bool) (t : Nat) : List Nat :=
  ((imageRows.filter (fun r => (m.rowMeta site r).poison)).flatMap (fun r =>
    (List.range 32).map (fun k => (r * 2048 - imageOff) / 64 + k))).filter (lineOf split t)

/-- The scratchpad is written to the image; whole rows are clean then, half-written ones keep their poison. -/
def Module.putImage (m : Module) (site : Nat) (split : Bool) (t : Nat) (s : Scratch) : Module :=
  let base := devAddr site imageOff
  let kept : SMap Byte := m.mem.bytes.filter (fun c => !(inImage site c.1 && lineOf split t ((offOfAddr c.1 - imageOff) / 64)))
  let mine : SMap Byte := s.bytes.filter (fun c => lineOf split t (c.1 / 64))
  let clean (acc : SMap RowMeta) (r : Nat) : SMap RowMeta :=
    SMap.upd {} acc (rowKey site r) (fun (x : RowMeta) => { x with
      poison := split && x.poison, source := if split then x.source else 0, strength := 3,
      part := ((m.cl (clusterOf site)).owner).getD 0 + 1, fresh := bitOf (m.slice site).undef 8 })
  { m with mem := { m.mem with
      bytes := mine.foldl (fun (b : SMap Byte) c => SMap.set 0 b (base + c.1) c.2) kept, meta_ := imageRows.foldl clean m.mem.meta_ } }

/-- The lines of a context's part of the scratchpad that are saved as poisoned (R356). -/
def Scratch.savedPoison (s : Scratch) (split : Bool) (t : Nat) : List Nat :=
  (s.poison ++ (s.badParity.map (· / 64)).filter (fun l => !(l ∈ s.poison))).eraseDups.filter (lineOf split t)

/-- The scratchpad takes a context's bytes and poison; its words have good parity. -/
def Scratch.load (s : Scratch) (split : Bool) (t : Nat) (bytes : SMap Byte) (poison : List Nat) : Scratch :=
  let kept := s.bytes.filter (fun c => !lineOf split t (c.1 / 64))
  { s with
    bytes := bytes.foldl (fun (b : SMap Byte) c => SMap.set 0 b c.1 c.2) kept,
    badParity := s.badParity.filter (fun o => !lineOf split t (o / 64)),
    poison := s.poison.filter (fun l => !lineOf split t l) ++ poison }

/-! ## What is saved and restored (R207, R355, R356) -/

/-- The streams of a thread as they are suspended; a cancelled one is gone (R247, R355). -/
def Core.suspended (c : Core) (t : Nat) : SMap Stream :=
  (c.streams.filter (fun p => p.2.thread == t && !p.2.cancelled)).map (fun (p : Nat × Stream) => (p.1, p.2.suspend))

/-- The context of a thread: registers, stack, status, queued descriptors, streams, counters, MX state, poison bits. -/
def Core.context (c : Core) (t : Nat) : SavedCtx :=
  let th := c.th t
  let gone := (c.streams.filter (fun p => p.2.thread == t && p.2.cancelled)).map (fun p => p.2.id)
  { th := { th with fetchBuf := [], fetchSeen := [], fetching := [], fetchPos := th.pc, flight := th.flight.filter (fun f => !(f.cls == 0 && f.id ∈ gone)) },
    counters := c.counters.filter (fun p => c.owns t p.1), streams := c.suspended t, half := c.half (if c.split then t else 0),
    split := c.split, poison := c.scratch.restored.savedPoison c.split t }

/-- Requests of a thread's fetch unit and of its streams. -/
def Core.ownRead (c : Core) (site t : Nat) : Src → Bool
  | .fetch s k _ => s == site && k == t
  | .stream s slot _ => s == site && (match c.stream slot with | some q => q.thread == t | none => false)
  | _ => false

/-- The thread is free: its context has been saved, its queues and slots are empty. -/
def Core.vacate (c : Core) (t : Nat) : Core :=
  let c1 := (c.updTh t Thread.blank).updHalf (if c.split then t else 0) (fun h => { h with weights := [], runs := [], drains := [], feeder := [] })
  { c1 with
    streams := c1.streams.filter (fun p => p.2.thread != t), counters := c1.counters.filter (fun p => !c1.owns t p.1), wholePending := false,
    switching := c1.switching.filter (· != t), due := c1.due.filter (· != t), scratch := c1.scratch.restored }

/-- The saved context is the running one again: the array as it left it, its streams, counters, registers. The fault registers are
the hardware's, a half out of service stays so. -/
def Core.resume (c : Core) (t : Nat) (k : SavedCtx) : Core :=
  let old := c.th t
  let th : Thread := { k.th with
    nextId := max old.nextId k.th.nextId, faultCode := old.faultCode, faultCause := old.faultCause, faultOp := old.faultOp,
    faultValid := old.faultValid, faultDesc := old.faultDesc, faultAddr := old.faultAddr }
  let c0 := { c with split := k.split }
  let c1 := (c0.updTh t (fun _ => th)).updHalf (if k.split then t else 0) (fun h => { k.half with fenced := h.fenced })
  let kept := c1.counters.filter (fun p => !c1.owns t p.1)
  let whole := match th.splitWait with | some f => !bitOf (getLe f.bytes 1 1) 0 | none => false
  { c1 with
    counters := k.counters.foldl (fun (a : SMap Nat) p => SMap.set 0 a p.1 p.2) kept,
    streams := k.streams.foldl (fun (a : SMap Stream) p => SMap.set {} a p.1 p.2) (c1.streams.filter (fun p => p.2.thread != t)),
    wholePending := c1.wholePending || whole }

/-- A context is marked as saved or as running, in its partition's list. -/
def Module.markCtx (m : Module) (it : Item) (saved : Bool) : Module :=
  m.updPart it.part (fun p => { p with contexts := p.contexts.map (fun (x : Ctx) => if x.num = it.ctx then { x with saved := saved } else x) })

/-- The running context goes to the save slot. -/
def Module.saveCtx (m : Module) (site t : Nat) (it : Item) : Module :=
  let c := m.core site
  let k := c.context t
  let m1 := (m.dropReads (c.ownRead site t)).putImage site c.split t c.scratch
  (m1.updCore site (fun c => (c.vacate t).putSaved t (some k))).markCtx it true

/-- A context comes back from the save slot whose content was `bytes` and `poison`; fetch begins at its program counter. -/
def Module.restoreCtx (m : Module) (site t : Nat) (k : SavedCtx) (bytes : SMap Byte) (poison : List Nat) : Module :=
  let load (c : Core) : Core := { c.resume t k with
    scratch := c.scratch.restored.load k.split t bytes (k.poison ++ poison.filter (fun l => !(l ∈ k.poison))) }
  let m1 := m.updCore site load
  let m2 := match k.th.item with | some it => m1.markCtx it false | none => m1
  m2.fetchNext site t

/-! ## The switch (R354 to R356) -/

/-- A layer group of the core's slice is under write hold or in Over (R355). -/
def Module.switchHeld (m : Module) (site : Nat) : Bool :=
  (List.range 4).any (fun g => m.held (stackOfSite site * 4 + g) || m.halted (stackOfSite site * 4 + g))

/-- The next item queued for a thread, if the mode suits it. -/
def Module.nextItem (m : Module) (site t : Nat) : Option (Item × List Item) :=
  match takeFirst (fun (it : Item) => it.thread == t) (m.core site).queue with
  | some (it, rest) => if m.modeFits site it then some (it, rest) else none
  | none => none

/-- Something waits for the thread: a saved context, or a queued item (R354). -/
def Module.switchWanted (m : Module) (site t : Nat) : Bool :=
  match (m.core site).savedOf t with
  | some k => (m.core site).canResume t k
  | none => m.dispatching && !(m.cl (clusterOf site)).functionView && (m.core site).scratch.phase != 100 && (m.nextItem site t).isSome

/-- QUANTUM_EXPIRY: with a quantum of 0xFF nothing is time-sliced; a switch whose slice is held is due. -/
def doQuantumExpiry (site t : Nat) (m : Module) : Module :=
  match ((m.core site).th t).item with
  | none => m
  | some it =>
    if (m.part it.part).quantum = 0xFF ∨ !m.running site t ∨ !m.switchWanted site t then m
    else if m.switchHeld site then m.updCore site (fun c => { c with due := insertNew t c.due })
    else m.updCore site (fun c => { c with switching := insertNew t c.switching })
def execQuantumExpiry (site thread : Nat) (s : State) : Host.Outcome State Fault Refusal :=
  onModule (siteThreadOk site thread) (doQuantumExpiry site thread) s

/-- SWITCH_RECHECK: a switch that is due starts once no layer group keeps it. -/
def doSwitchRecheck (site : Nat) (m : Module) : Module :=
  if m.switchHeld site then m
  else (m.core site).due.foldl (fun (acc : Module) t =>
    let go := acc.running site t && acc.switchWanted site t
    acc.updCore site (fun c => { c with
      due := c.due.filter (· != t), switching := if go then insertNew t c.switching else c.switching })) m
def execSwitchRecheck (site : Nat) (s : State) : Host.Outcome State Fault Refusal := onModule (siteOk site) (doSwitchRecheck site) s

/-- SWITCH_DEFERRAL: what is not quiet after 1 ms keeps the core; counted, event 0x43. -/
def doSwitchDeferral (site : Nat) (m : Module) : Module :=
  let c := m.core site
  (c.switching.filter (fun t => !c.quiet t)).foldl (fun (acc : Module) t =>
    let m1 := acc.updCore site (fun c => { c with switching := c.switching.filter (· != t) })
    match (c.th t).item with
    | some it => (m1.updPart it.part (fun p => { p with deferred := sat64 p.deferred 1 })).prtEvent 0x43 it.part 0 it.part site 0 0 it.ctx 0
    | none => m1) m
def execSwitchDeferral (site : Nat) (s : State) : Host.Outcome State Fault Refusal := onModule (siteOk site) (doSwitchDeferral site) s

/-- A context switch is counted for its partition (R367). -/
def Module.countSwitch (m : Module) (n : Nat) : Module := m.updPart n (fun p => { p with switches := sat64 p.switches 1 })

/-- The running context makes way: for the saved one, or for the queued item, which starts; for nothing, it runs on. -/
def Module.switchOut (m : Module) (site t : Nat) (it : Item) : Module :=
  let c := m.core site
  let stay (m : Module) : Module := m.updCore site (fun c => { c with switching := c.switching.filter (· != t) })
  match c.savedOf t with
  | some k =>
    if !c.canResume t k then stay m
    else
      let bytes := m.imageBytes site k.split t
      let poison := m.imagePoison site k.split t
      ((m.saveCtx site t it).restoreCtx site t k bytes poison).countSwitch it.part
  | none =>
    match m.nextItem site t with
    | none => stay m
    | some (nx, rest) =>
      if !m.dispatching ∨ (m.cl (clusterOf site)).functionView ∨ c.scratch.phase = 100 then stay m
      else (((m.saveCtx site t it).countSwitch it.part).updCore site (fun c => { c with queue := rest })).startItem site t nx

/-- A thread without work takes its saved context back (R354); a halted one only unless hold_on_fault keeps it (R167). -/
def Module.switchIn (m : Module) (site t : Nat) (k : SavedCtx) : Module :=
  let c := m.core site
  let th := c.th t
  if m.switchHeld site ∨ !c.enabled ∨ !m.runs (clusterOf site) ∨ m.resetting site ∨ !c.canResume t k ∨ (th.halted ∧ c.holdOnFault) ∨
      (c.half t).fenced then m
  else
    let bytes := m.imageBytes site k.split t
    let poison := m.imagePoison site k.split t
    let m1 := if th.halted then m.threadReset site t else m
    let m2 := (m1.updCore site (fun c => c.putSaved t none)).restoreCtx site t k bytes poison
    match k.th.item with
    | some it => m2.countSwitch it.part
    | none => m2

/-- CONTEXT_SWITCH: steps 3 to 5 of R355, once what is in flight has run to completion. -/
def doContextSwitch (site t : Nat) (m : Module) : Module :=
  let c := m.core site
  match (c.th t).item with
  | some it => if t ∈ c.switching ∧ c.quiet t ∧ m.clocked site ∧ !m.resetting site then m.switchOut site t it else m
  | none => match c.savedOf t with
    | some k => m.switchIn site t k
    | none => m
def execContextSwitch (site thread : Nat) (s : State) : Host.Outcome State Fault Refusal :=
  onModule (siteThreadOk site thread) (doContextSwitch site thread) s

end Sys2Proof.Machine
end

