-- ==== Sys2Proof/Machine/Management.lean ====
section
/-! DEFINITION. The management port (chapter 19): the I3C target, its registers, requests of the rack controller, firmware
sessions, in-band interrupts. -/

namespace Sys2Proof.Machine

/-! ## Registers (R577 to R581, R586) -/

/-- The module controller's self-check has failed (R457, R580). -/
def Module.romFailed (m : Module) : Bool := (SMap.get {} m.bring.reports 0).cause == 2

/-- A cold start would now be refused: within 10 s of a trip, or without FLOW_TACH (R383, R581). -/
def Module.startBlocked (m : Module) : Bool :=
  (match m.thermal.tripAt with | some t => decide (m.time < t + 10000000) | none => false) || !m.thermal.flowPresent

/-- MG_STATUS. -/
def Module.mgStatus (m : Module) : Word := regWord
  [(0, 19, m.devStatus.toNat), (19, 1, b2n m.bring.lastTrip), (20, 1, b2n m.bring.lastRail), (21, 1, b2n m.bring.lastFeeds),
   (22, 1, b2n m.startBlocked), (23, 1, b2n m.thermal.flowPresent), (24, 1, b2n m.fwSession), (32, 16, m.power.inputW)]

/-- MG_REQ_STATUS. -/
def Mgmt.reqStatus (g : Mgmt) : Word := regWord
  [(0, 1, b2n g.reqBusy), (1, 1, b2n g.overrun), (8, 8, g.doneTag), (16, 16, g.status), (32, 32, g.detail)]

/-- The entry under a cursor: the first still held at or after the number sought. -/
def Log.under (l : Log) (cursor : Nat) : Option Entry := l.entries.find? (fun e => seqGe e.seq cursor)

/-- MG_LOG_SEQ: the number under the cursor. -/
def State.logSeq (s : State) : Nat := match s.m.log.under s.mgmt.cursor with | some e => e.seq | none => s.mgmt.cursor
/-- MG_LOG_ENTRY: the entry under the cursor, 0 while there is none. -/
def State.logEntry (s : State) : List Byte :=
  match s.m.log.under s.mgmt.cursor with | some e => e.bytes | none => List.replicate 64 0

/-- An 8-byte register of the map; offsets not listed read 0. -/
def State.mgReg (s : State) (off : Nat) : Word :=
  let m := s.m
  let g := s.mgmt
  if off = 0x08 then m.mgStatus
  else if 0x400 ≤ off ∧ off < 0x4A0 then (if off % 16 = 0 then m.stageWord0 ((off - 0x400) / 16) else m.stageWord1 ((off - 0x400) / 16))
  else if m.romFailed then BitVec.ofNat 64 (2 ^ 64 - 1)
  else if off = 0x00 then m.devIdent
  else if off = 0x10 then m.devCores
  else if off = 0x18 then m.devEpoch
  else if off = 0x20 then m.pwrFeed
  else if off = 0x28 then BitVec.ofNat 64 g.errors
  else if off = 0x88 then BitVec.ofNat 64 g.reqArg
  else if off = 0x90 then g.reqStatus
  else if 0x100 ≤ off ∧ off < 0x140 then BitVec.ofNat 64 (getLe g.telLatch (off - 0x100) 8)
  else if off = 0x200 then regWord [(0, 32, s.logSeq)]
  else if 0x208 ≤ off ∧ off < 0x248 then BitVec.ofNat 64 (getLe g.entryLatch (off - 0x208) 8)
  else if off = 0x250 then regWord [(0, 32, m.log.oldest), (32, 32, m.log.newest)]
  else if 0x1000 ≤ off ∧ off < 0x2000 then
    BitVec.ofNat 64 (leNat ((List.range 8).map (fun i => SMap.get 0 g.fwBuf (off - 0x1000 + i))))
  else 0

/-- The offsets the map lists. -/
def mgListed (off : Nat) : Bool :=
  decide (off ∈ [0x00, 0x08, 0x10, 0x18, 0x20, 0x28, 0x80, 0x88, 0x90, 0x200, 0x250]) || decide (0x100 ≤ off ∧ off < 0x140) ||
  decide (0x208 ≤ off ∧ off < 0x248) || decide (0x400 ≤ off ∧ off < 0x4A0) || decide (0x1000 ≤ off ∧ off < 0x2000)

/-- A partial write, an overrun or a refused request is counted (R580). -/
def Mgmt.countError (g : Mgmt) : Mgmt := { g with errors := sat64 g.errors 1 }

/-! ## Requests (R582 to R585) -/

/-- The requests of R583. -/
def mgOps : List Nat := [0x01, 0x02, 0x03, 0x04, 0x05, 0x06, 0x07, 0x08, 0x09, 0x10, 0x11, 0x12, 0x13, 0x14]

/-- A request finishes: its result stands in MG_REQ_STATUS, and the controller is interrupted (R588). -/
def State.finishReq (s : State) (st detail : Nat) : State :=
  { s with
    mgmt := { s.mgmt with reqBusy := false, doneTag := s.mgmt.reqTag, status := st, detail := detail % 2 ^ 32 },
    m := s.m.ibi 1 }

/-- A request is refused: counted and logged (R585). -/
def State.refuseReq (s : State) (st : Nat) : State :=
  let m := s.m.hostEvent 0xA6 0xFF 0xFFFF s.mgmt.reqOp st s.mgmt.reqTag 0 (s.mgmt.reqArg % 2 ^ 32)
  { s with mgmt := s.mgmt.countError, m := m }.finishReq st 0

/-- A write of MG_REQ starts a request; while one runs it is discarded as an overrun; an opcode not listed is answered at once. -/
def State.startReq (s : State) (v : Nat) : State :=
  if s.mgmt.reqBusy then { s with mgmt := { s.mgmt.countError with overrun := true } }
  else
    let s1 := { s with mgmt := { s.mgmt with reqBusy := true, reqOp := v % 256, reqTag := v / 256 % 256, sessionAt := s.m.time } }
    if v % 256 ∈ mgOps then s1 else s1.refuseReq stBadOpcode

/-- A whole 8-byte register is written (R577, R581). -/
def State.mgWrite (s : State) (off v : Nat) : State :=
  let g := s.mgmt
  if s.m.romFailed then s
  else if off = 0x80 then s.startReq v
  else if off = 0x88 then { s with mgmt := { g with reqArg := v } }
  else if off = 0x90 then { s with mgmt := { g with overrun := g.overrun && !bitOf v 1 } }
  else if off = 0x200 then { s with mgmt := { g with cursor := v % 2 ^ 32, seqAt := s.m.time + 1 } }
  else if 0x1000 ≤ off ∧ off < 0x2000 then
    if g.reqBusy ∧ g.reqOp = 0x11 then { s with mgmt := g.countError }
    else { s with mgmt := { g with
      fwBuf := (List.range 8).foldl (fun (b : SMap Byte) i => SMap.set 0 b (off - 0x1000 + i) (byteAt v i)) g.fwBuf } }
  else s

/-! ## Transfers (R577 to R579) -/

/-- The registers that `n` bytes from `off` touch. -/
def mgRegs (off n : Nat) : List Nat := if n = 0 then [] else (List.range ((off + n - 1) / 8 + 1 - off / 8)).map (fun i => (off / 8 + i) * 8)

/-- Data bytes of a write: each register written whole takes effect, one written in part is counted. -/
def State.putRegs (s : State) (off : Nat) (bs : List Byte) : State :=
  (mgRegs off bs.length).foldl (fun (acc : State) r =>
    if off ≤ r ∧ r + 8 ≤ off + bs.length then acc.mgWrite r (leNat ((bs.drop (r - off)).take 8))
    else if mgListed r then { acc with mgmt := acc.mgmt.countError } else acc) s

/-- A private write: two bytes of offset, then data up to the maximum length. -/
def State.transferIn (s : State) (bytes : List Byte) : State :=
  if bytes.length < 2 then { s with mgmt := { s.mgmt with acked := true, answer := [] } }
  else
    let off := getLe bytes 0 2
    let s1 := { s with mgmt := { s.mgmt with offset := off, acked := true, answer := [] } }
    s1.putRegs off ((bytes.drop 2).take s.mgmt.maxWrite)

/-- A byte of the map. -/
def State.mgByte (s : State) (a : Nat) : Byte := byteAt (s.mgReg (a / 8 * 8)).toNat (a % 8)

/-- A private read: not acknowledged for 50 µs after MG_LOG_SEQ was written; MG_TEL and MG_LOG_ENTRY are latched with their first
byte, the last byte of an entry moves the cursor on. -/
def State.transferOut (s : State) (len : Nat) : State :=
  let g := s.mgmt
  if s.m.time + 1 < g.seqAt + 50 ∧ g.seqAt ≠ 0 then { s with mgmt := { g with acked := false, answer := [] } }
  else
    let n := min len g.maxRead
    let hits (a : Nat) : Bool := decide (g.offset ≤ a ∧ a < g.offset + n)
    let s1 := { s with mgmt := { g with
      telLatch := if hits 0x100 then s.m.snapshot else g.telLatch,
      entryLatch := if hits 0x208 then s.logEntry else g.entryLatch } }
    let cursor := match hits 0x247, s.m.log.under g.cursor with
      | true, some e => nextSeqNo e.seq
      | _, _ => g.cursor
    { s1 with mgmt := { s1.mgmt with
      answer := (List.range n).map (fun i => s1.mgByte (g.offset + i)), acked := true, offset := (g.offset + n) % 65536, cursor := cursor } }

/-- Nothing is acknowledged. -/
def State.nack (s : State) : State := { s with mgmt := { s.mgmt with acked := false, answer := [] } }

/-- A transfer at the dynamic address (R573, R589). -/
def State.sdr (s : State) (f : State → State) : State := if s.mgmt.up ∧ s.mgmt.dynAddr.isSome then f s else s.nack

/-- MG_PRIVATE_WRITE. -/
def doMgPrivateWrite (bytes : List Byte) (s : State) : State := s.sdr (fun s => s.transferIn bytes)
def execMgPrivateWrite (bytes : List Byte) (s : State) : Host.Outcome State Fault Refusal := onState true (doMgPrivateWrite bytes) s

/-- MG_PRIVATE_READ. -/
def doMgPrivateRead (len : Nat) (s : State) : State := s.sdr (fun s => s.transferOut len)
def execMgPrivateRead (len : Nat) (s : State) : Host.Outcome State Fault Refusal := onState true (doMgPrivateRead len) s

/-- I2C_TRANSFER: the static address answers while the module holds no dynamic one (R573). -/
def doI2cTransfer (addr : Nat) (write : Bool) (bytes : List Byte) (len : Nat) (s : State) : State :=
  if s.mgmt.up ∧ s.mgmt.dynAddr.isNone ∧ addr = 0x48 + s.mgmt.strap then (if write then s.transferIn bytes else s.transferOut len) else s.nack
def execI2cTransfer (addr : Nat) (write : Bool) (bytes : List Byte) (len : Nat) (s : State) : Host.Outcome State Fault Refusal :=
  onState (decide (addr < 128)) (doI2cTransfer addr write bytes len) s

/-- MG_LOG_SEQ_WRITE and MG_FW_BUF_WRITE: the register writes named by their rows. -/
def doMgLogSeqWrite (value : Nat) (s : State) : State := if s.mgmt.up then s.mgWrite 0x200 value else s
def execMgLogSeqWrite (value : Nat) (s : State) : Host.Outcome State Fault Refusal :=
  onState (decide (value < 2 ^ 64)) (doMgLogSeqWrite value) s
def doMgFwBufWrite (off : Nat) (bytes : List Byte) (s : State) : State := if s.mgmt.up then s.putRegs (0x1000 + off) bytes else s
def execMgFwBufWrite (off : Nat) (bytes : List Byte) (s : State) : Host.Outcome State Fault Refusal :=
  onState (decide (off + bytes.length ≤ 4096)) (doMgFwBufWrite off bytes) s

/-! ## Common commands (R571 to R576) -/

/-- The provisional ID (R572). -/
def provisionalId : Nat := 0x3A5 * 2 ^ 33 + 0x1040 * 2 ^ 16 + Config.serial.toNat % 2 ^ 16
def bcr : Byte := 0x06
def dcr : Byte := 0x00
/-- Bytes sent most significant first. -/
def beBytes (n v : Nat) : List Byte := (leBytes n v).reverse

/-- ENTDAA: a module without an address whose ENUM_IN is high takes the one assigned and raises ENUM_OUT (R574, R575). -/
def doEntdaa (addr : Nat) (enumInHigh : Bool) (s : State) : State :=
  if s.mgmt.up ∧ s.mgmt.dynAddr.isNone ∧ enumInHigh then
    { s with mgmt := { s.mgmt with
      dynAddr := some addr, enumOut := true, acked := true, answer := beBytes 6 provisionalId ++ [bcr, dcr] } }
  else s.nack
def execEntdaa (addr : Nat) (enumInHigh : Bool) (s : State) : Host.Outcome State Fault Refusal :=
  onState (decide (addr < 128)) (doEntdaa addr enumInHigh) s

/-- RSTDAA: back to the static address, ENUM_OUT low (R573, R575). -/
def doRstdaa (s : State) : State :=
  if s.mgmt.up then { s with mgmt := { s.mgmt with dynAddr := none, enumOut := false, acked := true, answer := [] } } else s.nack
def execRstdaa (s : State) : Host.Outcome State Fault Refusal := onState true doRstdaa s

/-- ENEC and DISEC. -/
def doEnec (s : State) : State := s.sdr (fun s => { s with mgmt := { s.mgmt with ibiOn := true, acked := true, answer := [] } })
def execEnec (s : State) : Host.Outcome State Fault Refusal := onState true doEnec s
def doDisec (s : State) : State := s.sdr (fun s => { s with mgmt := { s.mgmt with ibiOn := false, acked := true, answer := [] } })
def execDisec (s : State) : Host.Outcome State Fault Refusal := onState true doDisec s

/-- A common command that returns bytes. -/
def State.ccc (s : State) (f : State → List Byte) : State := s.sdr (fun s => { s with mgmt := { s.mgmt with acked := true, answer := f s } })

def doGetpid (s : State) : State := s.ccc (fun _ => beBytes 6 provisionalId)
def execGetpid (s : State) : Host.Outcome State Fault Refusal := onState true doGetpid s
def doGetbcr (s : State) : State := s.ccc (fun _ => [bcr])
def execGetbcr (s : State) : Host.Outcome State Fault Refusal := onState true doGetbcr s
def doGetdcr (s : State) : State := s.ccc (fun _ => [dcr])
def execGetdcr (s : State) : Host.Outcome State Fault Refusal := onState true doGetdcr s
/-- GETSTATUS: the causes still pending in its interrupt field, the low four bits (R588). -/
def doGetstatus (s : State) : State := s.ccc (fun s => beBytes 2 (min s.m.ibiCauses.length 15))
def execGetstatus (s : State) : Host.Outcome State Fault Refusal := onState true doGetstatus s
def doGetmwl (s : State) : State := s.ccc (fun s => beBytes 2 s.mgmt.maxWrite)
def execGetmwl (s : State) : Host.Outcome State Fault Refusal := onState true doGetmwl s
/-- GETMRL: the maximum read length, and the one byte an in-band interrupt carries. -/
def doGetmrl (s : State) : State := s.ccc (fun s => beBytes 2 s.mgmt.maxRead ++ [1])
def execGetmrl (s : State) : Host.Outcome State Fault Refusal := onState true doGetmrl s

/-- SETMWL and SETMRL: 16 to 256 bytes (R571). -/
def lenOk (n : Nat) : Bool := decide (16 ≤ n ∧ n ≤ 256)
def doSetmwl (len : Nat) (s : State) : State :=
  s.sdr (fun s => if lenOk len then { s with mgmt := { s.mgmt with maxWrite := len, acked := true, answer := [] } } else s.nack)
def execSetmwl (len : Nat) (s : State) : Host.Outcome State Fault Refusal := onState true (doSetmwl len) s
def doSetmrl (len : Nat) (s : State) : State :=
  s.sdr (fun s => if lenOk len then { s with mgmt := { s.mgmt with maxRead := len, acked := true, answer := [] } } else s.nack)
def execSetmrl (len : Nat) (s : State) : Host.Outcome State Fault Refusal := onState true (doSetmrl len) s

/-- MGMT_RESET_N low for 1 µs (R576, R640); a shorter pulse does nothing. -/
def doMgmtResetN (lowUs : Nat) (s : State) : State :=
  if lowUs = 0 then s
  else { s with
    mgmt := { s.mgmt with dynAddr := none, enumOut := false, maxWrite := 256, maxRead := 256, ibiOn := false, reqBusy := false },
    jtag := { s.jtag with unlocked := false },
    m := { s.m with fwSession := false } }
def execMgmtResetN (lowUs : Nat) (s : State) : Host.Outcome State Fault Refusal := onState true (doMgmtResetN lowUs) s

/-! ## The requests' effects (R583, R584, R587) -/

/-- How a request ends. -/
inductive Req where
  | ok (s : State) (detail : Nat)
  | answer (s : State) (st : Nat)
  | refuse (st : Nat)

/-- Runs the request if it is the one waiting; the argument must lie inside `mask` (R585). -/
def State.request (s : State) (op mask : Nat) (f : State → Nat → Req) : State :=
  let g := s.mgmt
  if !g.up ∨ !g.reqBusy ∨ g.reqOp ≠ op then s
  else if g.reqArg &&& mask ≠ g.reqArg then s.refuseReq stBadParam
  else match f s g.reqArg with
    | .ok s1 d => s1.finishReq stOk d
    | .answer s1 st => s1.finishReq st 0
    | .refuse st => s.refuseReq st

/-- COLD_START: refused while R383 blocks it; ends commands, a firmware session, the trace's unlock (R446, R512, R640). -/
def doColdStart (s : State) : State :=
  s.request 0x01 1 (fun s a =>
    if s.m.startBlocked then .refuse stThermalHold
    else
      let cause := if s.m.bring.lastTrip ∨ s.m.bring.lastRail then 5 else 2
      let m := s.m.cancelAll s.m.engine.nextId
      .ok { s with
        m := m.coldStart (a == 1) true cause, mgmt := { s.mgmt with seqAt := 0, sessionAt := 0 },
        jtag := { s.jtag with unlocked := false } } 0)
def execColdStart (s : State) : Host.Outcome State Fault Refusal := onState true doColdStart s

/-- MODULE_RESET: once S2 has ended; from Sealed the rails come up first. -/
def doModuleReset (s : State) : State :=
  s.request 0x02 1 (fun s a =>
    if s.m.bring.stage < 3 ∨ !s.m.power.pwrGood then .refuse stNotReady
    else
      let m := s.m.cancelAll s.m.engine.nextId
      .ok { s with m := (doSealedExit m).moduleReset (a == 1) 2 } 0)
def execModuleReset (s : State) : Host.Outcome State Fault Refusal := onState true doModuleReset s

/-- WAKE: the exit of R428. -/
def doWake (s : State) : State :=
  s.request 0x03 0 (fun s _ => if s.m.power.moduleState = 3 then .ok { s with m := doSealedExit s.m } 0 else .refuse stNotReady)
def execWake (s : State) : Host.Outcome State Fault Refusal := onState true doWake s

/-- BOARD: with force all work is aborted first (R341, R429). -/
def doBoard (s : State) : State :=
  s.request 0x04 1 (fun s a =>
    let active := (List.range 64).any (fun n => (s.m.part n).state == 2)
    if active ∧ a = 0 then .refuse stNotReady
    else
      let m1 := if a = 1 then (List.range 64).foldl (fun (acc : Module) n => acc.abortAndDisable n) (s.m.cancelAll s.m.engine.nextId) else s.m
      .ok { s with m := m1.enterBoarded } 0)
def execBoard (s : State) : Host.Outcome State Fault Refusal := onState true doBoard s

/-- The module leaves Boarded: a bring-up from S0 in the mode asked for, the log kept (R429, R458, R596). -/
def Module.leaveBoarded (m : Module) (quickAsked : Bool) : Module :=
  let quick := quickAsked && m.quickOk
  let m1 := m.watchLadder (fun m => { m with
    power := { m.power with moduleState := 0 },
    bring := { m.bring with
      stage := 0, active := true, quick := quick, suspended := false, stageFailed := false,
      reports := [(0, { quick := quick, result := 1, attempt := 1 })] } })
  if quickAsked && !quick then m1.bringEvent 0x83 0 0xFF 2 0 0 else m1

/-- UNBOARD. -/
def doUnboard (s : State) : State :=
  s.request 0x05 1 (fun s a => if s.m.power.moduleState = 4 then .ok { s with m := s.m.leaveBoarded (a == 1) } 0 else .refuse stNotReady)
def execUnboard (s : State) : Host.Outcome State Fault Refusal := onState true doUnboard s

/-- FEED: as PWR.FEED. -/
def doFeed (s : State) : State :=
  s.request 0x06 0x101 (fun s a =>
    if !s.m.claimsFree [.power] then .refuse stBusy
    else match s.m.commandFeed (a % 2) (bitOf a 8) with
      | none => .refuse stBusy
      | some m2 =>
        let m1 := s.m.watchFeeds (fun _ => m2)
        .ok { s with m := m1 } m1.pwrFeed.toNat)
def execFeed (s : State) : Host.Outcome State Fault Refusal := onState true doFeed s

/-- LIMIT: as PWR.LIMIT. -/
def doLimit (s : State) : State :=
  s.request 0x07 0x1FFF (fun s a =>
    if a < 1500 ∨ 4400 < a then .refuse stBadParam
    else if !s.m.bring.ready then .refuse stNotReady
    else if !s.m.claimsFree [.power] then .refuse stBusy
    else .ok { s with m := { s.m with power := { s.m.power with limit := a } } } s.m.power.limit)
def execLimit (s : State) : Host.Outcome State Fault Refusal := onState true doLimit s

/-- ROLE: as FAB.ROLE. -/
def doRole (s : State) : State :=
  s.request 0x08 3 (fun s a =>
    if 2 < a then .refuse stBadParam
    else .ok { s with m := { s.m with fab := { s.m.fab with roleConfig := a } } } s.m.fab.roleConfig)
def execRole (s : State) : Host.Outcome State Fault Refusal := onState true doRole s

/-- RESUME: as THM.RESUME. -/
def doResume (s : State) : State :=
  s.request 0x09 0 (fun s _ =>
    if !s.m.thermal.stop then .ok s 0
    else if s.m.resumeOk then
      let w := s.m.freeWord
      .ok { s with m := w.2.resume } w.1.toNat
    else .refuse stThermalHold)
def execResume (s : State) : Host.Outcome State Fault Refusal := onState true doResume s

/-- FW_BEGIN opens a session, which holds the image slots. -/
def doFwBegin (s : State) : State :=
  s.request 0x10 0 (fun s _ =>
    if !s.m.claimsFree [.slots] then .refuse stBusy else .ok { s with m := { s.m with fwSession := true } } s.m.inactive)
def execFwBegin (s : State) : Host.Outcome State Fault Refusal := onState true doFwBegin s

/-- The bytes of MG_FW_BUF. -/
def Mgmt.buffer (g : Mgmt) : List Byte := (List.range 4096).map (fun i => SMap.get 0 g.fwBuf i)

/-- A request of an open session. -/
def State.inSession (s : State) (r : Req) : Req := if s.m.fwSession then r else .refuse stNotReady

/-- FW_CHUNK. -/
def doMgFwChunk (s : State) : State :=
  s.request 0x11 (0x7FF + (2 ^ 32 - 1) * 2 ^ 32) (fun s a => s.inSession (
    if crc32c s.mgmt.buffer ≠ a / 2 ^ 32 then .answer s stBadImage
    else .ok { s with m := s.m.putChunk (a % 2048) s.mgmt.buffer } 4096))
def execMgFwChunk (s : State) : Host.Outcome State Fault Refusal := onState true doMgFwChunk s

/-- FW_VERIFY: whether the signature verifies is the operand. -/
def doMgFwVerify (sigOk : Bool) (s : State) : State :=
  s.request 0x12 1 (fun s a => s.inSession (
    if !sigOk then .answer s stBadImage
    else
      let m1 := s.m.passSlot (a % 2)
      .ok { s with m := m1 } (m1.slot (a % 2)).moduleVer))
def execMgFwVerify (sigOk : Bool) (s : State) : Host.Outcome State Fault Refusal := onState true (doMgFwVerify sigOk) s

/-- FW_ACTIVATE: now means a module reset with a full start, which ends the session. -/
def doMgFwActivate (s : State) : State :=
  s.request 0x13 0x101 (fun s a => s.inSession (
    let old := s.m.activeSlot
    if !(s.m.slot (a % 2)).valid then .answer s stBadImage
    else if bitOf a 8 then
      .ok { s with m := ((s.m.activate (a % 2)).cancelAll s.m.engine.nextId).moduleReset false 2 } old
    else .ok { s with m := s.m.activate (a % 2) } old))
def execMgFwActivate (s : State) : Host.Outcome State Fault Refusal := onState true doMgFwActivate s

/-- FW_END. -/
def doFwEnd (s : State) : State :=
  s.request 0x14 0 (fun s _ => s.inSession (.ok { s with m := { s.m with fwSession := false } } 0))
def execFwEnd (s : State) : Host.Outcome State Fault Refusal := onState true doFwEnd s

/-- FW_SESSION_TIMEOUT: 60 s without a request. -/
def doFwSessionTimeout (s : State) : State :=
  if !s.mgmt.reqBusy ∧ s.mgmt.sessionAt + 60000000 ≤ s.m.time then { s with m := { s.m with fwSession := false } } else s
def execFwSessionTimeout (s : State) : Host.Outcome State Fault Refusal := onState true doFwSessionTimeout s

/-- IN_BAND_INTERRUPT: the lowest pending cause goes out, once enabled (R588). -/
def doInBandInterrupt (s : State) : State :=
  match s.m.ibiCauses with
  | [] => s
  | c :: rest =>
    if s.mgmt.up ∧ s.mgmt.ibiOn ∧ s.mgmt.dynAddr.isSome then
      { s with mgmt := { s.mgmt with ibiSent := some c }, m := { s.m with ibiCauses := rest } }
    else s
def execInBandInterrupt (s : State) : Host.Outcome State Fault Refusal := onState true doInBandInterrupt s

end Sys2Proof.Machine
end

