-- ==== Sys2Proof/Machine/TestPort.lean ====
section
/-! DEFINITION. The test access port (R639, R640). -/

namespace Sys2Proof.Machine

/-- The port's instruction; what the data register shifts out. -/
def State.jtagSelect (s : State) (instr : Nat) (out : List Byte) : State := { s with jtag := { s.jtag with instr := instr, out := out } }

/-- EXTEST and CLAMP may take effect: in Boarded, or after a failed stage (R639). -/
def Module.testOpen (m : Module) : Bool := m.power.moduleState == 4 || m.bring.stageFailed
/-- The boundary register drives the pins. -/
def State.boundaryDrives (s : State) : Bool := decide (s.jtag.instr = 0x03 ∨ s.jtag.instr = 0x04) && s.m.testOpen

/-- BYPASS. -/
def doBypass (s : State) : State := s.jtagSelect 0xFF []
def execBypass (s : State) : Host.Outcome State Fault Refusal := onState true doBypass s

/-- IDCODE; captured after PEEP_UNLOCK it returns a challenge. -/
def doIdcode (s : State) : State :=
  if s.jtag.instr = 0x20 then
    let c := s.m.freeWord
    let s1 := { s with m := c.2, jtag := { s.jtag with challenge := c.1.toNat % 2 ^ 32 + 1 } }
    s1.jtagSelect 0x01 (leBytes 4 c.1.toNat)
  else s.jtagSelect 0x01 (leBytes 4 0x0104074B)
def execIdcode (s : State) : Host.Outcome State Fault Refusal := onState true doIdcode s

/-- SAMPLE: the pins of the control connector, PERST_N and PWR_GOOD, as they are. -/
def doSample (pins : Nat) (s : State) : State :=
  { s with jtag := { s.jtag with boundary := pins } }.jtagSelect 0x02 (leBytes 8 pins)
def execSample (pins : Nat) (s : State) : Host.Outcome State Fault Refusal := onState (decide (pins < 2 ^ 64)) (doSample pins) s

/-- EXTEST and CLAMP: BYPASS where they may not take effect. -/
def doExtest (s : State) : State := s.jtagSelect (if s.m.testOpen then 0x03 else 0xFF) []
def execExtest (s : State) : Host.Outcome State Fault Refusal := onState true doExtest s
def doClamp (s : State) : State := s.jtagSelect (if s.m.testOpen then 0x04 else 0xFF) []
def execClamp (s : State) : Host.Outcome State Fault Refusal := onState true doClamp s

/-- PEEP_UNLOCK: a record with this module's serial number, the challenge issued and a good signature unlocks the trace. -/
def doPeepUnlock (serial challenge : Nat) (sigOk : Bool) (s : State) : State :=
  let ok := sigOk ∧ serial = Config.serial.toNat ∧ challenge + 1 = s.jtag.challenge
  { s with jtag := { s.jtag with unlocked := if ok then true else s.jtag.unlocked } }.jtagSelect 0x20 []
def execPeepUnlock (serial challenge : Nat) (sigOk : Bool) (s : State) : Host.Outcome State Fault Refusal :=
  onState true (doPeepUnlock serial challenge sigOk) s

/-- Bytes of one ring with its header, and how many rings: ten decks and the module controller. -/
def peepRing : Nat := 65536 + 16
def peepRings : Nat := 11
/-- A byte of the trace: the header's deck index; newest offset and records are values nobody can know here. -/
def Module.peepByte (m : Module) (p : Nat) : Byte :=
  if peepRings * peepRing ≤ p then 0
  else if p % peepRing = 0 then BitVec.ofNat 8 (p / peepRing)
  else Config.freeByte (m.free * 2 ^ 20 + p)

/-- PEEP_READ: zeros until unlocked; it changes nothing of the module. -/
def doPeepRead (off len : Nat) (s : State) : State :=
  let out := if s.jtag.unlocked then (List.range len).map (fun i => s.m.peepByte (off + i)) else List.replicate len 0
  { s with m := { s.m with free := s.m.free + b2n s.jtag.unlocked } }.jtagSelect 0x21 out
def execPeepRead (off len : Nat) (s : State) : Host.Outcome State Fault Refusal :=
  onState (decide (len ≤ 4096)) (doPeepRead off len) s

/-- LOG_ENTRY_WRITE (R599): the module controller writes the oldest entry detected. -/
def execLogEntryWrite (s : State) : Host.Outcome State Fault Refusal := onModule true (fun m => m.logFront) s

end Sys2Proof.Machine
end

