-- ==== Sys2Proof/Machine/Stops.lean ====
section
/-! DEFINITION. What ends a stop of work (R340 to R342), commands that wait for their claims or for a work fence (R511, R513), and
what reaches the endpoints of the deck network: data, acceptances, route losses (R301, R319). -/

namespace Sys2Proof.Machine

/-! ## DRAIN and ABORT (R341) -/

/-- A stop ends: a retirement of its slice goes on, unless a write hold keeps it (R77); a core marked for fencing is fenced (R239). -/
def Module.stopEnds (m : Module) (q : Stop) : Module :=
  match q.target with
  | .slice s => if m.retireWaits s then m else m.retireSlice q s
  | .thread s _ => (m.finishStop q).fenceMarked s
  | _ => m.finishStop q

/-- DRAIN_COMPLETE: nothing of the target is in flight. -/
def doDrainComplete (t : Target) (m : Module) : Module :=
  match m.stopOf t with
  | none => m
  | some q => if !q.abort ∧ m.targetIdle q.cmds t then m.stopEnds q else m
def execDrainComplete (t : Target) (s : State) : Host.Outcome State Fault Refusal := onModule t.wf (doDrainComplete t) s

/-- The log fields of a target: partition, site, context. -/
def Module.stopPlace (m : Module) (q : Stop) : Nat × Nat × Nat :=
  match q.target with
  | .thread s t => (m.partAt (clusterOf s), s, match ((m.core s).th t).item with | some it => it.ctx | none => 0xFFFF)
  | .slice s => (m.partAt (clusterOf s), s, 0xFFFF)
  | .context p c => (p, 0xFFFF, c)
  | _ => (min q.part 255, 0xFFFF, 0xFFFF)

/-- DRAIN_TIMEOUT: event 0x42, and the stop goes on as an ABORT. -/
def doDrainTimeout (t : Target) (m : Module) : Module :=
  match m.stopOf t with
  | none => m
  | some q =>
    if q.abort then m
    else
      let p := m.stopPlace q
      let m1 := m.updStop t (fun x => { x with abort := true })
      let m2 := match t with
        | .partition n => m1.updPart n (fun x => { x with state := 4 })
        | _ => m1
      let m3 := m2.abortTarget t
      let n := match m3.stopOf t with | some x => x.cancelled | none => 0
      m3.prtEvent 0x42 p.1 0 (if p.1 < 64 then p.1 else 0) p.2.1 0 0 p.2.2 n
def execDrainTimeout (t : Target) (s : State) : Host.Outcome State Fault Refusal := onModule t.wf (doDrainTimeout t) s

/-- Nothing that an ABORT waits for is left: items end at once, a bank-op step runs to its end. -/
def Module.abortIdle (m : Module) : Target → Bool
  | .partition p => m.atWorkFence p
  | .bankop id => m.mem.seqs.all (fun q => q.cmd != some id)
  | _ => true

/-- ABORT_COMPLETE. -/
def doAbortComplete (t : Target) (m : Module) : Module :=
  match m.stopOf t with
  | none => m
  | some q => if q.abort ∧ m.abortIdle t then m.stopEnds q else m
def execAbortComplete (t : Target) (s : State) : Host.Outcome State Fault Refusal := onModule t.wf (doAbortComplete t) s

/-! ## Waiting commands (R511, R513) -/

/-- Runs a letterbox command once more. -/
def runInstr (i : Instr) (m : Module) : Module :=
  match i with
  | .devNop c => doDevNop c m
  | .devIdentify c => doDevIdentify c m
  | .devExpert c => doDevExpert c m
  | .devNetQuery c => doDevNetQuery c m
  | .devReset c => doDevReset c m
  | .devAckShortfall c => doDevAckShortfall c m
  | .partCreate c => doPartCreate c m
  | .partDestroy c => doPartDestroy c m
  | .partDisable c => doPartDisable c m
  | .partEnable c => doPartEnable c m
  | .partConfig c => doPartConfig c m
  | .partQuery c => doPartQuery c m
  | .partMap c => doPartMap c m
  | .partUnmap c => doPartUnmap c m
  | .partStripe c => doPartStripe c m
  | .partPool c => doPartPool c m
  | .memQuery c => doMemQuery c m
  | .memRetirePage c => doMemRetirePage c m
  | .memRetireBank c errs => doMemRetireBank c errs m
  | .memRetireSlice c => doMemRetireSlice c m
  | .memClearPoison c => doMemClearPoison c m
  | .memScrubRange c errs => doMemScrubRange c errs m
  | .memScrubConfig c => doMemScrubConfig c m
  | .memArbConfig c => doMemArbConfig c m
  | .memListRetired c => doMemListRetired c m
  | .memBankop c => doMemBankop c m
  | .workCollective c => doWorkCollective c m
  | .workTree c => doWorkTree c m
  | .workCancel c => doWorkCancel c m
  | .pwrLimit c => doPwrLimit c m
  | .pwrLadder c => doPwrLadder c m
  | .pwrFeed c => doPwrFeed c m
  | .pwrOppoint c => doPwrOppoint c m
  | .pwrCurrent c => doPwrCurrent c m
  | .pwrView c => doPwrView c m
  | .thmSensors c => doThmSensors c m
  | .thmConfig c => doThmConfig c m
  | .thmResume c => doThmResume c m
  | .testMemory c fails => doTestMemory c fails m
  | .testKnownAnswer c fails => doTestKnownAnswer c fails m
  | .calRegulator c lost => doCalRegulator c lost m
  | .calDeskew c failed => doCalDeskew c failed m
  | .calSensor c => doCalSensor c m
  | .calBridge c failedLanes => doCalBridge c failedLanes m
  | .fwQuery c => doFwQuery c m
  | .fwWrite c => doFwWrite c m
  | .fwVerify c sigOk => doFwVerify c sigOk m
  | .fwActivate c => doFwActivate c m
  | .fwMicrocode c sigOk version incomplete => doFwMicrocode c sigOk version incomplete m
  | .fwBroadcast c => doFwBroadcast c m
  | .fabQuery c => doFabQuery c m
  | .fabRole c => doFabRole c m
  | .fabPort c => doFabPort c m
  | .modePrepare c => doModePrepare c m
  | .modeCommit c => doModeCommit c m
  | .modeAbort c => doModeAbort c m
  | .modeQuery c => doModeQuery c m
  | .telSnapshot c => doTelSnapshot c m
  | .errRead c => doErrRead c m
  | .errAck c => doErrAck c m
  | .errInject c => doErrInject c m
  | _ => m

/-- The ring of a partition is read again once the command that waited at its work fence has completed (R513). -/
def Module.releaseHolds (m : Module) : Module :=
  (List.range 64).foldl (fun (acc : Module) n =>
    if (acc.part n).hold ∧ !(acc.engine.cmds.any (fun s => bitOf s.cplFlags 1 && s.info == [n])) then
      acc.updPart n (fun p => { p with hold := false }) else acc) m

/-- A waiting command is looked at again. -/
def Module.rerun (m : Module) (id : Nat) : Module :=
  match m.cmd id with
  | some s => match s.phase, s.instr with
    | .waiting, some i => runInstr i m
    | _, _ => m
  | none => m

/-- CLAIM_GRANT: waiting commands gain their claims in the order firmware took them; what waited for a slice or for the epoch is
tried again. -/
def doClaimGrant (m : Module) : Module :=
  let ids := (m.engine.cmds.filter (fun s => s.phase == .waiting)).map (fun s => s.id)
  let m1 := ids.foldl (fun (acc : Module) id => acc.rerun id) m
  m1.retryColls.replanTry.releaseHolds
def execClaimGrant (s : State) : Host.Outcome State Fault Refusal := onModule true doClaimGrant s

/-- Commands that wait for the work fence of a partition. -/
def Module.fenceCmds (m : Module) (n : Nat) : List Nat :=
  (m.engine.cmds.filter (fun s => s.phase == .fenceWait && s.info == [n])).map (fun s => s.id)

/-- WORK_FENCE_REACHED: they run, with the claims they hold. -/
def doWorkFenceReached (part : Nat) (m : Module) : Module :=
  if !m.atWorkFence part then m
  else ((m.fenceCmds part).foldl (fun (acc : Module) id =>
    (acc.updCmd id (fun s => { s with phase := .waiting })).rerun id) m).releaseHolds
def execWorkFenceReached (part : Nat) (s : State) : Host.Outcome State Fault Refusal := onModule (partOk part) (doWorkFenceReached part) s

/-- WORK_FENCE_TIMEOUT: ST_BUSY with the items in flight. -/
def doWorkFenceTimeout (part : Nat) (m : Module) : Module :=
  ((m.fenceCmds part).foldl (fun (acc : Module) id => acc.refuseCmd id stBusy (acc.itemsOf part)) m).releaseHolds
def execWorkFenceTimeout (part : Nat) (s : State) : Host.Outcome State Fault Refusal := onModule (partOk part) (doWorkFenceTimeout part) s

/-! ## Data and acceptances (R301, R305) -/

/-- Takes the oldest response of a kind for a requester, if it may arrive now. -/
def Module.takeResponse (m : Module) (src : Src) (accept : Bool) : Option (Response × Module) :=
  match takeFirst (fun (r : Response) => r.req.src == src && r.accept == accept) m.mem.responses with
  | none => none
  | some (r, rest) => if m.mayArrive r then some (r, { m with mem := { m.mem with responses := rest } }) else none

/-- What the data of a response do at their requester. -/
def Module.dataFor (m : Module) (src : Src) (data : List Byte) (poison : Bool) : Module :=
  match src with
  | .host fn id => m.hostData fn id data poison
  | .stream site slot seq => m.streamData site slot seq data poison
  | .keyhole site t seq => m.khData site t seq data poison
  | .fetch site t a => m.fetchArrives site t a data poison
  | .copy part seq => m.copyData part seq data poison
  | .fabric _ tag => m.fabricData tag data poison
  | .engine _ _ => m
  | .firmware _ => m
  | .nr _ _ _ => m

/-- DATA_PACKET: the oldest data for a requester arrive. -/
def doDataPacket (src : Src) (m : Module) : Module :=
  match m.takeResponse src false with
  | none => m
  | some (r, m1) => m1.dataFor src r.data r.poison
def execDataPacket (src : Src) (s : State) : Host.Outcome State Fault Refusal := onModule true (doDataPacket src) s

/-- ACCEPT: a write acceptance arrives. -/
def doAccept (src : Src) (m : Module) : Module :=
  match m.takeResponse src true with
  | none => m
  | some (_, m1) =>
    match src with
    | .host fn _ => (m1.returnReads fn).releaseBells fn
    | .stream site slot seq => m1.streamAccept site slot seq
    | .keyhole site t seq => m1.khAccept site t seq
    | .fetch _ _ _ => m1
    | .copy part seq => m1.copyAccept part seq
    | .fabric _ tag => m1.fabricAccept tag
    | .engine _ _ => m1
    | .firmware _ => m1
    | .nr _ _ _ => m1
def execAccept (src : Src) (s : State) : Host.Outcome State Fault Refusal := onModule true (doAccept src) s

/-! ## Route loss (R302, R319) -/

/-- The way between two endpoints, as the tables before the fences still to come had it, leads through a router. -/
def Module.crosses (m : Module) (router a b : Nat) : Bool :=
  match m.before.endRoute a b with
  | some p => decide (router ∈ p)
  | none => false
/-- A router whose fence has not reached the tables took a pair's packets with it, on their way or on the way back (R318, R319). -/
def Module.pairLost (m : Module) (router a b : Nat) : Bool :=
  m.net.newFences.any (fun q => q.1 == router) && (m.crosses router a b || m.crosses router b a)

/-- The memory requests an endpoint has outstanding, with what is known of each. -/
def Module.outstanding (m : Module) (e : Nat) : List MemReq :=
  (m.mem.slices.flatMap (fun p => (p.2.waiting ++ p.2.holdSlots).map (·.req)) ++ m.mem.responses.map (·.req)).filter
    (fun r => m.srcEnd r == some e && r.site != e)
/-- Those of an endpoint that a router's loss ends: the route crossed it, or it discarded request or response (R302, R319). -/
def Module.lostReqs (m : Module) (router e : Nat) : List MemReq :=
  (m.outstanding e).filter (fun r => m.pairLost router e r.site) ++
  m.net.lost.filterMap (fun l => match l.2 with
    | .request r => if l.1 = router ∧ m.srcEnd r = some e then some r else none
    | .response r => if l.1 = router ∧ m.srcEnd r.req = some e then some r.req else none
    | .core _ => none)

/-- The endpoint whose transfer or signal a packet serves: an acknowledgement goes back to it. -/
def NetPkt.issuer (p : NetPkt) : Nat :=
  if p.kind = pkAck ∨ p.kind = pkNack ∨ p.kind = pkSigNack then (if 65536 ≤ p.dst then p.tag else p.dst)
  else if 65536 ≤ p.src then p.tag else p.src
/-- The packets of an endpoint that a router's loss ends. -/
def Module.lostPkts (m : Module) (router e : Nat) : List NetPkt :=
  m.net.pkts.filter (fun p => p.issuer == e && m.pairLost router p.src p.dst) ++
  m.net.lost.filterMap (fun l => match l.2 with
    | .core p => if l.1 = router ∧ p.issuer = e then some p else none
    | .request _ => none
    | .response _ => none)

/-- Responses to a failed request are discarded, and so is the request where it still waits (R319). -/
def Module.forgetReq (m : Module) (src : Src) : Module :=
  let touched := (m.mem.slices.filter (fun p => (p.2.waiting ++ p.2.holdSlots).any (fun w => w.req.src == src))).map (fun p => p.1)
  let m1 := { m with mem := { m.mem with responses := m.mem.responses.filter (fun r => r.req.src != src) } }
  m1.updSlices touched (fun s => { s with
    waiting := s.waiting.filter (fun w => w.req.src != src), holdSlots := s.holdSlots.filter (fun w => w.req.src != src) })

/-- The address a write of a core fails with: its place in the program's space. -/
def Module.reqAddr (m : Module) (src : Src) : Option (Nat × InFlight × Nat) :=
  match src with
  | .stream site slot seq =>
    (m.core site).stream slot |>.bind (fun q => (q.pieces.find? (fun p => p.seq == seq)).bind (fun p =>
      (((m.core site).th q.thread).find q.id).map (fun f => (q.thread, f, q.addr p.pos))))
  | .keyhole site t seq => (((m.core site).th t).khOf seq).map (fun x => (t, x.1, x.2.addr))
  | _ => none

/-- An outstanding request ends: a read with data nobody can know, all of it poisoned, event 0x34; a core's write with code 0x0D cause 2;
a host's write is dropped, event 0x34; another module's is refused (R319, R483). -/
def Module.failReq (m : Module) (router e : Nat) (r : MemReq) : Module :=
  let m1 := m.forgetReq r.src
  let noted (x : Module) : Module := x.lossEvent router e r.site (devAddr r.site r.off)
  let n := match r.src with
    | .stream site slot seq => (match (m.core site).stream slot with
      | some q => (match q.pieces.find? (fun p => p.seq == seq) with | some p => p.skip + p.len | none => 64)
      | none => 64)
    | _ => if r.row then 2048 else 64
  if !r.write then (noted { m1 with free := m1.free + 1 }).dataFor r.src (m.unknown n) true
  else match r.src with
    | .stream site _ _ => (match m1.reqAddr r.src with | some x => m1.flightFault site x.1 x.2.1 0x0D 2 x.2.2 | none => m1)
    | .keyhole site _ _ => (match m1.reqAddr r.src with | some x => m1.flightFault site x.1 x.2.1 0x0D 2 x.2.2 | none => m1)
    | .host fn _ => ((noted m1).returnReads fn).releaseBells fn
    | .copy part seq => (match m1.packet part seq with
      | some p => m1.endCopy part seq stFenced (faultRecord 0x0D 2 0 0 0xFFFF 0 (wpAddr p.bytes + p.moved))
      | none => m1)
    | .fabric _ tag => (match m1.servedOp (tag / 64) with
      | some o => (m1.servedOver o.num).nackTo o.port o.t 2
      | none => m1)
    | .fetch _ _ _ => m1
    | .engine _ _ => m1
    | .firmware _ => m1
    | .nr _ _ _ => m1

/-- An outstanding transfer or signal ends: its thread faults with code 0x0D cause 2 (R319). -/
def Module.failPkt (m : Module) (p : NetPkt) : Module :=
  let m1 := { m with net := { m.net with pkts := m.net.pkts.filter (· != p) } }
  if p.kind = pkSignal then m1.signalFails p.src p.thread p.tag p.off 2
  else if p.kind = pkSigNack then m1.signalFails p.dst p.thread p.tag p.off 2
  else m1.transferFails p.issuer p.thread p.id 2

/-- Transfers to other modules that wait for their answer and whose way to the attachment a router's loss cut. -/
def Module.lostXfers (m : Module) (router e : Nat) : List FabXfer :=
  m.flight.xfers.filter (fun x => x.site == e && (match m.egress x.dest with
    | some p => m.pairLost router e (leaveEnd p (clusterOf e))
    | none => false))

/-- ROUTE_LOSS: the notice about a router reaches an endpoint, which fails every outstanding request whose route crossed the router, or
which the router discarded. -/
def doRouteLoss (router e : Nat) (m : Module) : Module :=
  let reqs := m.lostReqs router e
  let pkts := m.lostPkts router e
  let xs := m.lostXfers router e
  let mine (l : Nat × LostPkt) : Bool := l.1 == router && (match l.2 with
    | .core p => p.issuer == e
    | .request r => m.srcEnd r == some e
    | .response r => m.srcEnd r.req == some e)
  let m1 := { m with net := { m.net with lost := m.net.lost.filter (fun l => !mine l) } }
  let m2 := reqs.foldl (fun (acc : Module) r => acc.failReq router e r) m1
  let m3 := pkts.foldl (fun (acc : Module) p => acc.failPkt p) m2
  xs.foldl (fun (acc : Module) x => acc.transferFails x.site x.thread x.id 2) m3
def execRouteLoss (router endpoint : Nat) (s : State) : Host.Outcome State Fault Refusal :=
  onModule (clusterOk router && endpointOk endpoint) (doRouteLoss router endpoint) s

/-! ## Requests that wait for a route or an engine (R318, R326, R444) -/

/-- A waiting request tries to leave once more. -/
def runHeld (i : Instr) (m : Module) : Module :=
  match i with
  | .bar2Read fn off len => doBar2Read fn off len m
  | .bar2Write fn off data => doBar2Write fn off data m
  | .bar4Read fn off len => doBar4Read fn off len m
  | .bar4Write fn off data => doBar4Write fn off data m
  | .poisonedTlpWrite fn bar off data => doPoisonedTlpWrite fn bar off data m
  | .writeSp port t => doWriteSp port t m
  | .writeVa port t => doWriteVa port t m
  | .readVa port t => doReadVa port t m
  | .step port t => doStep port t m
  | _ => m

/-- What waits for a route leaves in the order it came, as far as its route is open; doorbells and host reads behind it follow
(R119, R484). -/
def Module.releaseCmds (m : Module) : Module :=
  let m1 := m.net.heldCmds.foldl (fun (acc : Module) h => runHeld h.2 acc) { m with net := { m.net with heldCmds := [] } }
  let m2 := (m1.port.reads.map (·.fn)).eraseDups.foldl (fun (acc : Module) fn => acc.returnReads fn) m1
  (m2.port.bells.map (fun b => ringFn b.1)).eraseDups.foldl (fun (acc : Module) fn => acc.releaseBells fn) m2

/-- ROUTE_TABLE_UPDATE: new tables; what was held leaves on its new route. -/
def doRouteTableUpdate (m : Module) : Module := m.loadTables.releaseCmds
def execRouteTableUpdate (s : State) : Host.Outcome State Fault Refusal := onModule true doRouteTableUpdate s

/-- ROUTE_MARK. -/
def doRouteMark (src dst : Nat) (m : Module) : Module := (m.markBack src dst).releaseCmds
def execRouteMark (src dst : Nat) (s : State) : Host.Outcome State Fault Refusal :=
  onModule (endpointOk src && endpointOk dst) (doRouteMark src dst) s

end Sys2Proof.Machine
end

