-- ==== Sys2Proof/Machine/Dispatch.lean ====
section
/-! DEFINITION. One arm per command: the direct call of its meaning, or its refusal by name. -/

namespace Sys2Proof.Machine

def exec (i : Instr) (s : State) : Host.Outcome State Fault Refusal :=
  match i with
  | .devNop c => Sys2Proof.Machine.execDevNop c s
  | .devIdentify c => Sys2Proof.Machine.execDevIdentify c s
  | .devExpert c => Sys2Proof.Machine.execDevExpert c s
  | .devNetQuery c => Sys2Proof.Machine.execDevNetQuery c s
  | .devReset c => Sys2Proof.Machine.execDevReset c s
  | .devAckShortfall c => Sys2Proof.Machine.execDevAckShortfall c s
  | .partCreate c => Sys2Proof.Machine.execPartCreate c s
  | .partDestroy c => Sys2Proof.Machine.execPartDestroy c s
  | .partDisable c => Sys2Proof.Machine.execPartDisable c s
  | .partEnable c => Sys2Proof.Machine.execPartEnable c s
  | .partConfig c => Sys2Proof.Machine.execPartConfig c s
  | .partQuery c => Sys2Proof.Machine.execPartQuery c s
  | .partMap c => Sys2Proof.Machine.execPartMap c s
  | .partUnmap c => Sys2Proof.Machine.execPartUnmap c s
  | .partStripe c => Sys2Proof.Machine.execPartStripe c s
  | .partPool c => Sys2Proof.Machine.execPartPool c s
  | .memQuery c => Sys2Proof.Machine.execMemQuery c s
  | .memRetirePage c => Sys2Proof.Machine.execMemRetirePage c s
  | .memRetireBank c errs => Sys2Proof.Machine.execMemRetireBank c errs s
  | .memRetireSlice c => Sys2Proof.Machine.execMemRetireSlice c s
  | .memClearPoison c => Sys2Proof.Machine.execMemClearPoison c s
  | .memScrubRange c errs => Sys2Proof.Machine.execMemScrubRange c errs s
  | .memScrubConfig c => Sys2Proof.Machine.execMemScrubConfig c s
  | .memArbConfig c => Sys2Proof.Machine.execMemArbConfig c s
  | .memListRetired c => Sys2Proof.Machine.execMemListRetired c s
  | .memBankop c => Sys2Proof.Machine.execMemBankop c s
  | .workCollective c => Sys2Proof.Machine.execWorkCollective c s
  | .workTree c => Sys2Proof.Machine.execWorkTree c s
  | .workCancel c => Sys2Proof.Machine.execWorkCancel c s
  | .pwrLimit c => Sys2Proof.Machine.execPwrLimit c s
  | .pwrLadder c => Sys2Proof.Machine.execPwrLadder c s
  | .pwrFeed c => Sys2Proof.Machine.execPwrFeed c s
  | .pwrOppoint c => Sys2Proof.Machine.execPwrOppoint c s
  | .pwrCurrent c => Sys2Proof.Machine.execPwrCurrent c s
  | .pwrView c => Sys2Proof.Machine.execPwrView c s
  | .thmSensors c => Sys2Proof.Machine.execThmSensors c s
  | .thmConfig c => Sys2Proof.Machine.execThmConfig c s
  | .thmResume c => Sys2Proof.Machine.execThmResume c s
  | .testMemory c fails => Sys2Proof.Machine.execTestMemory c fails s
  | .testKnownAnswer c fails => Sys2Proof.Machine.execTestKnownAnswer c fails s
  | .calRegulator c lost => Sys2Proof.Machine.execCalRegulator c lost s
  | .calDeskew c failed => Sys2Proof.Machine.execCalDeskew c failed s
  | .calSensor c => Sys2Proof.Machine.execCalSensor c s
  | .calBridge c failedLanes => Sys2Proof.Machine.execCalBridge c failedLanes s
  | .fwQuery c => Sys2Proof.Machine.execFwQuery c s
  | .fwWrite c => Sys2Proof.Machine.execFwWrite c s
  | .fwVerify c sigOk => Sys2Proof.Machine.execFwVerify c sigOk s
  | .fwActivate c => Sys2Proof.Machine.execFwActivate c s
  | .fwMicrocode c sigOk version incomplete => Sys2Proof.Machine.execFwMicrocode c sigOk version incomplete s
  | .fwBroadcast c => Sys2Proof.Machine.execFwBroadcast c s
  | .fabQuery c => Sys2Proof.Machine.execFabQuery c s
  | .fabRole c => Sys2Proof.Machine.execFabRole c s
  | .fabPort c => Sys2Proof.Machine.execFabPort c s
  | .modePrepare c => Sys2Proof.Machine.execModePrepare c s
  | .modeCommit c => Sys2Proof.Machine.execModeCommit c s
  | .modeAbort c => Sys2Proof.Machine.execModeAbort c s
  | .modeQuery c => Sys2Proof.Machine.execModeQuery c s
  | .telSnapshot c => Sys2Proof.Machine.execTelSnapshot c s
  | .errRead c => Sys2Proof.Machine.execErrRead c s
  | .errAck c => Sys2Proof.Machine.execErrAck c s
  | .errInject c => Sys2Proof.Machine.execErrInject c s
  | .ctNop d => Sys2Proof.Machine.execCtNop d s
  | .ctEnd d => Sys2Proof.Machine.execCtEnd d s
  | .ctLoop d => Sys2Proof.Machine.execCtLoop d s
  | .ctBranch d => Sys2Proof.Machine.execCtBranch d s
  | .ctJump d => Sys2Proof.Machine.execCtJump d s
  | .ctCall d => Sys2Proof.Machine.execCtCall d s
  | .ctRet d => Sys2Proof.Machine.execCtRet d s
  | .ctSetreg d => Sys2Proof.Machine.execCtSetreg d s
  | .ctAddreg d => Sys2Proof.Machine.execCtAddreg d s
  | .ctPost d => Sys2Proof.Machine.execCtPost d s
  | .strLoad d => Sys2Proof.Machine.execStrLoad d s
  | .strStore d => Sys2Proof.Machine.execStrStore d s
  | .strCancel d => Sys2Proof.Machine.execStrCancel d s
  | .mxLoadw d => Sys2Proof.Machine.execMxLoadw d s
  | .mxRun d => Sys2Proof.Machine.execMxRun d s
  | .mxDrain d => Sys2Proof.Machine.execMxDrain d s
  | .mxSplit d => Sys2Proof.Machine.execMxSplit d s
  | .mxElem d => Sys2Proof.Machine.execMxElem d s
  | .vxAdd d => Sys2Proof.Machine.execVxAdd d s
  | .vxSub d => Sys2Proof.Machine.execVxSub d s
  | .vxMul d => Sys2Proof.Machine.execVxMul d s
  | .vxFma d => Sys2Proof.Machine.execVxFma d s
  | .vxMax d => Sys2Proof.Machine.execVxMax d s
  | .vxMin d => Sys2Proof.Machine.execVxMin d s
  | .vxUnary d => Sys2Proof.Machine.execVxUnary d s
  | .vxReduce d => Sys2Proof.Machine.execVxReduce d s
  | .vxConvert d => Sys2Proof.Machine.execVxConvert d s
  | .vxCopy d => Sys2Proof.Machine.execVxCopy d s
  | .vxFill d => Sys2Proof.Machine.execVxFill d s
  | .vxSelect d => Sys2Proof.Machine.execVxSelect d s
  | .khRead d => Sys2Proof.Machine.execKhRead d s
  | .khWrite d => Sys2Proof.Machine.execKhWrite d s
  | .khGather d => Sys2Proof.Machine.execKhGather d s
  | .khScatter d => Sys2Proof.Machine.execKhScatter d s
  | .bkRow d => Sys2Proof.Machine.execBkRow d s
  | .bkStat d => Sys2Proof.Machine.execBkStat d s
  | .nrSend d => Sys2Proof.Machine.execNrSend d s
  | .nrReduce d => Sys2Proof.Machine.execNrReduce d s
  | .nrGather d => Sys2Proof.Machine.execNrGather d s
  | .nrBcast d => Sys2Proof.Machine.execNrBcast d s
  | .syWait d => Sys2Proof.Machine.execSyWait d s
  | .sySignal d => Sys2Proof.Machine.execSySignal d s
  | .syFence d => Sys2Proof.Machine.execSyFence d s
  | .sySet d => Sys2Proof.Machine.execSySet d s
  | .invalidOpcode d => Sys2Proof.Machine.execInvalidOpcode d s
  | .fetchReturn site thread check => Sys2Proof.Machine.execFetchReturn site thread check s
  | .waitRelease site thread => Sys2Proof.Machine.execWaitRelease site thread s
  | .descriptorCompletion site thread id check => Sys2Proof.Machine.execDescriptorCompletion site thread id check s
  | .watchdogExpiry site thread => Sys2Proof.Machine.execWatchdogExpiry site thread s
  | .streamRequestIssue site slot => Sys2Proof.Machine.execStreamRequestIssue site slot s
  | .keyholeSectorIssue site thread => Sys2Proof.Machine.execKeyholeSectorIssue site thread s
  | .tableWalkComplete w => Sys2Proof.Machine.execTableWalkComplete w s
  | .mxRunEntry site half parityBad => Sys2Proof.Machine.execMxRunEntry site half parityBad s
  | .mxDrainStart site half parityBad => Sys2Proof.Machine.execMxDrainStart site half parityBad s
  | .backgroundTestBankCycle site wordBad => Sys2Proof.Machine.execBackgroundTestBankCycle site wordBad s
  | .bar2Read fn off len => Sys2Proof.Machine.execBar2Read fn off len s
  | .bar2Write fn off data => Sys2Proof.Machine.execBar2Write fn off data s
  | .bar4Read fn off len => Sys2Proof.Machine.execBar4Read fn off len s
  | .bar4Write fn off data => Sys2Proof.Machine.execBar4Write fn off data s
  | .unsupportedRequest fn kind => Sys2Proof.Machine.execUnsupportedRequest fn kind s
  | .poisonedTlpWrite fn bar off data => Sys2Proof.Machine.execPoisonedTlpWrite fn bar off data s
  | .configurationRequest fn write reg value => Sys2Proof.Machine.execConfigurationRequest fn write reg value s
  | .bar0MisalignedAccess fn off size write => Sys2Proof.Machine.execBar0MisalignedAccess fn off size write s
  | .undecodedBar0Access fn off size write => Sys2Proof.Machine.execUndecodedBar0Access fn off size write s
  | .registerWrite fn off size value => Sys2Proof.Machine.execRegisterWrite fn off size value s
  | .lowerHalfRead fn off => Sys2Proof.Machine.execLowerHalfRead fn off s
  | .telSnapshotLatch fn => Sys2Proof.Machine.execTelSnapshotLatch fn s
  | .devWindowWrite fn value => Sys2Proof.Machine.execDevWindowWrite fn value s
  | .expertWindowWrite fn value => Sys2Proof.Machine.execExpertWindowWrite fn value s
  | .resetCore fn site => Sys2Proof.Machine.execResetCore fn site s
  | .resetThread0 fn site => Sys2Proof.Machine.execResetThread0 fn site s
  | .resetThread1 fn site => Sys2Proof.Machine.execResetThread1 fn site s
  | .stallLatch fn site => Sys2Proof.Machine.execStallLatch fn site s
  | .stallClear fn site => Sys2Proof.Machine.execStallClear fn site s
  | .coreFaultValidClear fn site thread => Sys2Proof.Machine.execCoreFaultValidClear fn site thread s
  | .ltrCmdTailWrite fn value => Sys2Proof.Machine.execLtrCmdTailWrite fn value s
  | .wrkSubTailWrite fn part value => Sys2Proof.Machine.execWrkSubTailWrite fn part value s
  | .completionHeadWrite fn ring value => Sys2Proof.Machine.execCompletionHeadWrite fn ring value s
  | .ringEnable fn ring => Sys2Proof.Machine.execRingEnable fn ring s
  | .ringDisable fn ring => Sys2Proof.Machine.execRingDisable fn ring s
  | .letterboxEntryTake entry => Sys2Proof.Machine.execLetterboxEntryTake entry s
  | .workPacketTake part entry => Sys2Proof.Machine.execWorkPacketTake part entry s
  | .claimGrant => Sys2Proof.Machine.execClaimGrant s
  | .workFenceReached part => Sys2Proof.Machine.execWorkFenceReached part s
  | .workFenceTimeout part => Sys2Proof.Machine.execWorkFenceTimeout part s
  | .completionWrite ring => Sys2Proof.Machine.execCompletionWrite ring s
  | .program part seq => Sys2Proof.Machine.execProgram part seq s
  | .lengthTable part seq => Sys2Proof.Machine.execLengthTable part seq s
  | .copyIn part seq => Sys2Proof.Machine.execCopyIn part seq s
  | .copyOut part seq => Sys2Proof.Machine.execCopyOut part seq s
  | .copyHostDataArrival part data ep => Sys2Proof.Machine.execCopyHostDataArrival part data ep s
  | .itemCreation part seq => Sys2Proof.Machine.execItemCreation part seq s
  | .itemStart site thread => Sys2Proof.Machine.execItemStart site thread s
  | .mergeItemCreation part seq => Sys2Proof.Machine.execMergeItemCreation part seq s
  | .quantumExpiry site thread => Sys2Proof.Machine.execQuantumExpiry site thread s
  | .contextSwitch site thread => Sys2Proof.Machine.execContextSwitch site thread s
  | .switchDeferral site => Sys2Proof.Machine.execSwitchDeferral site s
  | .switchRecheck site => Sys2Proof.Machine.execSwitchRecheck site s
  | .drainComplete t => Sys2Proof.Machine.execDrainComplete t s
  | .drainTimeout t => Sys2Proof.Machine.execDrainTimeout t s
  | .abortComplete t => Sys2Proof.Machine.execAbortComplete t s
  | .layoutAckTimeout missing => Sys2Proof.Machine.execLayoutAckTimeout missing s
  | .layoutCommit => Sys2Proof.Machine.execLayoutCommit s
  | .poolNodeRelocation part extent => Sys2Proof.Machine.execPoolNodeRelocation part extent s
  | .columnTransactionGrant site parityFails bitErrs => Sys2Proof.Machine.execColumnTransactionGrant site parityFails bitErrs s
  | .readSector r => Sys2Proof.Machine.execReadSector r s
  | .readRow r => Sys2Proof.Machine.execReadRow r s
  | .writePacket r => Sys2Proof.Machine.execWritePacket r s
  | .mergeEntryAgeExpiry site row => Sys2Proof.Machine.execMergeEntryAgeExpiry site row s
  | .refreshInterval site bank => Sys2Proof.Machine.execRefreshInterval site bank s
  | .postponedRefreshForce site bank => Sys2Proof.Machine.execPostponedRefreshForce site bank s
  | .writeHoldDrain site parityFails errs => Sys2Proof.Machine.execWriteHoldDrain site parityFails errs s
  | .overHostReadTimeout site => Sys2Proof.Machine.execOverHostReadTimeout site s
  | .scrubRowVisit site parityFails bitErrs => Sys2Proof.Machine.execScrubRowVisit site parityFails bitErrs s
  | .bankopDelivery deck => Sys2Proof.Machine.execBankopDelivery deck s
  | .bankopStepStart site parityFails => Sys2Proof.Machine.execBankopStepStart site parityFails s
  | .bankopStepEnd site parityBanks => Sys2Proof.Machine.execBankopStepEnd site parityBanks s
  | .correctionDetour site bank parityFails bitErrs => Sys2Proof.Machine.execCorrectionDetour site bank parityFails bitErrs s
  | .bankopHoldLimit site => Sys2Proof.Machine.execBankopHoldLimit site s
  | .bankUnitTimeout site bank => Sys2Proof.Machine.execBankUnitTimeout site bank s
  | .bankopCompletion id => Sys2Proof.Machine.execBankopCompletion id s
  | .flitArrival f => Sys2Proof.Machine.execFlitArrival f s
  | .dataPacket src => Sys2Proof.Machine.execDataPacket src s
  | .accept src => Sys2Proof.Machine.execAccept src s
  | .nrSendPacket src dst => Sys2Proof.Machine.execNrSendPacket src dst s
  | .nrGatherPacket src dst => Sys2Proof.Machine.execNrGatherPacket src dst s
  | .nrBcastPacket src dst => Sys2Proof.Machine.execNrBcastPacket src dst s
  | .reduceFlit deck tree cluster => Sys2Proof.Machine.execReduceFlit deck tree cluster s
  | .signalPacket src dst => Sys2Proof.Machine.execSignalPacket src dst s
  | .nrAck src dst => Sys2Proof.Machine.execNrAck src dst s
  | .nrNack src dst => Sys2Proof.Machine.execNrNack src dst s
  | .routeMark src dst => Sys2Proof.Machine.execRouteMark src dst s
  | .routeLoss router endpoint => Sys2Proof.Machine.execRouteLoss router endpoint s
  | .transom deck id => Sys2Proof.Machine.execTransom deck id s
  | .routerFence cluster cause => Sys2Proof.Machine.execRouterFence cluster cause s
  | .routeTableUpdate => Sys2Proof.Machine.execRouteTableUpdate s
  | .halfFrequencyChange half slow => Sys2Proof.Machine.execHalfFrequencyChange half slow s
  | .halfSlowDecision half => Sys2Proof.Machine.execHalfSlowDecision half s
  | .bridgeFrameReceive bridge group dir seq crcOk => Sys2Proof.Machine.execBridgeFrameReceive bridge group dir seq crcOk s
  | .laneFailure bridge group dir lane => Sys2Proof.Machine.execLaneFailure bridge group dir lane s
  | .groupRetrainDone bridge group dir ok => Sys2Proof.Machine.execGroupRetrainDone bridge group dir ok s
  | .bridgeRetrain bridge => Sys2Proof.Machine.execBridgeRetrain bridge s
  | .fabricFlitReceive port f => Sys2Proof.Machine.execFabricFlitReceive port f s
  | .fabricAckTimeout port => Sys2Proof.Machine.execFabricAckTimeout port s
  | .fecErrorThreshold port uncorr corr => Sys2Proof.Machine.execFecErrorThreshold port uncorr corr s
  | .portTraining port lanesOk => Sys2Proof.Machine.execPortTraining port lanesOk s
  | .portTrainRetry port => Sys2Proof.Machine.execPortTrainRetry port s
  | .writeSp port t => Sys2Proof.Machine.execWriteSp port t s
  | .writeVa port t => Sys2Proof.Machine.execWriteVa port t s
  | .readVa port t => Sys2Proof.Machine.execReadVa port t s
  | .dataTransaction port t => Sys2Proof.Machine.execDataTransaction port t s
  | .ack port t => Sys2Proof.Machine.execAck port t s
  | .nack port t => Sys2Proof.Machine.execNack port t s
  | .step port t => Sys2Proof.Machine.execStep port t s
  | .fwChunkTransaction port t => Sys2Proof.Machine.execFwChunkTransaction port t s
  | .hello port t => Sys2Proof.Machine.execHello port t s
  | .beacon port t => Sys2Proof.Machine.execBeacon port t s
  | .topo port t => Sys2Proof.Machine.execTopo port t s
  | .idAssign port t => Sys2Proof.Machine.execIdAssign port t s
  | .heartbeat port t => Sys2Proof.Machine.execHeartbeat port t s
  | .slow port t => Sys2Proof.Machine.execSlow port t s
  | .holdReport port t => Sys2Proof.Machine.execHoldReport port t s
  | .modePrep port t => Sys2Proof.Machine.execModePrep port t s
  | .modeAck port t => Sys2Proof.Machine.execModeAck port t s
  | .modeCommitTransaction port t => Sys2Proof.Machine.execModeCommitTransaction port t s
  | .modeAbortTransaction port t => Sys2Proof.Machine.execModeAbortTransaction port t s
  | .epochPoll port t => Sys2Proof.Machine.execEpochPoll port t s
  | .epochInfo port t => Sys2Proof.Machine.execEpochInfo port t s
  | .fwPoll port t => Sys2Proof.Machine.execFwPoll port t s
  | .fwBitmap port t => Sys2Proof.Machine.execFwBitmap port t s
  | .fwCommit port t => Sys2Proof.Machine.execFwCommit port t s
  | .nackRetransmit tag => Sys2Proof.Machine.execNackRetransmit tag s
  | .nrAckTimeout tag => Sys2Proof.Machine.execNrAckTimeout tag s
  | .epochHoldPoll k => Sys2Proof.Machine.execEpochHoldPoll k s
  | .epochHoldTimeout k => Sys2Proof.Machine.execEpochHoldTimeout k s
  | .stagedValuePoll kind => Sys2Proof.Machine.execStagedValuePoll kind s
  | .stagedValueDiscard kind => Sys2Proof.Machine.execStagedValueDiscard kind s
  | .modeAckTimeout kind => Sys2Proof.Machine.execModeAckTimeout kind s
  | .heartbeatSend => Sys2Proof.Machine.execHeartbeatSend s
  | .groupSummarySend => Sys2Proof.Machine.execGroupSummarySend s
  | .managerLost => Sys2Proof.Machine.execManagerLost s
  | .actingManagerTakeover group => Sys2Proof.Machine.execActingManagerTakeover group s
  | .leadManagerTimeout => Sys2Proof.Machine.execLeadManagerTimeout s
  | .routingPauseDrained => Sys2Proof.Machine.execRoutingPauseDrained s
  | .stepTimeout tag part => Sys2Proof.Machine.execStepTimeout tag part s
  | .slowSend => Sys2Proof.Machine.execSlowSend s
  | .holdReportSend => Sys2Proof.Machine.execHoldReportSend s
  | .feedUndervoltage feed volts => Sys2Proof.Machine.execFeedUndervoltage feed volts s
  | .feedOvervoltage feed volts => Sys2Proof.Machine.execFeedOvervoltage feed volts s
  | .feedOutOfRange feed volts => Sys2Proof.Machine.execFeedOutOfRange feed volts s
  | .feedRestore feed volts => Sys2Proof.Machine.execFeedRestore feed volts s
  | .bothFeedsLost => Sys2Proof.Machine.execBothFeedsLost s
  | .powerApplied feed volts => Sys2Proof.Machine.execPowerApplied feed volts s
  | .railFault rail volts => Sys2Proof.Machine.execRailFault rail volts s
  | .cellFailure cluster cell cause => Sys2Proof.Machine.execCellFailure cluster cell cause s
  | .boostSwitch cluster cell => Sys2Proof.Machine.execBoostSwitch cluster cell s
  | .shuntClamp cluster cell => Sys2Proof.Machine.execShuntClamp cluster cell s
  | .powerSample wattsA wattsB avg100us => Sys2Proof.Machine.execPowerSample wattsA wattsB avg100us s
  | .powerLimitCheck avg100ms avg1ms => Sys2Proof.Machine.execPowerLimitCheck avg100ms avg1ms s
  | .powerCapRaise => Sys2Proof.Machine.execPowerCapRaise s
  | .currentSample samples => Sys2Proof.Machine.execCurrentSample samples s
  | .operatingPointStep cluster => Sys2Proof.Machine.execOperatingPointStep cluster s
  | .rampHintExpiry cluster => Sys2Proof.Machine.execRampHintExpiry cluster s
  | .louvreClosure cluster droopMv quadrantDa => Sys2Proof.Machine.execLouvreClosure cluster droopMv quadrantDa s
  | .clusterWakeComplete cluster => Sys2Proof.Machine.execClusterWakeComplete cluster s
  | .ajarIdleTimeout cluster => Sys2Proof.Machine.execAjarIdleTimeout cluster s
  | .shutterIdleTimeout cluster => Sys2Proof.Machine.execShutterIdleTimeout cluster s
  | .ajarExit cluster => Sys2Proof.Machine.execAjarExit cluster s
  | .shutterQuiesceTimeout site thread => Sys2Proof.Machine.execShutterQuiesceTimeout site thread s
  | .sliceIslandReturn cluster => Sys2Proof.Machine.execSliceIslandReturn cluster s
  | .sealedEntry => Sys2Proof.Machine.execSealedEntry s
  | .sealedExit => Sys2Proof.Machine.execSealedExit s
  | .sensorSample samples => Sys2Proof.Machine.execSensorSample samples s
  | .suspectPersistence sensor => Sys2Proof.Machine.execSuspectPersistence sensor s
  | .suspectRecovery sensor => Sys2Proof.Machine.execSuspectRecovery sensor s
  | .forecastEvaluation peaks => Sys2Proof.Machine.execForecastEvaluation peaks s
  | .capRelease cluster => Sys2Proof.Machine.execCapRelease cluster s
  | .throttleStep cluster => Sys2Proof.Machine.execThrottleStep cluster s
  | .throttleReleaseStep cluster => Sys2Proof.Machine.execThrottleReleaseStep cluster s
  | .tripComparator sensor => Sys2Proof.Machine.execTripComparator sensor s
  | .flowTachPulse sinceLastUs perSecond => Sys2Proof.Machine.execFlowTachPulse sinceLastUs perSecond s
  | .coolantDegraded condition => Sys2Proof.Machine.execCoolantDegraded condition s
  | .coolantDegradedClear => Sys2Proof.Machine.execCoolantDegradedClear s
  | .moduleLimitLower => Sys2Proof.Machine.execModuleLimitLower s
  | .moduleLimitRaise => Sys2Proof.Machine.execModuleLimitRaise s
  | .coolantStop cause => Sys2Proof.Machine.execCoolantStop cause s
  | .pllLockLoss pll => Sys2Proof.Machine.execPllLockLoss pll s
  | .relockAttemptEnd pll ok => Sys2Proof.Machine.execRelockAttemptEnd pll ok s
  | .columnDeskew stack failedSites => Sys2Proof.Machine.execColumnDeskew stack failedSites s
  | .moduleReferenceLoss => Sys2Proof.Machine.execModuleReferenceLoss s
  | .refclkMgmtLoss => Sys2Proof.Machine.execRefclkMgmtLoss s
  | .refclkMgmtRestore => Sys2Proof.Machine.execRefclkMgmtRestore s
  | .resetComplete scope target => Sys2Proof.Machine.execResetComplete scope target s
  | .perstNAssert widthUs => Sys2Proof.Machine.execPerstNAssert widthUs s
  | .perstNDeassert refclkOk => Sys2Proof.Machine.execPerstNDeassert refclkOk s
  | .functionLevelResetVf fn => Sys2Proof.Machine.execFunctionLevelResetVf fn s
  | .functionLevelResetPf => Sys2Proof.Machine.execFunctionLevelResetPf s
  | .vfEnableClear numVfs => Sys2Proof.Machine.execVfEnableClear numVfs s
  | .busMasterEnableClear fn => Sys2Proof.Machine.execBusMasterEnableClear fn s
  | .busMasterEnableSet fn => Sys2Proof.Machine.execBusMasterEnableSet fn s
  | .memorySpaceDisable fn d3hot => Sys2Proof.Machine.execMemorySpaceDisable fn d3hot s
  | .linkDown downUs => Sys2Proof.Machine.execLinkDown downUs s
  | .linkRecovery downUs width rate => Sys2Proof.Machine.execLinkRecovery downUs width rate s
  | .s0Standby romOk controllerRev dur => Sys2Proof.Machine.execS0Standby romOk controllerRev dur s
  | .s1Firmware info fs dur => Sys2Proof.Machine.execS1Firmware info fs dur s
  | .s2Rails fs dur => Sys2Proof.Machine.execS2Rails fs dur s
  | .s3Discovery disc deckRev fs dur => Sys2Proof.Machine.execS3Discovery disc deckRev fs dur s
  | .s4Calibration fs dur => Sys2Proof.Machine.execS4Calibration fs dur s
  | .s5Memory fails dur => Sys2Proof.Machine.execS5Memory fails dur s
  | .retentionHoldEnd stack group ms fails => Sys2Proof.Machine.execRetentionHoldEnd stack group ms fails s
  | .coldWarmingEnd durS => Sys2Proof.Machine.execColdWarmingEnd durS s
  | .s6Repair fs dur => Sys2Proof.Machine.execS6Repair fs dur s
  | .s7KnownAnswer fs dur => Sys2Proof.Machine.execS7KnownAnswer fs dur s
  | .s8HostReady fs dur => Sys2Proof.Machine.execS8HostReady fs dur s
  | .s9Fabric fs dur => Sys2Proof.Machine.execS9Fabric fs dur s
  | .stageResume => Sys2Proof.Machine.execStageResume s
  | .stageSuspendTimeout => Sys2Proof.Machine.execStageSuspendTimeout s
  | .mgPrivateWrite bytes => Sys2Proof.Machine.execMgPrivateWrite bytes s
  | .mgPrivateRead len => Sys2Proof.Machine.execMgPrivateRead len s
  | .i2cTransfer addr write bytes len => Sys2Proof.Machine.execI2cTransfer addr write bytes len s
  | .entdaa addr enumInHigh => Sys2Proof.Machine.execEntdaa addr enumInHigh s
  | .rstdaa => Sys2Proof.Machine.execRstdaa s
  | .enec => Sys2Proof.Machine.execEnec s
  | .disec => Sys2Proof.Machine.execDisec s
  | .getpid => Sys2Proof.Machine.execGetpid s
  | .getbcr => Sys2Proof.Machine.execGetbcr s
  | .getdcr => Sys2Proof.Machine.execGetdcr s
  | .getstatus => Sys2Proof.Machine.execGetstatus s
  | .getmwl => Sys2Proof.Machine.execGetmwl s
  | .getmrl => Sys2Proof.Machine.execGetmrl s
  | .setmwl len => Sys2Proof.Machine.execSetmwl len s
  | .setmrl len => Sys2Proof.Machine.execSetmrl len s
  | .mgmtResetN lowUs => Sys2Proof.Machine.execMgmtResetN lowUs s
  | .mgLogSeqWrite value => Sys2Proof.Machine.execMgLogSeqWrite value s
  | .mgFwBufWrite off bytes => Sys2Proof.Machine.execMgFwBufWrite off bytes s
  | .coldStart => Sys2Proof.Machine.execColdStart s
  | .moduleReset => Sys2Proof.Machine.execModuleReset s
  | .wake => Sys2Proof.Machine.execWake s
  | .board => Sys2Proof.Machine.execBoard s
  | .unboard => Sys2Proof.Machine.execUnboard s
  | .feed => Sys2Proof.Machine.execFeed s
  | .limit => Sys2Proof.Machine.execLimit s
  | .role => Sys2Proof.Machine.execRole s
  | .resume => Sys2Proof.Machine.execResume s
  | .fwBegin => Sys2Proof.Machine.execFwBegin s
  | .mgFwChunk => Sys2Proof.Machine.execMgFwChunk s
  | .mgFwVerify sigOk => Sys2Proof.Machine.execMgFwVerify sigOk s
  | .mgFwActivate => Sys2Proof.Machine.execMgFwActivate s
  | .fwEnd => Sys2Proof.Machine.execFwEnd s
  | .fwSessionTimeout => Sys2Proof.Machine.execFwSessionTimeout s
  | .inBandInterrupt => Sys2Proof.Machine.execInBandInterrupt s
  | .bypass => Sys2Proof.Machine.execBypass s
  | .idcode => Sys2Proof.Machine.execIdcode s
  | .sample pins => Sys2Proof.Machine.execSample pins s
  | .extest => Sys2Proof.Machine.execExtest s
  | .clamp => Sys2Proof.Machine.execClamp s
  | .peepUnlock serial challenge sigOk => Sys2Proof.Machine.execPeepUnlock serial challenge sigOk s
  | .peepRead off len => Sys2Proof.Machine.execPeepRead off len s
  | .logEntryWrite => Sys2Proof.Machine.execLogEntryWrite s
  | .retireSliceHoldTimeout site => Sys2Proof.Machine.execRetireSliceHoldTimeout site s
  | .bridgeRetrainEnd bridge ok => Sys2Proof.Machine.execBridgeRetrainEnd bridge ok s
  | .completionTimeout ring copy => Sys2Proof.Machine.execCompletionTimeout ring copy s
  | .hostLinkLoss => Sys2Proof.Machine.execHostLinkLoss s
  | .aerUncorrectableError status => Sys2Proof.Machine.execAerUncorrectableError status s
  | .feedBackInRange feed volts => Sys2Proof.Machine.execFeedBackInRange feed volts s

end Sys2Proof.Machine
end

