-- ==== Sys2Proof/Machine/Stalls.lean ====
section
/-! DEFINITION. A core's stall counters (R175, R176) and one microsecond of module time (R619): what each thread waits for, read off
the state. -/

namespace Sys2Proof.Machine

/-! ## Descriptors that wait to issue (R108, R133) -/

/-- What issues a descriptor of a queued class. -/
def queueBody (op : Nat) : Option Body :=
  if op = 0x10 ∨ op = 0x11 then some bodyStr
  else if op = 0x20 then some bodyMxLoadw
  else if op = 0x21 then some bodyMxRun
  else if op = 0x22 then some bodyMxDrain
  else if op = 0x23 then some bodyMxSplit
  else if op = 0x24 then some bodyMxElem
  else if 0x30 ≤ op ∧ op ≤ 0x3B then some bodyVx
  else if 0x40 ≤ op ∧ op ≤ 0x43 then some bodyKh
  else if op = 0x50 ∨ op = 0x51 then some bodyBank
  else if 0x60 ≤ op ∧ op ≤ 0x63 then some bodyNr
  else none

/-- An issue ends in waiting for room. -/
def Issued.stalls : Issued → Bool
  | .stall => true
  | _ => false

/-- The descriptor at the head of a thread's fetch buffer that waits to issue. -/
def Module.issueWait (m : Module) (site t : Nat) : Option (List Byte) :=
  match ((m.core site).th t).fetchBuf with
  | .desc bs :: _ =>
    (match queueBody (getLe bs 0 1) with
     | some f => if m.mayIssue site t bs && (f m site t bs).stalls then some bs else none
     | none => none)
  | _ => none

/-- An NR descriptor has room in its queue: what it waits for is the attachment's way. -/
def Module.nrRoom (m : Module) (site t : Nat) : Bool :=
  let c := m.core site
  decide ((c.th t).inClass 5 < if c.split then 2 else 4)

/-- A half on the way between two endpoints is held for its frequency (R307). -/
def Module.halfOnWay (m : Module) (src dst : Nat) : Bool :=
  match m.before.endRoute src dst with
  | some p => p.any (fun c => decide (c < Config.clusters) && m.halfHeld (halfOf c))
  | none => false
/-- The reason of what cannot leave for an endpoint: 11 while a half on its way is held for its frequency, else 10. -/
def Module.wayCause (m : Module) (src dst : Nat) : Nat := if m.halfOnWay src dst then 11 else 10

/-- The causes a thread counts for its descriptor at issue: 1 issue queue full, 12 bank-op wait (R108). -/
def Module.issueCauses (m : Module) (site t : Nat) : List Nat :=
  match m.issueWait site t with
  | none => []
  | some bs =>
    let op := getLe bs 0 1
    if op = 0x50 ∨ op = 0x51 then [12] else if 0x60 ≤ op ∧ m.nrRoom site t then [] else [1]

/-! ## The sequencer (R144, R149, R151, R160) -/

/-- Causes 0 fetch, 2 event wait, 3 fence wait. -/
def Thread.seqCauses (t : Thread) : List Nat :=
  match t.wait with
  | some bs => if getLe bs 0 1 = 0x70 then [2] else [3]
  | none => match t.splitWait with
    | some f => if getLe f.bytes 1 1 = 0 then [3] else []
    | none => if t.fetchBuf.isEmpty then [0] else []

/-! ## The array (R155, R186, R205) -/

/-- Bytes a descriptor at the array still lacks of its feed stream, of the `n` it needs. -/
def Core.lacks (c : Core) (t : Nat) (f : InFlight) (n : Nat) : Bool :=
  let there := match c.stream (getLe f.bytes 7 1 % 16) with | some q => q.feed.length | none => 0
  decide ((c.taken t f).length + there < n)

/-- What the run at the head of a thread's run queue waits for: 4 feeder empty, 14 weight load, 15 accumulator busy. -/
def Core.runCauses (c : Core) (t : Nat) : List Nat :=
  let th := c.th t
  match ((c.half t).runs.head?).bind (fun r => th.find r.1) with
  | none => []
  | some f =>
    let b := f.bytes
    let op (g : InFlight) : Nat := getLe g.bytes 0 1
    if getLe b 0 1 ≠ 0x21 then []
    else
      let info := (c.half t).runInfo (runSwap b)
      (if runSwap b && th.earlier f.id (fun g => op g == 0x20) then [14] else []) ++
      (if th.earlier f.id (fun g => op g == 0x22 && b2n (bitOf (getLe g.bytes 1 1) 0) == runBank b) then [15] else []) ++
      (if th.runFree f && bitOf (getLe b 1 1) 0 && (c.half t).runOk b info c.split &&
          c.lacks t f (getLe b 8 1 * vectorBytes info (getLe b 2 1) (bitOf (getLe b 1 1) 1)) then [4] else [])

/-- What the load at the head of a thread's weight queue waits for: 4 weight data, 14 a weight buffer. -/
def Module.loadCauses (m : Module) (site t : Nat) : List Nat :=
  let c := m.core site
  match ((c.half t).weights.head?).bind (fun r => (c.th t).find r.1) with
  | none => []
  | some f =>
    let b := f.bytes
    let shape := tileShape (getLe b 2 1) (getLe b 8 1) (getLe b 9 1)
    if !m.mayLoad site t f then [14]
    else if bitOf (getLe b 1 1) 0 && c.lacks t f (shape.1 * shape.2) then [4] else []

/-- What the drain at the head of a thread's drain queue waits for: 15 accumulator busy. -/
def Core.drainCauses (c : Core) (t : Nat) : List Nat :=
  let th := c.th t
  match ((c.half t).drains.head?).bind (fun r => th.find r.1) with
  | none => []
  | some f =>
    let run (g : InFlight) : Bool := getLe g.bytes 0 1 == 0x21 && runBank g.bytes == b2n (bitOf (getLe f.bytes 1 1) 0)
    if th.earlier f.id run then [15] else []

/-- The array's causes of a thread; in whole mode the queues are thread 0's (R176). -/
def Module.arrayCauses (m : Module) (site t : Nat) : List Nat :=
  let c := m.core site
  if c.mxHalf t = t then c.runCauses t ++ m.loadCauses site t ++ c.drainCauses t else []

/-! ## The keyhole path (R250) -/

/-- 13: the next sector waits for one of the sectors that may be in flight. -/
def Core.khCauses (c : Core) (t : Nat) : List Nat :=
  let th := c.th t
  if th.flight.any (fun f => f.cls == 1 && decide (f.next < khTotal f.bytes)) ∧ (if c.split then 4 else 8) ≤ th.sectors then [13] else []

/-! ## Accesses that wait at slices and in the network (R54, R61, R63, R108, R115, R297, R307, R318, R326) -/

/-- The thread of a core that a request serves. -/
def Core.srcThread (c : Core) (site : Nat) (src : Src) : Option Nat :=
  match src with
  | .stream s slot _ => if s = site then (c.stream slot).map (·.thread) else none
  | .keyhole s t _ => if s = site then some t else none
  | .fetch s t _ => if s = site then some t else none
  | .nr s t _ => if s = site then some t else none
  | .host _ _ => none
  | .copy _ _ => none
  | .fabric _ _ => none
  | .engine _ _ => none
  | .firmware _ => none

/-- A write waits for a write-hold slot (R61). -/
def Module.wantsHold (m : Module) (w : MemReq) : Bool :=
  let s := m.slice w.site
  let r := w.off / 2048
  w.write && !s.holdFree (srcHost w.src) && (s.mergeOf r).isNone &&
  ((s.holdOf r).isSome || (m.rowHeld w.site r && (w.data.length == 2048 || s.merge.all (fun e => m.rowHeld w.site e.row))))

/-- The reason a slice controller tags a waiting access with: 8 write hold, 12 bank-op wait of a stream's or the keyhole path's access,
else 6 slice busy. -/
def Module.sliceCause (m : Module) (w : MemReq) : Nat :=
  let khStream : Bool := match w.src with | .stream _ _ _ => true | .keyhole _ _ _ => true | _ => false
  if m.wantsHold w then 8 else if khStream && m.bankBusy w.site (m.reqBank w) then 12 else 6

/-- The accesses of a core's thread that wait at slices, with the time each arrived and its reason. -/
def Module.sliceWaits (m : Module) (site t : Nat) : List (Nat × Nat) :=
  (m.mem.slices.flatMap (fun p => p.2.waiting ++ p.2.holdSlots)).filterMap (fun w =>
    if (m.core site).srcThread site w.req.src = some t then some (w.at_, m.sliceCause w.req) else none)

/-- The endpoint that the next request of a stream, or of the keyhole path, goes to. -/
def Module.vaEnd (m : Module) (site va acc : Nat) : Option Nat :=
  match m.coreHit site va acc with
  | some (.ok pa) => some (siteOfAddr pa)
  | _ => none
/-- A thread's next access waits for a table walk (R245): of a stream, of the keyhole path, of its fetch unit. -/
def Module.walkWaits (m : Module) (site t : Nat) : Bool :=
  let c := m.core site
  let th := c.th t
  let miss (va : Nat) : Bool := (m.coreHit site va 3).isNone
  c.streams.any (fun p => p.2.thread == t && m.slotReady site p.1 && !stPads p.2.desc && miss (p.2.addr p.2.pos)) ||
  (match th.flight.find? (fun f => f.cls == 1 && decide (f.next < khTotal f.bytes)) with
   | some f => decide (th.sectors < if c.split then 4 else 8) && (match m.khAddr site t f f.next with | .ok a => decide (a < 2 ^ 48) && miss a | .error _ => false)
   | none => false) ||
  (th.fetchRoom && miss th.fetchPos)

/-- Endpoints a thread's requests and packets are held on their way to: its streams, its keyhole path, an NR transfer for another
module, its packets in the network, its transfers during a pause of the fabric's links. -/
def Module.wayHeld (m : Module) (site t : Nat) : List Nat :=
  let c := m.core site
  let th := c.th t
  let shut (dst : Nat) : Bool := !m.mayLeave site dst
  let streams := (c.streams.filter (fun p => p.2.thread == t && m.slotReady site p.1 && !stPads p.2.desc)).filterMap (fun p =>
    m.vaEnd site (p.2.addr p.2.pos) (if stLoad p.2.desc then 3 else 4))
  let pads := (c.streams.filter (fun p => p.2.thread == t && m.slotReady site p.1 && stPads p.2.desc)).map (fun p => padSite (p.2.addr p.2.pos))
  let kh := match th.flight.find? (fun f => f.cls == 1 && decide (f.next < khTotal f.bytes)) with
    | some f => if khList f.bytes then [] else
        (match m.vaEnd site (getLe f.bytes 4 6 + 64 * f.next) (if khReads f.bytes then 3 else 4) with | some d => [d] | none => [])
    | none => []
  let nr := match m.issueWait site t with
    | some bs => if 0x60 ≤ getLe bs 0 1 ∧ m.nrRoom site t then
        (match m.egress (nrModule bs) with | some p => [leaveEnd p (clusterOf site)] | none => []) else []
    | none => []
  let pkts := (m.net.pkts.filter (fun p => p.issuer == site && p.thread == t && (p.held || !m.passes p.src p.dst))).map (·.dst)
  let fab := if m.fab.paused then (m.flight.xfers.filter (fun x => x.site == site && x.thread == t)).filterMap (fun x =>
    (m.egress x.dest).map (fun p => leaveEnd p (clusterOf site))) else []
  (streams ++ pads ++ kh ++ nr).filter shut ++ pkts ++ fab

/-- The reason of the oldest waiting access of the threads `ts` (R176): what waits at a slice has left before what waits for its way, which
had its translation before what waits for a walk (9). -/
def Module.oldestCause (m : Module) (site : Nat) (ts : List Nat) : List Nat :=
  match (ts.flatMap (m.sliceWaits site)).filter (fun w => w.2 != 12) with
  | w :: ws => [(ws.foldl (fun (o : Nat × Nat) x => if x.1 < o.1 then x else o) w).2]
  | [] => match ts.flatMap (m.wayHeld site) with
    | d :: _ => [m.wayCause site d]
    | [] => if ts.any (m.walkWaits site) then [9] else []

/-! ## Counting (R173, R176) -/

/-- Every cause of a thread but those of the oldest access. -/
def Module.threadCauses (m : Module) (site t : Nat) : List Nat :=
  let c := m.core site
  let th := c.th t
  if th.item.isNone ∨ th.halted then []
  else th.seqCauses ++ m.issueCauses site t ++ m.arrayCauses site t ++ c.khCauses t ++
    (if (m.sliceWaits site t).any (fun w => w.2 == 12) then [12] else [])

/-- The threads whose stalls count: those CORE_CONTROL.stall_select names, 3 treated as 0 (R173). In whole mode every stall is
thread 0's (R176). -/
def Core.counted (c : Core) : List Nat :=
  if !c.split then (if c.stallSelect = 2 then [] else [0, 1])
  else if c.stallSelect = 1 then [0] else if c.stallSelect = 2 then [1] else [0, 1]

/-- The causes that a core's cycle counts now. -/
def Module.stallCauses (m : Module) (site : Nat) : List Nat :=
  let ts := (m.core site).counted
  let live := ts.filter (fun t => ((m.core site).th t).item.isSome && !((m.core site).th t).halted)
  (List.range 16).filter (fun k => decide (k ∈ ts.flatMap (m.threadCauses site) ++ m.oldestCause site live))

/-- A core counts `n` cycles, and each cause once for each of them (R176). -/
def Core.count (c : Core) (n : Nat) (causes : List Nat) : Core :=
  { c with
    cycles := sat64 c.cycles n,
    stalls := causes.foldl (fun (acc : SMap Nat) k => SMap.upd 0 acc k (fun v => sat64 v n)) c.stalls }

/-! ## One microsecond of module time (R174 to R176, R406, R414, R619) -/

/-- Core clock cycles in one microsecond: the frequency of the operating point in MHz (R406), halved by the brake (R414). -/
def Module.cyclesPerUs (m : Module) (cluster : Nat) : Nat :=
  let f := nth 1400 [400, 600, 800, 1000, 1100, 1200, 1300, 1400] (m.cl cluster).point
  if m.power.brake then f / 2 else f

/-- TEL_TIME advances by one microsecond, every core whose clock runs counts, and held bank-op sequences count towards their limit
(R619, R176, R117). -/
def Module.tickClocks (m0 : Module) : Module :=
  let m := m0.countHolds
  { m with
    time := m.time + 1,
    cores := m.cores.map (fun p => (p.1,
      if p.2.enabled && m.clocked p.1 then p.2.count (m.cyclesPerUs (clusterOf p.1)) (m.stallCauses p.1) else p.2)) }

/-- One microsecond passes (R619); what waits for a route tries again, and what another module has waited for too long at a group in
Over is refused (R542). -/
def Module.tick (m : Module) : Module := m.tickClocks.releaseCmds.refuseLate

end Sys2Proof.Machine
end

