-- ==== Sys2Proof/Machine/Step.lean ====
section
/-! DEFINITION. One step of the block: the command at the front of the queue has its effect on everything but the
queue; on an empty queue one microsecond of module time passes. -/

namespace Sys2Proof.Machine

/-- The step on an empty queue: one microsecond passes (R619); the table has no row for a tick. -/
def idle (s : State) : State := { s with m := s.m.tick }

/-- Takes the front command and runs it with the queue's rest. -/
def step (s : State) : Host.Outcome State Fault Refusal :=
  match s.pending with
  | [] => .next (idle s)
  | c :: rest => exec c { s with pending := rest }

/-- The state with the command a word spells at the front of its queue; no word spells one. -/
def State.withFetchWord (s : State) (nbits w : Nat) : State :=
  match decodeTableWord nbits w with
  | some c => { s with pending := c :: s.pending }
  | none => s

end Sys2Proof.Machine
end

