-- ==== Sys2Proof/Safety.lean ====
section
/-! DEFINITION. What counts as a safe step and a safe state, in the terms the statements use. -/

namespace Sys2Proof.Safety

open Sys2Proof.Machine

/-- A step that neither faults nor is refused. -/
def safeStep (s : State) : Prop := ∃ t, step s = .next t

/-- The command has a meaning in this state: exec answers a next state. -/
def completes (i : Instr) (s : State) : Prop := ∃ t, exec i s = .next t

/-- The management port is in order: its maximum lengths are within 16 to 256 bytes (R571), ENUM_OUT is high exactly
while it holds a dynamic address (R574, R575), its buffer is in canonical form. -/
def mgmtOk (g : Mgmt) : Prop :=
  16 ≤ g.maxWrite ∧ g.maxWrite ≤ 256 ∧ 16 ≤ g.maxRead ∧ g.maxRead ≤ 256 ∧ g.enumOut = g.dynAddr.isSome ∧
  SMap.wf (0 : Byte) g.fwBuf = true

/-- The management port answers at its dynamic address (R573, R589). -/
def portAnswers (g : Mgmt) : Prop := g.up = true ∧ g.dynAddr.isSome = true

/-- Request `op` waits, its argument inside `mask` (R582, R585). -/
def requested (g : Mgmt) (op mask : Nat) : Prop :=
  g.up = true ∧ g.reqBusy = true ∧ g.reqOp = op ∧ g.reqArg &&& mask = g.reqArg

/-- The request has ended with a status and a detail, and the controller is interrupted (R581, R582, R588). -/
def requestEnds (s t : State) (st detail : Nat) : Prop :=
  t.mgmt = { s.mgmt with reqBusy := false, doneTag := s.mgmt.reqTag, status := st, detail := detail % 2 ^ 32 } ∧
  1 ∈ t.m.ibiCauses

/-! ## Letterbox commands (R504, R507, R511, R513) -/

/-- No other command is in progress: none at all, or this one's own entry as LETTERBOX_ENTRY_TAKE left it. -/
def alone (op : Nat) (c : Cmd) (m : Module) : Prop :=
  m.engine.cmds = [] ∨
  ∃ q : CmdSlot, m.engine.cmds = [q] ∧ q.fn = c.fn ∧ q.tag = c.tag ∧ q.opcode = op ∧ q.phase = .taken ∧ q.flags = c.flags ∧
    q.partition = c.partition ∧ q.cplFlags = 0

/-- The command passes checks 1 to 5 of R507 and finds its claims free and, where it needs one, the work fence of partition
`fence`, with no other command in progress. -/
def accepted (sp : CmdSpec) (bad need : Option Nat) (claims : List Claim) (fence : Option Nat) (c : Cmd) (m : Module) : Prop :=
  c.wf = true ∧ alone sp.op c m ∧ sp.check c m bad need = none ∧ m.claimsFree claims = true ∧
  (∀ n, fence = some n → m.atWorkFence n = true)

/-- The 32 bytes of a letterbox completion (R504, R505): tag, status, opcode, flags [0] for an honoured expert flag,
partition, and 24 bytes of detail. -/
def completionOf (op st : Nat) (detail : List Byte) (c : Cmd) : List Byte :=
  packRec 8 [⟨0, 2, c.tag⟩, ⟨2, 2, st⟩, ⟨4, 1, op⟩, ⟨5, 1, if isExpert c then 1 else 0⟩, ⟨6, 2, c.partition⟩] ++
  (detail ++ packRec 24 []).take 24

/-- The command is over, and its completion is the newest that waits for its letterbox's ring; vector 0 is raised with it if
the packet's notify flag asks for it. -/
def answered (op st : Nat) (detail : List Byte) (c : Cmd) (m t : Module) : Prop :=
  t.engine.cmds = [] ∧
  ∃ (cs : List Cpl) (r : Bool), t.port.cpls = cs ++ [⟨.letter c.fn, completionOf op st detail c, if isNotify c then some 0 else none, r⟩] ∧
    m.port.cpls <+: cs

/-- The command is running and holds its claims; a later command of the table completes it. -/
def stillRuns (op : Nat) (claims : List Claim) (c : Cmd) (t : Module) : Prop :=
  ∃ q : CmdSlot, q ∈ t.engine.cmds ∧ q.fn = c.fn ∧ q.tag = c.tag ∧ q.opcode = op ∧ q.phase = .running ∧ q.claims = claims

/-- A function may send requests of its own: Bus Master Enable set, not in D3hot (R499). -/
def mayRequest (fn : Nat) (m : Module) : Prop := (m.func fn).busMaster = true ∧ (m.func fn).d3hot = false

/-- The record goes to the command's host buffer: one write to host memory is the newest thing that left the port. -/
def writesBuffer (c : Cmd) (record : List Byte) (m t : Module) : Prop :=
  t.port.out = m.port.out ++ [.memWrite c.fn (pField c 8 8) record false]

/-- Something holds of the module whatever commands are in progress. -/
def anyEngine (m : Module) (P : Module → Prop) : Prop := ∀ e : Engine, P { m with engine := e }

/-- The module as the body of an accepted command sees it: the command's own slot is the only one, running, with its claims. -/
def acting (op id : Nat) (claims : List Claim) (i : Instr) (c : Cmd) (m m' : Module) : Prop :=
  ∃ (k : Nat) (q : CmdSlot), q.id = id ∧ q.fn = c.fn ∧ q.opcode = op ∧ q.tag = c.tag ∧ q.phase = .running ∧ q.claims = claims ∧
    q.instr = some i ∧ m' = { m with engine := { m.engine with nextId := k, cmds := [q] } }

/-! ## Descriptors (R133 to R135) -/

/-- The thread a descriptor belongs to. -/
def thOf (d : Desc) (m : Module) : Thread := (m.core d.site).th d.thread

/-- The descriptor carries opcode `op` and is the one its thread issues next (R133). -/
def issuable (op : Nat) (d : Desc) (m : Module) : Prop :=
  d.wf = true ∧ getLe d.bytes 0 1 = op ∧ m.mayIssue d.site d.thread d.bytes = true

/-- The program goes on behind the descriptor, whose effect has left the module `x`. -/
def goesOn (d : Desc) (x : Module) (t : State) : Prop := t.m = x.advance d.site d.thread (thOf d x).pc ((thOf d x).pc + 32)

/-- Control passes to `a` (R139, R143). -/
def jumps (d : Desc) (x : Module) (a : Nat) (t : State) : Prop :=
  t.m = (x.updCore d.site (fun c => c.updTh d.thread (fun th => { th with pc := a }))).refetch d.site d.thread a

/-- The thread faults at issue with a code, a cause and an address (R162, R163). -/
def faultsWith (d : Desc) (code cause addr : Nat) (m t : Module) : Prop :=
  t = m.threadFault d.site d.thread code cause (thOf d m).pc (getLe d.bytes 0 1) addr 0

/-- The descriptor waits at issue for its condition (R144). -/
def waitsAtIssue (d : Desc) (m t : Module) : Prop :=
  t = m.updCore d.site (fun c => c.updTh d.thread (fun th => { th with wait := some d.bytes }))

/-- The module with one more descriptor in flight: its class, its bytes with their registers added (R133, R135). -/
def launched (d : Desc) (cls : Nat) (bytes : List Byte) (done : Bool) (m : Module) : Module := (m.launch d.site d.thread cls bytes done).1

/-! ## The host port (R8, R472, R484, R499) -/

/-- A request of the function to a BAR is looked at: link up, configuration space answering, the function present, Memory Space
Enable set, not in D3hot (R472, R499). -/
def barOpen (fn : Nat) (m : Module) : Prop :=
  m.port.perst = false ∧ m.port.linkUp = true ∧ m.port.cfgReady = true ∧ fn ≤ m.port.numVfs ∧ (m.func fn).memSpace = true ∧
  (m.func fn).d3hot = false

/-- BAR0 serves the 8 bytes at `off` for the function now (R472, R611). -/
def serves (fn off : Nat) (m : Module) : Prop := barOpen fn m ∧ m.bar0Served fn off = true

/-- Nothing of the function is under way in front of a new access: no read, no doorbell, no posted write (R484). -/
def quietPort (fn : Nat) (m : Module) : Prop :=
  m.port.reads = [] ∧ m.port.bells = [] ∧ ∀ id, m.postedBefore fn id = false

/-- The host gets these bytes, as the newest thing that left the port. -/
def returned (fn : Nat) (data : List Byte) (ep : Bool) (m t : Module) : Prop := t.port.out = m.port.out ++ [.readData fn data ep]

/-! ## The fabric (R537, R538, R543) -/

/-- A transaction of a type stands at a port that is up. -/
def heard (port : Nat) (t : Trans) (typ : Nat) (m : Module) : Prop :=
  port < Config.ports ∧ t.wf = true ∧ t.typ = typ ∧ (m.fport port).up = true

/-- It is for this module, which has its ID. -/
def forMe (port : Nat) (t : Trans) (typ : Nat) (m : Module) : Prop :=
  heard port t typ m ∧ m.fab.idValid = true ∧ t.dest = m.fab.deviceId

/-! ## Well-formed commands -/

/-- A command the outside can send: its operands name units the block has and lengths its interfaces carry. -/
def wellFormed : Instr → Bool
  | .devNop c => c.wf
  | .devIdentify c => c.wf
  | .devExpert c => c.wf
  | .devNetQuery c => c.wf
  | .devReset c => c.wf
  | .devAckShortfall c => c.wf
  | .partCreate c => c.wf
  | .partDestroy c => c.wf
  | .partDisable c => c.wf
  | .partEnable c => c.wf
  | .partConfig c => c.wf
  | .partQuery c => c.wf
  | .partMap c => c.wf
  | .partUnmap c => c.wf
  | .partStripe c => c.wf
  | .partPool c => c.wf
  | .memQuery c => c.wf
  | .memRetirePage c => c.wf
  | .memRetireBank c _ => c.wf
  | .memRetireSlice c => c.wf
  | .memClearPoison c => c.wf
  | .memScrubRange c _ => c.wf
  | .memScrubConfig c => c.wf
  | .memArbConfig c => c.wf
  | .memListRetired c => c.wf
  | .memBankop c => c.wf
  | .workCollective c => c.wf
  | .workTree c => c.wf
  | .workCancel c => c.wf
  | .pwrLimit c => c.wf
  | .pwrLadder c => c.wf
  | .pwrFeed c => c.wf
  | .pwrOppoint c => c.wf
  | .pwrCurrent c => c.wf
  | .pwrView c => c.wf
  | .thmSensors c => c.wf
  | .thmConfig c => c.wf
  | .thmResume c => c.wf
  | .testMemory c fails => c.wf && fails.all CellFail.wf
  | .testKnownAnswer c fails => c.wf && findingsOf 7 fails
  | .calRegulator c lost => c.wf && lost.all (fun p => clusterOk p.1 && decide (p.2 < 4))
  | .calDeskew c failed => c.wf && failed.all siteOk
  | .calSensor c => c.wf
  | .calBridge c failed => c.wf && decide (failed < 2 ^ 68)
  | .fwQuery c => c.wf
  | .fwWrite c => c.wf
  | .fwVerify c _ => c.wf
  | .fwActivate c => c.wf
  | .fwMicrocode c _ version incomplete => c.wf && decide (version < 2 ^ 32) && incomplete.all siteOk
  | .fwBroadcast c => c.wf
  | .fabQuery c => c.wf
  | .fabRole c => c.wf
  | .fabPort c => c.wf
  | .modePrepare c => c.wf
  | .modeCommit c => c.wf
  | .modeAbort c => c.wf
  | .modeQuery c => c.wf
  | .telSnapshot c => c.wf
  | .errRead c => c.wf
  | .errAck c => c.wf
  | .errInject c => c.wf
  | .ctNop d => d.wf && getLe d.bytes 0 1 == 0x00
  | .ctEnd d => d.wf && getLe d.bytes 0 1 == 0x01
  | .ctLoop d => d.wf && getLe d.bytes 0 1 == 0x02
  | .ctBranch d => d.wf && getLe d.bytes 0 1 == 0x03
  | .ctJump d => d.wf && getLe d.bytes 0 1 == 0x04
  | .ctCall d => d.wf && getLe d.bytes 0 1 == 0x05
  | .ctRet d => d.wf && getLe d.bytes 0 1 == 0x06
  | .ctSetreg d => d.wf && getLe d.bytes 0 1 == 0x07
  | .ctAddreg d => d.wf && getLe d.bytes 0 1 == 0x08
  | .ctPost d => d.wf && getLe d.bytes 0 1 == 0x09
  | .strLoad d => d.wf && getLe d.bytes 0 1 == 0x10
  | .strStore d => d.wf && getLe d.bytes 0 1 == 0x11
  | .strCancel d => d.wf && getLe d.bytes 0 1 == 0x12
  | .mxLoadw d => d.wf && getLe d.bytes 0 1 == 0x20
  | .mxRun d => d.wf && getLe d.bytes 0 1 == 0x21
  | .mxDrain d => d.wf && getLe d.bytes 0 1 == 0x22
  | .mxSplit d => d.wf && getLe d.bytes 0 1 == 0x23
  | .mxElem d => d.wf && getLe d.bytes 0 1 == 0x24
  | .vxAdd d => d.wf && getLe d.bytes 0 1 == 0x30
  | .vxSub d => d.wf && getLe d.bytes 0 1 == 0x31
  | .vxMul d => d.wf && getLe d.bytes 0 1 == 0x32
  | .vxFma d => d.wf && getLe d.bytes 0 1 == 0x33
  | .vxMax d => d.wf && getLe d.bytes 0 1 == 0x34
  | .vxMin d => d.wf && getLe d.bytes 0 1 == 0x35
  | .vxUnary d => d.wf && getLe d.bytes 0 1 == 0x36
  | .vxReduce d => d.wf && getLe d.bytes 0 1 == 0x37
  | .vxConvert d => d.wf && getLe d.bytes 0 1 == 0x38
  | .vxCopy d => d.wf && getLe d.bytes 0 1 == 0x39
  | .vxFill d => d.wf && getLe d.bytes 0 1 == 0x3A
  | .vxSelect d => d.wf && getLe d.bytes 0 1 == 0x3B
  | .khRead d => d.wf && getLe d.bytes 0 1 == 0x40
  | .khWrite d => d.wf && getLe d.bytes 0 1 == 0x41
  | .khGather d => d.wf && getLe d.bytes 0 1 == 0x42
  | .khScatter d => d.wf && getLe d.bytes 0 1 == 0x43
  | .bkRow d => d.wf && getLe d.bytes 0 1 == 0x50
  | .bkStat d => d.wf && getLe d.bytes 0 1 == 0x51
  | .nrSend d => d.wf && getLe d.bytes 0 1 == 0x60
  | .nrReduce d => d.wf && getLe d.bytes 0 1 == 0x61
  | .nrGather d => d.wf && getLe d.bytes 0 1 == 0x62
  | .nrBcast d => d.wf && getLe d.bytes 0 1 == 0x63
  | .syWait d => d.wf && getLe d.bytes 0 1 == 0x70
  | .sySignal d => d.wf && getLe d.bytes 0 1 == 0x71
  | .syFence d => d.wf && getLe d.bytes 0 1 == 0x72
  | .sySet d => d.wf && getLe d.bytes 0 1 == 0x73
  | .invalidOpcode d => d.wf && !opcodeListed (getLe d.bytes 0 1)
  | .fetchReturn site thread _ => siteThreadOk site thread
  | .waitRelease site thread => siteThreadOk site thread
  | .descriptorCompletion site thread _ _ => siteThreadOk site thread
  | .watchdogExpiry site thread => siteThreadOk site thread
  | .streamRequestIssue site slot => siteOk site && decide (slot < 16)
  | .keyholeSectorIssue site thread => siteThreadOk site thread
  | .tableWalkComplete w => w.wf
  | .mxRunEntry site half _ => siteOk site && decide (half < 2)
  | .mxDrainStart site half _ => siteOk site && decide (half < 2)
  | .backgroundTestBankCycle site wordBad => siteOk site && wordBad.all (fun p => decide (p.1 < 64 ∧ 0 < p.2 ∧ p.2 < 256))
  | .bar2Read fn _ len => fnOk fn && decide (0 < len ∧ len ≤ 4096)
  | .bar2Write fn _ data => fnOk fn && decide (0 < data.length ∧ data.length ≤ 4096)
  | .bar4Read fn _ len => fnOk fn && decide (0 < len ∧ len ≤ 4096)
  | .bar4Write fn _ data => fnOk fn && decide (0 < data.length ∧ data.length ≤ 4096)
  | .unsupportedRequest fn _ => fnOk fn
  | .poisonedTlpWrite fn bar _ data => fnOk fn && decide (bar = 0 ∨ bar = 2 ∨ bar = 4) && decide (0 < data.length ∧ data.length ≤ 4096)
  | .configurationRequest fn _ reg _ => fnOk fn && decide (reg < 4096)
  | .bar0MisalignedAccess fn _ size _ => fnOk fn && decide (0 < size ∧ size ≤ 4096)
  | .undecodedBar0Access fn _ size _ => fnOk fn && decide (0 < size ∧ size ≤ 4096)
  | .registerWrite fn _ size _ => fnOk fn && decide (0 < size ∧ size ≤ 512)
  | .lowerHalfRead fn off => fnOk fn && off % 4 == 0
  | .telSnapshotLatch fn => fnOk fn
  | .devWindowWrite fn _ => fnOk fn
  | .expertWindowWrite fn _ => fnOk fn
  | .resetCore fn site => fnOk fn && siteOk site
  | .resetThread0 fn site => fnOk fn && siteOk site
  | .resetThread1 fn site => fnOk fn && siteOk site
  | .stallLatch fn site => fnOk fn && siteOk site
  | .stallClear fn site => fnOk fn && siteOk site
  | .coreFaultValidClear fn site thread => fnOk fn && siteThreadOk site thread
  | .ltrCmdTailWrite fn _ => fnOk fn
  | .wrkSubTailWrite fn part _ => fnOk fn && partOk part && ringVisible fn (.work part)
  | .completionHeadWrite fn ring _ => fnOk fn && ring.wf && ringVisible fn ring
  | .ringEnable fn ring => fnOk fn && ring.wf && ringVisible fn ring
  | .ringDisable fn ring => fnOk fn && ring.wf && ringVisible fn ring
  | .letterboxEntryTake entry => match entry with | none => true | some b => b.length == 64
  | .workPacketTake part entry => partOk part && (match entry with | none => true | some b => b.length == 128)
  | .claimGrant => true
  | .workFenceReached part => partOk part
  | .workFenceTimeout part => partOk part
  | .completionWrite ring => ring.wf
  | .program part _ => partOk part
  | .lengthTable part _ => partOk part
  | .copyIn part _ => partOk part
  | .copyOut part _ => partOk part
  | .copyHostDataArrival part _ _ => partOk part
  | .itemCreation part _ => partOk part
  | .itemStart site thread => siteThreadOk site thread
  | .mergeItemCreation part _ => partOk part
  | .quantumExpiry site thread => siteThreadOk site thread
  | .contextSwitch site thread => siteThreadOk site thread
  | .switchDeferral site => siteOk site
  | .switchRecheck site => siteOk site
  | .drainComplete t => t.wf
  | .drainTimeout t => t.wf
  | .abortComplete t => t.wf
  | .layoutAckTimeout missing => decide (missing < 65536)
  | .layoutCommit => true
  | .poolNodeRelocation part _ => partOk part
  | .columnTransactionGrant site _ _ => siteOk site
  | .readSector r => r.wf && !r.row && !r.write
  | .readRow r => r.wf && r.row && !r.write
  | .writePacket r => r.wf && r.write
  | .mergeEntryAgeExpiry site row => siteOk site && decide (row < 2 ^ 18)
  | .refreshInterval site bank => siteOk site && decide (bank < 64)
  | .postponedRefreshForce site bank => siteOk site && decide (bank < 64)
  | .writeHoldDrain site _ _ => siteOk site
  | .overHostReadTimeout site => siteOk site
  | .scrubRowVisit site _ _ => siteOk site
  | .bankopDelivery deck => decide (deck < Config.decks)
  | .bankopStepStart site _ => siteOk site
  | .bankopStepEnd site _ => siteOk site
  | .correctionDetour site bank _ _ => siteOk site && decide (bank < 64)
  | .bankopHoldLimit site => siteOk site
  | .bankUnitTimeout site bank => siteOk site && decide (bank < 64)
  | .bankopCompletion _ => true
  | .flitArrival f => f.wf
  | .dataPacket _ => true
  | .accept _ => true
  | .nrSendPacket src dst => siteOk src && siteOk dst
  | .nrGatherPacket src dst => siteOk src && siteOk dst
  | .nrBcastPacket src dst => endpointOk src && endpointOk dst
  | .reduceFlit deck tree cluster => decide (deck < Config.decks ∧ tree < 8 ∧ cluster < 64)
  | .signalPacket src dst => siteOk src && siteOk dst
  | .nrAck src dst => endpointOk src && endpointOk dst
  | .nrNack src dst => siteOk src && siteOk dst
  | .routeMark src dst => endpointOk src && endpointOk dst
  | .routeLoss router endpoint => clusterOk router && endpointOk endpoint
  | .transom deck _ => decide (deck < Config.decks)
  | .routerFence cluster _ => clusterOk cluster
  | .routeTableUpdate => true
  | .halfFrequencyChange half _ => decide (half < 2 * Config.decks)
  | .halfSlowDecision half => decide (half < 2 * Config.decks)
  | .bridgeFrameReceive bridge group dir seq _ => groupOk bridge group dir && decide (seq < 256)
  | .laneFailure bridge group dir lane => groupOk bridge group dir && decide (lane < 34)
  | .groupRetrainDone bridge group dir _ => groupOk bridge group dir
  | .bridgeRetrain bridge => bridgeOk bridge
  | .fabricFlitReceive port f => portOk port && f.wf
  | .fabricAckTimeout port => decide (port < Config.ports)
  | .fecErrorThreshold port _ _ => decide (port < Config.ports)
  | .portTraining port lanes => portOk port && decide (lanes < 256)
  | .portTrainRetry port => decide (port < Config.ports)
  | .writeSp port t => decide (port < Config.ports) && t.wf && t.typ == 0x01
  | .writeVa port t => decide (port < Config.ports) && t.wf && t.typ == 0x02
  | .readVa port t => decide (port < Config.ports) && t.wf && t.typ == 0x03
  | .dataTransaction port t => decide (port < Config.ports) && t.wf && t.typ == 0x04
  | .ack port t => decide (port < Config.ports) && t.wf && t.typ == 0x05
  | .nack port t => decide (port < Config.ports) && t.wf && t.typ == 0x06
  | .step port t => decide (port < Config.ports) && t.wf && t.typ == 0x10
  | .fwChunkTransaction port t => decide (port < Config.ports) && t.wf && t.typ == 0x18
  | .hello port t => decide (port < Config.ports) && t.wf && t.typ == 0x20
  | .beacon port t => decide (port < Config.ports) && t.wf && t.typ == 0x21
  | .topo port t => decide (port < Config.ports) && t.wf && t.typ == 0x22
  | .idAssign port t => decide (port < Config.ports) && t.wf && t.typ == 0x23
  | .heartbeat port t => decide (port < Config.ports) && t.wf && t.typ == 0x24
  | .slow port t => decide (port < Config.ports) && t.wf && t.typ == 0x25
  | .holdReport port t => decide (port < Config.ports) && t.wf && t.typ == 0x26
  | .modePrep port t => decide (port < Config.ports) && t.wf && t.typ == 0x27
  | .modeAck port t => decide (port < Config.ports) && t.wf && t.typ == 0x28
  | .modeCommitTransaction port t => decide (port < Config.ports) && t.wf && t.typ == 0x29
  | .modeAbortTransaction port t => decide (port < Config.ports) && t.wf && t.typ == 0x2A
  | .epochPoll port t => decide (port < Config.ports) && t.wf && t.typ == 0x2B
  | .epochInfo port t => decide (port < Config.ports) && t.wf && t.typ == 0x2C
  | .fwPoll port t => decide (port < Config.ports) && t.wf && t.typ == 0x2D
  | .fwBitmap port t => decide (port < Config.ports) && t.wf && t.typ == 0x2E
  | .fwCommit port t => decide (port < Config.ports) && t.wf && t.typ == 0x2F
  | .nackRetransmit tag => decide (tag < 2 ^ 32)
  | .nrAckTimeout tag => decide (tag < 2 ^ 32)
  | .epochHoldPoll _ => true
  | .epochHoldTimeout _ => true
  | .stagedValuePoll kind => decide (kind < 256)
  | .stagedValueDiscard kind => decide (kind < 256)
  | .modeAckTimeout kind => decide (kind < 256)
  | .heartbeatSend => true
  | .groupSummarySend => true
  | .managerLost => true
  | .actingManagerTakeover group => decide (group < 16)
  | .leadManagerTimeout => true
  | .routingPauseDrained => true
  | .stepTimeout tag part => decide (tag < 2 ^ 32) && partOk part
  | .slowSend => true
  | .holdReportSend => true
  | .feedUndervoltage feed _ => decide (feed < 2)
  | .feedOvervoltage feed _ => decide (feed < 2)
  | .feedOutOfRange feed _ => decide (feed < 2)
  | .feedRestore feed _ => decide (feed < 2)
  | .bothFeedsLost => true
  | .powerApplied feed _ => decide (feed < 2)
  | .railFault rail _ => decide (rail < 4)
  | .cellFailure cluster cell cause => clusterOk cluster && decide (cell < 4 ∧ 1 ≤ cause ∧ cause ≤ 4)
  | .boostSwitch cluster cell => clusterOk cluster && decide (cell < 4)
  | .shuntClamp cluster cell => clusterOk cluster && decide (cell < 4)
  | .powerSample _ _ _ => true
  | .powerLimitCheck _ _ => true
  | .powerCapRaise => true
  | .currentSample samples => samples.all (fun p => decide (p.1 < currentDomains))
  | .operatingPointStep cluster => clusterOk cluster
  | .rampHintExpiry cluster => clusterOk cluster
  | .louvreClosure cluster _ _ => clusterOk cluster
  | .clusterWakeComplete cluster => clusterOk cluster
  | .ajarIdleTimeout cluster => clusterOk cluster
  | .shutterIdleTimeout cluster => clusterOk cluster
  | .ajarExit cluster => clusterOk cluster
  | .shutterQuiesceTimeout site thread => siteThreadOk site thread
  | .sliceIslandReturn cluster => clusterOk cluster
  | .sealedEntry => true
  | .sealedExit => true
  | .sensorSample samples => samples.all Reading.wf
  | .suspectPersistence sensor => decide (sensor < 3842)
  | .suspectRecovery sensor => decide (sensor < 3842)
  | .forecastEvaluation peaks => peaks.all (fun p => decide (p.1 < 3840))
  | .capRelease cluster => clusterOk cluster
  | .throttleStep cluster => clusterOk cluster
  | .throttleReleaseStep cluster => clusterOk cluster
  | .tripComparator sensor => decide (sensor < 3840)
  | .flowTachPulse _ _ => true
  | .coolantDegraded condition => decide (condition < 3)
  | .coolantDegradedClear => true
  | .moduleLimitLower => true
  | .moduleLimitRaise => true
  | .coolantStop cause => decide (cause < 2)
  | .pllLockLoss pll => Pll.wf pll
  | .relockAttemptEnd pll _ => Pll.wf pll
  | .columnDeskew stack failedSites => decide (stack < 40) && failedSites.all (fun x => siteOk x && stackOfSite x == stack)
  | .moduleReferenceLoss => true
  | .refclkMgmtLoss => true
  | .refclkMgmtRestore => true
  | .resetComplete _ _ => true
  | .perstNAssert _ => true
  | .perstNDeassert _ => true
  | .functionLevelResetVf fn => decide (1 ≤ fn) && fnOk fn
  | .functionLevelResetPf => true
  | .vfEnableClear numVfs => decide (numVfs < 64)
  | .busMasterEnableClear fn => fnOk fn
  | .busMasterEnableSet fn => fnOk fn
  | .memorySpaceDisable fn _ => fnOk fn
  | .linkDown _ => true
  | .linkRecovery _ _ _ => true
  | .s0Standby _ _ _ => true
  | .s1Firmware info _ _ => decide (info.grade < 2) && info.deadDecks.all (fun d => decide (d < 10))
  | .s2Rails fs _ => findingsOf 2 fs
  | .s3Discovery disc _ fs _ => discWf disc && findingsOf 3 fs && fs.all (fun f => decide (0x0034 ≤ f.cause))
  | .s4Calibration fs _ => findingsOf 4 fs
  | .s5Memory fails _ => fails.all CellFail.wf
  | .retentionHoldEnd stack group ms fails => decide (stack < 40 ∧ group < 4 ∧ ms ∈ [2048, 3072, 5120, 8192]) && fails.all CellFail.wf
  | .coldWarmingEnd _ => true
  | .s6Repair fs _ => findingsOf 6 fs
  | .s7KnownAnswer fs _ => findingsOf 7 fs
  | .s8HostReady fs _ => findingsOf 8 fs
  | .s9Fabric fs _ => findingsOf 9 fs
  | .stageResume => true
  | .stageSuspendTimeout => true
  | .mgPrivateWrite _ => true
  | .mgPrivateRead _ => true
  | .i2cTransfer addr _ _ _ => decide (addr < 128)
  | .entdaa addr _ => decide (addr < 128)
  | .rstdaa => true
  | .enec => true
  | .disec => true
  | .getpid => true
  | .getbcr => true
  | .getdcr => true
  | .getstatus => true
  | .getmwl => true
  | .getmrl => true
  | .setmwl _ => true
  | .setmrl _ => true
  | .mgmtResetN _ => true
  | .mgLogSeqWrite value => decide (value < 2 ^ 64)
  | .mgFwBufWrite off bytes => decide (off + bytes.length ≤ 4096)
  | .coldStart => true
  | .moduleReset => true
  | .wake => true
  | .board => true
  | .unboard => true
  | .feed => true
  | .limit => true
  | .role => true
  | .resume => true
  | .fwBegin => true
  | .mgFwChunk => true
  | .mgFwVerify _ => true
  | .mgFwActivate => true
  | .fwEnd => true
  | .fwSessionTimeout => true
  | .inBandInterrupt => true
  | .bypass => true
  | .idcode => true
  | .sample pins => decide (pins < 2 ^ 64)
  | .extest => true
  | .clamp => true
  | .peepUnlock _ _ _ => true
  | .peepRead _ len => decide (len ≤ 4096)
  | .logEntryWrite => true
  | .retireSliceHoldTimeout site => siteOk site
  | .bridgeRetrainEnd bridge _ => bridgeOk bridge
  | .completionTimeout ring _ => ring.wf
  | .hostLinkLoss => true
  | .aerUncorrectableError status => decide (status < 2 ^ 32)
  | .feedBackInRange feed _ => decide (feed < 2)

end Sys2Proof.Safety
end

