-- ==== Sys2Proof/Certificates/Slice0/Obligations.lean ====
section
/-! DEFINITION. The statements for the provers. Each says for every state and every operand that meet its premises what a command does;
`exec` is the command's effect, `step` takes the command at the front of the queue. -/

open Sys2Proof Sys2Proof.Machine Sys2Proof.Safety

/-! ## The block as a whole -/

/-- A step takes the command at the front of the queue and runs it with the queue's rest; no other thing of the state moves
the step. -/
def Obligations.StepRunsFront : Prop :=
  ∀ (c : Instr) (rest : List Instr) (s : State), s.pending = c :: rest → step s = exec c { s with pending := rest }

/-- With an empty queue one microsecond of module time passes and nothing outside the module changes (log entry 2: DESIGN
CHOICE, the table has no row for a tick). -/
def Obligations.EmptyQueueTicks : Prop :=
  ∀ s : State, s.pending = [] → ∃ t, step s = .next t ∧ t.m.time = s.m.time + 1 ∧ t.pending = [] ∧ t.mgmt = s.mgmt ∧ t.jtag = s.jtag

/-- After reset the queue is empty, the log is empty with number 0, the management port has its maximum lengths of 256 bytes
and no address and is in order, the power limit is 4,400 W, and nothing is ready. -/
def Obligations.ResetState : Prop :=
  State.reset.pending = [] ∧ State.reset.m.log.entries = [] ∧ State.reset.m.log.newest = 0 ∧
  State.reset.mgmt.maxWrite = 256 ∧ State.reset.mgmt.maxRead = 256 ∧ State.reset.mgmt.dynAddr = none ∧
  State.reset.mgmt.ibiOn = false ∧ State.reset.m.power.limit = 4400 ∧ State.reset.m.bring.ready = false ∧
  State.reset.jtag.instr = 0xFF ∧ State.reset.m.mem.scrubHours = 24 ∧ State.reset.m.log.threshold = 1 ∧ mgmtOk State.reset.mgmt

/-- FRAME. Only commands of the management port and of the test port, S0 and the loss of both feeds act on these
two ports; every other command leaves both ports and the queue as they were. The list names the exceptions. -/
def Obligations.PortsKept : Prop :=
  ∀ (i : Instr) (s t : State), exec i s = .next t →
    (match i with
     | .mgPrivateWrite _ | .mgPrivateRead _ | .i2cTransfer _ _ _ _ | .entdaa _ _ | .rstdaa | .enec | .disec | .getpid | .getbcr
     | .getdcr | .getstatus | .getmwl | .getmrl | .setmwl _ | .setmrl _ | .mgmtResetN _ | .mgLogSeqWrite _ | .mgFwBufWrite _ _
     | .coldStart | .moduleReset | .wake | .board | .unboard | .feed | .limit | .role | .resume | .fwBegin | .mgFwChunk
     | .mgFwVerify _ | .mgFwActivate | .fwEnd | .inBandInterrupt | .bypass | .idcode | .sample _ | .extest | .clamp
     | .peepUnlock _ _ _ | .peepRead _ _ | .bothFeedsLost | .s0Standby _ _ _ => True
     | _ => t.mgmt = s.mgmt ∧ t.jtag = s.jtag) ∧ t.pending = s.pending

/-- INVARIANT. From every state whose management port is in order, whatever the command at the front, the next state's port is
in order. -/
def Obligations.PortOrderKept : Prop :=
  ∀ s t : State, mgmtOk s.mgmt → step s = .next t → mgmtOk t.mgmt

/-- Every command completes. In every state a command has a next state exactly when it is well formed, a condition on its operands alone
(each operand names a unit the block has, each length is one its interface carries); no command is refused, and the one fault is that
of an ill-formed command. -/
def Obligations.NoCommandRefused : Prop :=
  ∀ (i : Instr) (s : State),
    (wellFormed i = true → ∃ t, exec i s = .next t) ∧ (wellFormed i = false → exec i s = .fault .illFormed)

/-! ## The management port (chapter 19) -/

/-- Transfers (R573, R577 to R579, R586, R587). A private write of one whole 8-byte register sets the offset and writes the register; the static
address takes the same transfer while the module holds no dynamic one. A read outside the 50 µs after a write of MG_LOG_SEQ
is acknowledged, returns as many bytes as asked for up to the maximum, and moves the offset past them; inside the 50 µs it is not
acknowledged. MG_LOG_SEQ takes the number sought; MG_FW_BUF keeps the eight bytes written at an aligned offset. -/
def Obligations.ManagementTransfers : Prop :=
  (∀ (s : State) (off : Nat) (data : List Byte), portAnswers s.mgmt → off < 65536 → off % 8 = 0 → data.length = 8 →
    8 ≤ s.mgmt.maxWrite →
    exec (.mgPrivateWrite (leBytes 2 off ++ data)) s =
      .next (({ s with mgmt := { s.mgmt with offset := off, acked := true, answer := [] } }).mgWrite off (leNat data))) ∧
  (∀ (s : State) (addr off : Nat) (data : List Byte), s.mgmt.up = true → s.mgmt.dynAddr = none → addr = 0x48 + s.mgmt.strap →
    addr < 128 → off < 65536 → off % 8 = 0 → data.length = 8 → 8 ≤ s.mgmt.maxWrite →
    exec (.i2cTransfer addr true (leBytes 2 off ++ data) 0) s =
      .next (({ s with mgmt := { s.mgmt with offset := off, acked := true, answer := [] } }).mgWrite off (leNat data))) ∧
  (∀ (s : State) (len : Nat), portAnswers s.mgmt → (s.mgmt.seqAt = 0 ∨ s.mgmt.seqAt + 50 ≤ s.m.time + 1) →
    ∃ t, exec (.mgPrivateRead len) s = .next t ∧ t.mgmt.acked = true ∧ t.mgmt.answer.length = min len s.mgmt.maxRead ∧
      t.mgmt.offset = (s.mgmt.offset + min len s.mgmt.maxRead) % 65536 ∧ t.m = s.m ∧ t.jtag = s.jtag) ∧
  (∀ (s : State) (len : Nat), s.mgmt.seqAt ≠ 0 → s.m.time + 1 < s.mgmt.seqAt + 50 →
    exec (.mgPrivateRead len) s = .next { s with mgmt := { s.mgmt with acked := false, answer := [] } }) ∧
  (∀ (s : State) (value : Nat), s.mgmt.up = true → s.m.romFailed = false → value < 2 ^ 64 →
    exec (.mgLogSeqWrite value) s =
      .next { s with mgmt := { s.mgmt with cursor := value % 2 ^ 32, seqAt := s.m.time + 1 } }) ∧
  (∀ (s : State) (off : Nat) (bytes : List Byte), s.mgmt.up = true → s.m.romFailed = false →
    ¬ (s.mgmt.reqBusy = true ∧ s.mgmt.reqOp = 0x11) →
    off % 8 = 0 → off + 8 ≤ 4096 → bytes.length = 8 →
    ∃ t, exec (.mgFwBufWrite off bytes) s = .next t ∧ t.m = s.m ∧ t.jtag = s.jtag ∧
      (∀ i, i < 8 → SMap.get 0 t.mgmt.fwBuf (off + i) = bytes.getD i 0) ∧
      (∀ k, (k < off ∨ off + 8 ≤ k) → SMap.get 0 t.mgmt.fwBuf k = SMap.get 0 s.mgmt.fwBuf k))

/-- MG_REQ_ARG, MG_REQ, and MG_REQ_STATUS as the rack controller writes them (R581, R582, R585): the argument is kept; a listed
opcode starts a request; a write of MG_REQ while one runs is discarded, counted and shown as overrun; writing 1 to overrun
clears it. -/
def Obligations.RequestRegisters : Prop :=
  ∀ (s : State) (v : Nat), s.m.romFailed = false →
    s.mgWrite 0x88 v = { s with mgmt := { s.mgmt with reqArg := v } } ∧
    (s.mgmt.reqBusy = false → v % 256 ∈ mgOps →
      s.mgWrite 0x80 v = { s with mgmt := { s.mgmt with
        reqBusy := true, reqOp := v % 256, reqTag := v / 256 % 256, sessionAt := s.m.time } }) ∧
    (s.mgmt.reqBusy = true →
      s.mgWrite 0x80 v = { s with mgmt := { s.mgmt with errors := sat64 s.mgmt.errors 1, overrun := true } }) ∧
    (s.mgmt.reqBusy = false → v % 256 ∉ mgOps →
      (s.mgWrite 0x80 v).mgmt.reqBusy = false ∧ (s.mgWrite 0x80 v).mgmt.status = stBadOpcode ∧
      (s.mgWrite 0x80 v).mgmt.errors = sat64 s.mgmt.errors 1 ∧
      (s.mgWrite 0x80 v).m.log.pend.length = s.m.log.pend.length + 1) ∧
    (bitOf v 1 = true → (s.mgWrite 0x90 v).mgmt = { s.mgmt with overrun := false })

/-- The common commands (R571 to R575, R588). ENTDAA gives the address and raises ENUM_OUT when ENUM_IN is high, and is not
acknowledged when it is low; RSTDAA takes the address away; ENEC and DISEC switch in-band interrupts; the GET commands return
their values, most significant byte first (PRESUMED, see the log); SETMWL and SETMRL take 16 to 256 and are not acknowledged
outside (DEDUCED, see the log). -/
def Obligations.CommonCommands : Prop :=
  (∀ (s : State) (addr : Nat), s.mgmt.up = true → s.mgmt.dynAddr = none → addr < 128 →
    exec (.entdaa addr true) s = .next { s with mgmt := { s.mgmt with
      dynAddr := some addr, enumOut := true, acked := true, answer := beBytes 6 provisionalId ++ [0x06, 0x00] } } ∧
    exec (.entdaa addr false) s = .next { s with mgmt := { s.mgmt with acked := false, answer := [] } }) ∧
  (∀ s : State, s.mgmt.up = true → exec .rstdaa s = .next { s with mgmt := { s.mgmt with
    dynAddr := none, enumOut := false, acked := true, answer := [] } }) ∧
  (∀ s : State, portAnswers s.mgmt →
    exec .enec s = .next { s with mgmt := { s.mgmt with ibiOn := true, acked := true, answer := [] } } ∧
    exec .disec s = .next { s with mgmt := { s.mgmt with ibiOn := false, acked := true, answer := [] } } ∧
    exec .getpid s = .next { s with mgmt := { s.mgmt with acked := true, answer := beBytes 6 provisionalId } } ∧
    exec .getbcr s = .next { s with mgmt := { s.mgmt with acked := true, answer := [0x06] } } ∧
    exec .getdcr s = .next { s with mgmt := { s.mgmt with acked := true, answer := [0x00] } } ∧
    exec .getstatus s = .next { s with mgmt := { s.mgmt with acked := true, answer := beBytes 2 (min s.m.ibiCauses.length 15) } } ∧
    exec .getmwl s = .next { s with mgmt := { s.mgmt with acked := true, answer := beBytes 2 s.mgmt.maxWrite } } ∧
    exec .getmrl s = .next { s with mgmt := { s.mgmt with acked := true, answer := beBytes 2 s.mgmt.maxRead ++ [1] } }) ∧
  (∀ (s : State) (len : Nat), portAnswers s.mgmt → 16 ≤ len → len ≤ 256 →
    exec (.setmwl len) s = .next { s with mgmt := { s.mgmt with maxWrite := len, acked := true, answer := [] } } ∧
    exec (.setmrl len) s = .next { s with mgmt := { s.mgmt with maxRead := len, acked := true, answer := [] } }) ∧
  (∀ (s : State) (len : Nat), portAnswers s.mgmt → (len < 16 ∨ 256 < len) →
    exec (.setmwl len) s = .next { s with mgmt := { s.mgmt with acked := false, answer := [] } } ∧
    exec (.setmrl len) s = .next { s with mgmt := { s.mgmt with acked := false, answer := [] } })

/-- The reset pin and the in-band interrupt (R576, R587, R588). MGMT_RESET_N low for 1 µs or more takes the address, the enables, the lengths
and a running request away and ends a firmware session; a session ends after 60 s without a request; the lowest pending cause goes
out once interrupts are enabled and the module holds an address. -/
def Obligations.PortResetAndInterrupt : Prop :=
  (∀ (s : State) (us : Nat), 1 ≤ us →
    exec (.mgmtResetN us) s = .next { s with
      mgmt := { s.mgmt with dynAddr := none, enumOut := false, maxWrite := 256, maxRead := 256, ibiOn := false, reqBusy := false },
      jtag := { s.jtag with unlocked := false }, m := { s.m with fwSession := false } }) ∧
  (∀ s : State, s.mgmt.reqBusy = false → s.mgmt.sessionAt + 60000000 ≤ s.m.time →
    exec .fwSessionTimeout s = .next { s with m := { s.m with fwSession := false } }) ∧
  (∀ (s : State) (c : Nat) (rest : List Nat), portAnswers s.mgmt → s.mgmt.ibiOn = true → s.m.ibiCauses = c :: rest →
    exec .inBandInterrupt s = .next { s with mgmt := { s.mgmt with ibiSent := some c }, m := { s.m with ibiCauses := rest } })

/-- The requests that act on power, reset and role (R583, R584): each ends with ST_OK, its tag, and the detail and effect that R583
gives it. COLD_START needs no block of R383 and locks the trace; MODULE_RESET needs S2 to have ended; WAKE leaves Sealed; BOARD
and UNBOARD enter and leave Boarded; LIMIT and ROLE set their value and return the one before; FEED closes or opens a feed. -/
def Obligations.PowerRequests : Prop :=
  (∀ s : State, requested s.mgmt 0x01 1 → s.m.startBlocked = false →
    ∃ t, exec .coldStart s = .next t ∧ t.mgmt.status = stOk ∧ t.mgmt.reqBusy = false ∧ t.mgmt.doneTag = s.mgmt.reqTag ∧
      t.m.bring.active = true ∧ t.m.bring.stage = 0 ∧ t.m.mem.bytes = [] ∧ t.m.cores = [] ∧ t.jtag.unlocked = false ∧ 1 ∈ t.m.ibiCauses) ∧
  (∀ s : State, requested s.mgmt 0x02 1 → 3 ≤ s.m.bring.stage → s.m.power.pwrGood = true → s.m.power.moduleState ≠ 3 →
    ∃ t, exec .moduleReset s = .next t ∧ requestEnds s t stOk 0 ∧ t.m.bring.active = true ∧ t.m.bring.stage = 3 ∧ t.m.mem = {} ∧
      t.m.parts = {} ∧ t.m.time = s.m.time ∧ t.m.power.limit = 4400) ∧
  (∀ s : State, requested s.mgmt 0x03 0 → s.m.power.moduleState = 3 →
    ∃ t, exec .wake s = .next t ∧ requestEnds s t stOk 0 ∧ t.m.power.moduleState = 0 ∧ t.m.power.vib = true ∧ t.m.power.vlink = true) ∧
  (∀ s : State, requested s.mgmt 0x04 1 → s.mgmt.reqArg = 0 → (∀ n < 64, (s.m.part n).state ≠ 2) →
    ∃ t, exec .board s = .next t ∧ requestEnds s t stOk 0 ∧ t.m.power.moduleState = 4 ∧ t.m.time = s.m.time) ∧
  (∀ s : State, requested s.mgmt 0x05 1 → s.m.power.moduleState = 4 →
    ∃ t, exec .unboard s = .next t ∧ requestEnds s t stOk 0 ∧ t.m.power.moduleState = 0 ∧ t.m.bring.active = true ∧ t.m.bring.stage = 0) ∧
  (∀ s : State, requested s.mgmt 0x06 0x101 → s.m.claimsFree [.power] = true → bitOf s.mgmt.reqArg 8 = false →
    ∃ t, exec .feed s = .next t ∧ requestEnds s t stOk t.m.pwrFeed.toNat ∧ (t.m.feed (s.mgmt.reqArg % 2)).held = false ∧
      (t.m.feed (s.mgmt.reqArg % 2)).opened = false) ∧
  (∀ s : State, requested s.mgmt 0x07 0x1FFF → 1500 ≤ s.mgmt.reqArg → s.mgmt.reqArg ≤ 4400 → s.m.bring.ready = true →
    s.m.claimsFree [.power] = true →
    ∃ t, exec .limit s = .next t ∧ requestEnds s t stOk s.m.power.limit ∧ t.m.power = { s.m.power with limit := s.mgmt.reqArg }) ∧
  (∀ s : State, requested s.mgmt 0x08 3 → s.mgmt.reqArg ≤ 2 →
    ∃ t, exec .role s = .next t ∧ requestEnds s t stOk s.m.fab.roleConfig ∧ t.m.fab = { s.m.fab with roleConfig := s.mgmt.reqArg }) ∧
  (∀ s : State, requested s.mgmt 0x09 0 → s.m.thermal.stop = true → s.m.resumeOk = true →
    ∃ t, exec .resume s = .next t ∧ t.mgmt.status = stOk ∧ t.mgmt.reqBusy = false ∧ t.m.thermal.stop = false ∧ 1 ∈ t.m.ibiCauses) ∧
  (∀ s : State, requested s.mgmt 0x09 0 → s.m.thermal.stop = false →
    ∃ t, exec .resume s = .next t ∧ requestEnds s t stOk 0)

/-- A firmware session (R587): FW_BEGIN opens it and returns the inactive slot; FW_CHUNK stores a chunk whose CRC-32C agrees; FW_VERIFY
marks a slot whose signature verifies as valid; FW_ACTIVATE makes a valid slot the active one; FW_END ends the session. Outside a
session the last four are refused with ST_NOT_READY, counted and logged (R585). -/
def Obligations.FirmwareRequests : Prop :=
  (∀ s : State, requested s.mgmt 0x10 0 → s.m.claimsFree [.slots] = true →
    ∃ t, exec .fwBegin s = .next t ∧ requestEnds s t stOk s.m.inactive ∧ t.m.fwSession = true) ∧
  (∀ s : State, requested s.mgmt 0x11 (0x7FF + (2 ^ 32 - 1) * 2 ^ 32) → s.m.fwSession = true →
    crc32c s.mgmt.buffer = s.mgmt.reqArg / 2 ^ 32 →
    ∃ t, exec .mgFwChunk s = .next t ∧ requestEnds s t stOk 4096 ∧
      t.m.bring = (s.m.putChunk (s.mgmt.reqArg % 2048) s.mgmt.buffer).bring) ∧
  (∀ s : State, requested s.mgmt 0x12 1 → s.m.fwSession = true →
    ∃ t, exec (.mgFwVerify true) s = .next t ∧ t.mgmt.status = stOk ∧ t.mgmt.reqBusy = false ∧
      t.m.bring = (s.m.passSlot (s.mgmt.reqArg % 2)).bring) ∧
  (∀ s : State, requested s.mgmt 0x13 0x101 → s.m.fwSession = true → (s.m.slot (s.mgmt.reqArg % 2)).valid = true →
    bitOf s.mgmt.reqArg 8 = false →
    ∃ t, exec .mgFwActivate s = .next t ∧ requestEnds s t stOk s.m.activeSlot ∧ t.m.activeSlot = s.mgmt.reqArg % 2) ∧
  (∀ s : State, requested s.mgmt 0x14 0 → s.m.fwSession = true →
    ∃ t, exec .fwEnd s = .next t ∧ requestEnds s t stOk 0 ∧ t.m.fwSession = false) ∧
  (∀ s : State, requested s.mgmt 0x14 0 → s.m.fwSession = false →
    ∃ t, exec .fwEnd s = .next t ∧ t.mgmt.status = stNotReady ∧ t.mgmt.reqBusy = false ∧
      t.mgmt.errors = sat64 s.mgmt.errors 1 ∧ t.m.log.pend.length = s.m.log.pend.length + 1)

/-! ## The test port (R639, R640) and the log writer (R596 to R600) -/

/-- The test access port (R639, R640): BYPASS, IDCODE, SAMPLE select their registers; EXTEST and CLAMP take effect only in Boarded or after a
failed stage and act as BYPASS otherwise. IDCODE captured after PEEP_UNLOCK returns a challenge; PEEP_UNLOCK with this module's serial number, that
challenge and a good signature unlocks the trace, and a record that fails any of the three does not; PEEP_READ returns zeros
while the trace is locked, and `len` bytes that begin with the ring's deck index once it is open. -/
def Obligations.TestAccessPort : Prop :=
  (∀ s : State,
    exec .bypass s = .next { s with jtag := { s.jtag with instr := 0xFF, out := [] } } ∧
    (s.jtag.instr ≠ 0x20 →
      exec .idcode s = .next { s with jtag := { s.jtag with instr := 0x01, out := leBytes 4 0x0104074B } }) ∧
    (∀ pins, pins < 2 ^ 64 →
      exec (.sample pins) s = .next { s with jtag := { s.jtag with boundary := pins, instr := 0x02, out := leBytes 8 pins } }) ∧
    ((s.m.power.moduleState = 4 ∨ s.m.bring.stageFailed = true) →
      exec .extest s = .next { s with jtag := { s.jtag with instr := 0x03, out := [] } } ∧
      exec .clamp s = .next { s with jtag := { s.jtag with instr := 0x04, out := [] } }) ∧
    (s.m.power.moduleState ≠ 4 → s.m.bring.stageFailed = false → exec .extest s = exec .bypass s ∧ exec .clamp s = exec .bypass s)) ∧
  (∀ s : State, s.jtag.instr = 0x20 → ∃ t, exec .idcode s = .next t ∧ t.jtag.instr = 0x01 ∧
    0 < t.jtag.challenge ∧ t.jtag.out = leBytes 4 (t.jtag.challenge - 1) ∧ t.mgmt = s.mgmt) ∧
  (∀ (s : State) (ch : Nat), s.jtag.challenge = ch + 1 → exec (.peepUnlock Config.serial.toNat ch true) s =
    .next { s with jtag := { s.jtag with unlocked := true, instr := 0x20, out := [] } }) ∧
  (∀ (s : State) (serial ch : Nat) (ok : Bool), (ok = false ∨ serial ≠ Config.serial.toNat ∨ s.jtag.challenge ≠ ch + 1) →
    exec (.peepUnlock serial ch ok) s = .next { s with jtag := { s.jtag with instr := 0x20, out := [] } }) ∧
  (∀ (s : State) (off len : Nat), s.jtag.unlocked = false → len ≤ 4096 →
    exec (.peepRead off len) s = .next { s with jtag := { s.jtag with instr := 0x21, out := List.replicate len 0 } }) ∧
  (∀ (s : State) (k len : Nat), s.jtag.unlocked = true → 0 < len → len ≤ 4096 → k ≤ 10 →
    ∃ t, exec (.peepRead (k * 65552) len) s = .next t ∧ t.jtag.out.length = len ∧ t.jtag.out.head? = some (BitVec.ofNat 8 k) ∧
      t.m = { s.m with free := s.m.free + 1 })

/-- LOG_ENTRY_WRITE. The front entry of those detected is written at the newest end with the next number, or folds into the
newest one: with nothing to fold into, the ring holds one entry more (while it is not full), numbered one above the newest, and the waiting list loses
its front. With nothing waiting nothing changes. -/
def Obligations.LogWriter : Prop :=
  (∀ (s : State) (e : Entry) (rest : List Entry), s.m.log.pend = e :: rest → 1 ≤ e.cls → s.m.log.entries.length < 4096 →
    ∃ t, exec .logEntryWrite s = .next t ∧ t.m.log.pend = rest ∧
      t.m.log.newest = nextSeqNo s.m.log.newest ∧
      t.m.log.entries = s.m.log.entries ++ [{ e with seq := nextSeqNo s.m.log.newest }]) ∧
  (∀ s : State, s.m.log.pend = [] → exec .logEntryWrite s = .next s)

/-- The log's ring (R596, R606, R607): an entry written to a full ring drops the oldest; when that one was unread the new entry carries
flag [2] and the lost count grows by one. Numbers rise from 1 and leave out 0 (R596), and 0x8000_0000 numbers onward count as newer
(R145). -/
def Obligations.LogRing : Prop :=
  (∀ (m : Module) (e o : Entry) (rest : List Entry), m.log.entries = o :: rest → m.log.entries.length = 4096 →
    (m.writeEntry e).log.entries = rest ++ [{ e with
      seq := nextSeqNo m.log.newest, flags := if m.log.isUnread o then setBit e.flags 2 true else e.flags }] ∧
    (m.writeEntry e).log.lost = (if m.log.isUnread o then sat64 m.log.lost 1 else m.log.lost)) ∧
  (∀ n, n < 2 ^ 32 → nextSeqNo n ≠ 0 ∧ nextSeqNo n < 2 ^ 32) ∧ (∀ n, n < 0xFFFFFFFF → nextSeqNo n = n + 1) ∧
  (∀ a d, a < 2 ^ 32 → d < 2 ^ 31 → seqGe ((a + d) % 2 ^ 32) a = true) ∧
  (∀ a d, a < 2 ^ 32 → 2 ^ 31 ≤ d → d < 2 ^ 32 → seqGe ((a + d) % 2 ^ 32) a = false)

/-! ## Letterbox commands: DEV, TEL, ERR (chapters 15, 16, 17, 20) -/

/-- THE FRAME OF A LETTERBOX COMMAND (R507, R511, R513). Whatever the command: one that fails a check of R507 is logged with event
0xA2, completes with the check's status and detail, and does nothing else; one whose claims are held waits with them listed. -/
def Obligations.CommandFrame : Prop :=
  (∀ (sp : CmdSpec) (bad need : Option Nat) (claims : List Claim) (fence : Option Nat) (i : Instr) (c : Cmd)
    (body : Nat → Module → Module × Answer) (m : Module) (st d : Nat),
    m.engine.cmds = [] → sp.check c m bad need = some (st, d) →
    let t := runCmd sp bad need claims fence i c body m
    t.engine.cmds = [] ∧ t.log.pend.length = m.log.pend.length + 1 ∧ t.mem = m.mem ∧ t.cores = m.cores ∧ t.parts = m.parts ∧
    t.power = m.power ∧ t.thermal = m.thermal ∧ t.fab = m.fab ∧ t.bring = m.bring ∧
    ∃ k : Cpl, t.port.cpls = m.port.cpls ++ [k] ∧ k.ring = .letter c.fn ∧ getLe k.bytes 2 2 = st % 65536 ∧
      k.bytes.drop 8 = (d4 d ++ packRec 24 []).take 24) ∧
  (∀ (sp : CmdSpec) (bad need : Option Nat) (claims : List Claim) (fence : Option Nat) (i : Instr) (c : Cmd)
    (body : Nat → Module → Module × Answer) (m : Module),
    m.engine.cmds = [] → sp.check c m bad need = none → (∀ n, fence = some n → m.atWorkFence n = true ∨ isQueued c = true) →
    m.claimsFree claims = false →
    let t := runCmd sp bad need claims fence i c body m
    t.port = m.port ∧ t.log = m.log ∧ t.mem = m.mem ∧ t.cores = m.cores ∧
    ∃ q : CmdSlot, t.engine.cmds = [q] ∧ q.phase = .waiting ∧ q.claims = claims ∧ q.instr = some i ∧ bitOf q.cplFlags 2 = true)

/-- DEV and TEL commands (R328, R510, R517, R528): each completes with ST_OK and the detail of its rule. DEV.NOP returns DEV_EPOCH; IDENTIFY,
NET_QUERY and SNAPSHOT write their records of 128, 128 and 64 bytes to the host buffer; EXPERT sets or clears the named functions'
rights and returns the mask before. -/
def Obligations.DevCommands : Prop :=
  (∀ (s : State) (c : Cmd), accepted specDevNop none none [] none c s.m →
    ∃ t, exec (.devNop c) s = .next t ∧ answered 0x00 stOk (d4 s.m.epochs.epoch) c s.m t.m) ∧
  (∀ (s : State) (c : Cmd), accepted specDevIdentify (bufferBad c 128) none [] none c s.m → mayRequest c.fn s.m →
    ∃ t, exec (.devIdentify c) s = .next t ∧ answered 0x01 stOk (d4 128) c s.m t.m ∧ writesBuffer c s.m.identRecord s.m t.m) ∧
  (∀ (s : State) (c : Cmd), accepted specDevExpert (if 1 < pField c 16 1 then some 16 else none) none [] none c s.m →
    ∃ t, exec (.devExpert c) s = .next t ∧ answered 0x02 stOk (d8 s.m.engine.rights) c s.m t.m ∧
      t.m.engine.rights = (if pField c 16 1 = 0 then s.m.engine.rights ||| pField c 8 8 else w1c s.m.engine.rights (pField c 8 8))) ∧
  (∀ (s : State) (c : Cmd), accepted specDevNetQuery (if c.hostOut then none else some 8) none [] none c s.m → mayRequest c.fn s.m →
    ∃ t, exec (.devNetQuery c) s = .next t ∧ answered 0x0C stOk [] c s.m t.m ∧ writesBuffer c s.m.netRecord s.m t.m ∧
      s.m.netRecord.length = 128) ∧
  (∀ (s : State) (c : Cmd), accepted specTelSnapshot (bufferBad c 64) none [] none c s.m → mayRequest c.fn s.m →
    ∃ t, exec (.telSnapshot c) s = .next t ∧ answered 0x90 stOk (d4 64) c s.m t.m ∧ writesBuffer c s.m.snapshot s.m t.m) ∧
  (∀ (s : State) (c : Cmd), accepted specAckShortfall none none [] none c s.m → s.m.bring.shortfall = true → s.m.bring.ready = false →
    pField c 8 2 = s.m.enabledCores → pField c 10 2 = s.m.usableSlices →
    ∃ t, exec (.devAckShortfall c) s = .next t ∧ answered 0x0E stOk (d4 0) c s.m t.m ∧ t.m.bring.ready = true)

/-- DEV.RESET (R446 to R449, R512). At module scope the bring-up runs again from S3, memory and partitions are cleared and module time goes
on. At core, cluster, partition and deck scope the commands it covers are cancelled and the reset of that scope begins. -/
def Obligations.DevReset : Prop :=
  (∀ (s : State) (c : Cmd), accepted { specDevReset with early := pField c 8 1 == 6 } (badDevReset c) none [] none c s.m →
    pField c 8 1 = 6 → s.m.thermal.stop = false →
    ∃ t, exec (.devReset c) s = .next t ∧ t.m.bring.stage = 3 ∧ t.m.bring.active = true ∧ t.m.mem = {} ∧ t.m.parts = {} ∧
      t.m.cores = [] ∧ t.m.time = s.m.time ∧ t.m.engine.cmds = []) ∧
  (∀ (s : State) (c : Cmd), accepted { specDevReset with early := pField c 8 1 == 6 } (badDevReset c) none [] none c s.m →
    pField c 8 1 < 6 → s.m.resetFenced (pField c 8 1) (pField c 10 2) = false → (pField c 8 1 = 5 → s.m.thermal.stop = false) →
    ∃ (t : State) (m' : Module) (id : Nat), exec (.devReset c) s = .next t ∧ acting 0x0D id [] (.devReset c) c s.m m' ∧
      t.m = ((m'.cancelForReset ⟨scopeCode (pField c 8 1), pField c 10 2, 1, some id⟩ id).startReset
        ⟨scopeCode (pField c 8 1), pField c 10 2, 1, some id⟩).updCmd id (fun q => { q with effect := true }))

/-- ERR commands (R529, R606). READ returns the held entries from a number on, as many as the buffer holds, with the next number and the
oldest held; ACK moves the mark of R606 and returns the one before; INJECT writes an entry, waits for the log to be written, and
returns its number. -/
def Obligations.ErrCommands : Prop :=
  (∀ (s : State) (c : Cmd) (e : Entry) (es : List Entry), accepted specErrRead (badErrRead c) none [] none c s.m → mayRequest c.fn s.m →
    (s.m.log.from_ c.fn (pField c 20 4)).take (pField c 16 4 / 64) = es ++ [e] →
    ∃ t, exec (.errRead c) s = .next t ∧
      answered 0x98 stOk (d4 (es.length + 1) ++ d4 (nextSeqNo e.seq) ++ d4 s.m.log.oldest) c s.m t.m ∧
      writesBuffer c ((es ++ [e]).flatMap Entry.bytes) s.m t.m ∧ t.m.log = s.m.log) ∧
  (∀ (s : State) (c : Cmd), accepted specErrRead (badErrRead c) none [] none c s.m →
    (s.m.log.from_ c.fn (pField c 20 4)).take (pField c 16 4 / 64) = [] →
    ∃ t, exec (.errRead c) s = .next t ∧ answered 0x98 stOk (d4 0 ++ d4 (pField c 20 4) ++ d4 s.m.log.oldest) c s.m t.m) ∧
  (∀ (s : State) (c : Cmd), accepted specErrAck (badErrAck c s.m) none [] none c s.m → s.m.log.moves (pField c 8 4) = true →
    ∃ t, exec (.errAck c) s = .next t ∧ answered 0x99 stOk (d4 s.m.log.acked) c s.m t.m ∧
      t.m.log = { s.m.log with acked := pField c 8 4, ackedOnce := true }) ∧
  (∀ (s : State) (c : Cmd), accepted specErrInject (if (eventClass (pField c 8 1)).isNone then some 8 else none) none [] none c s.m →
    ∃ t, exec (.errInject c) s = .next t ∧ answered 0x9A stOk (d4 t.m.log.newest) c s.m t.m ∧ t.m.log.pend = [])

/-- TEST and CAL commands (R518 to R520). TEST.MEMORY of one slice that passes leaves every byte of it that the test covers 0 and reports
nothing retired; TEST.KNOWN_ANSWER that finds no failing unit reports none and wipes the scratchpads it used; CAL.REGULATOR,
CAL.DESKEW and CAL.SENSOR report how many units they trimmed, lost or skipped; CAL.BRIDGE starts the retraining of a live group. -/
def Obligations.TestAndCalibration : Prop :=
  (∀ (s : State) (c : Cmd), accepted specTestMemory (badTestMemory c s.m) none
      (testClaims (cmdPart c) [Claim.slice (pField c 8 2)]) (some (cmdPart c)) c s.m → pField c 8 2 < Config.sites →
    s.m.partLive (cmdPart c) = true → (s.m.part (cmdPart c)).root = 0 → (s.m.slice (pField c 8 2)).state ≠ 2 →
    (∀ g < 4, s.m.held (stackOfSite (pField c 8 2) * 4 + g) = false) →
    ∃ t, exec (.testMemory c []) s = .next t ∧ (∃ d, answered 0x60 stOk d c s.m t.m) ∧
      (∀ a, siteOfAddr a = pField c 8 2 → s.m.testKeeps (cmdPart c) a = false → SMap.get 0 t.m.mem.bytes a = 0) ∧
      (∀ a, siteOfAddr a ≠ pField c 8 2 → SMap.get 0 t.m.mem.bytes a = SMap.get 0 s.m.mem.bytes a)) ∧
  (∀ (s : State) (c : Cmd), accepted specTestKnownAnswer (if 31 < pField c 8 1 then some 8 else if 7 < pField c 9 1 then some 9 else none)
      none (testClaims (cmdPart c) []) (some (cmdPart c)) c s.m → s.m.partLive (cmdPart c) = true →
    bitOf (testEngines c) 4 = false → bitOf (testEngines c) 3 = false →
    ∃ t, exec (.testKnownAnswer c []) s = .next t ∧ answered 0x61 stOk (d4 0 ++ d4 0 ++ d4 0 ++ d4 0 ++ d4 0) c s.m t.m ∧
      ∀ site ∈ s.m.coresOfPart (cmdPart c), (t.m.core site).scratch.bytes = [] ∧ (t.m.core site).scratch.poison = []) ∧
  (∀ (s : State) (c : Cmd), accepted specCalRegulator none none [.record] none c s.m → pField c 8 2 < 640 → s.m.thermal.stop = false →
    s.m.calSkips (pField c 8 2) = false →
    ∃ t, exec (.calRegulator c []) s = .next t ∧
      answered 0x68 stOk (d4 (4 - (s.m.cl (pField c 8 2)).cells) ++ d4 0 ++ d4 0) c s.m t.m) ∧
  (∀ (s : State) (c : Cmd), accepted specCalDeskew none none [.record, .stack (pField c 8 1)] none c s.m → pField c 8 1 < 40 →
    s.m.thermal.stop = false → (clustersUnder (pField c 8 1)).all s.m.calSkips = false →
    SMap.get 0 s.m.clocks.deskewAt (pField c 8 1) = 0 ∨ SMap.get 0 s.m.clocks.deskewAt (pField c 8 1) + 10000 ≤ s.m.time →
    ∃ t, exec (.calDeskew c []) s = .next t ∧ answered 0x69 stOk (d4 1) c s.m t.m) ∧
  (∀ (s : State) (c : Cmd), accepted specCalSensor none none [] none c s.m → pField c 8 2 < 3842 → s.m.thermal.stop = false →
    ∃ t, exec (.calSensor c) s = .next t ∧
      answered 0x6A stOk (if s.m.sensorSkips (pField c 8 2) then d4 0 ++ d4 1 else d4 1 ++ d4 0) c s.m t.m) ∧
  (∀ (s : State) (c : Cmd), accepted specCalBridge none none [.group (pField c 8 1) (pField c 9 1), .record] none c s.m →
    pField c 8 1 < Config.bridges → pField c 9 1 ≤ 15 → s.m.groupUp (pField c 8 1) (pField c 9 1) = true →
    s.m.bridgeDown (pField c 8 1) = false → s.m.thermal.stop = false →
    ∃ t, exec (.calBridge c 0) s = .next t ∧ stillRuns 0x6B [.group (pField c 8 1) (pField c 9 1), .record] c t.m ∧
      (t.m.net.group (pField c 8 1) 0 (pField c 9 1)).retraining = true ∧
      (t.m.net.group (pField c 8 1) 1 (pField c 9 1)).retraining = true)

/-! ## Letterbox commands: PART, WORK, MEM (chapters 2, 3, 4, 10, 11) -/

/-- Partition life cycle (R334 to R342). CREATE of an Empty partition over unowned clusters with a usable slice makes it Creating with its
settings and its root node, and stages the layout; ENABLE makes a Disabled partition Live; DISABLE of a Disabled one completes at once; DISABLE and
DESTROY of a live one begin the stop; DESTROY of a Disabled one begins teardown. -/
def Obligations.PartitionLifecycle : Prop :=
  (∀ (s : State) (c : Cmd) (root : Nat), accepted specPartCreate (badPartCreate c s.m) none
      [.partition c.partition, .tables c.partition, .epoch] none c s.m → (s.m.part c.partition).state = 0 →
    (bitmapClusters (hostData c)).all (fun k => (s.m.cl k).owner.isNone) = true →
    (bitmapClusters (hostData c)).any (fun k => (sitesOf k).any (fun x => (s.m.slice x).state != 2)) = true →
    s.m.rootPlace c = some root →
    ∃ (t : State) (id : Nat), exec (.partCreate c) s = .next t ∧
      stillRuns 0x10 [.partition c.partition, .tables c.partition, .epoch] c t.m ∧
      t.m.part c.partition = newPart c root (s.m.part c.partition) ∧
      t.m.parts.layout = some ⟨c.partition, bitmapClusters (hostData c), true, id, 0, 0, []⟩) ∧
  (∀ (s : State) (c : Cmd), accepted specPartEnable none none [.partition c.partition, .tables c.partition] none c s.m →
    (s.m.part c.partition).state = 5 →
    ∃ t, exec (.partEnable c) s = .next t ∧ answered 0x13 stOk [] c s.m t.m ∧ (t.m.part c.partition).state = 2) ∧
  (∀ (s : State) (c : Cmd), accepted specPartDisable (badDisable c) none [.partition c.partition, .tables c.partition] none c s.m →
    (s.m.part c.partition).state = 5 →
    ∃ t, exec (.partDisable c) s = .next t ∧ answered 0x12 stOk (d4 0 ++ d4 0) c s.m t.m ∧ t.m.part c.partition = s.m.part c.partition) ∧
  (∀ (s : State) (c : Cmd), accepted specPartDisable (badDisable c) none [.partition c.partition, .tables c.partition] none c s.m →
    (s.m.part c.partition).state = 2 → s.m.joins c.partition (.partition c.partition) = none → pField c 9 1 = 0 →
    ∃ (t : State) (m' : Module) (id : Nat), exec (.partDisable c) s = .next t ∧
      acting 0x12 id [.partition c.partition, .tables c.partition] (.partDisable c) c s.m m' ∧
      t.m = m'.beginStop c.partition (.partition c.partition) 0 (pField c 10 2) id false ∧
      stillRuns 0x12 [.partition c.partition, .tables c.partition] c t.m ∧ (t.m.part c.partition).state = 3 ∧
      ∃ q ∈ t.m.parts.stops, q.target = .partition c.partition ∧ q.part = c.partition ∧ q.abort = false ∧ q.cmds = [id] ∧
        q.timeoutMs = if pField c 10 2 = 0 then 100 else pField c 10 2) ∧
  (∀ (s : State) (c : Cmd), accepted specPartDisable (badDisable c) none [] none c s.m →
    (s.m.part c.partition).state = 3 ∨ (s.m.part c.partition).state = 4 →
    ∃ (t : State) (m' : Module) (id : Nat), exec (.partDisable c) s = .next t ∧ acting 0x12 id [] (.partDisable c) c s.m m' ∧
      t.m = m'.beginStop c.partition (.partition c.partition) (pField c 9 1) (pField c 10 2) id false) ∧
  (∀ (s : State) (c : Cmd), accepted specPartDestroy (badDisable c) none [.partition c.partition, .tables c.partition, .epoch] none c s.m →
    (s.m.part c.partition).state = 2 →
    ∃ (t : State) (m' : Module) (id : Nat), exec (.partDestroy c) s = .next t ∧
      acting 0x11 id [.partition c.partition, .tables c.partition, .epoch] (.partDestroy c) c s.m m' ∧
      t.m = m'.beginStop c.partition (.partition c.partition) (pField c 9 1) (pField c 10 2) id true) ∧
  (∀ (s : State) (c : Cmd), accepted specPartDestroy (badDisable c) none [.partition c.partition, .tables c.partition, .epoch] none c s.m →
    (s.m.part c.partition).state = 5 →
    ∃ (t : State) (id : Nat), exec (.partDestroy c) s = .next t ∧
      stillRuns 0x11 [.partition c.partition, .tables c.partition, .epoch] c t.m ∧ (t.m.part c.partition).state = 6 ∧
      (t.m.part c.partition).contexts = [] ∧
      t.m.parts.layout = some ⟨c.partition, s.m.clustersOfPart c.partition, false, id, 0, 0, []⟩)

/-- Partition settings and tables (R345, R347, R359 to R363). CONFIG changes what its mask selects and returns what was before; QUERY
writes the record; POOL appends the extent; MAP, UNMAP and STRIPE edit the tables and write the per-entry status back. -/
def Obligations.PartitionSettings : Prop :=
  (∀ (s : State) (c : Cmd), accepted specPartConfig (badPartConfig c s.m) none [.partition c.partition, .tables c.partition] none c s.m →
    s.m.partLive c.partition = true →
    ∃ t, exec (.partConfig c) s = .next t ∧ t.m.part c.partition = configured c (s.m.part c.partition) ∧
      answered 0x14 stOk (d4 (s.m.part c.partition).priority ++ d4 (s.m.part c.partition).share ++ d8 (s.m.part c.partition).quantum ++
        d8 (s.m.part c.partition).watchdog) c s.m t.m) ∧
  (∀ (s : State) (c : Cmd), accepted specPartQuery (bufferBad c 128) none [] none c s.m → mayRequest c.fn s.m →
    ∃ t, exec (.partQuery c) s = .next t ∧ answered 0x15 stOk (d4 (s.m.partRecord (cmdPart c)).length) c s.m t.m ∧
      writesBuffer c ((s.m.partRecord (cmdPart c)).take (pField c 16 4)) s.m t.m) ∧
  (∀ (s : State) (c : Cmd), accepted specPartPool (badPartPool c s.m) none [.partition c.partition, .tables c.partition] none c s.m →
    s.m.partLive c.partition = true → (s.m.part c.partition).pool.length < 16 →
    ∃ t, exec (.partPool c) s = .next t ∧
      (t.m.part c.partition).pool = (s.m.part c.partition).pool ++ [(pField c 8 8, pField c 16 4)] ∧
      answered 0x19 stOk (d4 (poolPages (t.m.part c.partition)).length) c s.m t.m) ∧
  (∀ (s : State) (c : Cmd), accepted specPartMap (badPartMap c) none [.tables (cmdPart c)] none c s.m → s.m.partLive (cmdPart c) = true →
    anyEngine s.m (fun m => (m.mapEntries c).isSome = true) →
    ∃ (t : State) (m' x : Module) (sts : List Nat) (id : Nat), exec (.partMap c) s = .next t ∧
      acting 0x16 id [.tables (cmdPart c)] (.partMap c) c s.m m' ∧ m'.mapEntries c = some (x, sts) ∧
      t.m = ((x.mapBack c sts).checkPool (cmdPart c)).finishCmd id (.done (if countOf (· == stOk) sts = sts.length then stOk else stPartial)
        (d4 (countOf (· == stOk) sts) ++ d4 (sts.length - countOf (· == stOk) sts)))) ∧
  (∀ (s : State) (c : Cmd), accepted specPartUnmap (badPartUnmap c s.m) none [.tables (cmdPart c)] none c s.m →
    s.m.partLive (cmdPart c) = true → anyEngine s.m (fun m => ∃ x, m.unmapped c = .ok x) →
    ∃ (t : State) (m' x : Module) (id : Nat), exec (.partUnmap c) s = .next t ∧
      acting 0x17 id [.tables (cmdPart c)] (.partUnmap c) c s.m m' ∧ m'.unmapped c = .ok x ∧
      t.m = (x.checkPool (cmdPart c)).finishCmd id (.done stOk (d4 (m'.unmapLeaves c).length))) ∧
  (∀ (s : State) (c : Cmd), accepted specPartStripe (badPartStripe c s.m) none [.tables (cmdPart c)] none c s.m →
    s.m.partLive (cmdPart c) = true → anyEngine s.m (fun m => ∃ x, m.striped c = .ok x) →
    ∃ (t : State) (m' x : Module) (id : Nat), exec (.partStripe c) s = .next t ∧
      acting 0x18 id [.tables (cmdPart c)] (.partStripe c) c s.m m' ∧ m'.striped c = .ok x ∧
      t.m = (x.checkPool (cmdPart c)).finishCmd id (.done stOk (d4 (pField c 16 4 * 32))))

/-- WORK commands and MEM.BANKOP (R106, R128, R307, R325, R364). CANCEL of what has ended counts 0 and 0, of live targets it begins the
stop of each; TREE sets a tree on every deck it needs or frees the partition's; COLLECTIVE starts its instance; BANKOP issues the
sequence and stays in progress. -/
def Obligations.WorkCommands : Prop :=
  (∀ (s : State) (c : Cmd), accepted specWorkCancel (badWorkCancel c s.m) none [] none c s.m → s.m.partLive (cmdPart c) = true →
    anyEngine s.m (fun m => m.cancelTargets c = []) →
    ∃ t, exec (.workCancel c) s = .next t ∧ answered 0x3A stOk (d4 0 ++ d4 0) c s.m t.m) ∧
  (∀ (s : State) (c : Cmd), accepted specWorkCancel (badWorkCancel c s.m) none [] none c s.m → s.m.partLive (cmdPart c) = true →
    anyEngine s.m (fun m => m.cancelTargets c ≠ []) →
    ∃ (t : State) (m' : Module) (id : Nat), exec (.workCancel c) s = .next t ∧ acting 0x3A id [] (.workCancel c) c s.m m' ∧
      t.m = (m'.cancelTargets c).foldl
        (fun acc x => acc.beginStop (cmdPart c) x (pField c 9 1) (pField c 10 2) id false) m') ∧
  (∀ (s : State) (c : Cmd) (sh : Shard), accepted specWorkTree (badWorkTree c) none (s.m.treeClaims c) none c s.m →
    s.m.partLive (cmdPart c) = true → s.m.poolMoving (cmdPart c) = false → pField c 9 1 = 0 → anyEngine s.m (fun m => m.shard (cmdPart c) (pField c 16 8) 16 = .ok sh) →
    sh.kind ≤ 1 → pField c 10 2 ∈ s.m.treeMembers sh →
    (s.m.treeDecks (pField c 10 2) (s.m.treeMembers sh)).all (fun d => (s.m.tree d (pField c 8 1)).isNone) = true →
    ∃ t, exec (.workTree c) s = .next t ∧ answered 0x39 stOk (d4 (s.m.treeMembers sh).length) c s.m t.m ∧
      t.m.net.trees = s.m.net.trees ++ (s.m.treeDecks (pField c 10 2) (s.m.treeMembers sh)).map
        (fun d => (d, pField c 8 1, ⟨cmdPart c, pField c 10 2, s.m.treeMembers sh, false⟩))) ∧
  (∀ (s : State) (c : Cmd), accepted specWorkTree (badWorkTree c) none (s.m.treeClaims c) none c s.m →
    s.m.partLive (cmdPart c) = true → pField c 9 1 ≠ 0 → (pField c 9 1 = 1 → s.m.treeBusy (cmdPart c) (pField c 8 1) = false) →
    ∃ t, exec (.workTree c) s = .next t ∧ answered 0x39 stOk (d4 0) c s.m t.m ∧
      ∀ x ∈ t.m.net.trees, ¬ (x.2.1 = pField c 8 1 ∧ x.2.2.part = cmdPart c)) ∧
  (∀ (s : State) (c : Cmd) (i o : Shard), accepted specWorkCollective (badWorkCollective c) none (s.m.collClaims c) none c s.m →
    s.m.partLive (cmdPart c) = true → s.m.poolMoving (cmdPart c) = false →
    anyEngine s.m (fun m => m.shard (cmdPart c) (pField c 16 8) 16 = .ok i ∧ m.shard (cmdPart c) (pField c 24 8) 24 = .ok o ∧
      ∀ id, ∃ k, m.newColl c id i o = .ok k ∧ k.partners.all (fun d => (m.egress d).isSome) = true) →
    collBad (pField c 8 1) i o = none → (s.m.decksOf (cmdPart c)).all (fun d => (s.m.tree d (pField c 9 1)).isNone) = true →
    ∃ (t : State) (m' m0 : Module) (id : Nat) (k : Collective), exec (.workCollective c) s = .next t ∧
      acting 0x38 id (s.m.collClaims c) (.workCollective c) c s.m m' ∧ m'.newColl c id i o = .ok k ∧ m0 = m'.collLooked c i o ∧
      t.m = (({ m0 with flight := { m0.flight with colls := m0.flight.colls ++ [k] } }).advanceColl k).takeEarly k.tag (cmdPart c)) ∧
  (∀ (s : State) (c : Cmd), accepted specBankop (badBankop c) (needBankop c) [] none c s.m → rowsBad (bkRecord c) = false →
    ((bkRec (bkRecord c)).scope = 3 → c.fn = 0) → s.m.partLive (cmdPart c) = true →
    ((bkRec (bkRecord c)).scope = 1 → (s.m.cl (pField c 40 2)).owner = some (cmdPart c)) →
    ∃ (t : State) (m' : Module) (id : Nat), exec (.memBankop c) s = .next t ∧ acting 0x29 id [] (.memBankop c) c s.m m' ∧
      t.m = m'.issueBank (cmdPart c) (2 ^ 40 + c.fn) none (some id) (bkRecord c) (pField c 40 2)
        (if pField c 42 2 = 0 then 10 else pField c 42 2))

/-- MEM commands without retirement (R45, R70, R79, R80, R86): queries, the scrub period, the arbiter's minimums, the list of retired
units, clearing poison (every byte of the rows reads 0 after), and a scrub of a range, whose rows that no retired page holds join the scrub
queues of their slices; one with no such row is answered at once. -/
def Obligations.MemoryCommands : Prop :=
  (∀ (s : State) (c : Cmd), accepted specMemQuery (badSite c) none [] none c s.m →
    (c.fn ≠ 0 → (s.m.cl (clusterOf (pField c 8 2))).owner = some c.fn) →
    ∃ t, exec (.memQuery c) s = .next t ∧
      answered 0x20 stOk (d8 (s.m.sliceInfo (pField c 8 2)).toNat ++ d8 (s.m.sliceCorr (pField c 8 2)).toNat) c s.m t.m) ∧
  (∀ (s : State) (c : Cmd), accepted specScrubConfig (if 168 < pField c 8 2 then some 8 else none)
      (if pField c 8 2 = 0 then some 8 else none) [] none c s.m →
    ∃ t, exec (.memScrubConfig c) s = .next t ∧ answered 0x26 stOk (d8 s.m.mem.scrubHours) c s.m t.m ∧
      t.m.mem.scrubHours = pField c 8 2) ∧
  (∀ (s : State) (c : Cmd), accepted specArbConfig (badArbConfig c) none [] none c s.m → pField c 8 2 ≠ 0xFFFF →
    (s.m.slice (pField c 8 2)).state ≠ 2 →
    ∃ t, exec (.memArbConfig c) s = .next t ∧ answered 0x27 stOk ((s.m.slice (pField c 8 2)).mins.flatMap d4) c s.m t.m ∧
      (t.m.slice (pField c 8 2)).mins = arbMins c ∧ ∀ k, k ≠ pField c 8 2 → t.m.slice k = s.m.slice k) ∧
  (∀ (s : State) (c : Cmd), accepted specArbConfig (badArbConfig c) none [] none c s.m → pField c 8 2 = 0xFFFF →
    ∃ t, exec (.memArbConfig c) s = .next t ∧ answered 0x27 stOk ((s.m.slice 0).mins.flatMap d4) c s.m t.m ∧
      ∀ k < Config.sites, (t.m.slice k).mins = arbMins c) ∧
  (∀ (s : State) (c : Cmd), accepted specListRetired (bufferBad c 0) none [] none c s.m → mayRequest c.fn s.m →
    ∃ t, exec (.memListRetired c) s = .next t ∧
      answered 0x28 stOk (d4 ((s.m.retiredList.drop (pField c 20 4)).take (pField c 16 4 / 16)).length) c s.m t.m ∧
      ((s.m.retiredList.drop (pField c 20 4)).take (pField c 16 4 / 16) ≠ [] →
        writesBuffer c (((s.m.retiredList.drop (pField c 20 4)).take (pField c 16 4 / 16)).flatMap RecEntry.bytes) s.m t.m)) ∧
  (∀ (s : State) (c : Cmd) (rows : List (Nat × Nat)), accepted specClearPoison (badRows c s.m) none (s.m.rowClaims c) none c s.m →
    s.m.cmdRows c = some rows →
    (∀ r ∈ rows, (s.m.slice r.1).state ≠ 2 ∧ (s.m.slice r.1).selfRefresh = false ∧ s.m.rowHeld r.1 r.2 = false) →
    ∃ t, exec (.memClearPoison c) s = .next t ∧ answered 0x24 stOk (d4 rows.length) c s.m t.m ∧
      (∀ r ∈ rows, ∀ i < 2048, SMap.get 0 t.m.mem.bytes (rowAddr r.1 r.2 + i) = 0) ∧
      (∀ a, (∀ r ∈ rows, a < rowAddr r.1 r.2 ∨ rowAddr r.1 r.2 + 2048 ≤ a) → SMap.get 0 t.m.mem.bytes a = SMap.get 0 s.m.mem.bytes a)) ∧
  (∀ (s : State) (c : Cmd) (errs rows : List (Nat × Nat)) (live : List ((Nat × Nat) × Nat)),
    accepted specScrubRange (if (s.m.cmdRows c).isNone then some 8 else if 1 < pField c 20 1 then some 20 else none)
      (if pField c 20 1 = 1 then some 20 else none) (s.m.rowClaims c) none c s.m →
    s.m.cmdRows c = some rows → (∀ r ∈ rows, (s.m.slice r.1).state ≠ 2) →
    live = (rows.zip (List.range rows.length)).filter (fun x => !s.m.rowRetired x.1.1 x.1.2) →
    (live = [] → ∃ t, exec (.memScrubRange c errs) s = .next t ∧ answered 0x25 stOk (d4 0 ++ d4 0) c s.m t.m) ∧
    (live ≠ [] → ∃ (t : State) (m' : Module) (id : Nat), exec (.memScrubRange c errs) s = .next t ∧
      acting 0x25 id (s.m.rowClaims c) (.memScrubRange c errs) c s.m m' ∧
      t.m = (live.foldl (fun (acc : Module) x => acc.updSlice x.1.1 (fun y => { y with scrubQueue := y.scrubQueue ++
          [⟨x.1.2, (match errs.find? (fun e => e.1 == x.2) with | some e => e.2 | none => 0), if pField c 20 1 = 1 then 2 else 4, id⟩] }))
        (m'.wakeRows rows)).updCmd id (fun q => { q with info := [live.length, 0, 0] })))

/-- Retirement (R72 to R78). RETIRE_PAGE lists the page and logs 0x0B; RETIRE_BANK decodes the bank's rows, copies rows 0 to 4,031 into the donor
rows, retires the bank and counts the rows that are poisoned; RETIRE_SLICE drops the core's queue and begins the drain of its running items. -/
def Obligations.Retirement : Prop :=
  (∀ (s : State) (c : Cmd), accepted specRetirePage (badRetirePage c) none (s.m.retireClaims (siteOfAddr (pField c 8 8))) none c s.m →
    (s.m.slice (siteOfAddr (pField c 8 8))).state ≠ 2 → s.m.offRetired (siteOfAddr (pField c 8 8)) (offOfAddr (pField c 8 8)) = false →
    s.m.recordRoom 3 = true → (s.m.cl (clusterOf (siteOfAddr (pField c 8 8)))).owner = none →
    ∃ t, exec (.memRetirePage c) s = .next t ∧
      answered 0x21 stOk (d4 ((s.m.slice (siteOfAddr (pField c 8 8))).retiredPages.length + 1)) c s.m t.m ∧
      (t.m.slice (siteOfAddr (pField c 8 8))).retiredPages =
        (s.m.slice (siteOfAddr (pField c 8 8))).retiredPages ++ [offOfAddr (pField c 8 8) / 65536]) ∧
  (∀ (s : State) (c : Cmd), accepted specRetirePage (badRetirePage c) none (s.m.retireClaims (siteOfAddr (pField c 8 8))) none c s.m →
    (s.m.slice (siteOfAddr (pField c 8 8))).state ≠ 2 → s.m.offRetired (siteOfAddr (pField c 8 8)) (offOfAddr (pField c 8 8)) = false →
    s.m.recordRoom 3 = true → anyEngine s.m (fun m => ∃ x, m.takePageOut (pField c 8 8) = .ok x) →
    ∃ (t : State) (m' x y : Module) (id : Nat), exec (.memRetirePage c) s = .next t ∧
      acting 0x21 id (s.m.retireClaims (siteOfAddr (pField c 8 8))) (.memRetirePage c) c s.m m' ∧
      m'.takePageOut (pField c 8 8) = .ok x ∧
      y = ((x.memEvent 0x0B (siteOfAddr (pField c 8 8)) (offOfAddr (pField c 8 8)) 0 0 0).recordUnit .page
        (siteOfAddr (pField c 8 8)) (pField c 8 8) 0x0B).setCause .mem 9 ∧
      let z := match (s.m.cl (clusterOf (siteOfAddr (pField c 8 8)))).owner with | some n => y.checkPool n | none => y
      t.m = z.finishCmd id (.done stOk (d4 (z.slice (siteOfAddr (pField c 8 8))).retiredPages.length))) ∧
  (∀ (s : State) (c : Cmd) (errs : List (Nat × Nat)), accepted specRetireBank (badRetireBank c) none (s.m.retireClaims (pField c 8 2))
      (s.m.cl (clusterOf (pField c 8 2))).owner c s.m →
    (s.m.slice (pField c 8 2)).state ≠ 2 → (s.m.slice (pField c 8 2)).retiredBank = none → s.m.recordRoom 4 = true →
    anyEngine s.m (fun m => ∃ x, ((m.decodeBank (pField c 8 2) (pField c 10 1) errs).bankRetired (pField c 8 2) (pField c 10 1)).tablesFollow
      (m.cl (clusterOf (pField c 8 2))).owner = .ok x) →
    ∃ (t : State) (m' y x : Module) (id : Nat), exec (.memRetireBank c errs) s = .next t ∧
      acting 0x22 id (s.m.retireClaims (pField c 8 2)) (.memRetireBank c errs) c s.m m' ∧
      y = m'.decodeBank (pField c 8 2) (pField c 10 1) errs ∧
      (y.bankRetired (pField c 8 2) (pField c 10 1)).tablesFollow (m'.cl (clusterOf (pField c 8 2))).owner = .ok x ∧
      ((y.bankRetired (pField c 8 2) (pField c 10 1)).slice (pField c 8 2)).retiredBank = some (pField c 10 1) ∧
      t.m = (((x.memEvent 0x0C (pField c 8 2) (rowOffset (pField c 10 1) 0) 0 0 0).recordUnit .bank
          (pField c 10 1 * 65536 + pField c 8 2) 4032 0x0C).setCause .mem 9).finishCmd id
        (.done stOk (d4 4032 ++ d4 (y.poisonedRows (pField c 8 2) (pField c 10 1))))) ∧
  (∀ (s : State) (c : Cmd), accepted specRetireSlice (badSite c) none (s.m.retireClaims (pField c 8 2)) none c s.m →
    (s.m.slice (pField c 8 2)).state ≠ 2 → s.m.recordRoom 2 = true →
    ∃ (t : State) (m' : Module) (id : Nat), exec (.memRetireSlice c) s = .next t ∧
      acting 0x23 id (s.m.retireClaims (pField c 8 2)) (.memRetireSlice c) c s.m m' ∧
      t.m = ((s.m.core (pField c 8 2)).queue.foldl (fun acc it => acc.itemDone (pField c 8 2) it.thread it stCancelled 0 [])
          (m'.updCore (pField c 8 2) (fun k => { k with queue := [] }))).beginStop
        (((s.m.cl (clusterOf (pField c 8 2))).owner).getD 64) (.slice (pField c 8 2)) 0 0 id false)

/-! ## Letterbox commands: PWR, THM, FW, FAB, MODE (chapters 12, 13, 17, 18, 19) -/

/-- PWR commands (R405 to R431). LIMIT sets the limit and returns the one before; LADDER to Ajar or Shuttered sets the hold and completes once
the module has reached it, to Sealed stores the mask, to Boarded removes the rails with its completion written, to Open lifts
the hold; FEED acts on a feed; OPPOINT sets the target point of every cluster of the partition; CURRENT copies the rings; VIEW
moves the named clusters between the two views. -/
def Obligations.PowerCommands : Prop :=
  (∀ (s : State) (c : Cmd), accepted specPwrLimit (if pField c 8 2 < 1500 ∨ 4400 < pField c 8 2 then some 8 else none) none [.power] none c s.m →
    ∃ t, exec (.pwrLimit c) s = .next t ∧ answered 0x40 stOk (d8 s.m.power.limit) c s.m t.m ∧ t.m.power.limit = pField c 8 2) ∧
  (∀ (s : State) (c : Cmd), accepted specPwrLadder (badPwrLadder c) none [.power] none c s.m → pField c 8 1 = 3 →
    s.m.sealOk (pField c 9 1) = true →
    ∃ t, exec (.pwrLadder c) s = .next t ∧ answered 0x41 stOk (d4 3) c s.m t.m ∧ t.m.power.sealing = true ∧
      t.m.power.eighths = pField c 9 1) ∧
  (∀ (s : State) (c : Cmd), accepted specPwrLadder (badPwrLadder c) none [.power] none c s.m → pField c 8 1 = 1 ∨ pField c 8 1 = 2 →
    ∃ (t : State) (m' x : Module) (id : Nat), exec (.pwrLadder c) s = .next t ∧ acting 0x41 id [.power] (.pwrLadder c) c s.m m' ∧
      x = ({ m' with power := { m'.power with hold := pField c 8 1 } }).pursue ∧
      t.m = if x.reached then x.finishCmd id (.done stOk (d4 (pField c 8 1))) else x) ∧
  (∀ (s : State) (c : Cmd), accepted specPwrLadder (badPwrLadder c) none [.power] none c s.m → pField c 8 1 = 0 → s.m.thermal.stop = false →
    ∃ (t : State) (m' : Module) (id : Nat), exec (.pwrLadder c) s = .next t ∧ acting 0x41 id [.power] (.pwrLadder c) c s.m m' ∧
      t.m = ((bodyPwrLadder c id m').1).finishCmd id (.done stOk (d4 0))) ∧
  (∀ (s : State) (c : Cmd), accepted specPwrLadder (badPwrLadder c) none [.power] none c s.m → pField c 8 1 = 4 →
    (List.range 64).all (fun n => (s.m.part n).state != 2) = true →
    ∃ (t : State) (m' : Module) (id : Nat), exec (.pwrLadder c) s = .next t ∧ acting 0x41 id [.power] (.pwrLadder c) c s.m m' ∧
      t.m = ((m'.complete id stOk (d4 4)).flushRing (.letter c.fn)).enterBoarded) ∧
  (∀ (s : State) (c : Cmd), accepted specPwrFeed (if 1 < pField c 8 1 then some 8 else if 1 < pField c 9 1 then some 9 else none) none
      [.power] none c s.m → (pField c 9 1 = 1 → (s.m.feed (1 - pField c 8 1)).ok = true) →
    ∃ (t : State) (m' x : Module) (id : Nat), exec (.pwrFeed c) s = .next t ∧ acting 0x42 id [.power] (.pwrFeed c) c s.m m' ∧
      m'.commandFeed (pField c 8 1) (pField c 9 1 == 1) = some x ∧
      t.m = (m'.watchFeeds (fun _ => x)).finishCmd id (.done stOk (d8 (m'.watchFeeds (fun _ => x)).pwrFeed.toNat))) ∧
  (∀ (s : State) (c : Cmd), accepted specPwrOppoint (if 7 < pField c 8 1 then some 8 else none) (if 4 < pField c 8 1 then some 8 else none)
      [] none c s.m → s.m.partLive (cmdPart c) = true →
    ∃ t, exec (.pwrOppoint c) s = .next t ∧ answered 0x43 stOk (d4 (s.m.targetOf (cmdPart c))) c s.m t.m ∧
      (∀ k ∈ s.m.clustersOfPart (cmdPart c), (t.m.cl k).target = pField c 8 1) ∧
      (∀ k, k ∉ s.m.clustersOfPart (cmdPart c) → t.m.cl k = s.m.cl k)) ∧
  (∀ (s : State) (c : Cmd), accepted specPwrCurrent (badPwrCurrent c) none [] none c s.m → mayRequest c.fn s.m →
    ∃ t, exec (.pwrCurrent c) s = .next t ∧ answered 0x44 stOk (d8 s.m.power.ringTime) c s.m t.m ∧
      writesBuffer c ((List.range (pField c 22 2)).flatMap (fun i => s.m.recentSamples (pField c 20 2 + i) (pField c 24 2))) s.m t.m) ∧
  (∀ (s : State) (c : Cmd), accepted specPwrView (badPwrView c) none [.power] none c s.m → (viewClusters c).all s.m.viewOk = true →
    ∃ t, exec (.pwrView c) s = .next t ∧
      answered 0x45 stOk (d4 (countOf (fun x => (s.m.cl x).functionView != (pField c 16 1 == 1)) (viewClusters c))) c s.m t.m ∧
      (∀ k ∈ viewClusters c, (t.m.cl k).functionView = (pField c 16 1 == 1)) ∧
      (∀ k, k ∉ viewClusters c → t.m.cl k = s.m.cl k))

/-- THM commands (R389, R391). SENSORS writes 8 bytes per sensor, 3,843 at most; CONFIG changes what the mask names and returns what was
before; RESUME of a module that is not stopped completes at once, of a stopped one whose conditions hold it resumes. -/
def Obligations.ThermalCommands : Prop :=
  (∀ (s : State) (c : Cmd), accepted specThmSensors (bufferBad c 8) none [] none c s.m → mayRequest c.fn s.m →
    ∃ t, exec (.thmSensors c) s = .next t ∧ answered 0x50 stOk (d4 (min 3843 (pField c 16 4 / 8))) c s.m t.m ∧
      writesBuffer c ((List.range (min 3843 (pField c 16 4 / 8))).flatMap s.m.sensorEntry) s.m t.m) ∧
  (∀ (s : State) (c : Cmd), accepted specThmConfig (badThmConfig c) (if bitOf (pField c 8 1) 0 ∧ pField c 10 2 < 450 then some 10 else none)
      [] none c s.m →
    ∃ t, exec (.thmConfig c) s = .next t ∧
      answered 0x51 stOk (d4 s.m.thermal.flowMin ++ d4 s.m.thermal.riseMargin ++ d4 s.m.thermal.pulsesPerLitre) c s.m t.m ∧
      t.m.thermal.flowMin = (if bitOf (pField c 8 1) 0 then pField c 10 2 else s.m.thermal.flowMin) ∧
      t.m.thermal.riseMargin = (if bitOf (pField c 8 1) 1 then pField c 12 1 else s.m.thermal.riseMargin) ∧
      t.m.thermal.pulsesPerLitre = (if bitOf (pField c 8 1) 2 then pField c 14 2 else s.m.thermal.pulsesPerLitre)) ∧
  (∀ (s : State) (c : Cmd), accepted specThmResume none none [] none c s.m → s.m.thermal.stop = false →
    ∃ t, exec (.thmResume c) s = .next t ∧ answered 0x52 stOk (d8 0) c s.m t.m) ∧
  (∀ (s : State) (c : Cmd), accepted specThmResume none none [] none c s.m → s.m.thermal.stop = true → s.m.resumeOk = true →
    ∃ (t : State) (m' : Module) (id : Nat), exec (.thmResume c) s = .next t ∧ acting 0x52 id [] (.thmResume c) c s.m m' ∧
      t.m = (m'.freeWord.2.resume).finishCmd id (.done stOk (d8 m'.freeWord.1.toNat)))

/-- FW commands (R521 to R524). QUERY writes the slots' record; WRITE of a chunk whose CRC-32C agrees puts it into the inactive slot and
clears that slot's valid bit; VERIFY makes a slot valid; ACTIVATE makes a valid slot the active one and, where asked, resets the
module; MICROCODE takes the version at the next epoch; BROADCAST starts its transfer, and with no other module it ends at once. -/
def Obligations.FirmwareCommands : Prop :=
  (∀ (s : State) (c : Cmd), accepted specFwQuery (bufferBad c 64) none [] none c s.m → mayRequest c.fn s.m →
    ∃ t, exec (.fwQuery c) s = .next t ∧ answered 0x70 stOk (d4 64) c s.m t.m ∧ writesBuffer c s.m.fwRecord s.m t.m) ∧
  (∀ (s : State) (c : Cmd), accepted specFwWrite (badFwWrite c) none [.slots] none c s.m → crc32c (hostData c) = pField c 24 4 →
    s.m.bring.slots.length = 2 →
    ∃ t, exec (.fwWrite c) s = .next t ∧ answered 0x71 stOk (d4 (pField c 20 4)) c s.m t.m ∧ (t.m.slot t.m.inactive).valid = false ∧
      t.m.activeSlot = s.m.activeSlot ∧ t.m.slot t.m.activeSlot = s.m.slot s.m.activeSlot ∧
      ∀ k < pField c 20 4 / 4096, t.m.chunk t.m.inactive (pField c 16 4 / 4096 + k) = ((hostData c).drop (4096 * k)).take 4096) ∧
  (∀ (s : State) (c : Cmd), accepted specFwVerify (if 1 < pField c 8 1 then some 8 else none) none [.slots] none c s.m →
    s.m.bring.slots.length = 2 →
    ∃ t, exec (.fwVerify c true) s = .next t ∧ (t.m.slot (pField c 8 1)).valid = true ∧
      answered 0x72 stOk (d4 (t.m.slot (pField c 8 1)).moduleVer ++ d4 (t.m.slot (pField c 8 1)).deckVer) c s.m t.m) ∧
  (∀ (s : State) (c : Cmd), accepted specFwActivate (if 1 < pField c 8 1 then some 8 else if 1 < pField c 9 1 then some 9 else none)
      (if pField c 9 1 = 1 then some 9 else none) [.slots] none c s.m → pField c 9 1 = 0 → (s.m.slot (pField c 8 1)).valid = true →
    ∃ t, exec (.fwActivate c) s = .next t ∧ answered 0x73 stOk (d4 s.m.activeSlot) c s.m t.m ∧ t.m.activeSlot = pField c 8 1) ∧
  (∀ (s : State) (c : Cmd), accepted specFwActivate (if 1 < pField c 8 1 then some 8 else if 1 < pField c 9 1 then some 9 else none)
      (if pField c 9 1 = 1 then some 9 else none) [.slots] none c s.m → pField c 9 1 = 1 → (s.m.slot (pField c 8 1)).valid = true →
    ∃ t, exec (.fwActivate c) s = .next t ∧ t.m.bring.stage = 3 ∧ t.m.bring.active = true ∧ t.m.activeSlot = pField c 8 1 ∧
      t.m.mem = {} ∧ t.m.parts = {}) ∧
  (∀ (s : State) (c : Cmd) (version : Nat), accepted specFwMicrocode (badFwMicrocode c) none [.epoch, .slots] none c s.m →
    crc32c (hostData c) = pField c 20 4 → version < 2 ^ 32 →
    ∃ t, exec (.fwMicrocode c true version []) s = .next t ∧
      answered 0x74 stOk (d4 ((s.m.epochs.epoch + 1) % 2 ^ 32) ++ d4 s.m.usableSlices ++ d4 0) c s.m t.m ∧
      t.m.epochs.epoch = (s.m.epochs.epoch + 1) % 2 ^ 32 ∧ t.m.epochs.microEpoch = t.m.epochs.epoch ∧ t.m.bring.micro = version) ∧
  (∀ (s : State) (c : Cmd), accepted specFwBroadcast (badFwBroadcast c) none [.slots] none c s.m → s.m.fabricOpen = true →
    s.m.tierOk (pField c 9 1) = true → (s.m.slot (pField c 8 1)).valid = true →
    ∃ (t : State) (m' : Module) (id : Nat), exec (.fwBroadcast c) s = .next t ∧ acting 0x75 id [.slots] (.fwBroadcast c) c s.m m' ∧
      t.m = (bodyFwBroadcast c id m').1) ∧
  (∀ (s : State) (c : Cmd), accepted specFwBroadcast (badFwBroadcast c) none [.slots] none c s.m → s.m.fabricOpen = true →
    s.m.tierOk (pField c 9 1) = true → (s.m.slot (pField c 8 1)).valid = true → s.m.others = [] →
    ∃ t, exec (.fwBroadcast c) s = .next t ∧ answered 0x75 stOk (d4 0 ++ d4 0) c s.m t.m)

/-- FAB commands (R525, R548, R565). QUERY writes its record; ROLE sets the role to come and returns the one before; PORT disables a port by
draining it, enables a disabled one into training, and retrains one that is not disabled. -/
def Obligations.FabricCommands : Prop :=
  (∀ (s : State) (c : Cmd), accepted specFabQuery (bufferBad c 256) none [] none c s.m → mayRequest c.fn s.m → s.m.isHead = false →
    ∃ t, exec (.fabQuery c) s = .next t ∧ answered 0x80 stOk (d4 s.m.fabRecord.length) c s.m t.m ∧ writesBuffer c s.m.fabRecord s.m t.m) ∧
  (∀ (s : State) (c : Cmd), accepted specFabQuery (bufferBad c 256) none [] none c s.m → mayRequest c.fn s.m → s.m.isHead = true →
    let beats := (s.m.flight.heartbeats.filter (fun h => s.m.isLead || h.1 / 256 == s.m.group)).map (fun h => h.2)
    let r := s.m.fabRecord ++ (beats.take ((pField c 16 4 - 256) / 64)).flatten
    ∃ t, exec (.fabQuery c) s = .next t ∧ answered 0x80 stOk (d4 r.length) c s.m t.m ∧ writesBuffer c r s.m t.m) ∧
  (∀ (s : State) (c : Cmd), accepted specFabRole (if 2 < pField c 8 1 then some 8 else none) none [] none c s.m →
    ∃ t, exec (.fabRole c) s = .next t ∧ answered 0x81 stOk (d4 s.m.fab.roleConfig) c s.m t.m ∧ t.m.fab.roleConfig = pField c 8 1 ∧
      t.m.fab.role = s.m.fab.role) ∧
  (∀ (s : State) (c : Cmd), accepted specFabPort (badFabPort c) none [] none c s.m → pField c 12 1 = 0 → (s.m.fport (pField c 8 1)).state = 4 →
    ∃ t, exec (.fabPort c) s = .next t ∧ answered 0x82 stOk (d4 0 ++ d4 0) c s.m t.m) ∧
  (∀ (s : State) (c : Cmd), accepted specFabPort (badFabPort c) none [] none c s.m → pField c 12 1 = 0 → (s.m.fport (pField c 8 1)).state ≠ 4 →
    ∃ (t : State) (m' : Module) (id : Nat), exec (.fabPort c) s = .next t ∧ acting 0x82 id [] (.fabPort c) c s.m m' ∧
      t.m = (m'.beginStop 0x100 (.port (pField c 8 1)) (pField c 9 1) (pField c 10 2) id false).topoChanged) ∧
  (∀ (s : State) (c : Cmd), accepted specFabPort (badFabPort c) none [] none c s.m → pField c 12 1 = 1 → s.m.fab.ports.length = 4 →
    ∃ t, exec (.fabPort c) s = .next t ∧ answered 0x82 stOk (d4 0 ++ d4 0) c s.m t.m ∧
      (t.m.fport (pField c 8 1)).state = (if (s.m.fport (pField c 8 1)).state = 4 then 1 else (s.m.fport (pField c 8 1)).state)) ∧
  (∀ (s : State) (c : Cmd), accepted specFabPort (badFabPort c) none [] none c s.m → pField c 12 1 = 2 → s.m.fab.ports.length = 4 →
    (s.m.fport (pField c 8 1)).state ≠ 4 →
    ∃ t, exec (.fabPort c) s = .next t ∧ answered 0x82 stOk (d4 0 ++ d4 0) c s.m t.m ∧ (t.m.fport (pField c 8 1)).state = 1 ∧
      (t.m.fport (pField c 8 1)).replayBuf = (s.m.fport (pField c 8 1)).replayBuf)

/-- MODE commands (R526, R527, R552 to R555). QUERY returns DEV_EPOCH and the kinds staged; PREPARE of scope 0 stages the value and completes;
of a wider scope it stages it and asks the others; COMMIT of a power-cap profile of scope 0 applies it at its epoch; ABORT discards
a value. -/
def Obligations.ModeCommands : Prop :=
  (∀ (s : State) (c : Cmd), accepted specModeQuery none none [] none c s.m →
    ∃ t, exec (.modeQuery c) s = .next t ∧
      answered 0x8B stOk (d4 s.m.epochs.epoch ++ d4 (maskOf 3 (fun k => (s.m.stagedOf k).isSome))) c s.m t.m) ∧
  (∀ (s : State) (c : Cmd), accepted specModePrepare (badModePrepare c) (needModePrepare c)
      ([.epoch] ++ (if pField c 8 1 = 2 then [.power] else [])) none c s.m →
    pField c 9 1 = 0 → pField c 12 4 = s.m.epochs.epoch → (pField c 8 1 = 1 → s.m.isLead = false) →
    ∃ t, exec (.modePrepare c) s = .next t ∧ answered 0x88 stOk [] c s.m t.m ∧
      t.m.epochs.staged = [⟨pField c 8 1, 0, hostData c, s.m.fab.deviceId, true, false, [], [], none, [], none, none⟩]) ∧
  (∀ (s : State) (c : Cmd), accepted specModePrepare (badModePrepare c) (needModePrepare c)
      ([.epoch] ++ (if pField c 8 1 = 2 then [.power] else [])) none c s.m →
    pField c 9 1 ≠ 0 → s.m.fabricOpen = true → s.m.tierOk (pField c 9 1) = true → pField c 12 4 = s.m.epochs.epoch →
    (pField c 8 1 = 1 → s.m.isLead = false) →
    ∃ (t : State) (m' : Module) (id : Nat), exec (.modePrepare c) s = .next t ∧
      acting 0x88 id ([.epoch] ++ (if pField c 8 1 = 2 then [.power] else [])) (.modePrepare c) c s.m m' ∧
      t.m = m'.prepare (pField c 8 1) (pField c 9 1) (hostData c) false (some id)) ∧
  (∀ (s : State) (c : Cmd) (v : Staged), accepted specModeCommit (if 2 < pField c 8 1 then some 8 else none) none [] none c s.m →
    s.m.stagedOf (pField c 8 1) = some v → v.mine = true → v.cmd = none → v.pausing = none →
    seqNewer (pField c 12 4) (s.m.newestAck v) = true → seqNewer (pField c 12 4) s.m.epochs.epoch = true →
    ∃ (t : State) (m' : Module) (id : Nat), exec (.modeCommit c) s = .next t ∧ acting 0x89 id [] (.modeCommit c) c s.m m' ∧
      t.m = m'.beginCommit v (pField c 12 4) (some id)) ∧
  (∀ (s : State) (c : Cmd) (v : Staged), accepted specModeCommit (if 2 < pField c 8 1 then some 8 else none) none [] none c s.m →
    s.m.stagedOf (pField c 8 1) = some v → v.mine = true → v.cmd = none → v.pausing = none → v.scope = 0 → v.kind = 2 →
    s.m.flight.heldPkts = [] →
    seqNewer (pField c 12 4) (s.m.newestAck v) = true → seqNewer (pField c 12 4) s.m.epochs.epoch = true →
    ∃ t, exec (.modeCommit c) s = .next t ∧ answered 0x89 stOk (d4 (pField c 12 4)) c s.m t.m ∧ t.m.epochs.epoch = pField c 12 4 ∧
      t.m.epochs.powerEpoch = pField c 12 4 ∧ t.m.power.limit = getLe v.value 0 2 ∧ t.m.stagedOf 2 = none) ∧
  (∀ (s : State) (c : Cmd), accepted specModeAbort (if 2 < pField c 8 1 then some 8 else none) none [] none c s.m →
    s.m.stagedOf (pField c 8 1) = none →
    ∃ t, exec (.modeAbort c) s = .next t ∧ answered 0x8A stOk (d4 0) c s.m t.m) ∧
  (∀ (s : State) (c : Cmd) (v : Staged), accepted specModeAbort (if 2 < pField c 8 1 then some 8 else none) none [] none c s.m →
    s.m.stagedOf (pField c 8 1) = some v → v.kind ≠ 1 → v.kind ≠ 255 →
    (v.mine = true → v.scope = 0 ∧ v.auto = false ∧ v.cmd = none ∧ v.commit = none) →
    ∃ t, exec (.modeAbort c) s = .next t ∧ answered 0x8A stOk (d4 0) c s.m t.m ∧ t.m.stagedOf v.kind = none)

/-! ## Descriptors the sequencer executes itself: CT, SY, BK (chapters 3, 4) -/

/-- CT descriptors (R139 to R142, R151, R165): NOP goes on; LOOP with a count pushes its entry, with count 0 skips its body; BRANCH, JUMP,
CALL and RET transfer control; SETREG and ADDREG write an index register; POST queues a progress completion or counts a drop; END
ends the thread's work with its status word and result. -/
def Obligations.ControlDescriptors : Prop :=
  (∀ (s : State) (d : Desc), issuable 0x00 d s.m → fits d.bytes [] = true →
    ∃ t, exec (.ctNop d) s = .next t ∧ goesOn d s.m t) ∧
  (∀ (s : State) (d : Desc), issuable 0x00 d s.m → fits d.bytes [] = false →
    ∃ t, exec (.ctNop d) s = .next t ∧ faultsWith d 0x01 0 0 s.m t.m) ∧
  (∀ (s : State) (d : Desc), issuable 0x01 d s.m → fits d.bytes [(4, 0xFFFFFFFF)] = true → (thOf d s.m).flight = [] →
    ∃ t, exec (.ctEnd d) s = .next t ∧
      t.m = (((s.m.endItem d.site d.thread (thOf d s.m).status (getLe d.bytes 4 4) []).updCore d.site (fun c =>
        (c.clearFetch d.thread).updTh d.thread (fun x => { x with wait := none, stack := [] }))).dropReads (isFetch d.site d.thread)).fenceMarked d.site) ∧
  (∀ (s : State) (d : Desc), issuable 0x01 d s.m → fits d.bytes [(4, 0xFFFFFFFF)] = true → (thOf d s.m).flight ≠ [] →
    ∃ t, exec (.ctEnd d) s = .next t ∧ waitsAtIssue d s.m t.m) ∧
  (∀ (s : State) (d : Desc), issuable 0x02 d s.m →
    fits d.bytes [(1, 0xFF), (2, 0x77), (4, 0xFFFFFFFF), (8, 2 ^ 64 - 1), (16, 2 ^ 64 - 1)] = true → getLe d.bytes 1 1 ≠ 0 →
    ¬ (getLe d.bytes 2 1 / 16 % 8 = 0 ∧ getLe d.bytes 16 8 ≠ 0) →
    (∀ i < getLe d.bytes 1 1 - 1, getLe (s.m.peek d.site d.thread (thOf d s.m).pc (i + 1)) 0 1 ∉ [0x01, 0x04, 0x06]) →
    (getLe d.bytes 4 4 = 0 →
      ∃ t, exec (.ctLoop d) s = .next t ∧
        t.m = (s.m.updCore d.site (fun c => c.updTh d.thread (fun x => { x with pc := x.pc + 32 * getLe d.bytes 1 1 }))).advance d.site d.thread
          (thOf d s.m).pc ((thOf d s.m).pc + 32 * getLe d.bytes 1 1 + 32)) ∧
    (getLe d.bytes 4 4 ≠ 0 → 8 ≤ (thOf d s.m).stack.length →
      ∃ t, exec (.ctLoop d) s = .next t ∧ faultsWith d 0x06 0 0 s.m t.m) ∧
    (getLe d.bytes 4 4 ≠ 0 → (thOf d s.m).stack.length < 8 →
      ∃ t, exec (.ctLoop d) s = .next t ∧
        (let pc := (thOf d s.m).pc
         let incs := [(getLe d.bytes 2 1 % 8, getLe d.bytes 8 8), (getLe d.bytes 2 1 / 16 % 8, getLe d.bytes 16 8)]
         let f : Frame := .loop (pc + 32) (pc + 32 + 32 * getLe d.bytes 1 1) (getLe d.bytes 4 4) incs
         goesOn d (s.m.updCore d.site (fun c => c.updTh d.thread (fun x => { x with stack := f :: x.stack }))) t))) ∧
  (∀ (s : State) (d : Desc), issuable 0x03 d s.m → getLe d.bytes 1 1 ≤ 7 →
    let cond := getLe d.bytes 1 1
    let opMask := if 1 ≤ cond ∧ cond ≤ 4 then 7 else if cond = 5 ∨ cond = 6 then 15 else 0
    let valMask := if 1 ≤ cond ∧ cond ≤ 4 then 2 ^ 64 - 1 else if cond = 5 ∨ cond = 6 then 2 ^ 32 - 1 else 0
    let a := ((thOf d s.m).pc + 2 ^ 64 + 32 * getLe d.bytes 4 4 - (if 2 ^ 31 ≤ getLe d.bytes 4 4 then 32 * 2 ^ 32 else 0)) % 2 ^ 64
    fits d.bytes [(1, 0xFF), (2, opMask), (4, 0xFFFFFFFF), (8, valMask)] = true →
    (cond = 5 ∨ cond = 6 → (s.m.core d.site).owns d.thread (getLe d.bytes 2 1 % 16) = true) →
    (branchTaken (s.m.core d.site) (thOf d s.m) cond (getLe d.bytes 2 1) (getLe d.bytes 8 8) = true →
      (s.m.core d.site).programOk d.site a = true →
      ∃ t, exec (.ctBranch d) s = .next t ∧
        jumps d (s.m.updCore d.site (fun c => c.updTh d.thread (fun x => { x with stack := leaveLoops a x.stack }))) a t) ∧
    (branchTaken (s.m.core d.site) (thOf d s.m) cond (getLe d.bytes 2 1) (getLe d.bytes 8 8) = false →
      ∃ t, exec (.ctBranch d) s = .next t ∧ goesOn d s.m t)) ∧
  (∀ (s : State) (d : Desc), issuable 0x04 d s.m → fits d.bytes [(2, 7), (8, 2 ^ 64 - 1)] = true →
    let a := addReg (thOf d s.m) (getLe d.bytes 8 8) (getLe d.bytes 2 1 % 8)
    (s.m.core d.site).programOk d.site a = true →
    ∃ t, exec (.ctJump d) s = .next t ∧
      jumps d (s.m.updCore d.site (fun c => c.updTh d.thread (fun x => { x with stack := leaveLoops a x.stack }))) a t) ∧
  (∀ (s : State) (d : Desc), issuable 0x05 d s.m → fits d.bytes [(2, 7), (8, 2 ^ 64 - 1)] = true → (thOf d s.m).stack.length < 8 →
    let a := addReg (thOf d s.m) (getLe d.bytes 8 8) (getLe d.bytes 2 1 % 8)
    (s.m.core d.site).programOk d.site a = true →
    ∃ t, exec (.ctCall d) s = .next t ∧
      jumps d (s.m.updCore d.site (fun c => c.updTh d.thread (fun x => { x with stack := .call (x.pc + 32) :: x.stack }))) a t) ∧
  (∀ (s : State) (d : Desc) (ret : Nat) (rest : List Frame), issuable 0x06 d s.m → fits d.bytes [] = true →
    popCall (thOf d s.m).stack = some (ret, rest) →
    ∃ t, exec (.ctRet d) s = .next t ∧
      (let r := loopEnd rest ret (thOf d s.m)
       jumps d (s.m.updCore d.site (fun c => c.updTh d.thread (fun _ => { r.1 with stack := r.2.1 }))) r.2.2 t)) ∧
  (∀ (s : State) (d : Desc), issuable 0x06 d s.m → fits d.bytes [] = true → popCall (thOf d s.m).stack = none →
    ∃ t, exec (.ctRet d) s = .next t ∧ faultsWith d 0x06 0 0 s.m t.m) ∧
  (∀ (s : State) (d : Desc), issuable 0x07 d s.m → fits d.bytes [(1, 0xFF), (2, 7), (8, 2 ^ 64 - 1)] = true → getLe d.bytes 1 1 = 0 →
    ∃ t, exec (.ctSetreg d) s = .next t ∧
      goesOn d (s.m.setX d.site d.thread (getLe d.bytes 2 1 % 8) (BitVec.ofNat 64 (getLe d.bytes 8 8))) t) ∧
  (∀ (s : State) (d : Desc), issuable 0x07 d s.m → fits d.bytes [(1, 0xFF), (2, 7), (8, 0)] = true →
    getLe d.bytes 1 1 = 1 ∨ getLe d.bytes 1 1 = 3 →
    ∃ t, exec (.ctSetreg d) s = .next t ∧ goesOn d (s.m.setX d.site d.thread (getLe d.bytes 2 1 % 8)
      (if getLe d.bytes 1 1 = 1 then s.m.coreInfo d.site else BitVec.ofNat 64 (thOf d s.m).status)) t) ∧
  (∀ (s : State) (d : Desc), issuable 0x07 d s.m → fits d.bytes [(1, 0xFF), (2, 0xF7), (8, 0)] = true → getLe d.bytes 1 1 = 2 →
    (s.m.core d.site).owns d.thread (getLe d.bytes 2 1 / 16) = true →
    ∃ t, exec (.ctSetreg d) s = .next t ∧ goesOn d (s.m.setX d.site d.thread (getLe d.bytes 2 1 % 8)
      (BitVec.ofNat 64 (SMap.get 0 (s.m.core d.site).counters (getLe d.bytes 2 1 / 16)))) t) ∧
  (∀ (s : State) (d : Desc), issuable 0x08 d s.m → fits d.bytes [(1, 7), (2, 0x77), (8, 2 ^ 64 - 1)] = true →
    ∃ t, exec (.ctAddreg d) s = .next t ∧ goesOn d (s.m.setX d.site d.thread (getLe d.bytes 2 1 % 8)
      (BitVec.ofNat 64 ((thOf d s.m).x (getLe d.bytes 2 1 / 16 % 8) + (thOf d s.m).x (getLe d.bytes 1 1 % 8) + getLe d.bytes 8 8))) t) ∧
  (∀ (s : State) (d : Desc) (it : Item) (p : Packet), issuable 0x09 d s.m → fits d.bytes [(4, 0xFFFFFFFF)] = true →
    (thOf d s.m).item = some it → s.m.packet it.part it.seq = some p →
    ∃ t, exec (.ctPost d) s = .next t ∧
      goesOn d (if s.m.slotFree (.work it.part) then s.m.queueWork it.part (p.completion 1 (getLe d.bytes 4 4)) p.vector false
        else s.m.updRing (.work it.part) (fun r => { r with drops := r.drops + 1 })) t)

/-- SY and BK descriptors, and an opcode that does not exist (R106, R108, R126, R138, R144, R145, R149, R150). WAIT goes on once the counter
has reached its value and waits till then; SIGNAL adds to a counter of the core, or sends it to another; FENCE goes on once none of
its classes is in flight; SET writes a counter; ROW and STAT issue their bank-op and stay in flight. -/
def Obligations.SyncAndBankDescriptors : Prop :=
  (∀ (s : State) (d : Desc), issuable 0x70 d s.m → fits d.bytes [(4, 0x0F), (8, 0xFFFFFFFF)] = true →
    (s.m.core d.site).owns d.thread (getLe d.bytes 4 1) = true →
    ∃ t, exec (.syWait d) s = .next t ∧
      (if seqGe (SMap.get 0 (s.m.core d.site).counters (getLe d.bytes 4 1)) (getLe d.bytes 8 4) = true then goesOn d s.m t
       else waitsAtIssue d s.m t.m)) ∧
  (∀ (s : State) (d : Desc), issuable 0x70 d s.m → fits d.bytes [(4, 0x0F), (8, 0xFFFFFFFF)] = true →
    (s.m.core d.site).owns d.thread (getLe d.bytes 4 1) = false →
    ∃ t, exec (.syWait d) s = .next t ∧ faultsWith d 0x05 0 0 s.m t.m) ∧
  (∀ (s : State) (d : Desc), issuable 0x71 d s.m → fits d.bytes [(1, 3), (4, 0x0F), (6, 0), (8, 0xFFFFFFFF)] = true →
    bitOf (getLe d.bytes 1 1) 1 = false → getLe d.bytes 8 4 ≠ 0 → (s.m.core d.site).owns d.thread (getLe d.bytes 4 1) = true →
    (bitOf (getLe d.bytes 1 1) 0 = true → (thOf d s.m).flight = []) →
    ∃ t, exec (.sySignal d) s = .next t ∧
      goesOn d (s.m.updCore d.site (fun c => c.bump (getLe d.bytes 4 1) (getLe d.bytes 8 4))) t) ∧
  (∀ (s : State) (d : Desc), issuable 0x71 d s.m → fits d.bytes [(1, 3), (4, 0x0F), (6, 0xFFFF), (8, 0xFFFFFFFF)] = true →
    bitOf (getLe d.bytes 1 1) 1 = true → getLe d.bytes 8 4 ≠ 0 → (bitOf (getLe d.bytes 1 1) 0 = true → (thOf d s.m).flight = []) →
    getLe d.bytes 6 2 < Config.sites → s.m.ownerOf (getLe d.bytes 6 2) = s.m.ownerOf d.site → (s.m.core (getLe d.bytes 6 2)).enabled = true →
    ∃ (t : State) (p : NetPkt), exec (.sySignal d) s = .next t ∧ goesOn d (s.m.inject p) t ∧ p.kind = pkSignal ∧ p.src = d.site ∧
      p.dst = getLe d.bytes 6 2 ∧ p.counter = getLe d.bytes 4 1 ∧ p.data = leBytes 4 (getLe d.bytes 8 4)) ∧
  (∀ (s : State) (d : Desc), issuable 0x72 d s.m → fits d.bytes [(1, 0x3F)] = true →
    ∃ t, exec (.syFence d) s = .next t ∧
      (if (thOf d s.m).flight.any (fun f => getLe d.bytes 1 1 == 0 || bitOf (getLe d.bytes 1 1) f.cls) = true then waitsAtIssue d s.m t.m
       else goesOn d s.m t)) ∧
  (∀ (s : State) (d : Desc), issuable 0x73 d s.m → fits d.bytes [(4, 0x0F), (8, 0xFFFFFFFF)] = true →
    (s.m.core d.site).owns d.thread (getLe d.bytes 4 1) = true →
    ∃ t, exec (.sySet d) s = .next t ∧
      goesOn d (s.m.updCore d.site (fun c => { c with counters := SMap.set 0 c.counters (getLe d.bytes 4 1) (getLe d.bytes 8 4) })) t) ∧
  (∀ (s : State) (d : Desc) (op : Nat) (i : Instr), (op, i) ∈ [(0x50, .bkRow d), (0x51, .bkStat d)] → issuable op d s.m → recordBad d.bytes = none → (bkRec d.bytes).scope ≠ 3 →
    (s.m.core d.site).eventBad d.thread d.bytes = none → rowsBad d.bytes = false →
    s.m.undelivered d.site d.thread < (if (s.m.core d.site).split then 1 else 2) →
    ((bkRec d.bytes).scope = 0 → (s.m.slice d.site).bankSeqs.length < 8 ∧
      s.m.behindBroadcast (d.site * 65536 + (match (thOf d s.m).item with | some it => it.ctx | none => 0)) d.site = false) →
    ∃ t, exec i s = .next t ∧
      goesOn d ((launched d 4 d.bytes false s.m).issueBank (s.m.ownerOf d.site)
        (d.site * 65536 + (match (thOf d s.m).item with | some it => it.ctx | none => 0)) (some (d.site, d.thread, (thOf d s.m).nextId))
        none d.bytes (if (bkRec d.bytes).scope = 0 then d.site else clusterOf d.site) 10) t) ∧
  (∀ (s : State) (d : Desc), d.wf = true → opcodeListed (getLe d.bytes 0 1) = false → s.m.mayIssue d.site d.thread d.bytes = true →
    ∃ t, exec (.invalidOpcode d) s = .next t ∧ faultsWith d 0x02 0 0 s.m t.m)

/-! ## Engine descriptors: STR, KH, MX, VX, NR (chapters 5 to 9) -/

/-- STR and KH descriptors (R133, R152, R153, R240, R241, R247): LOAD and STORE make their slot busy and stay in flight; CANCEL of an idle
slot is one descriptor more in flight; KH descriptors join their queue with their addresses resolved. A busy slot or a full queue
leaves the state as it is. -/
def Obligations.StreamDescriptors : Prop :=
  (∀ (s : State) (d : Desc) (op : Nat) (i : Instr), (op, i) ∈ [(0x10, .strLoad d), (0x11, .strStore d)] → issuable op d s.m → strOk d.bytes = true →
    (s.m.core d.site).eventBad d.thread d.bytes = none → ((s.m.core d.site).split = true → stSlot d.bytes / 8 = d.thread) →
    let base := addReg (thOf d s.m) (getLe d.bytes 4 6) (getLe d.bytes 1 1 / 32)
    let off := addReg (thOf d s.m) (getLe d.bytes 10 3) (getLe d.bytes 2 1 / 64)
    0 ≤ stLowest d.bytes base → stHighest d.bytes base < 2 ^ 48 →
    (stFeed d.bytes = false → (padWin (s.m.core d.site).split off (stTotal d.bytes)).isSome = true) →
    (stPads d.bytes = true → s.m.stTarget d.site (stLoad d.bytes) (stLowest d.bytes base).toNat (stHighest d.bytes base).toNat = true) →
    ((s.m.core d.site).stream (stSlot d.bytes) = none →
      ∃ t, exec i s = .next t ∧
        (let q : Stream := { desc := d.bytes, thread := d.thread, id := (thOf d s.m).nextId, base := base, off := off }
         goesOn d ((launched d 0 d.bytes false s.m).updCore d.site (fun c =>
           { c with streams := SMap.set {} c.streams (stSlot d.bytes) q })) t)) ∧
    (((s.m.core d.site).stream (stSlot d.bytes)).isSome = true → exec i s = .next s)) ∧
  (∀ (s : State) (d : Desc), issuable 0x12 d s.m → fits d.bytes [(1, 0x0F), (3, 0xFF)] = true →
    (s.m.core d.site).eventBad d.thread d.bytes = none → ((s.m.core d.site).split = true → stSlot d.bytes / 8 = d.thread) →
    (s.m.core d.site).stream (stSlot d.bytes) = none →
    ∃ t, exec (.strCancel d) s = .next t ∧ goesOn d (launched d 0 d.bytes false s.m) t) ∧
  (∀ (s : State) (d : Desc) (q : Stream), issuable 0x12 d s.m → fits d.bytes [(1, 0x0F), (3, 0xFF)] = true →
    (s.m.core d.site).eventBad d.thread d.bytes = none → ((s.m.core d.site).split = true → stSlot d.bytes / 8 = d.thread) →
    (s.m.core d.site).stream (stSlot d.bytes) = some q →
    ∃ (t : State) (x : Module), exec (.strCancel d) s = .next t ∧
      x = ((launched d 0 d.bytes false s.m).updFlight d.site d.thread (thOf d s.m).nextId (fun f => { f with next := q.id + 1 })).updCore d.site
        (fun c => { c with streams := SMap.upd {} c.streams (stSlot d.bytes) (fun q => { q with
          cancelled := true, feed := [], pieces := q.pieces.filter (fun p => p.data.isNone) }) }) ∧
      goesOn d (if q.pieces.all (fun p => p.data.isSome) then x.dropStream d.site (stSlot d.bytes) else x) t) ∧
  (∀ (s : State) (d : Desc) (op : Nat) (i : Instr),
    (op, i) ∈ [(0x40, .khRead d), (0x41, .khWrite d), (0x42, .khGather d), (0x43, .khScatter d)] → issuable op d s.m → khOk d.bytes = true →
    (s.m.core d.site).eventBad d.thread d.bytes = none →
    let base := addReg (thOf d s.m) (getLe d.bytes 4 6) (getLe d.bytes 1 1 % 8)
    let off := addReg (thOf d s.m) (getLe d.bytes 10 3) (getLe d.bytes 1 1 / 16 % 8)
    base < 2 ^ 48 → base % 64 = 0 → padOk (s.m.core d.site).split off = true → off % 64 = 0 →
    (khList d.bytes = true → padOk (s.m.core d.site).split (getLe d.bytes 16 3) = true ∧ getLe d.bytes 16 3 % 4 = 0) →
    ((thOf d s.m).inClass 1 < (if (s.m.core d.site).split then 2 else 4) →
      ∃ t, exec i s = .next t ∧
        goesOn d (launched d 1 (putField (putField (putField d.bytes 4 6 base) 10 3 off) 1 1 0) false s.m) t) ∧
    ((if (s.m.core d.site).split then 2 else 4) ≤ (thOf d s.m).inClass 1 → exec i s = .next s))

/-- MX and VX descriptors (R133, R154 to R157, R160, R208). LOADW, RUN, DRAIN and ELEM, from the scratchpad or a feed stream, in whole or
split mode, join the queue of their half; SPLIT stays in flight; every VX descriptor joins the vector unit's queue with its addresses
resolved. A full queue leaves the state as it is. -/
def Obligations.ArrayAndVectorDescriptors : Prop :=
  (∀ (s : State) (d : Desc), issuable 0x20 d s.m → loadwOk d.bytes = true → (s.m.core d.site).eventBad d.thread d.bytes = none →
    ((s.m.core d.site).split = true → loadwWide d.thread d.bytes = false) →
    mxBadOffset (s.m.core d.site) (thOf d s.m) d.bytes (mxOffs d.bytes) = none → (thOf d s.m).splitting = false →
    let h := (s.m.core d.site).mxHalf d.thread
    let b := mxResolve (thOf d s.m) d.bytes ((mxOffs d.bytes).map (fun o => (o, 3)))
    (((s.m.core d.site).half h).weights.length < 2 →
      ∃ t, exec (.mxLoadw d) s = .next t ∧
        goesOn d ((launched d 2 b false s.m).updCore d.site (fun c => c.updHalf h (fun a =>
          { a with weights := a.weights ++ [((thOf d s.m).nextId, b)] }))) t) ∧
    (2 ≤ ((s.m.core d.site).half h).weights.length → exec (.mxLoadw d) s = .next s)) ∧
  (∀ (s : State) (d : Desc), issuable 0x21 d s.m → mxRunOk d.bytes = true → (s.m.core d.site).eventBad d.thread d.bytes = none →
    ((s.m.core d.site).split = true → mxRunWide d.thread d.bytes = false) →
    mxBadOffset (s.m.core d.site) (thOf d s.m) d.bytes (mxOffs d.bytes) = none → (thOf d s.m).splitting = false →
    let h := (s.m.core d.site).mxHalf d.thread
    let b := mxResolve (thOf d s.m) d.bytes ((mxOffs d.bytes).map (fun o => (o, 3)))
    (((s.m.core d.site).half h).runs.length < 4 →
      ∃ t, exec (.mxRun d) s = .next t ∧
        goesOn d ((launched d 2 b false s.m).updCore d.site (fun c => c.updHalf h (fun a =>
          { a with runs := a.runs ++ [((thOf d s.m).nextId, b)] }))) t) ∧
    (4 ≤ ((s.m.core d.site).half h).runs.length → exec (.mxRun d) s = .next s)) ∧
  (∀ (s : State) (d : Desc), issuable 0x22 d s.m → mxDrainOk d.bytes = true → (s.m.core d.site).eventBad d.thread d.bytes = none →
    ((s.m.core d.site).split = true → getLe d.bytes 8 1 ≤ 8) →
    mxBadOffset (s.m.core d.site) (thOf d s.m) d.bytes [4] = none → (thOf d s.m).splitting = false →
    let h := (s.m.core d.site).mxHalf d.thread
    let b := mxResolve (thOf d s.m) d.bytes [(4, 3)]
    (((s.m.core d.site).half h).drains.length < 4 →
      ∃ t, exec (.mxDrain d) s = .next t ∧
        goesOn d ((launched d 2 b false s.m).updCore d.site (fun c => c.updHalf h (fun a =>
          { a with drains := a.drains ++ [((thOf d s.m).nextId, b)] }))) t) ∧
    (4 ≤ ((s.m.core d.site).half h).drains.length → exec (.mxDrain d) s = .next s)) ∧
  (∀ (s : State) (d : Desc), issuable 0x24 d s.m → mxElemOk d.bytes = true → (s.m.core d.site).eventBad d.thread d.bytes = none →
    mxBadOffset (s.m.core d.site) (thOf d s.m) d.bytes [4, 8, 12] = none → (thOf d s.m).splitting = false →
    let h := (s.m.core d.site).mxHalf d.thread
    let b := mxResolve (thOf d s.m) d.bytes [(4, 3), (8, 3), (12, 3)]
    (((s.m.core d.site).half h).runs.length < 4 →
      ∃ t, exec (.mxElem d) s = .next t ∧
        goesOn d ((launched d 2 b false s.m).updCore d.site (fun c => c.updHalf h (fun a =>
          { a with runs := a.runs ++ [((thOf d s.m).nextId, b)] }))) t) ∧
    (4 ≤ ((s.m.core d.site).half h).runs.length → exec (.mxElem d) s = .next s)) ∧
  (∀ (s : State) (d : Desc), issuable 0x23 d s.m → fits d.bytes [(1, 1), (3, 0xFF)] = true →
    (s.m.core d.site).eventBad d.thread d.bytes = none → d.thread = 0 →
    (bitOf (getLe d.bytes 1 1) 0 = false → (s.m.core d.site).half0.fenced = false ∧ (s.m.core d.site).half1.fenced = false) →
    (thOf d s.m).splitting = false →
    ∃ t, exec (.mxSplit d) s = .next t ∧ goesOn d ((launched d 2 d.bytes false s.m).updCore d.site (fun c =>
      { c with wholePending := !bitOf (getLe d.bytes 1 1) 0 })) t) ∧
  (∀ (s : State) (d : Desc) (op : Nat) (i : Instr), (op, i) ∈ [(0x30, .vxAdd d), (0x31, .vxSub d), (0x32, .vxMul d), (0x33, .vxFma d),
      (0x34, .vxMax d), (0x35, .vxMin d), (0x36, .vxUnary d), (0x37, .vxReduce d), (0x38, .vxConvert d), (0x39, .vxCopy d),
      (0x3A, .vxFill d), (0x3B, .vxSelect d)] →
    issuable op d s.m → vxOk d.bytes = true →
    vxAligned (thOf d s.m) d.bytes = true → (s.m.core d.site).eventBad d.thread d.bytes = none →
    (∀ o ∈ 4 :: vxSources d.bytes, padOk (s.m.core d.site).split (vxAddr (thOf d s.m) d.bytes o) = true) →
    let full := decide (4 ≤ (s.m.core d.site).t0.inClass 3 + (s.m.core d.site).t1.inClass 3) ||
      ((s.m.core d.site).split && decide (2 ≤ (thOf d s.m).inClass 3))
    (full = false →
      ∃ t, exec i s = .next t ∧
        goesOn d (launched d 3 (putField ((4 :: vxSources d.bytes).foldl (fun acc o => putField acc o 3 (vxAddr (thOf d s.m) d.bytes o))
          d.bytes) 29 1 0) false s.m) t) ∧
    (full = true → exec i s = .next s))

/-- NR descriptors (R158, R310, R315, R316, R540): inside the module SEND, GATHER and BCAST send their packets and stay in flight until each
endpoint has acknowledged, REDUCE enters its flits into the tree; SEND and GATHER to another module leave as WRITE_SP. -/
def Obligations.TransferDescriptors : Prop :=
  (∀ (s : State) (d : Desc) (op : Nat) (i : Instr) (f : InFlight) (fs : List (List Byte × Bool)),
    (op, i) ∈ [(0x60, .nrSend d), (0x62, .nrGather d)] → issuable op d s.m →
    s.m.nrBad d.site d.thread d.bytes = none → nrLocal d.bytes = true →
    (thOf d s.m).inClass 5 < (if (s.m.core d.site).split then 2 else 4) →
    f = { id := (thOf d s.m).nextId, cls := 5, bytes := d.bytes, pc := (thOf d s.m).pc, next := 0, pieces := [], done := false } →
    s.m.nrRead d.site d.thread f (addReg (thOf d s.m) (nrSrc d.bytes) (nrFlags d.bytes % 8)) (nrLength d.bytes / 64) = .ok fs →
    ∃ t, exec i s = .next t ∧
      goesOn d ((((launched d 5 d.bytes false s.m).updFlight d.site d.thread (thOf d s.m).nextId (fun q => { q with next := 1 })).nrInject
        d.site d.thread (thOf d s.m).nextId (nrSite d.bytes) d.bytes (packets (nrLength d.bytes / 64) 0 fs))) t) ∧
  (∀ (s : State) (d : Desc) (f : InFlight) (fs : List (List Byte × Bool)), issuable 0x63 d s.m →
    s.m.nrBad d.site d.thread d.bytes = none → nrLocal d.bytes = true →
    (thOf d s.m).inClass 5 < (if (s.m.core d.site).split then 2 else 4) →
    f = { id := (thOf d s.m).nextId, cls := 5, bytes := d.bytes, pc := (thOf d s.m).pc, next := 0, pieces := [], done := false } →
    s.m.nrRead d.site d.thread f (addReg (thOf d s.m) (nrSrc d.bytes) (nrFlags d.bytes % 8)) (nrLength d.bytes / 64) = .ok fs →
    ∃ t, exec (.nrBcast d) s = .next t ∧
      goesOn d ((((launched d 5 d.bytes false s.m).updFlight d.site d.thread (thOf d s.m).nextId
        (fun q => { q with next := (s.m.castCores d.site d.bytes).length })).nrCast d.site d.thread (thOf d s.m).nextId d.bytes
        (packets (nrLength d.bytes / 64) 0 fs))) t) ∧
  (∀ (s : State) (d : Desc) (f : InFlight) (fs : List (List Byte × Bool)), issuable 0x61 d s.m →
    s.m.nrBad d.site d.thread d.bytes = none → (thOf d s.m).inClass 5 < (if (s.m.core d.site).split then 2 else 4) →
    f = { id := (thOf d s.m).nextId, cls := 5, bytes := d.bytes, pc := (thOf d s.m).pc, next := 0, pieces := [], done := false } →
    s.m.nrRead d.site d.thread f (addReg (thOf d s.m) (nrSrc d.bytes) (nrFlags d.bytes % 8)) (nrLength d.bytes / 64) = .ok fs →
    ∃ t, exec (.nrReduce d) s = .next t ∧ goesOn d ((launched d 5 d.bytes true s.m).nrReduce d.site d.bytes fs) t) ∧
  (∀ (s : State) (d : Desc) (op : Nat) (i : Instr) (f : InFlight) (fs : List (List Byte × Bool)),
    (op, i) ∈ [(0x60, .nrSend d), (0x62, .nrGather d)] → issuable op d s.m →
    s.m.nrBad d.site d.thread d.bytes = none → nrLocal d.bytes = false →
    (thOf d s.m).inClass 5 < (if (s.m.core d.site).split then 2 else 4) →
    f = { id := (thOf d s.m).nextId, cls := 5, bytes := d.bytes, pc := (thOf d s.m).pc, next := 0, pieces := [], done := false } →
    s.m.nrRead d.site d.thread f (addReg (thOf d s.m) (nrSrc d.bytes) (nrFlags d.bytes % 8)) (nrLength d.bytes / 64) = .ok fs →
    (∀ p, s.m.egress (nrModule d.bytes) = some p → s.m.noWay d.site (leaveEnd p (clusterOf d.site)) = false ∧
      s.m.mayLeave d.site (leaveEnd p (clusterOf d.site)) = true) →
    ∃ t, exec i s = .next t ∧
      goesOn d (s.m.nrLeave d.site d.thread d.bytes (packets (nrLength d.bytes / 64) 0 fs)) t)

/-! ## What happens at a core (chapters 4 to 7) -/

/-- The sequencer's events (R132, R144, R146, R147, R166, R237, R239). FETCH_RETURN appends what the scratchpad program or the arrived
sector holds, or its failed check fences the core with code 0x0E, as code 0x0C does that of the vector unit; WAIT_RELEASE lets a satisfied SY.WAIT go on; DESCRIPTOR_COMPLETION completes an NR, a KH and a VX descriptor whose effects
are done; WATCHDOG_EXPIRY faults a waiting thread with code 0x07; BACKGROUND_TEST_BANK_CYCLE moves on through the 88 cycles of a
region and on to the next. -/
def Obligations.SequencerEvents : Prop :=
  (∀ (s : State) (site t : Nat), siteThreadOk site t = true → ((s.m.core site).th t).item.isSome = true → ((s.m.core site).th t).halted = false →
    (s.m.core site).enabled = true → s.m.clocked site = true → bitOf ((s.m.core site).th t).fetchPos 47 = true →
    ((s.m.core site).th t).fetchBuf.length < 31 → ((s.m.core site).th t).failsAhead = 0 →
    ∃ u, exec (.fetchReturn site t false) s = .next u ∧ u.m = (s.m.updCore site (fun c => c.updTh t (fun x =>
      { x with fetchBuf := x.fetchBuf ++ (s.m.core site).padFetch site t ((s.m.core site).th t).fetchPos,
               fetchPos := x.fetchPos / 64 * 64 + 64 }.fill))).checkFetch site t) ∧
  (∀ (s : State) (site t : Nat), siteThreadOk site t = true → ((s.m.core site).th t).item.isSome = true → ((s.m.core site).th t).halted = false →
    (s.m.core site).enabled = true → s.m.clocked site = true →
    ∃ u, exec (.fetchReturn site t true) s = .next u ∧ u.m = s.m.coreCheck site 0x0E) ∧
  (∀ (s : State) (site t a : Nat) (r : Response) (rest : List Response), siteThreadOk site t = true → ((s.m.core site).th t).item.isSome = true → ((s.m.core site).th t).halted = false →
    (s.m.core site).enabled = true → s.m.clocked site = true → bitOf ((s.m.core site).th t).fetchPos 47 = false →
    takeFirst (fun (r : Response) => isFetch site t r.req.src) s.m.mem.responses = some (r, rest) → r.req.src = .fetch site t a →
    s.m.mayArrive r = true →
    ∃ u, exec (.fetchReturn site t false) s = .next u ∧
      u.m = ({ s.m with mem := { s.m.mem with responses := rest } }).fetchArrives site t a r.data r.poison) ∧
  (∀ (s : State) (site t : Nat) (bs : List Byte), siteThreadOk site t = true → s.m.running site t = true →
    ((s.m.core site).th t).wait = some bs → getLe bs 0 1 = 0x70 → fits bs [(4, 0x0F), (8, 0xFFFFFFFF)] = true →
    (s.m.core site).owns t (getLe bs 4 1) = true → seqGe (SMap.get 0 (s.m.core site).counters (getLe bs 4 1)) (getLe bs 8 4) = true →
    ∃ (u : State) (x : Module), exec (.waitRelease site t) s = .next u ∧
      x = s.m.updCore site (fun c => c.updTh t (fun th => { th with wait := none })) ∧ u.m = x.issue site t bs bodySyWait) ∧
  (∀ (s : State) (site t id : Nat) (f : InFlight), siteThreadOk site t = true → (s.m.core site).enabled = true → s.m.clocked site = true →
    s.m.resetting site = false → ((s.m.core site).th t).find id = some f → f.cls = 5 → f.done = true →
    ∃ u, exec (.descriptorCompletion site t id false) s = .next u ∧ u.m = s.m.complete1 site t f) ∧
  (∀ (s : State) (site t id : Nat) (f : InFlight), siteThreadOk site t = true → (s.m.core site).enabled = true → s.m.clocked site = true →
    s.m.resetting site = false → ((s.m.core site).th t).find id = some f → f.cls = 3 →
    ((s.m.core site).th t).earlier f.id (fun g => g.cls == 3) = false →
    ∃ u, exec (.descriptorCompletion site t id true) s = .next u ∧ u.m = s.m.coreCheck site 0x0C) ∧
  (∀ (s : State) (site t id : Nat) (f : InFlight), siteThreadOk site t = true → (s.m.core site).enabled = true → s.m.clocked site = true →
    s.m.resetting site = false → ((s.m.core site).th t).find id = some f → f.cls = 1 → f.next = khTotal f.bytes → f.pieces = [] →
    ∃ u, exec (.descriptorCompletion site t id false) s = .next u ∧ u.m = s.m.complete1 site t f) ∧
  (∀ (s : State) (site t id : Nat) (f : InFlight) (srcs : List (List Byte)) (x : Module), siteThreadOk site t = true →
    (s.m.core site).enabled = true → s.m.clocked site = true → s.m.resetting site = false → ((s.m.core site).th t).find id = some f →
    f.cls = 3 → ((s.m.core site).th t).earlier f.id (fun g => g.cls == 3) = false →
    s.m.vxRead site t f (vxSources f.bytes) = .ok srcs →
    s.m.padPut site t f 4 (getLe f.bytes 4 3) (vxResult site f.bytes srcs) false = .ok x →
    ∃ u, exec (.descriptorCompletion site t id false) s = .next u ∧ u.m = x.complete1 site t f) ∧
  (∀ (s : State) (site t op pc : Nat), siteThreadOk site t = true → (s.m.core site).enabled = true → ((s.m.core site).th t).halted = false →
    t ∉ (s.m.core site).switching → ((s.m.core site).th t).watched = some (op, pc) →
    s.m.thermal.stop = false → ¬ (s.m.power.hold ≠ 0 ∧ (s.m.cl (clusterOf site)).ladder ≠ 0) →
    ∃ u, exec (.watchdogExpiry site t) s = .next u ∧ u.m = s.m.threadFault site t 0x07 0 pc op 0 0) ∧
  (∀ (s : State) (site : Nat) (wordBad : Option (Nat × Nat)), siteOk site = true → (s.m.core site).enabled = true → s.m.runs (clusterOf site) = true →
    (s.m.core site).scratch.phase < 88 → (∀ p, wordBad = some p → p.1 < 64 ∧ 0 < p.2 ∧ p.2 < 256) → (wordBad = none ∨ ¬ (4 ≤ (s.m.core site).scratch.phase ∧ (s.m.core site).scratch.phase < 84)) →
    ∃ u, exec (.backgroundTestBankCycle site wordBad) s = .next u ∧
      (u.m.core site).scratch.phase = (if (s.m.core site).scratch.phase = 87 then 0 else (s.m.core site).scratch.phase + 1) ∧
      (u.m.core site).scratch.region =
        (if (s.m.core site).scratch.phase = 87 then ((s.m.core site).scratch.region + 1) % 4096 else (s.m.core site).scratch.region) ∧
      (u.m.core site).scratch.bytes = (s.m.core site).scratch.bytes) ∧
  (∀ (s : State) (site w mask : Nat), siteOk site = true → w < 64 → 0 < mask → mask < 256 → (s.m.core site).enabled = true → s.m.runs (clusterOf site) = true →
    4 ≤ (s.m.core site).scratch.phase → (s.m.core site).scratch.phase < 84 →
    ∃ u, exec (.backgroundTestBankCycle site (some (w, mask))) s = .next u ∧ u.m = s.m.testFails site w mask)

/-- The engines' events (R155, R183, R188, R194, R202, R240, R242, R252, R348). MX_RUN_ENTRY of a run from the scratchpad enters it, or fences
the half where its parity is bad; MX_DRAIN_START writes the rows of its bank, clears what it was asked to and is done, or fences the half
where an accumulator's parity is bad; STREAM_REQUEST_ISSUE sends the next load, store or scratchpad request of the slot whose turn it is,
and a slot out of turn waits; KEYHOLE_SECTOR_ISSUE the next sector;
TABLE_WALK_COMPLETE counts a core's or the host's walk, whose leaf the requester's cache takes. -/
def Obligations.EngineEvents : Prop :=
  (∀ (s : State) (site half : Nat) (f : InFlight), siteOk site = true → half < 2 →
    (((s.m.core site).half ((s.m.core site).mxHalf half)).runs.head?).bind (fun r => ((s.m.core site).th ((s.m.core site).mxHalf half)).find r.1) = some f →
    s.m.arrayOn site ((s.m.core site).mxHalf half) = true → ((s.m.core site).th ((s.m.core site).mxHalf half)).runFree f = true →
    getLe f.bytes 0 1 = 0x21 → bitOf (getLe f.bytes 1 1) 0 = false →
    let t := (s.m.core site).mxHalf half
    let vb := vectorBytes (((s.m.core site).half t).runInfo (runSwap f.bytes)) (getLe f.bytes 2 1) (bitOf (getLe f.bytes 1 1) 1)
    (∃ u, exec (.mxRunEntry site half false) s = .next u ∧ u.m = s.m.enterRun site t f (fun x =>
      x.padGets site t f 3 vb ((List.range (getLe f.bytes 8 1)).map (fun i => getLe f.bytes 4 3 + i * getLe f.bytes 10 2)))) ∧
    (∃ u, exec (.mxRunEntry site half true) s = .next u ∧ u.m = s.m.halfCheck site t half f)) ∧
  (∀ (s : State) (site half : Nat) (f : InFlight) (y : Module), siteOk site = true → half < 2 →
    (((s.m.core site).half ((s.m.core site).mxHalf half)).drains.head?).bind (fun r => ((s.m.core site).th ((s.m.core site).mxHalf half)).find r.1) = some f →
    s.m.arrayOn site ((s.m.core site).mxHalf half) = true →
    ((s.m.core site).th ((s.m.core site).mxHalf half)).earlier f.id
      (fun g => getLe g.bytes 0 1 == 0x21 && runBank g.bytes == b2n (bitOf (getLe f.bytes 1 1) 0)) = false →
    getLe f.bytes 2 1 ≠ 11 →
    let t := (s.m.core site).mxHalf half
    let x := (s.m.updCore site (fun c => c.updHalf t (fun a => { a with drains := a.drains.filter (fun q => q.1 != f.id) }))).updCore site
      (fun c => c.updHalf t (fun a => a.drained c.split f.bytes))
    x.padPuts site t f 3 (((s.m.core site).half t).drainOut site t (s.m.core site).split f.bytes) = .ok y →
    ∃ u, exec (.mxDrainStart site half false) s = .next u ∧ u.m = y.mxDone site t f.id) ∧
  (∀ (s : State) (site half : Nat) (f : InFlight), siteOk site = true → half < 2 →
    (((s.m.core site).half ((s.m.core site).mxHalf half)).drains.head?).bind (fun r => ((s.m.core site).th ((s.m.core site).mxHalf half)).find r.1) = some f →
    s.m.arrayOn site ((s.m.core site).mxHalf half) = true →
    ((s.m.core site).th ((s.m.core site).mxHalf half)).earlier f.id
      (fun g => getLe g.bytes 0 1 == 0x21 && runBank g.bytes == b2n (bitOf (getLe f.bytes 1 1) 0)) = false →
    getLe f.bytes 2 1 ≠ 11 →
    let t := (s.m.core site).mxHalf half
    ∃ u, exec (.mxDrainStart site half true) s = .next u ∧ u.m = (s.m.updCore site (fun c => c.updHalf t (fun a =>
      { a with drains := a.drains.filter (fun q => q.1 != f.id) }))).halfCheck site t half f) ∧
  (∀ (s : State) (site slot : Nat) (q : Stream) (f : InFlight) (y : Module), siteOk site = true → slot < 16 →
    s.m.slotTurn site = some slot → y = s.m.updCore site (fun c => { c with lastSlot := slot }) → (y.core site).stream slot = some q →
    ((y.core site).th q.thread).find q.id = some f → q.cancelled = false → q.pos < stTotal q.desc → y.engineOn site q.thread = true →
    ∃ u, exec (.streamRequestIssue site slot) s = .next u ∧
      u.m = (if stPads q.desc then
          (if (y.core site).windowFits q (q.span 64 q.pos (64 - q.addr q.pos % 64)) then
            y.padRequest site slot q f (q.addr q.pos) (q.span 64 q.pos (64 - q.addr q.pos % 64)) else y)
        else if stLoad q.desc then y.loadRequest site slot q f (q.addr q.pos) else y.storeRequest site slot q f (q.addr q.pos))) ∧
  (∀ (s : State) (site slot : Nat), siteOk site = true → slot < 16 → s.m.slotTurn site ≠ some slot →
    ∃ u, exec (.streamRequestIssue site slot) s = .next u ∧ u = s) ∧
  (∀ (s : State) (site t a pa : Nat) (f : InFlight) (x : Module), siteThreadOk site t = true →
    ((s.m.core site).th t).flight.find? (fun f => f.cls == 1 && decide (f.next < khTotal f.bytes)) = some f → s.m.engineRuns site = true →
    ((s.m.core site).th t).sectors < (if (s.m.core site).split then 4 else 8) → s.m.khAddr site t f f.next = .ok a → a < 2 ^ 48 →
    s.m.demand site a (if khReads f.bytes then 3 else 4) = (x, .ok pa) →
    ∃ u, exec (.keyholeSectorIssue site t) s = .next u ∧ u.m = x.khSend site t f f.next a pa) ∧
  (∀ (s : State) (w : Walk) (site t n pa : Nat), w.wf = true → w.src = .keyhole site t n → s.m.walkHeld w.part w.va = false →
    s.m.walkWanted w = true → s.m.coreWalk site w.part w.va (accOf w.src w.write) = .ok pa →
    ∃ u, exec (.tableWalkComplete w) s = .next u ∧ u.m = (s.m.countWalk w.part).fillCore site w.part w.va ∧
      (u.m.part w.part).walks = sat64 (s.m.part w.part).walks 1) ∧
  (∀ (s : State) (w : Walk) (fn id : Nat) (f : CachedLeaf), w.wf = true → w.src = .host fn id → s.m.walkHeld w.part w.va = false →
    s.m.cachedLeaf .host w.part w.va = none → s.m.findLeaf w.part w.va = .ok f →
    ∃ u, exec (.tableWalkComplete w) s = .next u ∧ u.m = (s.m.countWalk w.part).fillLeaf .host f ∧
      (u.m.part w.part).walks = sat64 (s.m.part w.part).walks 1)

/-! ## Slices and bank-ops (chapters 2, 3) -/

/-- The slice controller's events (R16, R42, R46, R47, R54, R56, R59 to R63, R70, R71). A read waits at its slice, and one the slice refuses
is answered without data; a core's write to a slice out of service is answered so, a host's is dropped and accepted; one that nothing holds
back is accepted; an entry of age falls due unless its row is held; a refresh is done or postponed, and done at a gap or when eight are
owed; held rows are written when they may be, at P2; a host read that waits 1 ms at a group in Over is gone; a scrub visit passes over a
held row, and reads the next row once P4 is granted. -/
def Obligations.SliceEvents : Prop :=
  (∀ (s : State) (r : MemReq) (i : Instr), (r.row, i) ∈ [(false, .readSector r), (true, .readRow r)] → r.wf = true → r.write = false →
    s.m.refusedAt r.site r.src = true →
    ∃ t, exec i s = .next t ∧
      t.m.mem.responses = s.m.mem.responses ++ [⟨{ r with data := [] }, false, [], false⟩] ∧ t.m.mem.bytes = s.m.mem.bytes ∧
      t.m.mem.slices = s.m.mem.slices) ∧
  (∀ (s : State) (r : MemReq) (i : Instr), (r.row, i) ∈ [(false, .readSector r), (true, .readRow r)] → r.wf = true → r.write = false →
    s.m.refusedAt r.site r.src = false → (s.m.wakeSlice (clusterOf r.site)).takeHoldSlot r.site ⟨r, s.m.time⟩ = none →
    ∃ t, exec i s = .next t ∧
      t.m = (s.m.wakeSlice (clusterOf r.site)).updSlice r.site (fun x => { x with waiting := x.waiting ++ [⟨r, s.m.time⟩] })) ∧
  (∀ (s : State) (r : MemReq), r.wf = true → r.write = true → s.m.refusedAt r.site r.src = true →
    ∃ t, exec (.writePacket r) s = .next t ∧
      t.m.mem.responses = s.m.mem.responses ++ [⟨{ r with data := [] }, srcHost r.src, [], false⟩] ∧
      t.m.mem.bytes = s.m.mem.bytes ∧ t.m.mem.slices = s.m.mem.slices) ∧
  (∀ (s : State) (r : MemReq) (x : Module), r.wf = true → r.write = true → s.m.refusedAt r.site r.src = false →
    ((s.m.wakeSlice (clusterOf r.site)).slice r.site).selfRefresh = false →
    (∀ k ∈ ((s.m.wakeSlice (clusterOf r.site)).slice r.site).holdSlots ++ ((s.m.wakeSlice (clusterOf r.site)).slice r.site).waiting,
      inOrder k.req r = false) →
    (s.m.wakeSlice (clusterOf r.site)).acceptWrite r = some x →
    ∃ t, exec (.writePacket r) s = .next t ∧ (srcHost r.src = false → t.m = x.acceptOf r) ∧
      (srcHost r.src = true → t.m = (x.acceptOf r).hostHeld r)) ∧
  (∀ (s : State) (site row : Nat), siteOk site = true → row < 2 ^ 18 →
    ∃ t, exec (.mergeEntryAgeExpiry site row) s = .next t ∧ (s.m.rowHeld site row = true → t = s) ∧
      (s.m.rowHeld site row = false → (t.m.slice site).merge =
        modFirst (fun e => e.row == row) (fun e => { e with due := true }) (s.m.slice site).merge ∧ t.m.mem.bytes = s.m.mem.bytes)) ∧
  (∀ (s : State) (site bank : Nat), siteOk site = true → bank < 64 → (s.m.slice site).state ≠ 2 → (s.m.slice site).selfRefresh = false →
    ∃ t, exec (.refreshInterval site bank) s = .next t ∧
      SMap.get 0 (t.m.slice site).owed bank =
        (if s.m.bankRunning site bank then min 8 (SMap.get 0 (s.m.slice site).owed bank + 1) else 0) ∧
      (∀ b, b ≠ bank → SMap.get 0 (t.m.slice site).owed b = SMap.get 0 (s.m.slice site).owed b) ∧ t.m.mem.bytes = s.m.mem.bytes) ∧
  (∀ (s : State) (site bank : Nat), siteOk site = true → bank < 64 → s.m.bankBusy site bank = false →
    (8 ≤ SMap.get 0 (s.m.slice site).owed bank ∨
      ((∀ q ∈ (s.m.slice site).bankSeqs, q.inStep = false) ∧ (s.m.slice site).stepEndAt + 1 ≤ s.m.time)) →
    ∃ t, exec (.postponedRefreshForce site bank) s = .next t ∧ SMap.get 0 (t.m.slice site).owed bank = 0 ∧
      (∀ b, b ≠ bank → SMap.get 0 (t.m.slice site).owed b = SMap.get 0 (s.m.slice site).owed b) ∧ t.m.mem.bytes = s.m.mem.bytes) ∧
  (∀ (s : State) (site parity : Nat) (errs : List (Nat × Nat)), siteOk site = true →
    (∀ e ∈ (s.m.slice site).holdQueue, s.m.writable site e.row = false) →
    ∃ t, exec (.writeHoldDrain site parity errs) s = .next t ∧ t.m = s.m.reaccept site) ∧
  (∀ (s : State) (site parity r e : Nat) (errs : List (Nat × Nat)), siteOk site = true → s.m.noGrant site = false → parity < 3 →
    (s.m.slice site).choose (s.m.waitingMask site (s.m.p3Ready site)) = some 2 → s.m.nextOf site 2 = some (.drain r) →
    e = (match errs.find? (fun e => e.1 == r) with | some e => e.2 | none => 0) →
    ∃ t, exec (.writeHoldDrain site parity errs) s = .next t ∧
      t.m = (Module.drainHeld site errs 63 0 (((((s.m.noteGrant site 2 (s.m.waitingMask site (s.m.p3Ready site))).countRetries site
        (min parity 2)).runTrans site e (.drain r))).reaccept site)).reaccept site) ∧
  (∀ (s : State) (site : Nat), siteOk site = true →
    ∃ t, exec (.overHostReadTimeout site) s = .next t ∧
      ∀ w ∈ (t.m.slice site).holdSlots ++ (t.m.slice site).waiting,
        ¬ (w.req.write = false ∧ srcHost w.req.src = true ∧ s.m.rowHalted site (w.req.off / 2048) = true ∧ w.at_ + 1000 ≤ s.m.time)) ∧
  (∀ (s : State) (site parity errs r : Nat) (y : Module), siteOk site = true → (s.m.slice site).state ≠ 2 →
    (s.m.slice site).selfRefresh = false → s.m.mem.scrubHours ≠ 0 → s.m.bring.ready = true → (s.m.slice site).skipped = [] →
    r = (s.m.slice site).scrubRow → r < 2 ^ 18 → s.m.rowRetired site r = false → s.m.rowDonated site r = false →
    s.m.rowHeld site r = false → y = s.m.updSlice site (fun x => { x with scrubDue := true }) → y.noGrant site = false → parity < 3 →
    (y.slice site).choose (y.waitingMask site (y.p3Ready site)) = some 4 → y.nextOf site 4 = some (.scrub r) →
    ∃ t, exec (.scrubRowVisit site parity errs) s = .next t ∧
      t.m = ((((y.noteGrant site 4 (y.waitingMask site (y.p3Ready site))).countRetries site (min parity 2)).scrubRowAt site r errs 4).scrubPassed
        site r false).reaccept site) ∧
  (∀ (s : State) (site parity errs r : Nat), siteOk site = true → (s.m.slice site).state ≠ 2 → (s.m.slice site).selfRefresh = false →
    s.m.mem.scrubHours ≠ 0 → s.m.bring.ready = true → (s.m.slice site).skipped = [] → r = (s.m.slice site).scrubRow → r < 2 ^ 18 - 1 →
    s.m.rowRetired site r = false → s.m.rowDonated site r = false → s.m.rowHeld site r = true →
    ∃ t, exec (.scrubRowVisit site parity errs) s = .next t ∧ (t.m.slice site).scrubRow = r + 1 ∧ (t.m.slice site).skipped = [r] ∧
      t.m.mem.bytes = s.m.mem.bytes)

/-- Bank-ops (R43, R44, R105 to R128). A grant gives the slice to the class the arbiter chooses, and a transfer that fails after two
retries takes it out of service; a step starts for the first sequence that may, at a P3 grant where it opens a row or combines, and the
end of a part keeps its results and goes on or leaves the slice; a delivery queues the oldest broadcast at every slice of its deck; a
detour corrects the opened row at a P3 grant; a hold limit and a failed unit end or mark what they name; a completion removes the
sequence. -/
def Obligations.BankOpEvents : Prop :=
  (∀ (s : State) (site parity errs k : Nat) (x : Trans1), siteOk site = true → s.m.noGrant site = false →
    (s.m.slice site).choose (s.m.waitingMask site (s.m.p3Ready site)) = some k → k ≠ 3 → s.m.nextOf site k = some x → parity < 3 →
    ∃ t, exec (.columnTransactionGrant site parity errs) s = .next t ∧
      t.m = ((((s.m.noteGrant site k (s.m.waitingMask site (s.m.p3Ready site))).countRetries site (min parity 2)).runTrans site errs x)).reaccept site) ∧
  (∀ (s : State) (site k parity errs : Nat) (x : Trans1), siteOk site = true → s.m.noGrant site = false →
    (s.m.slice site).choose (s.m.waitingMask site (s.m.p3Ready site)) = some k → k ≠ 3 → s.m.nextOf site k = some x → 3 ≤ parity →
    ∃ t, exec (.columnTransactionGrant site parity errs) s = .next t ∧
      t.m = ((s.m.noteGrant site k (s.m.waitingMask site (s.m.p3Ready site))).countRetries site 2).failSlice site 0) ∧
  (∀ (s : State) (site parity errs : Nat), siteOk site = true → s.m.noGrant site = false → s.m.p3Data site = false →
    (s.m.slice site).choose (s.m.waitingMask site (s.m.p3Ready site)) = some 3 →
    ∃ t, exec (.columnTransactionGrant site parity errs) s = .next t ∧
      t.m = ((s.m.noteGrant site 3 (s.m.waitingMask site (s.m.p3Ready site))).runP3 site).reaccept site) ∧
  (∀ (s : State) (site parity errs : Nat), siteOk site = true → s.m.noGrant site = false → s.m.p3Data site = true → parity < 3 →
    (s.m.slice site).choose (s.m.waitingMask site (s.m.p3Ready site)) = some 3 →
    ∃ t, exec (.columnTransactionGrant site parity errs) s = .next t ∧
      t.m = (((s.m.noteGrant site 3 (s.m.waitingMask site (s.m.p3Ready site))).countRetries site (min parity 2)).runP3 site).reaccept site) ∧
  (∀ (s : State) (site parity : Nat) (q : SliceSeq) (b : BankSeq), siteOk site = true → s.m.startable site = some (q, b) →
    ((bkRec b.record).row || bkCombine (bkRec b.record)) = false →
    ∃ t, exec (.bankopStepStart site parity) s = .next t ∧ t.m = s.m.startStep site q b) ∧
  (∀ (s : State) (site parity : Nat), siteOk site = true → s.m.stepReady site = true → s.m.noGrant site = false → s.m.p3Data site = false →
    (s.m.slice site).choose (s.m.waitingMask site (s.m.p3Ready site)) = some 3 →
    ∃ t, exec (.bankopStepStart site parity) s = .next t ∧
      t.m = ((s.m.noteGrant site 3 (s.m.waitingMask site (s.m.p3Ready site))).runP3 site).reaccept site) ∧
  (∀ (s : State) (site parity k : Nat), siteOk site = true → s.m.stepReady site = true → k ≠ 3 →
    (s.m.slice site).choose (s.m.waitingMask site (s.m.p3Ready site)) = some k →
    ∃ t, exec (.bankopStepStart site parity) s = .next t ∧ t = s) ∧
  (∀ (s : State) (site : Nat) (par : List Nat) (q : SliceSeq) (b : BankSeq), siteOk site = true → s.m.bankStill site = false →
    (s.m.slice site).bankSeqs.find? (fun q => q.inStep && q.detours.isEmpty) = some q → s.m.seqOf q.id = some b →
    ∃ t, exec (.bankopStepEnd site par) s = .next t ∧ t.m = (s.m.endPart site q b par).reaccept site) ∧
  (∀ (s : State) (deck id : Nat) (rest : List Nat) (b : BankSeq), deck < Config.decks → SMap.get [] s.m.mem.transom deck = id :: rest →
    s.m.relocking (.deck deck) = false → s.m.seqOf id = some b →
    (∀ k ∈ b.pending, deckOf (clusterOf k) = deck → (s.m.slice k).bankSeqs.length < 8) →
    ∃ t, exec (.bankopDelivery deck) s = .next t ∧
      t.m = ((({ s.m with mem := { s.m.mem with transom := SMap.set [] s.m.mem.transom deck rest } } : Module).enqueue id
        (b.pending.filter (fun k => deckOf (clusterOf k) == deck))).updSeq id (fun x =>
          { x with undelivered := x.undelivered.filter (· != deck) })) ∧
      SMap.get [] t.m.mem.transom deck = rest) ∧
  (∀ (s : State) (site bank parity errs k : Nat) (q : SliceSeq) (b : BankSeq) (y : Module), siteOk site = true → bank < 64 →
    s.m.stepIn site bank = some (q, b, k) → bkReads (bkRec b.record) = true →
    s.m.rowSkipped site k ((bkRec b.record).first + q.step) = false →
    y = s.m.updSlice site (fun x => { x with
      bankSeqs := modFirst (fun z => z.id == q.id) (fun z => { z with detours := z.detours ++ [(k, errs)] }) x.bankSeqs }) →
    y.noGrant site = false → (y.slice site).choose (y.waitingMask site (y.p3Ready site)) = some 3 → y.p3Data site = true → parity < 3 →
    ∃ t, exec (.correctionDetour site bank parity errs) s = .next t ∧
      t.m = (((y.noteGrant site 3 (y.waitingMask site (y.p3Ready site))).countRetries site (min parity 2)).runP3 site).reaccept site) ∧
  (∀ (s : State) (site id : Nat) (q : SliceSeq) (b : BankSeq), siteOk site = true →
    s.m.heldSeqs site 0 (s.m.slice site).bankSeqs = [id] → (s.m.slice site).bankSeqs.find? (fun x => x.id == id) = some q →
    s.m.seqOf id = some b →
    ∃ t, exec (.bankopHoldLimit site) s = .next t ∧ (q.held < b.holdLimit * 1000 → t = s) ∧
      (b.holdLimit * 1000 ≤ q.held → t.m = (s.m.updSeq id (fun x => { x with
        status := if x.stop then x.status else worst x.status stThermalHold })).leaveSlice site id q.step true)) ∧
  (∀ (s : State) (site bank k : Nat) (q : SliceSeq) (b : BankSeq), siteOk site = true → bank < 64 → s.m.stepIn site bank = some (q, b, k) →
    bank ∉ (s.m.slice site).failedUnits →
    ∃ t, exec (.bankUnitTimeout site bank) s = .next t ∧ (t.m.slice site).failedUnits = (s.m.slice site).failedUnits ++ [bank] ∧
      t.m.mem.failedCount = s.m.mem.failedCount + 1 ∧ t.m.mem.bytes = s.m.mem.bytes) ∧
  (∀ (s : State) (id : Nat) (b : BankSeq), s.m.seqOf id = some b → b.pending = [] → b.core = none → b.cmd = none →
    ∃ t, exec (.bankopCompletion id) s = .next t ∧ t.m = s.m.closeSeq b ∧ ∀ q ∈ t.m.mem.seqs, q.id ≠ b.id) ∧
  (∀ (s : State) (id : Nat) (b : BankSeq) (site th f : Nat), s.m.seqOf id = some b → b.pending = [] → b.core = some (site, th, f) → b.cmd = none →
    ∃ t, exec (.bankopCompletion id) s = .next t ∧ t.m = (s.m.closeSeq b).bankDone b site th f) ∧
  (∀ (s : State) (id cmd : Nat) (b : BankSeq), s.m.seqOf id = some b → b.pending = [] → b.core = none → b.cmd = some cmd →
    ∃ t, exec (.bankopCompletion id) s = .next t ∧ t.m = (s.m.closeSeq b).complete cmd b.status b.detail)

/-! ## The host port: registers, rings (chapter 16) -/

/-- Registers of BAR0 (R8, R9, R472, R480, R510, R611, R612, R620, R623). A naturally aligned 32-bit or 64-bit access at an offset that is
served reaches its register; any other is refused and logged. A 32-bit read of a lower half latches the upper one; 0x3_0100 latches
the snapshot; DEV_WINDOW, the expert window and a core's CORE_CONTROL and fault registers take what their bits say. -/
def Obligations.HostRegisters : Prop :=
  (∀ (s : State) (fn off size v : Nat), fnOk fn = true → serves fn (off / 8 * 8) s.m → bar0Aligned off size = true → off + size ≤ bar0Size fn →
    ∃ t, exec (.registerWrite fn off size v) s = .next t ∧
      t.m = (s.m.unlatch fn).writeServed fn (off / 8 * 8) ((2 ^ (8 * size) - 1) * 2 ^ (8 * (off % 8)))
        (v % 2 ^ (8 * size) * 2 ^ (8 * (off % 8))) off size) ∧
  (∀ (s : State) (fn off v : Nat), fnOk fn = true → serves fn off s.m → off % 8 = 0 → off + 8 ≤ bar0Size fn → ¬ (fn = 0 ∧ off = 0x30100) →
    quietPort fn s.m → v = ((s.m.unlatch fn).readBar0 fn off).toNat →
    ∃ t, exec (.lowerHalfRead fn off) s = .next t ∧ (t.m.func fn).latch = some (off, v / 2 ^ 32) ∧ returned fn (leBytes 4 v) false s.m t.m) ∧
  (∀ (s : State) (fn off h : Nat), fnOk fn = true → serves fn off s.m → off % 8 = 0 → off + 8 ≤ bar0Size fn → (s.m.func fn).latch = some (off, h) →
    quietPort fn s.m →
    ∃ t, exec (.lowerHalfRead fn (off + 4)) s = .next t ∧ (t.m.func fn).latch = none ∧ returned fn (leBytes 4 h) false s.m t.m) ∧
  (∀ (s : State), serves 0 0x30100 s.m → quietPort 0 s.m →
    ∃ t, exec (.telSnapshotLatch 0) s = .next t ∧ t.m.port.telLatch = some (s.m.unlatch 0).snapshot) ∧
  (∀ (s : State) (fn off size : Nat), fnOk fn = true → barOpen fn s.m → 0 < size → size ≤ 4096 → bar0Aligned off size = false →
    off + size ≤ bar0Size fn →
    (∃ t, exec (.bar0MisalignedAccess fn off size true) s = .next t ∧ t.m = (s.m.unlatch fn).accessError fn 0 off size) ∧
    (quietPort fn s.m →
      ∃ t, exec (.bar0MisalignedAccess fn off size false) s = .next t ∧
        returned fn (List.replicate size 0xFF) false ((s.m.unlatch fn).accessError fn 0 off size) t.m)) ∧
  (∀ (s : State) (fn off size : Nat), fnOk fn = true → barOpen fn s.m → 0 < size → size ≤ 4096 → off + size ≤ bar0Size fn →
    (fn = 0 → pfUndecoded (off / 8 * 8) = true) → (fn ≠ 0 → vfDecoded (off / 8 * 8) = false) →
    (∃ t, exec (.undecodedBar0Access fn off size true) s = .next t ∧ t.m = (s.m.unlatch fn).accessError fn 0 off size) ∧
    (quietPort fn s.m →
      ∃ t, exec (.undecodedBar0Access fn off size false) s = .next t ∧
        returned fn (List.replicate size 0xFF) false ((s.m.unlatch fn).accessError fn 0 off size) t.m)) ∧
  (∀ (s : State) (fn v : Nat), fnOk fn = true → serves fn 0x38 s.m →
    ∃ t, exec (.devWindowWrite fn v) s = .next t ∧ (t.m.func fn).window = v / 2 ^ 30 % 2 ^ 18 * 2 ^ 30 ∧ t.m.mem = s.m.mem ∧
      t.m.cores = s.m.cores) ∧
  (∀ (s : State) (v : Nat), serves 0 0x18 s.m → bitOf s.m.engine.rights 0 = true →
    ∃ t, exec (.expertWindowWrite 0 v) s = .next t ∧ t.m.engine = { s.m.engine with expertWindow := bitOf v 0 }) ∧
  (∀ (s : State) (site : Nat) (w : Nat), siteOk site = true → serves 0 (coreReg site 0x10) s.m → s.m.windowOk (site / 1024) = true →
    s.m.engine.expertWindow = true → (s.m.core site).enabled = true → w = (s.m.readCore site 0x10).toNat →
    let keep (x : Module) : Module := x.updCore site (fun c => { c with holdOnFault := bitOf w 3, stallSelect := bitsOf w 5 4 })
    let m := s.m.unlatch 0
    (s.m.resetting site = false →
      (∃ t, exec (.resetCore 0 site) s = .next t ∧ t.m = keep ((m.localReset site).fenceMarked site)) ∧
      (∃ t, exec (.resetThread0 0 site) s = .next t ∧ t.m = keep ((m.threadReset site 0).fenceMarked site)) ∧
      (∃ t, exec (.resetThread1 0 site) s = .next t ∧ t.m = keep ((m.threadReset site 1).fenceMarked site))) ∧
    (∃ t, exec (.stallLatch 0 site) s = .next t ∧ (t.m.core site).latched = (s.m.core site).stalls ∧
      (t.m.core site).latchedCycles = (s.m.core site).cycles ∧ (t.m.core site).stalls = (s.m.core site).stalls) ∧
    (∃ t, exec (.stallClear 0 site) s = .next t ∧ (t.m.core site).stalls = [] ∧ (t.m.core site).cycles = 0 ∧
      (t.m.core site).prefetchDrops = 0)) ∧
  (∀ (s : State) (site thread : Nat), siteThreadOk site thread = true → serves 0 (coreReg site (0x40 + 8 * thread)) s.m →
    s.m.windowOk (site / 1024) = true → s.m.engine.expertWindow = true →
    ∃ t, exec (.coreFaultValidClear 0 site thread) s = .next t ∧
      t.m = (s.m.unlatch 0).updCore site (fun c => c.updTh thread (fun x => { x with faultValid := false })))

/-- Rings (R484, R486, R488 to R490, R511). A doorbell sets the tail once the function's earlier writes are accepted; a tail at or above the
size is misuse. A head inside what is written is taken, enable from 0 to 1 starts a ring whose registers are in order with every
pointer 0 and enable to 0 stops it, keeping them; the physical function writes no other partition's work ring; the port takes the entry at the head of the letterbox whose turn it is, and an
opcode outside the table is answered at once; the oldest completion leaves for its ring. -/
def Obligations.HostRings : Prop :=
  (∀ (s : State) (fn v : Nat), fnOk fn = true → serves fn 0x10010 s.m → quietPort fn s.m → v % 4096 < (s.m.ring (.letter fn)).size →
    ∃ t, exec (.ltrCmdTailWrite fn v) s = .next t ∧ t.m.ring (.letter fn) = { s.m.ring (.letter fn) with tail := v % 4096 }) ∧
  (∀ (s : State) (fn v : Nat), fnOk fn = true → serves fn (ringSeen fn (.work fn) + 0x10) s.m →
    quietPort fn s.m → v % 4096 < (s.m.ring (.work fn)).size →
    ∃ t, exec (.wrkSubTailWrite fn fn v) s = .next t ∧ t.m.ring (.work fn) = { s.m.ring (.work fn) with tail := v % 4096 }) ∧
  (∀ (s : State) (part v : Nat), partOk part = true → part ≠ 0 → serves 0 (ringSeen 0 (.work part) + 0x10) s.m →
    ∃ t, exec (.wrkSubTailWrite 0 part v) s = .next t ∧
      t.m = (s.m.unlatch 0).accessError 0 0 (ringSeen 0 (.work part) + 0x10) 8) ∧
  (∀ (s : State) (fn v : Nat) (r : Ring), fnOk fn = true → r.wf = true → ringFn r = fn → serves fn (ringSeen fn r + 0x30) s.m →
    (s.m.ring r).headOk (v % 4096) = true →
    ∃ t, exec (.completionHeadWrite fn r v) s = .next t ∧ t.m.ring r = { s.m.ring r with cplHead := v % 4096 }) ∧
  (∀ (s : State) (fn : Nat) (r : Ring), fnOk fn = true → r.wf = true → ringFn r = fn → serves fn (ringSeen fn r + 0x40) s.m →
    (s.m.ring r).enable = false → (s.m.ring r).canEnable = true →
    ∃ t, exec (.ringEnable fn r) s = .next t ∧
      t.m.ring r = { s.m.ring r with enable := true, head := 0, tail := 0, cplHead := 0, cplTail := 0, seq := 0 }) ∧
  (∀ (s : State) (fn : Nat) (r : Ring), fnOk fn = true → r.wf = true → ringFn r = fn → serves fn (ringSeen fn r + 0x40) s.m →
    (s.m.ring r).enable = true →
    ∃ t, exec (.ringDisable fn r) s = .next t ∧ t.m.ring r = { s.m.ring r with enable := false }) ∧
  (∀ (s : State) (fn : Nat) (b : List Byte), s.m.nextLetter = some fn → b.length = 64 → getLe b 0 1 ∈ knownOpcodes →
    ∃ (t : State) (q : CmdSlot), exec (.letterboxEntryTake (some b)) s = .next t ∧ t.m.engine.cmds = s.m.engine.cmds ++ [q] ∧
      q.fn = fn ∧ q.opcode = getLe b 0 1 ∧ q.tag = getLe b 2 2 ∧ q.phase = .taken ∧ q.reserved = true ∧
      t.m.engine.rotation = (fn + 1) % 64 ∧ (t.m.ring (.letter fn)).head = ((s.m.ring (.letter fn)).head + 1) % max (s.m.ring (.letter fn)).size 1 ∧
      (t.m.ring (.letter fn)).taken = (s.m.ring (.letter fn)).taken + 1) ∧
  (∀ (s : State) (fn : Nat), s.m.nextLetter = some fn →
    ∃ t, exec (.letterboxEntryTake none) s = .next t ∧ (t.m.ring (.letter fn)).enable = false ∧ (t.m.ring (.letter fn)).error = true ∧
      t.m.engine.cmds = s.m.engine.cmds) ∧
  (∀ (s : State) (r : Ring) (c : Cpl) (rest : List Cpl), r.wf = true → s.m.port.linkUp = true →
    takeFirst (fun (c : Cpl) => c.ring == r) s.m.port.cpls = some (c, rest) → c.ring = r →
    mayRequest (ringFn r) s.m → (s.m.ring r).cplSize ≠ 0 → (s.m.ring r).mirrorOn = false → c.vector = none →
    ∃ t, exec (.completionWrite r) s = .next t ∧ t.m.port.cpls = rest ∧
      t.m.port.out = s.m.port.out ++ [.memWrite (ringFn r) ((s.m.ring r).cplBase + (s.m.ring r).cplTail * ringCplBytes r) c.bytes false] ∧
      (t.m.ring r).cplTail = ((s.m.ring r).cplTail + 1) % (s.m.ring r).cplSize)

/-- Requests to BAR2 and BAR4, configuration space, and requests that are refused (R16, R230, R477, R479, R482, R483, R499). A BAR2 read
goes out to the slices in parts and waits for them, and one no route carries comes back poisoned, each part's leaf in the port's cache; a
write is handed to them; one whose way is closed for now, or whose walk firmware holds, waits; one outside what the function may reach is
refused;
BAR4 reads and writes scratchpad words; a virtual function has no BAR4. -/
def Obligations.HostRequests : Prop :=
  (∀ (s : State) (fn off len : Nat), fnOk fn = true → barOpen fn s.m → 0 < len → len ≤ 4096 → off + len ≤ s.m.bar2Size fn →
    s.m.bring.ready = true → s.m.badHit fn false (cuts 2048 (s.m.bar2Base fn + off) len) = none →
    let a := s.m.bar2Base fn + off
    let reqs := (cuts 2048 a len).flatMap (fun p => readReqs (s.m.hostPa fn p.1 false) p.2)
    let ids := (List.range reqs.length).map (fun i => s.m.port.nextId + i)
    s.m.hostWalkHeld fn (cuts 2048 a len) = false → (∀ r ∈ reqs, s.m.hostWaits (siteOfAddr r.1) r.1 = false) →
    let x := s.m.hostLookups fn (cuts 2048 a len)
    ∃ t, exec (.bar2Read fn off len) s = .next t ∧
      t.m = (ids.zip reqs).foldl (fun (acc : Module) r =>
          if acc.hostLost (siteOfAddr r.2.1) r.2.1 then
            (({ acc with free := acc.free + 1 }).hostLoss (siteOfAddr r.2.1) r.2.1).hostData fn r.1 (acc.unknown (if r.2.2 then 2048 else 64)) true
          else acc.readArrives ⟨siteOfAddr r.2.1, offOfAddr r.2.1, 0, .host fn r.1, false, r.2.2, [], false⟩)
        { x with port := { x.port with
            nextId := s.m.port.nextId + reqs.length
            reads := x.port.reads ++ [⟨fn, if (reqs.headD (0, true)).2 then 0 else a % 64, len, ids.map (fun i => (i, none)), false⟩] } }) ∧
  (∀ (s : State) (fn off len : Nat), fnOk fn = true → barOpen fn s.m → 0 < len → len ≤ 4096 → off + len ≤ s.m.bar2Size fn →
    s.m.bring.ready = false → quietPort fn s.m →
    ∃ t, exec (.bar2Read fn off len) s = .next t ∧ returned fn (List.replicate len 0xFF) false (s.m.accessError fn 2 off len) t.m) ∧
  (∀ (s : State) (off : Nat) (data : List Byte), barOpen 0 s.m → 0 < data.length →
    (s.m.bar2Base 0 + off) % 2048 + data.length ≤ 2048 → off + data.length ≤ s.m.bar2Size 0 → s.m.bring.ready = true →
    s.m.hostHit 0 (s.m.bar2Base 0 + off) true = .ok (s.m.bar2Base 0 + off) →
    s.m.hostWaits (siteOfAddr (s.m.bar2Base 0 + off)) (s.m.bar2Base 0 + off) = false →
    s.m.hostLost (siteOfAddr (s.m.bar2Base 0 + off)) (s.m.bar2Base 0 + off) = false →
    ∃ t, exec (.bar2Write 0 off data) s = .next t ∧
      t.m = ({ s.m with port := { s.m.port with nextId := s.m.port.nextId + 1 } } : Module).writeArrives
        ⟨siteOfAddr (s.m.bar2Base 0 + off), offOfAddr (s.m.bar2Base 0 + off), 2, .host 0 s.m.port.nextId, true, decide (data.length = 2048), data, false⟩) ∧
  (∀ (s : State) (off : Nat) (data : List Byte), barOpen 0 s.m → 0 < data.length → data.length ≤ 4096 →
    (s.m.bar2Base 0 + off) % 2048 + data.length ≤ 2048 → off + data.length ≤ s.m.bar2Size 0 → s.m.bring.ready = true →
    s.m.hostHit 0 (s.m.bar2Base 0 + off) true = .ok (s.m.bar2Base 0 + off) →
    s.m.hostWaits (siteOfAddr (s.m.bar2Base 0 + off)) (s.m.bar2Base 0 + off) = true →
    ∃ t, exec (.bar2Write 0 off data) s = .next t ∧
      t.m.net.heldCmds = s.m.net.heldCmds ++ [(s.m.port.nextId, .bar2Write 0 off data)] ∧ t.m.mem = s.m.mem) ∧
  (∀ (s : State) (fn off : Nat) (data : List Byte), fnOk fn = true → barOpen fn s.m → 0 < data.length → data.length ≤ 4096 →
    off + data.length ≤ s.m.bar2Size fn → s.m.bring.ready = true →
    s.m.hostWalkHeld fn (cuts 2048 (s.m.bar2Base fn + off) data.length) = true →
    ∃ t, exec (.bar2Write fn off data) s = .next t ∧ t.m = s.m.holdCmd (.bar2Write fn off data)) ∧
  (∀ (s : State) (fn off : Nat) (data : List Byte) (b : Nat) (h : Hit), fnOk fn = true → barOpen fn s.m → 0 < data.length → data.length ≤ 4096 →
    off + data.length ≤ s.m.bar2Size fn → s.m.bring.ready = true →
    let ps := cuts 2048 (s.m.bar2Base fn + off) data.length
    s.m.hostWalkHeld fn ps = false → s.m.badHit fn true ps = some (b, h) →
    ∃ t, exec (.bar2Write fn off data) s = .next t ∧ t.m = (s.m.hostLookups fn ps).logHit fn off data.length b true h) ∧
  (∀ (s : State) (off : Nat), barOpen 0 s.m → off % 8 = 0 → off + 8 ≤ bar4Size → s.m.bring.ready = true → s.m.padOpen off = true → quietPort 0 s.m →
    s.m.hostWaits (off / 2 ^ 23) off = false → s.m.hostLost (off / 2 ^ 23) off = false →
    ∃ t, exec (.bar4Read 0 off 8) s = .next t ∧
      t.m = ((s.m.padWordRead 0 off 8).1).hostReply 0 (s.m.padWordRead 0 off 8).2.1 (s.m.padWordRead 0 off 8).2.2) ∧
  (∀ (s : State) (off : Nat) (data : List Byte), barOpen 0 s.m → off % 8 = 0 → data.length = 8 → off + 8 ≤ bar4Size → s.m.bring.ready = true →
    s.m.padOpen off = true → s.m.hostWaits (off / 2 ^ 23) off = false → s.m.hostLost (off / 2 ^ 23) off = false →
    ∃ t, exec (.bar4Write 0 off data) s = .next t ∧
      t.m = (s.m.wake (clusterOf (off / 2 ^ 23))).padExternal (off / 2 ^ 23) (off % 2 ^ 23 / 2 ^ 21) (off % 2 ^ 21) data false 6 0x8000) ∧
  (∀ (s : State) (fn off len : Nat) (data : List Byte), fnOk fn = true → fn ≠ 0 → barOpen fn s.m → 0 < len → len ≤ 4096 → 0 < data.length →
    data.length ≤ 4096 →
    (∃ t, exec (.bar4Read fn off len) s = .next t ∧ t.m = s.m.answer (.unsupported fn)) ∧
    (∃ t, exec (.bar4Write fn off data) s = .next t ∧ t.m = s.m.answer (.unsupported fn))) ∧
  (∀ (s : State) (fn kind : Nat), fnOk fn = true → s.m.port.perst = false → s.m.port.linkUp = true →
    ∃ t, exec (.unsupportedRequest fn kind) s = .next t ∧ t.m.port.out = s.m.port.out ++ [.unsupported fn, .aer fn kind]) ∧
  (∀ (s : State) (fn bar off : Nat) (data : List Byte), fnOk fn = true → bar = 0 ∨ bar = 2 ∨ bar = 4 → barOpen fn s.m → 0 < data.length →
    data.length ≤ 4096 →
    ∃ t, exec (.poisonedTlpWrite fn bar off data) s = .next t ∧
      (bar = 0 → t.m = s.m.answer (.aer fn aerPoisoned)) ∧ (bar = 2 → t.m = (s.m.answer (.aer fn aerPoisoned)).bar2Put fn off data true (.poisonedTlpWrite fn bar off data)) ∧
      (bar = 4 → t.m = (s.m.answer (.aer fn aerPoisoned)).bar4Put fn off data true (.poisonedTlpWrite fn bar off data))) ∧
  (∀ (s : State) (fn v : Nat), fnOk fn = true → s.m.port.perst = false → s.m.port.linkUp = true → s.m.port.cfgReady = true → fn ≤ s.m.port.numVfs →
    (∃ t, exec (.configurationRequest fn true 0x84 v) s = .next t ∧ t.m.port.out.length > s.m.port.out.length ∧
      (t.m.func fn).d3hot = (v % 4 == 3)) ∧
    (∃ t, exec (.configurationRequest fn false 0x84 v) s = .next t ∧
      returned fn (leBytes 4 (if (s.m.func fn).d3hot then 3 else 0)) false s.m t.m)) ∧
  (∀ (s : State) (fn reg v : Nat) (wr : Bool), fnOk fn = true → reg < 4096 → s.m.port.perst = false → s.m.port.linkUp = true →
    s.m.port.cfgReady = false →
    ∃ t, exec (.configurationRequest fn wr reg v) s = .next t ∧ t.m = s.m.answer (.retry fn))

/-! ## The dispatcher, contexts, stops of work, waiting commands (chapters 8, 10, 16) -/

/-- The dispatcher and the copies (R131, R265 to R270, R488, R490 to R497). A packet at the head of a ring takes the ring's sequence number and
waits, or completes at once with the status of R497; a PROGRAM packet makes its one item, a length table is read and makes an item
per position; an item starts on a thread that may take it with the next context number; a copy sends its next request, data that
have arrived go on, and a read that never returns ends it. -/
def Obligations.DispatcherEvents : Prop :=
  (∀ (s : State) (part : Nat) (b : List Byte), partOk part = true → b.length = 128 → s.m.takeReady part = true →
    s.m.outranked part s.m.parts.lastTake s.m.takeReady = false →
    let m2 := (((s.m.tookTurn part).answer (.memRead part ((s.m.ring (.work part)).base + (s.m.ring (.work part)).head * 128) 128)).takeEntry (.work part)).updRing
      (.work part) (fun r => { r with seq := (r.seq + 1) % 2 ^ 64 })
    m2.packetRefusal part b = none →
    ∃ (t : State) (p : Packet), exec (.workPacketTake part (some b)) s = .next t ∧ (t.m.part part).packets = (s.m.part part).packets ++ [p] ∧
      p.seq = (s.m.ring (.work part)).seq ∧ p.bytes = b ∧ p.started = false ∧ p.done = false ∧
      (t.m.ring (.work part)).seq = ((s.m.ring (.work part)).seq + 1) % 2 ^ 64 ∧
      (t.m.ring (.work part)).head = ((s.m.ring (.work part)).head + 1) % max (s.m.ring (.work part)).size 1) ∧
  (∀ (s : State) (part st : Nat) (b : List Byte), partOk part = true → b.length = 128 → s.m.takeReady part = true →
    s.m.outranked part s.m.parts.lastTake s.m.takeReady = false →
    let m2 := (((s.m.tookTurn part).answer (.memRead part ((s.m.ring (.work part)).base + (s.m.ring (.work part)).head * 128) 128)).takeEntry (.work part)).updRing
      (.work part) (fun r => { r with seq := (r.seq + 1) % 2 ^ 64 })
    m2.packetRefusal part b = some st →
    ∃ t, exec (.workPacketTake part (some b)) s = .next t ∧ (t.m.part part).packets = (s.m.part part).packets ∧
      ∃ k : Cpl, k ∈ t.m.port.cpls ∧ k.ring = .work part ∧ k.reserved = true) ∧
  (∀ (s : State) (part seq site : Nat) (p : Packet), partOk part = true → s.m.packet part seq = some p → p.kind = 0 →
    s.m.packetMayStart part p = true → s.m.creating part = true → s.m.programSite part p.bytes = some site → s.m.queueRoom site = true →
    ∃ t, exec (.program part seq) s = .next t ∧
      t.m = ((s.m.createdTurn part).updPacket part seq (fun p => { p with
          started := true, done := true, info := [site, wpThread p.bytes, 0xFFFF] })).queueItem site (s.m.programItem part p)) ∧
  (∀ (s : State) (part seq : Nat) (p : Packet) (h bs : List Byte), partOk part = true → s.m.packet part seq = some p → p.kind = 1 →
    s.m.packetMayStart part p = true → s.m.dispatching = true → s.m.tableRead part (wpAddr p.bytes) 64 = .ok h → headerOk h = true →
    (s.m.lookedUp .dispatcher part (wpAddr p.bytes)).readPlaces part h = .ok bs →
    let es := (List.range (ltGroups h)).map (fun g => getLe bs (8 * g) 8)
    es.all (s.m.placeOk part) = true → (es.map s.m.placeCores).any (·.isEmpty) = false →
    ∃ t, exec (.lengthTable part seq) s = .next t ∧
      t.m = ((s.m.lookedUp .dispatcher part (wpAddr p.bytes)).placesLookedUp part h).updPacket part seq (fun p => { p with
        started := true, header := h, lists := es.map s.m.placeCores, pos := [0, 0, 0, 0] })) ∧
  (∀ (s : State) (part seq : Nat) (p : Packet), partOk part = true → s.m.packet part seq = some p → p.kind = 1 →
    s.m.packetMayStart part p = true → s.m.dispatching = true → s.m.tableRead part (wpAddr p.bytes) 64 = .poison →
    ∃ t, exec (.lengthTable part seq) s = .next t ∧ t.m = (s.m.lookedUp .dispatcher part (wpAddr p.bytes)).refusePacket part seq stPoisoned) ∧
  (∀ (s : State) (part seq : Nat) (p : Packet) (e : List Byte), partOk part = true → s.m.packet part seq = some p → p.kind = 1 →
    p.started = true → p.done = false → s.m.creating part = true →
    s.m.tableRead part (wpAddr p.bytes + 64 + 32 * nth 0 p.pos 0) 32 = .ok e →
    ∃ t, exec (.itemCreation part seq) s = .next t ∧ t.m = (s.m.lookedUp .dispatcher part (wpAddr p.bytes + 64 + 32 * nth 0 p.pos 0)).createAt part p e) ∧
  (∀ (s : State) (part seq : Nat) (p : Packet) (k : Chunk), partOk part = true → s.m.packet part seq = some p →
    p.chunks.find? (fun k => k.left == 0) = some k → k.ok = true → s.m.creating part = true → s.m.queueRoom k.site = true →
    ∃ t, exec (.mergeItemCreation part seq) s = .next t ∧
      t.m = ((s.m.createdTurn part).updPacket part seq (fun p => { p with
        chunks := p.chunks.filter (fun x => x.triple != k.triple) })).queueItem k.site k.item) ∧
  (∀ (s : State) (site t : Nat) (it : Item) (rest : List Item), siteThreadOk site t = true → s.m.dispatching = true →
    s.m.runs (clusterOf site) = true → (s.m.cl (clusterOf site)).functionView = false → s.m.resetting site = false → (s.m.core site).takesWork t = true → ((s.m.core site).th t).halted = false →
    takeFirst (fun (it : Item) => it.thread == t) (s.m.core site).queue = some (it, rest) → s.m.modeFits site it = true →
    ∃ u, exec (.itemStart site t) s = .next u ∧ u.m = (s.m.updCore site (fun c => { c with queue := rest })).startItem site t it) ∧
  (∀ (s : State) (part seq pa : Nat) (p : Packet), partOk part = true → s.m.packet part seq = some p → p.kind = 2 → s.m.copyGoes part p = true →
    s.m.walkHeld part (wpAddr p.bytes + p.moved) = false → s.m.lookup .host part (wpAddr p.bytes + p.moved) 4 = .ok pa →
    let n := copyChunk p (s.m.maxRead part)
    ∃ t, exec (.copyIn part seq) s = .next t ∧
      t.m = (((if p.started then s.m else s.m.copyTurn part).lookedUp .host part (wpAddr p.bytes + p.moved)).updPacket part p.seq (fun p => { p with
          started := true, pos := [n, pa] })).answer (.memRead part (copyHost p + p.moved) n)) ∧
  (∀ (s : State) (part seq pa : Nat) (p : Packet), partOk part = true → s.m.packet part seq = some p → p.kind = 3 → s.m.copyGoes part p = true →
    s.m.walkHeld part (wpAddr p.bytes + p.moved) = false → s.m.lookup .host part (wpAddr p.bytes + p.moved) 3 = .ok pa →
    let n := copyChunk p (s.m.maxRead part)
    ∃ t, exec (.copyOut part seq) s = .next t ∧
      t.m = (((if p.started then s.m else s.m.copyTurn part).lookedUp .host part (wpAddr p.bytes + p.moved)).updPacket part p.seq (fun p => { p with
          started := true, pos := [n, pa] })).readArrives
        ⟨siteOfAddr pa, offOfAddr pa, 2, .copy part seq, false, decide (n = 2048), [], false⟩) ∧
  (∀ (s : State) (part n pa : Nat) (p : Packet) (bs : List Byte) (ep : Bool), partOk part = true → s.m.copyWaiting part = some p →
    p.pos = [n, pa] → bs.length = n →
    ∃ t, exec (.copyHostDataArrival part (some bs) ep) s = .next t ∧
      t.m = (s.m.updPacket part p.seq (fun p => { p with
          pos := [n, pa, 1], status := if ep then worst p.status stPoisoned else p.status })).writeArrives
        ⟨siteOfAddr pa, offOfAddr pa, 2, .copy part p.seq, true, decide (n = 2048), bs, ep⟩) ∧
  (∀ (s : State) (part : Nat) (p : Packet) (ep : Bool), partOk part = true → s.m.copyWaiting part = some p →
    (∃ t, exec (.copyHostDataArrival part none ep) s = .next t ∧ t.m = s.m.endCopy part p.seq stHostError []) ∧
    (∃ t, exec (.completionTimeout (.work part) true) s = .next t ∧ t.m = s.m.endCopy part p.seq stHostError [])) ∧
  (∀ (s : State) (r : Ring), r.wf = true → s.m.ringReadable r = true →
    ∃ t, exec (.completionTimeout r false) s = .next t ∧ (t.m.ring r).enable = false ∧ (t.m.ring r).error = true)

/-- Contexts, stops, layouts, waiting commands and arrivals (R301, R319, R337, R340, R341, R345, R354 to R356, R513, R77). A quantum that
expires with work waiting starts the switch, or makes it due where the slice is held; the switch saves the context and restores the
other; a core not quiet after 1 ms keeps its context. DRAIN ends when nothing is in flight, or goes on as an ABORT; a layout takes
effect, or the old one stands; commands that waited run, or end with ST_BUSY; data and acceptances reach their requester once their way
is open, and the loss of a router ends what an endpoint had outstanding across it. -/
def Obligations.ContextAndStopEvents : Prop :=
  (∀ (s : State) (site t : Nat) (it : Item), siteThreadOk site t = true → ((s.m.core site).th t).item = some it →
    (s.m.part it.part).quantum ≠ 0xFF → s.m.running site t = true → s.m.switchWanted site t = true →
    ∃ u, exec (.quantumExpiry site t) s = .next u ∧
      u.m = (if s.m.switchHeld site then s.m.updCore site (fun c => { c with due := insertNew t c.due })
        else s.m.updCore site (fun c => { c with switching := insertNew t c.switching }))) ∧
  (∀ (s : State) (site t : Nat) (it : Item) (k : SavedCtx), siteThreadOk site t = true → ((s.m.core site).th t).item = some it →
    t ∈ (s.m.core site).switching → (s.m.core site).quiet t = true → s.m.clocked site = true → s.m.resetting site = false →
    (s.m.core site).savedOf t = some k → (s.m.core site).canResume t k = true →
    ∃ u, exec (.contextSwitch site t) s = .next u ∧
      u.m = ((s.m.saveCtx site t it).restoreCtx site t k (s.m.imageBytes site k.split t) (s.m.imagePoison site k.split t)).countSwitch it.part) ∧
  (∀ (s : State) (site t : Nat) (it nx : Item) (rest : List Item), siteThreadOk site t = true → ((s.m.core site).th t).item = some it →
    t ∈ (s.m.core site).switching → (s.m.core site).quiet t = true → s.m.clocked site = true → s.m.resetting site = false →
    (s.m.core site).savedOf t = none → s.m.nextItem site t = some (nx, rest) → s.m.dispatching = true →
    (s.m.cl (clusterOf site)).functionView = false → (s.m.core site).scratch.phase ≠ 100 →
    ∃ u, exec (.contextSwitch site t) s = .next u ∧
      u.m = (((s.m.saveCtx site t it).countSwitch it.part).updCore site (fun c => { c with queue := rest })).startItem site t nx) ∧
  (∀ (s : State) (site : Nat), siteOk site = true → s.m.switchHeld site = false →
    ∃ u, exec (.switchRecheck site) s = .next u ∧ (u.m.core site).due = [] ∧
      ∀ t ∈ (s.m.core site).switching, t ∈ (u.m.core site).switching) ∧
  (∀ (s : State) (site t : Nat) (it : Item), siteOk site = true → (s.m.core site).switching = [t] → (s.m.core site).quiet t = false →
    ((s.m.core site).th t).item = some it →
    ∃ u, exec (.switchDeferral site) s = .next u ∧ (u.m.core site).switching = [] ∧
      (u.m.part it.part).deferred = sat64 (s.m.part it.part).deferred 1) ∧
  (∀ (s : State) (t : Target) (q : Stop), t.wf = true → s.m.stopOf t = some q → q.abort = false → s.m.targetIdle q.cmds t = true →
    ∃ u, exec (.drainComplete t) s = .next u ∧ u.m = s.m.stopEnds q) ∧
  (∀ (s : State) (t : Target) (q : Stop), t.wf = true → s.m.stopOf t = some q → q.abort = true → s.m.abortIdle t = true →
    ∃ u, exec (.abortComplete t) s = .next u ∧ u.m = s.m.stopEnds q) ∧
  (∀ (s : State) (p : Nat) (q : Stop), partOk p = true → s.m.stopOf (.partition p) = some q → q.abort = false →
    let m3 := (((s.m.updStop (.partition p) (fun x => { x with abort := true })).updPart p (fun x => { x with state := 4 })).abortTarget (.partition p))
    ∃ (u : State) (n : Nat), exec (.drainTimeout (.partition p)) s = .next u ∧
      u.m = m3.prtEvent 0x42 (s.m.stopPlace q).1 0 (if (s.m.stopPlace q).1 < 64 then (s.m.stopPlace q).1 else 0) (s.m.stopPlace q).2.1 0 0
        (s.m.stopPlace q).2.2 n) ∧
  (∀ (s : State) (l : LayoutRun), s.m.parts.layout = some l → s.m.fillHeld l.clusters = false → l.create = true →
    let m3 := ((((s.m.fillClusters l.clusters l.part (s.m.part l.part).strength).updCls l.clusters (fun k => { k with owner := some l.part, target := 4 })).nextLayout
      l.part).updPart l.part (fun p => { p with state := 2 })).checkPool l.part
    ∃ u, exec .layoutCommit s = .next u ∧
      u.m = m3.layoutDone l stOk (d4 (m3.coresOfPart l.part).length ++ d4 (m3.slicesOfPart l.part).length) ∧
      m3.epochs.epoch = (s.m.epochs.epoch + 1) % 2 ^ 32 ∧ m3.epochs.layoutEpoch = m3.epochs.epoch ∧ (m3.part l.part).state = 2) ∧
  (∀ (s : State) (l : LayoutRun) (missing : Nat), missing < 65536 → s.m.parts.layout = some l → l.create = false →
    ∃ u, exec (.layoutAckTimeout missing) s = .next u ∧
      u.m = ((({ s.m with parts := { s.m.parts with layout := none } } : Module).updPart l.part (fun p => { p with state := 5 })).prtEvent 0x45 l.part 0
        l.part missing 0 0 0xFFFF 0).layoutDone l stHwError []) ∧
  (∀ (s : State) (part extent : Nat) (x : Nat × Nat) (r : Module × Nat), partOk part = true → (s.m.part part).pool[extent]? = some x →
    s.m.extentOk x.1 = false → (s.m.part part).nodes.any (fun n => decide (x.1 ≤ n.1 ∧ n.1 < x.1 + x.2 * 65536)) = true →
    s.m.moveNodes part (fun a => decide (x.1 ≤ a ∧ a < x.1 + x.2 * 65536)) = .ok r →
    ∃ u, exec (.poolNodeRelocation part extent) s = .next u ∧ u.m = (r.1.prtEvent 0x46 part 0 part 0xFFFF 0 x.1 0xFFFF r.2).checkPool part) ∧
  (∀ (s : State) (site : Nat) (q : Stop), siteOk site = true → s.m.stopOf (.slice site) = some q → s.m.targetIdle q.cmds (.slice site) = true →
    s.m.retireWaits site = true →
    ∃ u, exec (.retireSliceHoldTimeout site) s = .next u ∧
      u.m = ((((s.m.slice site).pendingRows.filter (fun r => s.m.rowHeld site r)).foldl (fun acc r => acc.updSlice site (fun s => s.forget r)) s.m).memEvent
        0x06 site 0 0 0 0).retireSlice q site) ∧
  (∀ (s : State) (q : CmdSlot) (i : Instr), s.m.engine.cmds = [q] → q.phase = .waiting → q.instr = some i →
    ∃ u, exec .claimGrant s = .next u ∧ u.m = (runInstr i s.m).retryColls.replanTry.releaseHolds) ∧
  (∀ (s : State) (part : Nat) (q : CmdSlot) (i : Instr), partOk part = true → s.m.atWorkFence part = true → s.m.engine.cmds = [q] →
    q.phase = .fenceWait → q.info = [part] → q.instr = some i →
    ∃ u, exec (.workFenceReached part) s = .next u ∧
      u.m = (runInstr i (s.m.updCmd q.id (fun x => { x with phase := .waiting }))).releaseHolds) ∧
  (∀ (s : State) (part : Nat) (q : CmdSlot), partOk part = true → s.m.engine.cmds = [q] → q.phase = .fenceWait → q.info = [part] →
    ∃ u, exec (.workFenceTimeout part) s = .next u ∧ u.m = (s.m.refuseCmd q.id stBusy (s.m.itemsOf part)).releaseHolds) ∧
  (∀ (s : State) (fn id : Nat) (r : Response) (rest : List Response),
    takeFirst (fun (r : Response) => r.req.src == .host fn id && r.accept == false) s.m.mem.responses = some (r, rest) → s.m.mayArrive r = true →
    ∃ u, exec (.dataPacket (.host fn id)) s = .next u ∧
      u.m = ({ s.m with mem := { s.m.mem with responses := rest } }).hostData fn id r.data r.poison) ∧
  (∀ (s : State) (site slot seq : Nat) (r : Response) (rest : List Response),
    takeFirst (fun (r : Response) => r.req.src == .stream site slot seq && r.accept == false) s.m.mem.responses = some (r, rest) →
    s.m.mayArrive r = true →
    ∃ u, exec (.dataPacket (.stream site slot seq)) s = .next u ∧
      u.m = ({ s.m with mem := { s.m.mem with responses := rest } }).streamData site slot seq r.data r.poison) ∧
  (∀ (s : State) (site slot seq : Nat) (r : Response) (rest : List Response),
    takeFirst (fun (r : Response) => r.req.src == .stream site slot seq && r.accept == true) s.m.mem.responses = some (r, rest) →
    s.m.mayArrive r = true →
    ∃ u, exec (.accept (.stream site slot seq)) s = .next u ∧
      u.m = ({ s.m with mem := { s.m.mem with responses := rest } }).streamAccept site slot seq) ∧
  (∀ (s : State) (fn id : Nat) (r : Response) (rest : List Response),
    takeFirst (fun (r : Response) => r.req.src == .host fn id && r.accept == true) s.m.mem.responses = some (r, rest) → s.m.mayArrive r = true →
    ∃ u, exec (.accept (.host fn id)) s = .next u ∧
      u.m = (({ s.m with mem := { s.m.mem with responses := rest } } : Module).returnReads fn).releaseBells fn) ∧
  (∀ (s : State) (src : Src) (r : Response) (rest : List Response),
    takeFirst (fun (r : Response) => r.req.src == src && r.accept == false) s.m.mem.responses = some (r, rest) → s.m.mayArrive r = false →
    ∃ u, exec (.dataPacket src) s = .next u ∧ u = s) ∧
  (∀ (s : State) (router e : Nat) (r : MemReq), clusterOk router = true → endpointOk e = true → s.m.lostReqs router e = [r] →
    s.m.lostPkts router e = [] → s.m.lostXfers router e = [] → s.m.net.lost = [] →
    ∃ u, exec (.routeLoss router e) s = .next u ∧ u.m = s.m.failReq router e r) ∧
  (∀ (s : State) (router e : Nat) (p : NetPkt), clusterOk router = true → endpointOk e = true → s.m.lostReqs router e = [] →
    s.m.lostPkts router e = [p] → s.m.lostXfers router e = [] → s.m.net.lost = [] →
    ∃ u, exec (.routeLoss router e) s = .next u ∧ u.m = s.m.failPkt p)

/-! ## The deck network and the bridges (chapters 4, 10) -/

/-- Packets between cores (R150, R299, R302, R305, R310 to R316, R326, R327). The next packet of a pair lands at its destination, counts
there and is acknowledged; refused by a core out of service, it comes back; acknowledgements complete the descriptor and refusals
fault its thread; the sum of a tree is written at its root; a marker releases what a change of route held; a bad flit is corrected,
poisoned or discarded. -/
def Obligations.NetworkPackets : Prop :=
  (∀ (s : State) (src dst : Nat) (p : NetPkt) (m1 : Module), siteOk src = true → siteOk dst = true →
    s.m.nextPkt src dst (· == pkSend) 0 = some (p, m1) →
    ∃ t, exec (.nrSendPacket src dst) s = .next t ∧ t.m = m1.landAt p src (fun x => (x.bumpAt dst p.counter p.countOn).ackPkt p src 1)) ∧
  (∀ (s : State) (src dst : Nat) (p : NetPkt) (m1 : Module), siteOk src = true → siteOk dst = true →
    s.m.nextPkt src dst (· == pkGather) 0 = some (p, m1) →
    ∃ t, exec (.nrGatherPacket src dst) s = .next t ∧
      t.m = m1.landAt p src (fun x => (x.countPart dst p.tag p.off p.parts p.counter p.countOn).ackPkt p src 1)) ∧
  (∀ (s : State) (src dst : Nat) (p : NetPkt) (m1 : Module), endpointOk src = true → siteOk dst = true →
    s.m.nextPkt src dst (· == pkBcast) 0 = some (p, m1) →
    ∃ t, exec (.nrBcastPacket src dst) s = .next t ∧ t.m = m1.landAt p p.tag (fun x => (x.bumpAt dst p.counter p.countOn).ackPkt p src 1)) ∧
  (∀ (s : State) (src deck : Nat) (p : NetPkt) (m1 : Module) (c : DeckCast), endpointOk src = true → deck < Config.decks →
    s.m.nextPkt src (65536 + deck) (· == pkBcast) 0 = some (p, m1) → m1.net.casts.find? (fun c => c.is deck src p.thread p.id) = some c →
    ∃ t, exec (.nrBcastPacket src (65536 + deck)) s = .next t ∧
      t.m = c.cores.foldl (fun acc s => acc.inject { p with src := 65536 + deck, dst := s, tag := src }) m1) ∧
  (∀ (s : State) (src dst : Nat) (p : NetPkt) (m1 : Module), siteOk src = true → siteOk dst = true →
    s.m.nextPkt src dst (· == pkSignal) 3 = some (p, m1) → m1.ownerOf dst = p.part → m1.unreachable dst = none →
    ∃ t, exec (.signalPacket src dst) s = .next t ∧
      t.m = (m1.wake (clusterOf dst)).updCore dst (fun c => c.bump p.counter (leNat p.data))) ∧
  (∀ (s : State) (src dst cause : Nat) (p : NetPkt) (m1 : Module), siteOk src = true → siteOk dst = true →
    s.m.nextPkt src dst (· == pkSignal) 3 = some (p, m1) → m1.ownerOf dst = p.part → m1.unreachable dst = some cause →
    ∃ t, exec (.signalPacket src dst) s = .next t ∧ t.m = m1.nackPkt p src cause) ∧
  (∀ (s : State) (src dst : Nat) (p : NetPkt) (m1 : Module) (f : InFlight), endpointOk src = true → siteOk dst = true →
    s.m.nextPkt src dst (· == pkAck) 3 = some (p, m1) → m1.transfer? dst p.thread p.id = some f → f.next ≤ p.parts →
    ∃ t, exec (.nrAck src dst) s = .next t ∧ t.m = m1.complete1 dst p.thread f) ∧
  (∀ (s : State) (src dst : Nat) (p : NetPkt) (m1 : Module), siteOk src = true → siteOk dst = true →
    s.m.nextPkt src dst (fun k => k == pkNack || k == pkSigNack) 3 = some (p, m1) →
    ∃ t, exec (.nrNack src dst) s = .next t ∧
      t.m = (if p.kind = pkSigNack then m1.signalFails dst p.thread p.tag p.off p.parts else m1.transferFails dst p.thread p.id p.parts)) ∧
  (∀ (s : State) (deck tree cluster : Nat) (x : Tree) (r : Reduction) (rest : List Reduction) (i : RootInst), deck < Config.decks → tree < 8 →
    cluster < 64 → s.m.tree deck tree = some x → clusterOf x.root = deck * 64 + cluster → s.m.treeWhole x = true →
    takeFirst (fun (r : Reduction) => r.root == x.root && r.tree == tree && r.got.length == x.members.length && s.m.net.lanesFree r) s.m.net.reductions = some (r, rest) →
    s.m.net.insts.find? (fun q => q.root == x.root && q.tree == tree && q.tag == r.tag && decide (r.off ∈ q.left)) = some i →
    s.m.unreachable x.root = none → i.tracked = true →
    ∃ t, exec (.reduceFlit deck tree cluster) s = .next t ∧ t.m = ({ s.m with net := { s.m.net with reductions := rest } }).landSum r i) ∧
  (∀ (s : State) (src dst : Nat), endpointOk src = true → endpointOk dst = true → (src, dst) ∈ s.m.net.heldPairs → s.m.net.heldCmds = [] →
    s.m.port.reads = [] → s.m.port.bells = [] → (∀ p ∈ s.m.net.pkts, p.src = src → p.dst = dst → p.held = true) →
    ∃ t, exec (.routeMark src dst) s = .next t ∧ (src, dst) ∉ t.m.net.heldPairs ∧
      (∀ p ∈ t.m.net.pkts, p.src = src → p.dst = dst → p.held = false) ∧ t.m.net.pkts.length = s.m.net.pkts.length) ∧
  (∀ (s : State) (deck id : Nat) (rest : List Nat), deck < Config.decks → SMap.get [] s.m.net.transom deck = id :: rest →
    s.m.relocking (.deck deck) = false →
    ∃ t, exec (.transom deck id) s = .next t ∧ SMap.get [] t.m.mem.transom deck = SMap.get [] s.m.mem.transom deck ++ [id] ∧
      SMap.get [] t.m.net.transom deck = rest.filter (· != id)) ∧
  (∀ (s : State) (f : Flit), f.wf = true → s.m.routerLive f.cluster = true →
    ∃ t, exec (.flitArrival f) s = .next t ∧
      (f.ctrl = 2 → t.m = ((s.m.flitEvent 0x32 f 1).losePacket f).ctrlError f) ∧
      (f.ctrl = 1 → typeKnown f.typ = true → f.typ ≠ 0x20 → f.poison = false → t.m = (s.m.flitEvent 0x31 f 1).ctrlError f) ∧
      (f.ctrl = 0 → typeKnown f.typ = true → f.typ ≠ 0x20 → f.poison = true → t.m = (s.m.flitEvent 0x30 f 1).poisonPacket f) ∧
      (f.ctrl = 0 → typeKnown f.typ = false → t.m = (s.m.flitEvent 0x32 f 1).losePacket f) ∧
      (f.ctrl = 0 → f.typ = 0x20 → f.poison = false → t.m = s.m.checkSum f))

/-- Routers, half clocks, bridges (R302, R307, R317 to R324, R409). A fenced router leaves service and the new route tables are logged; a half
slows when asked while idle, and no sooner than 1 ms after its last change; a good frame of a bridge advances its sequence number; a
lane's failure takes a spare or retires the group; three failed groups in 1 s retrain the bridge, which comes back or is down. -/
def Obligations.NetworkUnits : Prop :=
  (∀ (s : State) (cluster cause : Nat), clusterOk cluster = true →
    ∃ t, exec (.routerFence cluster cause) s = .next t ∧ t.m = s.m.fenceRouter cluster) ∧
  (∀ (s : State), ∃ t, exec .routeTableUpdate s = .next t ∧ t.m = s.m.loadTables.releaseCmds ∧
      (s.m.net.newFences = [] → s.m.net.heldCmds = [] → s.m.port.reads = [] → s.m.port.bells = [] → t = s)) ∧
  (∀ (s : State) (half : Nat), half < 2 * Config.decks → s.m.power.halfSlowOn = true → s.m.halfIdle half = true →
    bitOf s.m.clocks.halfSlow half = false →
    ∃ t, exec (.halfSlowDecision half) s = .next t ∧ half ∈ t.m.net.slowWanted ∧ t.m.clocks = s.m.clocks) ∧
  (∀ (s : State) (half : Nat), half < 2 * Config.decks → bitOf s.m.clocks.halfSlow half = false → s.m.power.halfSlowOn = true →
    half ∈ s.m.net.slowWanted → s.m.halfIdle half = true →
    SMap.get 0 s.m.net.halfFreqAt half = 0 ∨ SMap.get 0 s.m.net.halfFreqAt half - 1 + 1000 ≤ s.m.time →
    ∃ t, exec (.halfFrequencyChange half true) s = .next t ∧ bitOf t.m.clocks.halfSlow half = true ∧
      SMap.get 0 t.m.net.halfFreqAt half = s.m.time + 1) ∧
  (∀ (s : State) (half : Nat), half < 2 * Config.decks → bitOf s.m.clocks.halfSlow half = true → s.m.halfNeeded half = true →
    SMap.get 0 s.m.net.halfFreqAt half = 0 ∨ SMap.get 0 s.m.net.halfFreqAt half - 1 + 1000 ≤ s.m.time →
    ∃ t, exec (.halfFrequencyChange half false) s = .next t ∧ bitOf t.m.clocks.halfSlow half = false) ∧
  (∀ (s : State) (half : Nat) (slow : Bool), half < 2 * Config.decks →
    ¬ (SMap.get 0 s.m.net.halfFreqAt half = 0 ∨ SMap.get 0 s.m.net.halfFreqAt half - 1 + 1000 ≤ s.m.time) →
    ∃ t, exec (.halfFrequencyChange half slow) s = .next t ∧ t = s) ∧
  (∀ (s : State) (b g dir seq : Nat) (ok : Bool), groupOk b g dir = true → seq < 256 → s.m.bridgeLost b = false → (s.m.net.group b dir g).live = true →
    (s.m.net.group b dir g).retraining = false →
    ∃ t, exec (.bridgeFrameReceive b g dir seq ok) s = .next t ∧
      (seq = (s.m.net.group b dir g).nextSeq → ok = true →
        t.m = s.m.updGroup b dir g (fun q => { q with nextSeq := (q.nextSeq + 1) % 256, replaying := false })) ∧
      (seq = (s.m.net.group b dir g).nextSeq → ok = false → t.m = s.m.frameFails b dir g) ∧
      (seq ≠ (s.m.net.group b dir g).nextSeq → (s.m.net.group b dir g).replaying = true → t = s)) ∧
  (∀ (s : State) (b g dir lane : Nat), groupOk b g dir = true → lane < 34 → s.m.bridgeLost b = false → (s.m.net.group b dir g).live = true →
    ∃ t, exec (.laneFailure b g dir lane) s = .next t ∧
      (2 ≤ (s.m.net.group b dir g).sparesUsed → t.m = (s.m.recordUnit .bridgeLane (laneUnit b dir g lane) 0xFF 0x36).retireGroup b dir g) ∧
      ((s.m.net.group b dir g).sparesUsed < 2 → t.m =
        ((s.m.reroute (fun x => x.updGroup b dir g (fun q => { q with retraining := true, sparesUsed := (s.m.net.group b dir g).sparesUsed + 1 }))).recordUnit
          .bridgeLane (laneUnit b dir g lane) (32 + (s.m.net.group b dir g).sparesUsed) 0x35).groupEvent 0x35 b dir g lane 0)) ∧
  (∀ (s : State) (b g dir : Nat), groupOk b g dir = true → (s.m.net.group b dir g).retraining = true → (s.m.net.group b dir g).live = true →
    (∃ t, exec (.groupRetrainDone b g dir true) s = .next t ∧
      t.m = (s.m.reroute (fun x => x.updGroup b dir g (fun q => { q with
        retraining := false, nextSeq := 0, replaying := false, retries := [] }))).calBridgeDone b g) ∧
    (∃ t, exec (.groupRetrainDone b g dir false) s = .next t ∧ t.m = (s.m.retireGroup b dir g).calBridgeDone b g)) ∧
  (∀ (s : State) (b : Nat), bridgeOk b = true → s.m.bridgeLost b = false → (s.m.net.bridge b).retraining = false →
    3 ≤ ((s.m.net.bridge b).groupFails.filter (fun t => decide (s.m.time < t + 1000000))).length →
    ∃ t, exec (.bridgeRetrain b) s = .next t ∧ t.m = s.m.reroute (fun x => x.updBridge b (fun q => { q with retraining := true, groupFails := [] }))) ∧
  (∀ (s : State) (b : Nat), bridgeOk b = true → (s.m.net.bridge b).retraining = true →
    (∃ t, exec (.bridgeRetrainEnd b true) s = .next t ∧ t.m = s.m.reroute (fun x => x.updBridge b (fun q => { q with retraining := false }))) ∧
    (∃ t, exec (.bridgeRetrainEnd b false) s = .next t ∧ t.m = s.m.reroute (fun x => x.bridgeFalls b true)))

/-! ## The fabric (chapters 18, 19) -/

/-- Ports, training, and the start of the fabric (R531 to R537, R541, R543, R547 to R551). A flit in order is taken, any other brings a nak; a
replay is counted and its eighth in a row retrains the port, as errors do; a training ends as its lanes have it and is a change of
topology; HELLO, BEACON, TOPO and ID_ASSIGN build the fabric; S9 ends with an ID, a table and committed records, or fails; a
transaction for another module goes on with one hop less. -/
def Obligations.FabricStart : Prop :=
  (∀ (s : State) (port : Nat) (f : FabFlit), portOk port = true → f.wf = true → (s.m.fport port).up = true → f.good = true →
    f.seq = (s.m.fport port).rxSeq →
    ∃ t, exec (.fabricFlitReceive port f) s = .next t ∧
      (2 ≤ f.kind → t.m = s.m.flitHeader port f) ∧
      (f.kind < 2 → t.m = f.trans.foldl (fun (a : Module) t => a.arrive port (b2n (bitOf f.stream 2)) t (fun x => x.handle port t))
        (s.m.flitHeader port f))) ∧
  (∀ (s : State) (port : Nat) (f : FabFlit), portOk port = true → f.wf = true → (s.m.fport port).up = true →
    f.good = false ∨ f.seq ≠ (s.m.fport port).rxSeq →
    ∃ t, exec (.fabricFlitReceive port f) s = .next t ∧ t.m = s.m.updFport port (fun q => { q with nakSent := true })) ∧
  (∀ (s : State) (port : Nat), port < Config.ports → (s.m.fport port).up = true → (s.m.fport port).replayBuf ≠ [] →
    ∃ t, exec (.fabricAckTimeout port) s = .next t ∧
      ((s.m.fport port).sameReplays < 7 → t.m = s.m.updFport port (fun q => { q with
        replays := sat64 q.replays 1, sameReplays := q.sameReplays + 1 })) ∧
      (7 ≤ (s.m.fport port).sameReplays → t.m = (s.m.updFport port (fun q => { q with
        replays := sat64 q.replays 1, sameReplays := q.sameReplays + 1 })).retrainPort port)) ∧
  (∀ (s : State) (port uncorr corr : Nat), port < Config.ports → (s.m.fport port).up = true → 16 ≤ uncorr →
    ∃ t, exec (.fecErrorThreshold port uncorr corr) s = .next t ∧
      t.m = (s.m.updFport port (fun q => { q with corrected := sat64 q.corrected corr, uncorr := sat64 q.uncorr uncorr })).retrainPort port) ∧
  (∀ (s : State) (port : Nat), port < Config.ports → (s.m.fport port).state = 0 → s.m.bring.ready = true →
    ∃ t, exec (.portTrainRetry port) s = .next t ∧ t.m = s.m.updFport port (fun q => { q with state := 1, attempts := 0 })) ∧
  (∀ (s : State) (port lanes : Nat), portOk port = true → lanes < 256 → (s.m.fport port).state = 1 →
    ∃ t, exec (.portTraining port lanes) s = .next t ∧ t.m = (s.m.trained port lanes).topoChanged) ∧
  (∀ (s : State) (port : Nat) (t : Trans), heard port t 0x20 s.m → s.m.fab.leadSerial = none →
    ∃ u, exec (.hello port t) s = .next u ∧
      u.m = (s.m.updFport port (fun q => { q with
        peerSerial := getLe t.payload 0 16, peerRole := getLe t.payload 16 1, peerPort := getLe t.payload 17 1 % 4,
        peerValid := getLe t.payload 18 2 != 0xFFFF, peerId := if getLe t.payload 18 2 = 0xFFFF then 0 else getLe t.payload 18 2 % 4096 })).topoChanged) ∧
  (∀ (s : State) (port l : Nat) (t : Trans), heard port t 0x21 s.m → s.m.inStage 9 = true → s.m.fab.leadSerial = some l → l ≠ getLe t.payload 0 16 →
    ∃ u, exec (.beacon port t) s = .next u ∧
      ((u.m.fab.conflict = true ∧ u.m.bring.active = false) ∧ u.m.bring.ready = s.m.bring.ready)) ∧
  (∀ (s : State) (port : Nat) (t : Trans), heard port t 0x21 s.m → s.m.inStage 9 = true → s.m.fab.leadSerial = none → s.m.fab.role ≠ 2 →
    s.m.fab.parent = 0 →
    ∃ (u : State) (m1 : Module), exec (.beacon port t) s = .next u ∧
      m1 = { s.m with fab := { s.m.fab with parent := port + 1, hop := t.aux + 1, leadSerial := some (getLe t.payload 0 16) } } ∧
      u.m = (m1.beaconOn (m1.upBut port) (getLe t.payload 0 16)).report) ∧
  (∀ (s : State) (port : Nat) (t : Trans), heard port t 0x22 s.m → s.m.fab.role = 2 →
    ∃ u, exec (.topo port t) s = .next u ∧ u.m = s.m.takeNode (nodeOf t.payload)) ∧
  (∀ (s : State) (port p : Nat) (t : Trans), heard port t 0x22 s.m → s.m.fab.role ≠ 2 → s.m.upward = some p → p ≠ port →
    ∃ u, exec (.topo port t) s = .next u ∧ u.m = s.m.relay [p] t) ∧
  (∀ (s : State) (port : Nat) (t : Trans), heard port t 0x23 s.m → s.m.upward = some port → s.m.fab.role ≠ 2 →
    getLe t.payload 0 16 = Config.serial.toNat → s.m.fab.idValid = false →
    ∃ u, exec (.idAssign port t) s = .next u ∧ u.m.fab.deviceId = getLe t.payload 16 2 % 4096 ∧ u.m.fab.idValid = bitOf t.flags 1 ∧
      u.m.fab.routes = putSegment s.m.fab.routes t.address (bitOf t.flags 1) ((t.payload.drop 32).take segmentEntries)) ∧
  (∀ (s : State) (port : Nat) (t : Trans), heard port t 0x23 s.m → s.m.upward = some port → s.m.fab.role ≠ 2 →
    getLe t.payload 0 16 ≠ Config.serial.toNat →
    ∃ u, exec (.idAssign port t) s = .next u ∧ u.m = s.m.relay (s.m.upBut port) t) ∧
  (∀ (s : State), s.m.inStage 9 = true → s.m.fab.leadSerial = none → s.m.fab.role ≠ 2 →
    ∃ t, exec .leadManagerTimeout s = .next t ∧ t.m = (s.m.roleConflict 0xFF).failS9 0x0092 2000000) ∧
  (∀ (s : State) (dur : Nat), s.m.inStage 9 = true → s.m.fab.ports.all (fun p => !p.up && p.state != 1) = false → s.m.fab.conflict = false →
    dur < 5000000 → s.m.fab.idValid = true → s.m.epochs.algEpoch ≠ 0 → s.m.epochs.staged = [] → s.m.fab.replan = false →
    ∃ t, exec (.s9Fabric [] dur) s = .next t ∧ t.m.bring.fabricReady = true ∧ t.m.bring.active = false) ∧
  (∀ (s : State) (dur : Nat), s.m.inStage 9 = true → s.m.fab.ports.all (fun p => !p.up && p.state != 1) = true →
    ∃ t, exec (.s9Fabric [] dur) s = .next t ∧ t.m = s.m.failS9 0x0091 dur) ∧
  (∀ (s : State) (port p : Nat) (t : Trans), heard port t 0x01 s.m → s.m.fab.idValid = true → t.dest ≠ s.m.fab.deviceId → 2 ≤ t.hops →
    s.m.egress t.dest = some p → p ≠ opposite port →
    ∃ u, exec (.writeSp port t) s = .next u ∧ u.m = s.m.push p 0 { t with hops := t.hops - 1 })

/-- Data transactions, their answers and collectives (R390, R538 to R542, R553, R558 to R565). A WRITE_SP that is not the last of its
transfer is written to the scratchpad; WRITE_VA and READ_VA are translated and go to the slices; a partition that does not admit refuses; an ACK completes
its transfer, a NACK ends it or holds it for retransmission; a STEP of the epoch in force joins its instance, of a newer one is held,
of an older one refused, and one behind another or before an engine that stands still waits; SLOW is counted and leaves the instances of others alone; firmware chunks fill the inactive slot, and a commit makes it valid. -/
def Obligations.FabricTransactions : Prop :=
  (∀ (s : State) (port : Nat) (t : Trans), s.m.admits t.partition = false → s.m.behindHeld t = false →
    (forMe port t 0x01 s.m → ∃ u, exec (.writeSp port t) s = .next u ∧ u.m = s.m.nackTo port t 1) ∧
    (forMe port t 0x02 s.m → ∃ u, exec (.writeVa port t) s = .next u ∧ u.m = s.m.nackTo port t 1) ∧
    (forMe port t 0x03 s.m → ∃ u, exec (.readVa port t) s = .next u ∧ u.m = s.m.nackTo port t 1) ∧
    (forMe port t 0x10 s.m → s.m.enginesStill t.partition = false → ∃ u, exec (.step port t) s = .next u ∧ u.m = s.m.nackTo port t 1)) ∧
  (∀ (s : State) (port site : Nat) (t : Trans), forMe port t 0x01 s.m → s.m.behindHeld t = false → s.m.admits t.partition = true → site = t.address / 2 ^ 22 % 2 ^ 14 →
    site < Config.sites → s.m.ownerOf site = t.partition → t.payload ≠ [] → oneWindow (t.address % 2 ^ 22) t.payload.length = true →
    s.m.unreachable site = none → s.m.noWay (enterEnd port t.address) site = false → s.m.mayLeave (enterEnd port t.address) site = true →
    bitOf t.flags 1 = false →
    ∃ u, exec (.writeSp port t) s = .next u ∧
      u.m = (List.range ((t.payload.length + 63) / 64)).foldl (fun (acc : Module) k =>
        acc.padExternal site ((t.address % 2 ^ 22 + 64 * k) / 2 ^ 21) ((t.address % 2 ^ 22 + 64 * k) % 2 ^ 21) ((t.payload.drop (64 * k)).take 64)
          (bitOf t.flags 0) 5 0xFFFF) (s.m.wake (clusterOf site))) ∧
  (∀ (s : State) (port : Nat) (t : Trans) (l : List (Nat × Nat × Nat)), forMe port t 0x02 s.m → s.m.behindHeld t = false → s.m.admits t.partition = true →
    let parts := rowParts 3 0 t.address (min t.payload.length 2048)
    s.m.remoteHeld t.partition parts = false → s.m.remoteAddrs t.partition 4 (servedSrc t 0 0) parts = .ok l →
    s.m.enterLost port l = false → s.m.enterWaits port l = false → l.any (fun x => s.m.holdRefuses x.2.1) = false →
    ∃ u, exec (.writeVa port t) s = .next u ∧
      u.m = (List.range l.length).foldl (fun (acc : Module) i =>
        acc.writeArrives ⟨siteOfAddr (nth (0, 0, 0) l i).2.1, offOfAddr (nth (0, 0, 0) l i).2.1, 2, servedSrc t s.m.flight.nextOp i, true,
          decide ((nth (0, 0, 0) l i).2.2 = 2048), (t.payload.drop (nth (0, 0, 0) l i).1).take (nth (0, 0, 0) l i).2.2, bitOf t.flags 0⟩)
        ((s.m.remoteWalked t.partition parts).serve port t l.length).1) ∧
  (∀ (s : State) (port : Nat) (t : Trans) (l : List (Nat × Nat × Nat)), forMe port t 0x02 s.m → s.m.behindHeld t = false → s.m.admits t.partition = true →
    let parts := rowParts 3 0 t.address (min t.payload.length 2048)
    s.m.remoteHeld t.partition parts = false → s.m.remoteAddrs t.partition 4 (servedSrc t 0 0) parts = .ok l →
    s.m.enterLost port l = false → s.m.enterWaits port l = false → l.any (fun x => s.m.holdRefuses x.2.1) = true →
    ∃ u, exec (.writeVa port t) s = .next u ∧ u.m = (s.m.remoteWalked t.partition parts).nackTo port t 4) ∧
  (∀ (s : State) (port : Nat) (t : Trans) (l : List (Nat × Nat × Nat)), forMe port t 0x03 s.m → s.m.behindHeld t = false → s.m.admits t.partition = true →
    t.aux = 2048 → t.address % 2048 = 0 → s.m.remoteHeld t.partition [(0, t.address, 2048)] = false → s.m.remoteAddrs t.partition 3 (servedSrc t 0 0) [(0, t.address, 2048)] = .ok l →
    s.m.enterLost port l = false → s.m.enterWaits port l = false →
    ∃ u, exec (.readVa port t) s = .next u ∧
      u.m = (List.range l.length).foldl (fun (acc : Module) i =>
        acc.readArrives ⟨siteOfAddr (nth (0, 0, 0) l i).2.1, offOfAddr (nth (0, 0, 0) l i).2.1 / 64 * 64, 2, servedSrc t s.m.flight.nextOp i, false,
          true, [], false⟩) ((s.m.remoteWalked t.partition [(0, t.address, 2048)]).serve port t l.length).1) ∧
  (∀ (s : State) (port : Nat) (t : Trans), forMe port t 0x04 s.m → ∃ u, exec (.dataTransaction port t) s = .next u ∧ u = s) ∧
  (∀ (s : State) (port : Nat) (t : Trans) (x : FabXfer) (m0 : Module) (f : InFlight), forMe port t 0x05 s.m → s.m.collOfWrite t = none →
    s.m.takeXfer t.tag t.src = some (x, m0) → (m0.portCounts x.dest).transfer? x.site x.thread x.id = some f →
    ∃ u, exec (.ack port t) s = .next u ∧ u.m = (m0.portCounts x.dest).complete1 x.site x.thread f) ∧
  (∀ (s : State) (port : Nat) (t : Trans), forMe port t 0x06 s.m → s.m.collOfWrite t = none →
    s.m.flight.xfers.any (FabXfer.is t.tag t.src) = true →
    ∃ u, exec (.nack port t) s = .next u ∧ u.m = s.m.xferNack port t) ∧
  (∀ (s : State) (tag : Nat) (x : FabXfer) (rest : List FabXfer), tag < 2 ^ 32 →
    takeFirst (fun (x : FabXfer) => x.tag == tag && x.held.isEmpty) s.m.flight.xfers = some (x, rest) →
    ∃ u, exec (.nrAckTimeout tag) s = .next u ∧ u.m = ({ s.m with flight := { s.m.flight with xfers := rest } }).xferFails x 0) ∧
  (∀ (s : State) (port : Nat) (t : Trans), forMe port t 0x10 s.m → s.m.behindHeld t = true ∨ s.m.enginesStill t.partition = true →
    ∃ u, exec (.step port t) s = .next u ∧ u.m = s.m.holdCmd (.step port t)) ∧
  (∀ (s : State) (port : Nat) (t : Trans), forMe port t 0x10 s.m → s.m.behindHeld t = false → s.m.enginesStill t.partition = false →
    s.m.admits t.partition = true → (t.epoch = s.m.epochs.algEpoch → ∃ u, exec (.step port t) s = .next u ∧ u.m = s.m.actStep t) ∧
    (t.epoch ≠ s.m.epochs.algEpoch → seqNewer t.epoch s.m.epochs.algEpoch = true →
      ∃ u, exec (.step port t) s = .next u ∧ u.m.flight.heldPkts = s.m.flight.heldPkts ++ [(s.m.time, t)] ∧
        u.m.fab.epochStalls = sat64 s.m.fab.epochStalls 1) ∧
    (t.epoch ≠ s.m.epochs.algEpoch → seqNewer t.epoch s.m.epochs.algEpoch = false →
      ∃ u, exec (.step port t) s = .next u ∧ u.m = s.m.nackTo port t 5)) ∧
  (∀ (s : State) (tag part : Nat) (c : Collective), tag < 2 ^ 32 → partOk part = true → s.m.coll tag part = some c → c.deadline ≤ s.m.time →
    c.complete = false →
    ∃ (u : State) (peer : Nat), exec (.stepTimeout tag part) s = .next u ∧
      u.m = (s.m.fabEvent 0x9B part 0xFF peer 0 0x10 tag c.epoch 0 0 (algTimeout s.m.epochs.algRecord)).endColl c stHwError true) ∧
  (∀ (s : State) (tag : Nat), tag < 2 ^ 32 →
    ∃ u, exec (.nackRetransmit tag) s = .next u ∧
      u.m = (((s.m.flight.xfers.filter (fun x => x.tag == tag)).flatMap (·.held) ++ s.m.heldWrites tag).map (fun t =>
          { t with flags := setBit t.flags 2 true })).foldl (fun (acc : Module) t => acc.sendTo t)
        { s.m with flight := { s.m.flight with
          xfers := s.m.flight.xfers.map (fun x => if x.tag = tag then { x with held := [] } else x)
          colls := s.m.flight.colls.map (fun c => if c.tag = tag then { c with writes := c.writes.map (fun w => (w.1, false)) } else c) } }) ∧
  (∀ (s : State), s.m.anyHeld = false → ∃ u, exec .slowSend s = .next u ∧ u.m = { s.m with fab := { s.m.fab with slowTx := false } }) ∧
  (∀ (s : State) (port : Nat) (t : Trans), forMe port t 0x25 s.m →
    ∃ u, exec (.slow port t) s = .next u ∧ u.m.fab.slowRx = sat64 s.m.fab.slowRx 1 ∧ u.m.fab.slowAt = some s.m.time ∧
      ∀ c ∈ s.m.flight.colls, t.src ∉ c.partners → c ∈ u.m.flight.colls) ∧
  (∀ (s : State), s.m.anyHeld = true → heldFor s.m.time 50000 s.m.thermal.holdSince = true →
    (s.m.fab.idValid = true → s.m.fab.manager ≠ s.m.fab.deviceId) → ∃ (u : State) (m1 : Module), exec .holdReportSend s = .next u ∧
      m1 = s.m.thermEvent 0x57 0xFFFF 0xFFFF 0xFF 0xFF 0xFF 0xFF 0 ((s.m.time - s.m.thermal.holdSince.getD s.m.time) / 1000) ∧
      u.m = ({ m1 with free := m1.free + 1 }).sendControl { m1.trans 0x26 m1.fab.manager with payload := s.m.holdRecord }) ∧
  (∀ (s : State) (port : Nat) (t : Trans), forMe port t 0x26 s.m →
    ∃ u, exec (.holdReport port t) s = .next u ∧ u.m.flight.holdReport = t.payload.take 32) ∧
  (∀ (s : State) (port : Nat) (t : Trans), forMe port t 0x18 s.m → s.m.isHead = false → s.m.claimsFree [.slots] = true →
    t.address < slotChunks → t.payload.length = 4096 → crc32c t.payload = t.aux → s.m.flight.rxFrom = (t.src, t.tag + 1) → s.m.flight.rxState = 0 →
    (insertNew t.address s.m.flight.rxBitmap).length < slotChunks →
    ∃ u, exec (.fwChunkTransaction port t) s = .next u ∧ u.m.flight.rxBitmap = insertNew t.address s.m.flight.rxBitmap ∧
      u.m.bring = (s.m.putChunk t.address t.payload).bring) ∧
  (∀ (s : State) (port : Nat) (t : Trans), forMe port t 0x2D s.m → s.m.flight.rxFrom = (t.src, t.address + 1) →
    ∃ u, exec (.fwPoll port t) s = .next u ∧
      u.m = s.m.sendControl { s.m.trans 0x2E t.src with
        address := t.address, step := s.m.flight.rxState,
        payload := leBytes 256 (maskOf slotChunks (fun i => decide (i ∈ s.m.flight.rxBitmap))) }) ∧
  (∀ (s : State) (port : Nat) (t : Trans) (b : Broadcast), forMe port t 0x2E s.m → s.m.flight.tx = some b → t.address ≠ b.num →
    ∃ u, exec (.fwBitmap port t) s = .next u ∧ u = s) ∧
  (∀ (s : State) (port : Nat) (t : Trans) (b b1 : Broadcast), forMe port t 0x2E s.m → s.m.flight.tx = some b → t.address = b.num →
    (let missing := (List.range slotChunks).filter (fun i => !bitOf (leNat (t.payload.take 256)) i)
     let note (r : Nat × List Nat × Nat) : Nat × List Nat × Nat :=
       if r.1 = t.src ∧ r.2.2 = 3 then (r.1, missing, if t.step = 1 then 1 else if t.step = 2 then 2 else 0) else r
     b1 = { b with receivers := b.receivers.map note }) →
    ∃ u, exec (.fwBitmap port t) s = .next u ∧ u.m = ({ s.m with flight := { s.m.flight with tx := some b1 } }).castNext b1) ∧
  (∀ (s : State) (port : Nat) (t : Trans), forMe port t 0x2F s.m → s.m.flight.rxFrom = (t.src, t.address + 1) → s.m.flight.rxState = 1 →
    s.m.bring.slots.length = 2 → t.step ≠ 1 →
    ∃ u, exec (.fwCommit port t) s = .next u ∧ (u.m.slot s.m.inactive).valid = true ∧ u.m.flight.rxState = 0)

/-- Managers and settings (R545, R552 to R555). A heartbeat is kept and answered; MODE_PREP stages a value and acknowledges it, or says busy;
the manager's acknowledgements complete its prepare, and missing ones abort it; MODE_COMMIT applies, MODE_ABORT discards; epoch polls
are answered and take effect; held packets are polled for and refused at the end; the hierarchy loses and replaces managers. -/
def Obligations.FabricManagement : Prop :=
  (∀ (s : State) (port : Nat) (t : Trans), forMe port t 0x24 s.m → t.src % 256 ≠ 0 →
    ∃ u, exec (.heartbeat port t) s = .next u ∧ u.m = ((s.m.keepBeats t.payload).replanTry).epochInfo t.src) ∧
  (∀ (s : State) (port : Nat) (t : Trans), forMe port t 0x27 s.m → s.m.passOn t = s.m → t.step = 0 → t.payload.length = t.aux →
    let v : Staged := {
      kind := t.address % 256, scope := t.address / 256, value := t.payload, manager := t.src, mine := false,
      auto := false, expect := [], acks := [], pausing := none, drained := [], cmd := none, commit := none }
    ∃ (u : State) (m2 : Module), exec (.modePrep port t) s = .next u ∧
      m2 = { s.m with flight := { s.m.flight with prep := [], prepFrom := 0 } } ∧
      (m2.claimsFree [.epoch] = false → u.m = m2.modeAck t.src (t.address % 256) 1) ∧
      (m2.claimsFree [.epoch] = true →
        u.m = ({ m2 with epochs := { m2.epochs with staged := m2.epochs.staged ++ [v] } }).modeAck t.src (t.address % 256) 0)) ∧
  (∀ (s : State) (port : Nat) (t : Trans) (v : Staged), forMe port t 0x28 s.m → s.m.stagedOf t.address = some v → v.mine = true → t.src ∈ v.expect →
    (t.step = 1 → v.pausing = none → ∃ u, exec (.modeAck port t) s = .next u ∧ u.m = s.m.dropPrepare v stBusy []) ∧
    (t.step = 2 → ∃ u, exec (.modeAck port t) s = .next u ∧
      u.m = (s.m.updStaged v.kind (fun x => { x with drained := insertNew t.src x.drained })).drainCheck v.kind) ∧
    (t.step = 0 → ∃ u, exec (.modeAck port t) s = .next u ∧
      u.m = (s.m.updStaged v.kind (fun x => { x with acks := x.acks.filter (fun a => a.1 != t.src) ++ [(t.src, t.epoch)] })).ackCheck v.kind)) ∧
  (∀ (s : State) (port : Nat) (t : Trans) (v : Staged), s.m.passOn t = s.m → s.m.stagedFrom t = some v →
    (forMe port t 0x29 s.m → t.step = 0 → ∃ u, exec (.modeCommitTransaction port t) s = .next u ∧ u.m = s.m.applyStaged v t.epoch) ∧
    (forMe port t 0x29 s.m → t.step = 1 → ∃ u, exec (.modeCommitTransaction port t) s = .next u ∧ u.m.fab.paused = true ∧ u.m.fab.drained = false) ∧
    (forMe port t 0x2A s.m → ∃ u, exec (.modeAbortTransaction port t) s = .next u ∧ u.m = s.m.unstage v.kind)) ∧
  (∀ (s : State) (port : Nat) (t : Trans), forMe port t 0x2B s.m → ∃ u, exec (.epochPoll port t) s = .next u ∧ u.m = s.m.epochInfo t.src) ∧
  (∀ (s : State) (port : Nat) (t : Trans), forMe port t 0x2C s.m → s.m.epochs.staged = [] →
    ∃ (u : State) (m0 : Module), exec (.epochInfo port t) s = .next u ∧
      m0 = { s.m with flight := { s.m.flight with hbMissed := 0 },
                      fab := { s.m.fab with managerLost := s.m.fab.managerLost && t.src != s.m.fab.manager } } ∧
      u.m = m0.releaseHeldSteps) ∧
  (∀ (s : State) (k : Nat), k < s.m.flight.heldPkts.length → ∃ u, exec (.epochHoldPoll k) s = .next u ∧ u.m = s.m.poll) ∧
  (∀ (s : State) (k a : Nat) (t : Trans), s.m.flight.heldPkts[k]? = some (a, t) →
    ∃ (u : State) (m1 : Module), exec (.epochHoldTimeout k) s = .next u ∧
      m1 = s.m.fabEvent 0x95 t.partition 0xFF t.src 5 t.typ t.tag t.epoch t.address 0 ((s.m.time - a) / 1000) ∧
      u.m = ({ m1 with flight := { m1.flight with heldPkts := m1.flight.heldPkts.eraseIdx k } }).nackTo 0 t 5) ∧
  (∀ (s : State) (kind : Nat) (v : Staged), kind < 256 → s.m.stagedOf kind = some v →
    (v.mine = false → ∃ u, exec (.stagedValuePoll kind) s = .next u ∧ u.m = s.m.poll) ∧
    (v.pausing = none → v.cmd = none → ∃ u, exec (.stagedValueDiscard kind) s = .next u ∧ u.m = s.m.unstage kind) ∧
    (v.mine = true → v.pausing = none → v.expect.filter (fun d => !v.acks.any (fun a => a.1 == d)) ≠ [] →
      ∃ (u : State) (d n : Nat), exec (.modeAckTimeout kind) s = .next u ∧
        n = (v.expect.filter (fun d => !v.acks.any (fun a => a.1 == d))).length ∧
        u.m = (s.m.fabEvent 0x96 0xFF 0xFF d kind 0x27 0 s.m.epochs.epoch 0 n 0).dropPrepare v stHwError (d4 n))) ∧
  (∀ (s : State), s.m.fab.idValid = true → s.m.fab.manager ≠ s.m.fab.deviceId →
    ∃ u, exec .heartbeatSend s = .next u ∧
      u.m = ({ s.m with flight := { s.m.flight with hbMissed := s.m.flight.hbMissed + 1 } }).sendEach s.m.pollDests
        { s.m.trans 0x24 0 with payload := s.m.heartbeatRec }) ∧
  (∀ (s : State), s.m.isHead = true → s.m.isLead = false →
    ∃ u, exec .groupSummarySend s = .next u ∧
      u.m = (List.range (max 1 ((((s.m.flight.heartbeats.filter (fun h => h.1 / 256 == s.m.group)).map (fun h => h.2)).length + 3) / 4))).foldl
        (fun (a : Module) i => a.sendControl { s.m.trans 0x24 s.m.fab.lead with
          payload := ((((s.m.flight.heartbeats.filter (fun h => h.1 / 256 == s.m.group)).map (fun h => h.2)).drop (4 * i)).take 4).flatten }) s.m) ∧
  (∀ (s : State), 3 ≤ s.m.flight.hbMissed → s.m.fab.managerLost = false →
    ∃ u, exec .managerLost s = .next u ∧ u.m.fab.managerLost = true ∧ u.m.fab.lostAt = s.m.time + 1) ∧
  (∀ (s : State) (g : Nat), g < 16 → g ≠ 0 → s.m.isLead = true → s.m.fab.acting = false → s.m.groupOthers g ≠ [] →
    ∃ u, exec (.actingManagerTakeover g) s = .next u ∧ u.m.fab.acting = true ∧ u.m.fab.actingGroup = g) ∧
  (∀ (s : State), s.m.fab.paused = true → s.m.fab.drained = false → s.m.portsDrained = true →
    (∀ v ∈ s.m.epochs.staged, v.pausing = none) →
    ∃ u, exec .routingPauseDrained s = .next u ∧ u.m = { s.m with fab := { s.m.fab with drained := true } }) ∧
  (∀ (s : State) (v : Staged), s.m.fab.paused = true → s.m.fab.drained = false → s.m.portsDrained = true →
    s.m.epochs.staged.find? (fun v => v.pausing.isSome) = some v → v.mine = false →
    ∃ u, exec .routingPauseDrained s = .next u ∧
      u.m = ({ s.m with fab := { s.m.fab with drained := true } }).modeAck v.manager v.kind 2)

/-! ## Power delivery and the ladder (chapter 13) -/

/-- Feeds, rails, cells, the module limit (R399 to R405, R411, R414, R415). A feed below 38 V or above 62 V opens with its ok bit clear, between
there and 40 to 60 V it stays connected with its ok bit clear, and back in range it closes or is ok again; losing both feeds or a rail
drops the rails; a lost cell is recorded; the actions of boost switch and shunt clamp are counted; an average 400 W above the limit
engages the brake; current samples join their rings. -/
def Obligations.PowerSupply : Prop :=
  (∀ (s : State) (f v : Nat), f < 2 → (s.m.feed f).connected = true → (s.m.feed f).opened = false →
    (v < 380 → ∃ t, exec (.feedUndervoltage f v) s = .next t ∧ (t.m.feed f).opened = true ∧ (t.m.feed f).ok = false ∧ (t.m.feed f).volts = v ∧
      t.m.feed (1 - f) = s.m.feed (1 - f)) ∧
    (620 < v → ∃ t, exec (.feedOvervoltage f v) s = .next t ∧ (t.m.feed f).opened = true ∧ (t.m.feed f).ok = false ∧
      t.m.feed (1 - f) = s.m.feed (1 - f)) ∧
    (feedMarginal v = true → ∃ t, exec (.feedOutOfRange f v) s = .next t ∧ (t.m.feed f).ok = false ∧ (t.m.feed f).opened = false ∧
      (t.m.feed f).connected = true) ∧
    (400 ≤ v → v ≤ 600 → ∃ t, exec (.feedBackInRange f v) s = .next t ∧ (t.m.feed f).ok = true ∧ (t.m.feed f).volts = v)) ∧
  (∀ (s : State) (f v : Nat), f < 2 → (s.m.feed f).connected = true → (s.m.feed f).opened = true → (s.m.feed f).held = false → 400 ≤ v → v ≤ 600 →
    ∃ t, exec (.feedRestore f v) s = .next t ∧ (t.m.feed f).opened = false ∧ (t.m.feed f).ok = true) ∧
  (∀ (s : State), ∃ t, exec .bothFeedsLost s = .next t ∧ t.m.power.standby = false ∧ t.m.power.vib = false ∧ t.m.power.vdram = false ∧
    t.m.power.vpp = false ∧ t.m.power.vlink = false ∧ t.m.power.pwrGood = false ∧ t.m.port.linkUp = false ∧
    (t.m.feed 0).connected = false ∧ (t.m.feed 1).connected = false ∧ t.mgmt = {} ∧ t.jtag = {}) ∧
  (∀ (s : State) (f v : Nat), f < 2 → s.m.power.standby = true →
    ∃ t, exec (.powerApplied f v) s = .next t ∧ (t.m.feed f).connected = true ∧ (t.m.feed f).opened = (s.m.feed f).held ∧
      (t.m.feed f).ok = (!(s.m.feed f).held && feedInRange v) ∧ t.m.bring = s.m.bring) ∧
  (∀ (s : State) (f v : Nat), f < 2 → s.m.power.standby = false →
    ∃ t, exec (.powerApplied f v) s = .next t ∧ t.m.power.standby = true ∧ t.m.bring.active = true ∧ t.m.bring.stage = 0 ∧ t.m.mem.bytes = [] ∧
      t.m.mem.slices = [] ∧ t.m.parts.parts = [] ∧ t.m.cores = []) ∧
  (∀ (s : State) (rail v : Nat), rail < 4 → ∃ t, exec (.railFault rail v) s = .next t ∧ t.m.power.vib = false ∧ t.m.power.vdram = false ∧
    t.m.power.vpp = false ∧ t.m.power.vlink = false ∧ t.m.power.pwrGood = false ∧ t.m.thermal.alert = true ∧ t.m.bring.lastRail = true ∧
    t.m.power.standby = s.m.power.standby) ∧
  (∀ (s : State) (c cell cause : Nat), clusterOk c = true → cell < 4 → 1 ≤ cause → cause ≤ 4 →
    ∃ t, exec (.cellFailure c cell cause) s = .next t ∧ t.m = s.m.loseCell c cell cause 0) ∧
  (∀ (s : State) (c cell : Nat), clusterOk c = true → cell < 4 → s.m.cellOn c cell = true →
    ((s.m.cl c).ladder ≠ 2 → ∃ t, exec (.boostSwitch c cell) s = .next t ∧ (t.m.cl c).boosts = min ((s.m.cl c).boosts + 1) 0xFFFF) ∧
    (∃ t, exec (.shuntClamp c cell) s = .next t ∧ (t.m.cl c).boosts = min ((s.m.cl c).boosts + 1) 0xFFFF)) ∧
  (∀ (s : State) (a b avg : Nat), s.m.power.brake = false → s.m.effLimit + 400 < avg →
    ∃ t, exec (.powerSample a b avg) s = .next t ∧ t.m.power.brake = true ∧ t.m.power.brakes = sat64 s.m.power.brakes 1 ∧ t.m.power.inputW = a + b ∧
      (t.m.feed 0).watts = a ∧ (t.m.feed 1).watts = b) ∧
  (∀ (s : State) (a b avg : Nat), a + b ≤ s.m.effLimit → avg ≤ s.m.effLimit + 400 →
    ∃ t, exec (.powerSample a b avg) s = .next t ∧ t.m.power.brake = s.m.power.brake ∧ t.m.power.overSince = none) ∧
  (∀ (s : State) (avg100 avg1 since_ : Nat), avg100 ≤ s.m.effLimit → s.m.power.brake = true → avg1 < s.m.effLimit →
    s.m.power.brakeLow = some since_ → since_ + 1000 ≤ s.m.time →
    ∃ t, exec (.powerLimitCheck avg100 avg1) s = .next t ∧ t.m.power.brake = false ∧ t.m.clusters = s.m.clusters) ∧
  (∀ (s : State), heldFor s.m.time 100000 s.m.power.underSince = true → (s.m.clusters.map Prod.fst).Nodup →
    ∃ t, exec .powerCapRaise s = .next t ∧ ∀ k, (t.m.cl k).powerCap =
      if k ∈ s.m.clusters.map Prod.fst then
        (if 7 ≤ (s.m.cl k).powerCap then (s.m.cl k).powerCap else if (s.m.cl k).target ≤ (s.m.cl k).powerCap + 1 then 7 else (s.m.cl k).powerCap + 1)
      else (s.m.cl k).powerCap) ∧
  (∀ (s : State) (samples : List (Nat × Nat × Nat)), samples.all (fun p => decide (p.1 < currentDomains)) = true →
    ∃ t, exec (.currentSample samples) s = .next t ∧ t.m = samples.foldl (fun acc p => acc.addSample p) s.m)

/-- Operating points and the ladder (R64, R387, R405, R407 to R410, R417, R418, R420 to R428). A point moves one step towards its goal, above
point 2 only at full half clock; a waking cluster closes its louvres one by one and is released at point 0, or with its slices only
while a hold keeps it; idle clusters enter Ajar and Shuttered; Sealed switches VIB and VLINK off and its exit brings them back. -/
def Obligations.PowerLadder : Prop :=
  (∀ (s : State) (c : Nat), clusterOk c = true → (s.m.cl c).ladder ≠ 2 → (s.m.cl c).functionView = false →
    ∃ t, exec (.operatingPointStep c) s = .next t ∧ (t.m.cl c).point =
      (if (s.m.cl c).goal < (s.m.cl c).point then (s.m.cl c).point - 1
       else if (s.m.cl c).point < (s.m.cl c).goal ∧ ¬ (2 ≤ (s.m.cl c).point ∧ s.m.halfSlowAt c = true) ∧ (s.m.cl c).pointHeld = false
         then (s.m.cl c).point + 1
       else (s.m.cl c).point) ∧
      (∀ k, k ≠ c → t.m.cl k = s.m.cl k) ∧ t.m.power = s.m.power ∧ t.m.mem = s.m.mem ∧ t.m.cores = s.m.cores) ∧
  (∀ (s : State) (c : Nat), clusterOk c = true → ∃ t, exec (.rampHintExpiry c) s = .next t ∧ (t.m.cl c).hintRaised = false ∧
    (∀ k, k ≠ c → t.m.cl k = s.m.cl k)) ∧
  (∀ (s : State) (c droop da : Nat), clusterOk c = true → (s.m.cl c).waking = true → (s.m.cl c).louvres < 8 →
    (s.m.cl c).louvres = 0 ∨ (s.m.cl c).louvreAt + (s.m.cl c).interval ≤ s.m.time →
    ∃ t, exec (.louvreClosure c droop da) s = .next t ∧ (t.m.cl c).louvres = (s.m.cl c).louvres + 1 ∧ (t.m.cl c).louvreAt = s.m.time ∧
      (t.m.cl c).interval = (if (s.m.cl c).louvres < 7 ∧ (25 < droop ∨ 1536 < da) then 4 else 1) ∧
      t.m.power.stretches = (if (s.m.cl c).louvres < 7 ∧ (25 < droop ∨ 1536 < da) then sat64 s.m.power.stretches 1 else s.m.power.stretches)) ∧
  (∀ (s : State) (c : Nat), clusterOk c = true → (s.m.cl c).waking = true → (s.m.cl c).louvres = 8 →
    ∃ t, exec (.clusterWakeComplete c) s = .next t ∧ (t.m.cl c).waking = false ∧ (t.m.cl c).point = 0 ∧
      (s.m.heldDown = false → (t.m.cl c).ladder = 0) ∧ (s.m.heldDown = true → (t.m.cl c).sliceIsland = true) ∧
      ∀ k ∈ sitesOf c, (t.m.slice k).selfRefresh = false) ∧
  (∀ (s : State) (c : Nat), clusterOk c = true → s.m.power.autoAjar = true → (s.m.cl c).ladder = 0 → s.m.clusterIdle c = true →
    s.m.bankQueuesEmpty c = true →
    ∃ t, exec (.ajarIdleTimeout c) s = .next t ∧ t.m = s.m.toAjar [c]) ∧
  (∀ (s : State) (c : Nat), clusterOk c = true → (s.m.cl c).ladder = 1 →
    (s.m.power.idleShutter ≠ 0 ∧ s.m.clusterFree c = true) ∨ s.m.unneeded c = true → s.m.clusterQuiet c = true → s.m.bankQueuesEmpty c = true →
    ∃ t, exec (.shutterIdleTimeout c) s = .next t ∧ t.m = s.m.shutter [c]) ∧
  (∀ (s : State) (c : Nat), clusterOk c = true → s.m.heldDown = false →
    ∃ t, exec (.ajarExit c) s = .next t ∧ t.m = s.m.leaveAjar [c]) ∧
  (∀ (s : State) (site thread : Nat), siteThreadOk site thread = true → s.m.ladderGoal = 2 → (s.m.cl (clusterOf site)).ladder ≠ 2 →
    ((s.m.core site).th thread).item.isSome = true → (s.m.core site).quiet thread = false →
    ∃ t, exec (.shutterQuiesceTimeout site thread) s = .next t ∧
      t.m = ((s.m.powerEvent 0x66 0xFF (clusterOf site) 0 0 0 0 1000).cancelAt (fun th _ => th == thread) site stCancelled).settleLadder) ∧
  (∀ (s : State) (c : Nat), clusterOk c = true → (s.m.cl c).sliceIsland = true → (∀ k ∈ sitesOf c, (s.m.slice k).waiting = [] ∧ (s.m.slice k).holdSlots = []) →
    s.m.bankQueuesEmpty c = true →
    ∃ t, exec (.sliceIslandReturn c) s = .next t ∧ (t.m.cl c).sliceIsland = false ∧ (t.m.cl c).louvres = 0 ∧
      (∀ k ∈ sitesOf c, (t.m.slice k).selfRefresh = (t.m.slice k).pendingRows.isEmpty) ∧
      ((∀ k ∈ sitesOf c, (s.m.slice k).pendingRows = []) → t.m.mem.bytes = s.m.mem.bytes)) ∧
  (∀ (s : State), s.m.power.sealing = true → (∀ c ∈ allClusters, s.m.bankQueuesEmpty c = true) →
    ∃ t, exec .sealedEntry s = .next t ∧ t.m.power.moduleState = 3 ∧ t.m.power.vib = false ∧ t.m.power.vlink = false ∧ t.m.power.sealing = false ∧
      t.m.port.linkUp = false ∧ ∀ c ∈ t.m.mem.bytes, 
        bitOf s.m.power.eighths (eighthOf (physRow (t.m.slice (c.1 / 2 ^ 29)).retiredBank (c.1 % 2 ^ 29 / 2048) / 64)) = true) ∧
  (∀ (s : State), s.m.power.moduleState = 3 →
    ∃ t, exec .sealedExit s = .next t ∧ t.m.power.moduleState = 0 ∧ t.m.power.hold = 0 ∧ t.m.power.vib = true ∧ t.m.power.vlink = true ∧
      t.m.mem.bytes = s.m.mem.bytes)

/-! ## Heat and coolant (chapter 12) -/

/-- Sensors, bands, forecasts, throttle, trip, coolant (R57, R58, R373 to R378, R380 to R383, R386 to R388). A reading is kept with its
expected value, a sensor without one becomes suspect, and one that stays near its expected value for 1 s recovers; a group's band
moves up at once and down with 2 K of margin; a forecast above its target caps its region, 5 K of margin for 50 ms release a step
unless the stack is held; a
trip drops the rails; coolant conditions raise and clear the degraded state and the stop. -/
def Obligations.ThermalEvents : Prop :=
  (∀ (s : State) (r : Reading) (v : Int), r.wf = true → r.value = some v →
    ∃ t, exec (.sensorSample [r]) s = .next t ∧ (t.m.sensor r.sensor).reading = v ∧ (t.m.sensor r.sensor).prev = (s.m.sensor r.sensor).reading ∧
      (t.m.sensor r.sensor).est = r.est ∧ (t.m.sensor r.sensor).sampledAt = s.m.time) ∧
  (∀ (s : State) (r : Reading), r.wf = true → r.value = none → (s.m.sensor r.sensor).suspect = false →
    ∃ t, exec (.sensorSample [r]) s = .next t ∧ (t.m.sensor r.sensor).suspect = true ∧ (t.m.sensor r.sensor).valid = false ∧
      (t.m.sensor r.sensor).suspectAt = s.m.time) ∧
  (∀ (m : Module) (g : Nat) (t : Int), m.hottestPlace (groupSensors g) = some t → (m.useGroup g).band g = nextBand (m.band g) t) ∧
  (∀ (b : Nat) (t : Int), 1 ≤ b → b ≤ 4 →
    (840 < t → nextBand b t = 4) ∧ (824 ≤ t → b = 4 → nextBand b t = 4) ∧ (t < 824 → nextBand b t ≤ 3) ∧ (760 < t → 3 ≤ nextBand b t) ∧
    (744 ≤ t → 3 ≤ b → 3 ≤ nextBand b t) ∧ (t < 744 → nextBand b t ≤ 2) ∧ (680 < t → 2 ≤ nextBand b t) ∧
    (664 ≤ t → 2 ≤ b → 2 ≤ nextBand b t) ∧ (t < 664 → nextBand b t ≤ 1) ∧ (0 ≤ t → 1 ≤ nextBand b t) ∧ (t < 0 → nextBand b t = 0)) ∧
  (∀ (s : State) (i : Nat), i < 3842 → (s.m.sensor i).suspect = true → (s.m.sensor i).suspectAt + 1000000 ≤ s.m.time →
    ∃ t, exec (.suspectPersistence i) s = .next t ∧ t.m = s.m.recordUnit .sensor i 0 0x50) ∧
  (∀ (s : State) (i : Nat), i < 3842 → (s.m.sensor i).suspect = true → heldFor s.m.time 1000000 (s.m.sensor i).calm = true →
    ∃ t, exec (.suspectRecovery i) s = .next t ∧ (t.m.sensor i).suspect = false ∧ (t.m.sensor i).valid = true) ∧
  (∀ (s : State) (i : Nat) (p : Int), i < 3840 →
    ∃ t, exec (.forecastEvaluation [(i, p)]) s = .next t ∧ (t.m.sensor i).forecast = p ∧
      (targetTemp i < p → ∀ c ∈ regionOf i, (t.m.cl c).thermalCap ≤ min (s.m.cl c).thermalCap (s.m.cl c).point - 1)) ∧
  (∀ (s : State) (c : Nat), clusterOk c = true → heldFor s.m.time 50000 (s.m.cl c).marginSince = true →
    s.m.stackHeld (stackOf c) = false →
    ∃ t, exec (.capRelease c) s = .next t ∧ (t.m.cl c).thermalCap = raiseBound (s.m.cl c).thermalCap (s.m.cl c).target ∧
      (∀ k, k ≠ c → t.m.cl k = s.m.cl k)) ∧
  (∀ (s : State) (c : Nat) (x : Int), clusterOk c = true → s.m.logicTemp c = some x →
    (800 ≤ x → ∃ t, exec (.throttleStep c) s = .next t ∧ (t.m.cl c).throttleCap = min (s.m.cl c).throttleCap (s.m.cl c).point - 1) ∧
    (x < 776 → ∃ t, exec (.throttleReleaseStep c) s = .next t ∧
      (t.m.cl c).throttleCap = raiseBound (s.m.cl c).throttleCap (s.m.cl c).target ∧ (t.m.cl c).throttled = false)) ∧
  (∀ (s : State) (i : Nat), i < 3840 → (s.m.sensor i).disarmed = false →
    ∃ t, exec (.tripComparator i) s = .next t ∧ t.m.thermal.tripPin = true ∧ t.m.thermal.tripSensor = i ∧ t.m.bring.lastTrip = true ∧
      t.m.power.vib = false ∧ t.m.power.vdram = false ∧ t.m.power.vpp = false ∧ t.m.power.vlink = false ∧ t.m.power.standby = s.m.power.standby) ∧
  (∀ (s : State) (us n : Nat),
    (us < 20 → ∃ t, exec (.flowTachPulse us n) s = .next t ∧ t = s) ∧
    (20 ≤ us → ∃ t, exec (.flowTachPulse us n) s = .next t ∧ t.m.thermal.pulses = s.m.thermal.pulses + 1 ∧
      t.m.thermal.flow = n * 6000 / s.m.thermal.pulsesPerLitre ∧ t.m.thermal.flowPresent = true)) ∧
  (∀ (s : State) (k : Nat), k < 3 → s.m.coolantBad k = true → s.m.thermal.degraded = false →
    ∃ t, exec (.coolantDegraded k) s = .next t ∧ t.m.thermal.degraded = true) ∧
  (∀ (s : State), s.m.coolantBad 0 = false → s.m.coolantBad 1 = false → s.m.coolantBad 2 = false →
    ∃ t, exec .coolantDegradedClear s = .next t ∧ t.m.thermal = { s.m.thermal with degraded := false }) ∧
  (∀ (s : State), s.m.thermal.degraded = true → s.m.marginShort = true →
    ∃ t, exec .moduleLimitLower s = .next t ∧ t.m.thermal.thermalLimit = max 1500 (s.m.effLimit - 200)) ∧
  (∀ (s : State), s.m.thermal.thermalLimit < s.m.power.limit → heldFor s.m.time 1000000 s.m.thermal.coolSince = true →
    ∃ t, exec .moduleLimitRaise s = .next t ∧ t.m.thermal.thermalLimit = min s.m.power.limit (s.m.thermal.thermalLimit + 200)) ∧
  (∀ (s : State), s.m.thermal.stop = false →
    (∃ t, exec (.coolantStop 0) s = .next t ∧ t.m.thermal.stop = true ∧ t.m.thermal.moduleHold = true ∧ t.m.thermal.stopAt = s.m.time ∧
      t.m.thermal.flow = 0 ∧ t.m.thermal.flowPresent = false) ∧
    (64 ≤ s.m.fastRises → ∃ t, exec (.coolantStop 1) s = .next t ∧ t.m.thermal.stop = true ∧ t.m.thermal.moduleHold = true))

/-! ## Clocks, resets, the link (chapters 14, 16) -/

/-- Clocks and resets (R443 to R447, R450, R453). A loop that loses lock is counted and relocks, a good attempt ends it and a third bad one takes its
unit out; a deskew that is due runs and is counted; the loss of the module reference drops the rails, of the management reference switches to the internal
oscillator; a reset that completes shows in CLK_RESET, and with it those inside it end. -/
def Obligations.ClockEvents : Prop :=
  (∀ (s : State) (p : Pll), p.wf = true → s.m.relocking p = false →
    ∃ t, exec (.pllLockLoss p) s = .next t ∧ t.m.clocks.relocks = s.m.clocks.relocks ++ [(p, 0)] ∧
      t.m.clocks.lockLosses = sat64 s.m.clocks.lockLosses 1) ∧
  (∀ (s : State) (p q : Pll) (n : Nat), p.wf = true → s.m.clocks.relocks.find? (fun x => x.1 == p) = some (q, n) →
    (∃ t, exec (.relockAttemptEnd p true) s = .next t ∧ t.m.relocking p = false) ∧
    (n < 2 → ∃ t, exec (.relockAttemptEnd p false) s = .next t ∧
      t.m.clocks.relocks = s.m.clocks.relocks.map (fun x => if x.1 = p then (x.1, x.2 + 1) else x)) ∧
    (2 ≤ n → ∃ t, exec (.relockAttemptEnd p false) s = .next t ∧
      t.m = (({ s.m with clocks := { s.m.clocks with relocks := s.m.clocks.relocks.filter (fun x => x.1 != p) } }).clockEvent 0x71 (pllKind p).1
        (pllKind p).2.1 (pllKind p).2.2 3 0 0).relockFailed p)) ∧
  (∀ (s : State) (k : Nat), k < 40 → s.m.deskewDue k = true →
    ∃ t, exec (.columnDeskew k []) s = .next t ∧ t.m.clocks.deskews = sat64 s.m.clocks.deskews 1 ∧ bitOf t.m.clocks.deskewWanted k = false ∧
      t.m.mem = s.m.mem ∧ t.m.clocks.deskewAt = SMap.set 0 s.m.clocks.deskewAt k s.m.time) ∧
  (∀ (s : State), ∃ t, exec .moduleReferenceLoss s = .next t ∧ t.m.clocks.refOk = false ∧ t.m.power.vib = false ∧ t.m.power.vdram = false ∧
    t.m.power.vpp = false ∧ t.m.power.vlink = false ∧ t.m.power.pwrGood = false ∧ t.m.thermal.alert = true ∧ t.m.power.standby = s.m.power.standby) ∧
  (∀ (s : State), s.m.clocks.mgmtRefOk = true → ∃ t, exec .refclkMgmtLoss s = .next t ∧ t.m.clocks = { s.m.clocks with mgmtRefOk := false } ∧
    t.m.log.pend.length = s.m.log.pend.length + 1) ∧
  (∀ (s : State), s.m.clocks.mgmtRefOk = false → ∃ t, exec .refclkMgmtRestore s = .next t ∧ t.m.clocks = { s.m.clocks with mgmtRefOk := true } ∧
    t.m.log.pend.length = s.m.log.pend.length + 1) ∧
  (∀ (s : State) (scope target : Nat) (r : ResetRun), s.m.clocks.resets.find? (fun r => r.scope == scope && r.target == target) = some r →
    (r.scope ≤ 1 → s.m.bring.ready = true) →
    ∃ t, exec (.resetComplete scope target) s = .next t ∧ t.m.clocks.resets = s.m.clocks.resets.filter (fun q => !s.m.includes r q) ∧
      t.m.clocks.resetScope = r.scope ∧ t.m.clocks.resetCause = r.cause ∧ t.m.clocks.resetTarget = r.target)

/-- The host port's pins, enables and link (R338, R446, R447, R499, R602, R604, R633). PERST_N low for 100 µs and the reset of the physical
function bring the port to reset; a virtual function's reset clears its registers; the enables hold and release what a function
sends; a link down for 100 ms is a reset of PERST_N scope, and one up again within it loses nothing. -/
def Obligations.PortEvents : Prop :=
  (∀ (s : State) (us : Nat), us < 100 → ∃ t, exec (.perstNAssert us) s = .next t ∧ t = s) ∧
  (∀ (s : State) (us : Nat), 100 ≤ us →
    ∃ t, exec (.perstNAssert us) s = .next t ∧ t.m.port.perst = true ∧ t.m.port.linkUp = false ∧ t.m.port.cfgReady = false ∧ t.m.port.numVfs = 0 ∧
      t.m.port.funcs = [] ∧ t.m.port.letters = [] ∧ t.m.port.works = [] ∧ t.m.port.cpls = [] ∧ t.m.engine.cmds = [] ∧ t.m.engine.rights = 0 ∧
      ⟨2, 0, 3, none⟩ ∈ t.m.clocks.resets) ∧
  (∀ (s : State), ∃ t, exec .functionLevelResetPf s = .next t ∧ t.m.port.cfgReady = false ∧ t.m.port.funcs = [] ∧ t.m.port.letters = [] ∧
    t.m.port.works = [] ∧ t.m.engine.cmds = [] ∧ ⟨2, 0, 3, none⟩ ∈ t.m.clocks.resets) ∧
  (∀ (s : State) (refclk : Bool),
    ∃ t, exec (.perstNDeassert refclk) s = .next t ∧ t.m.port.perst = false ∧ t.m.port.linkUp = (refclk && s.m.portPowered) ∧
      t.m.port.cfgReady = ((refclk && s.m.portPowered) && !s.m.portResetting) ∧ t.m.clocks.hostRefOk = refclk) ∧
  (∀ (s : State) (fn : Nat), 1 ≤ fn → fnOk fn = true →
    ∃ t, exec (.functionLevelResetVf fn) s = .next t ∧ t.m.func fn = {} ∧ t.m.ring (.letter fn) = {} ∧ t.m.ring (.work fn) = {} ∧
      (∀ q ∈ t.m.engine.cmds, q.fn ≠ fn) ∧ bitOf t.m.engine.rights fn = false) ∧
  (∀ (s : State) (n : Nat), n < 64 → ∃ t, exec (.vfEnableClear n) s = .next t ∧ t.m.port.numVfs ≤ n) ∧
  (∀ (s : State) (fn : Nat), fnOk fn = true →
    (∃ t, exec (.busMasterEnableClear fn) s = .next t ∧ (t.m.func fn).busMaster = false ∧ t.m.port.out = s.m.port.out) ∧
    ((s.m.func fn).d3hot = false → ∃ t, exec (.busMasterEnableSet fn) s = .next t ∧ (t.m.func fn).busMaster = true ∧ (t.m.func fn).held = [] ∧
      t.m.port.out = s.m.port.out ++ (s.m.func fn).held) ∧
    (∃ t, exec (.memorySpaceDisable fn false) s = .next t ∧ (t.m.func fn).memSpace = false ∧ (t.m.func fn).d3hot = (s.m.func fn).d3hot) ∧
    (∃ t, exec (.memorySpaceDisable fn true) s = .next t ∧ (t.m.func fn).d3hot = true)) ∧
  (∀ (s : State), s.m.port.linkUp = true →
    ∃ t, exec .hostLinkLoss s = .next t ∧ t.m.port = { s.m.port with linkUp := false, linkLost := true }) ∧
  (∀ (s : State) (us : Nat), s.m.port.perst = false → s.m.port.linkUp = false → 100000 ≤ us →
    ∃ t, exec (.linkDown us) s = .next t ∧ t.m.port.linkLost = false ∧ t.m.port.cfgReady = false ∧ t.m.port.funcs = [] ∧ t.m.engine.cmds = [] ∧
      ⟨2, 0, 3, none⟩ ∈ t.m.clocks.resets) ∧
  (∀ (s : State) (us w r : Nat), s.m.port.perst = false → s.m.port.linkUp = false → s.m.power.vlink = true → s.m.port.linkLost = true →
    ∃ t, exec (.linkRecovery us w r) s = .next t ∧ t.m.port.linkUp = true ∧ t.m.port.width = w ∧ t.m.port.rate = r ∧
      t.m.port.cfgReady = s.m.port.cfgReady ∧ t.m.port.letters = s.m.port.letters ∧ t.m.port.works = s.m.port.works ∧ t.m.engine = s.m.engine) ∧
  (∀ (s : State) (st : Nat), st < 2 ^ 32 → ∃ t, exec (.aerUncorrectableError st) s = .next t ∧ t.m.port.out = s.m.port.out ++ [.aer 0 st] ∧
    t.m.log.pend.length = s.m.log.pend.length + 1)

/-! ## Bring-up (chapter 15) -/

/-- The stages S0 to S8 (R3, R228, R385, R413, R454 to R476). A stage in progress that finds nothing ends and the next begins: S0 answers
the management port, S1 takes the images' versions, S2 raises the rails, S6 applies the map of units, S8 empties the partitions and
sets ready, or shows a shortfall; a stopping cause fails the start; a suspended stage resumes, or fails after 600 s. -/
def Obligations.BringUpStages : Prop :=
  (∀ (s : State) (rev dur : Nat), s.m.inStage 0 = true →
    (∃ t, exec (.s0Standby true rev dur) s = .next t ∧ t.m.bring.stage = 1 ∧ t.m.power.standby = true ∧ t.m.bring.controllerRev = rev % 256 ∧
      t.mgmt.up = true ∧ (SMap.get {} t.m.bring.reports 0).result = 2) ∧
    (∃ t, exec (.s0Standby false rev dur) s = .next t ∧ t.m.bring.stageFailed = true ∧ t.m.bring.active = false ∧ t.mgmt.up = true)) ∧
  (∀ (s : State) (i : FwInfo) (dur : Nat), s.m.inStage 1 = true → i.grade < 2 → i.slotOk = true → i.deadDecks = [] →
    ∃ t, exec (.s1Firmware i [] dur) s = .next t ∧ t.m.bring.stage = 2 ∧ t.m.bring.grade = i.grade ∧ t.m.activeSlot = s.m.activeSlot ∧
      t.m.bring.micro = (nth {} s.m.bring.slots s.m.activeSlot).microVer ∧ (SMap.get {} t.m.bring.reports 1).result = 2) ∧
  (∀ (s : State) (i : FwInfo) (dur : Nat), s.m.inStage 1 = true → i.grade < 2 → i.slotOk = false → i.otherOk = false → i.deadDecks = [] →
    ∃ t, exec (.s1Firmware i [] dur) s = .next t ∧ t.m.bring.stageFailed = true ∧ t.m.bring.active = false) ∧
  (∀ (s : State) (dur : Nat), s.m.inStage 2 = true →
    ∃ t, exec (.s2Rails [] dur) s = .next t ∧ t.m.bring.stage = 3 ∧ t.m.power.vib = true ∧ t.m.power.vdram = true ∧ t.m.power.vpp = true ∧
      t.m.power.vlink = true ∧ t.m.power.pwrGood = true ∧ t.m.port.linkUp = (!s.m.port.perst && s.m.clocks.hostRefOk) ∧
      t.m.port.cfgReady = (!s.m.port.perst && s.m.clocks.hostRefOk)) ∧
  (∀ (s : State) (d : Discovery) (rev dur : Nat), discWf d = true → s.m.inStage 3 = true → discResult d = .ok [] →
    ∃ t, exec (.s3Discovery d rev [] dur) s = .next t ∧ t.m.bring.stage = 4 ∧ t.m.bring.deckRev = rev % 256 ∧
      t.m.bring.singleBond = d.singleBond ∧ (SMap.get {} t.m.bring.reports 3).result = 2) ∧
  (∀ (s : State) (d : Discovery) (rev dur cause kind unit : Nat), discWf d = true → s.m.inStage 3 = true →
    discResult d = .error (cause, kind, unit) →
    ∃ t, exec (.s3Discovery d rev [] dur) s = .next t ∧ t.m = s.m.showReset.failStage 3 0x80 cause kind unit 0 dur) ∧
  (∀ (s : State) (dur : Nat), s.m.inStage 4 = true →
    ∃ t, exec (.s4Calibration [] dur) s = .next t ∧ t.m.bring.stage = 5 ∧ t.m.bring.warming = allGroups.any (fun g => s.m.band g == 0)) ∧
  (∀ (s : State) (dur : Nat), s.m.inStage 5 = true → s.m.bring.warming = false → s.m.bring.fails = [] →
    ∃ t, exec (.s5Memory [] dur) s = .next t ∧ t.m.bring.stage = 6 ∧ t.m.bring.findings = s.m.bring.findings) ∧
  (∀ (s : State) (stack group ms : Nat) (fs : List CellFail), stack < 40 → group < 4 → ms ∈ [2048, 3072, 5120, 8192] → fs.all CellFail.wf = true →
    s.m.inStage 5 = true → s.m.bring.quick = false → s.m.bring.warming = false →
    ∃ t, exec (.retentionHoldEnd stack group ms fs) s = .next t ∧
      t.m.bring.fails = s.m.bring.fails ++ fs.map (fun f => { f with holdMs := ms })) ∧
  (∀ (s : State) (d : Nat), s.m.inStage 5 = true → s.m.bring.warming = true →
    (allGroups.any (fun g => s.m.band g == 0) = false → ∃ t, exec (.coldWarmingEnd d) s = .next t ∧ t.m.bring.warming = false) ∧
    (allGroups.any (fun g => s.m.band g == 0) = true → 120 ≤ d → ∃ t, exec (.coldWarmingEnd d) s = .next t ∧ t.m.bring.stageFailed = true ∧
      t.m.bring.active = false)) ∧
  (∀ (s : State) (dur : Nat), s.m.inStage 6 = true →
    ∃ t, exec (.s6Repair [] dur) s = .next t ∧ t.m.bring.stage = 7 ∧ t.m.bring.recordValid = true ∧
      ∀ site < Config.sites, t.m.core site = siteCore s.m.outList s.m.bring.micro site) ∧
  (∀ (s : State) (dur : Nat), s.m.inStage 7 = true → ∃ t, exec (.s7KnownAnswer [] dur) s = .next t ∧ t.m.bring.stage = 8) ∧
  (∀ (s : State) (dur : Nat), s.m.inStage 8 = true → s.m.bring.shortfall = false → (s.m.zeroPads (s.m.cores.map (·.1))).short = false →
    ∃ t, exec (.s8HostReady [] dur) s = .next t ∧ t.m.bring.ready = true ∧ t.m.bring.stage = 9 ∧ t.m.parts.parts = [] ∧
      (∀ c ∈ allClusters, (t.m.cl c).owner = none ∧ (t.m.cl c).functionView = false) ∧ t.m.fab.role = s.m.fab.roleConfig ∧
      (∀ p ∈ t.m.fab.ports, p.state = 1 ∨ p.state = 4)) ∧
  (∀ (s : State) (dur : Nat), s.m.inStage 8 = true → s.m.bring.shortfall = false → (s.m.zeroPads (s.m.cores.map (·.1))).short = true →
    ∃ t, exec (.s8HostReady [] dur) s = .next t ∧ t.m.bring.ready = s.m.bring.ready ∧ t.m.bring.shortfall = true ∧
      (SMap.get {} t.m.bring.reports 8).result = 1) ∧
  (∀ (s : State), s.m.bring.suspended = true → s.m.resumeOk = true →
    ∃ t, exec .stageResume s = .next t ∧ t.m.bring.suspended = false ∧ t.m.thermal.stop = false ∧ t.m.thermal.moduleHold = false) ∧
  (∀ (s : State), s.m.bring.suspended = true → s.m.thermal.stopAt + 600000000 ≤ s.m.time →
    ∃ t, exec .stageSuspendTimeout s = .next t ∧ t.m.bring.stageFailed = true ∧ t.m.bring.active = false)

/-! ## Memory, the log's counters, number formats (chapters 2, 6, 20) -/

/-- R37. The fields of a slice offset: byte [5:0], sector [10:6], bank in layer [12:11], layer [16:13], row [28:17]. Consecutive 2 KiB rows
fall in consecutive banks, through the four of a layer and then up the layers; an aligned 128 KiB block is one row index in all 64
banks, the block a bank-op's step works on; an aligned 64 KiB page is 32 rows at one row index, in banks 0 to 31 when bit
[16] is 0 and in banks 32 to 63 when it is 1. -/
def Obligations.SliceOffsetFields : Prop :=
  (∀ off : BitVec 29,
    off.toNat % 64 = (off.extractLsb 5 0).toNat ∧ sectorOf off.toNat = (off.extractLsb 10 6).toNat ∧
    bankOf off.toNat % 4 = (off.extractLsb 12 11).toNat ∧ layerOf off.toNat = (off.extractLsb 16 13).toNat ∧
    rowOf off.toNat = (off.extractLsb 28 17).toNat ∧ bankOf off.toNat = layerOf off.toNat * 4 + bankOf off.toNat % 4) ∧
  (∀ off, off + 2048 < 2 ^ 29 →
    (bankOf off < 63 → bankOf (off + 2048) = bankOf off + 1 ∧ rowOf (off + 2048) = rowOf off) ∧
    (bankOf off = 63 → bankOf (off + 2048) = 0 ∧ rowOf (off + 2048) = rowOf off + 1)) ∧
  (∀ row bank i, row < 4096 → bank < 64 → i < 2048 →
    rowOf (rowOffset bank row + i) = row ∧ bankOf (rowOffset bank row + i) = bank ∧
    row * 131072 ≤ rowOffset bank row + i ∧ rowOffset bank row + i < (row + 1) * 131072) ∧
  (∀ row off, row * 131072 ≤ off → off < (row + 1) * 131072 → off = rowOffset (bankOf off) row + off % 2048) ∧
  (∀ site row bank, rowAddr site (row * 64 + bank) = devAddr site (rowOffset bank row)) ∧
  (∀ off, off < 2 ^ 29 → rowOf off = off / 65536 / 2 ∧
    (bitOf off 16 = false → bankOf off < 32 ∧ layerOf off < 8) ∧ (bitOf off 16 = true → 32 ≤ bankOf off ∧ 8 ≤ layerOf off))

/-- Stored bytes. After a write of any length every byte written reads as it was given and every other address reads as before; the
list of bytes keeps its canonical form, so that two memories with equal contents are equal. -/
def Obligations.MemoryBytes : Prop :=
  (∀ (m : Module) (a : Nat) (bs : List Byte),
    (m.putBytes a bs).bytesAt a bs.length = bs ∧
    (∀ k, (k < a ∨ a + bs.length ≤ k) → SMap.get 0 (m.putBytes a bs).mem.bytes k = SMap.get 0 m.mem.bytes k) ∧
    (Memory.wf m.mem.bytes = true → Memory.wf (m.putBytes a bs).mem.bytes = true)) ∧
  (∀ m n : SMap Byte, Memory.wf m = true → Memory.wf n = true → (∀ k, SMap.get 0 m k = SMap.get 0 n k) → m = n)

/-- R75. MEM.RETIRE_BANK for a slice that already has a retired bank is answered with ST_LIMIT, and the slice keeps the one retired bank
it had. -/
def Obligations.SecondRetiredBank : Prop :=
  ∀ (s : State) (c : Cmd) (errs : List (Nat × Nat)) (bank : Nat),
    accepted specRetireBank (badRetireBank c) none (s.m.retireClaims (pField c 8 2)) (s.m.cl (clusterOf (pField c 8 2))).owner c s.m →
    (s.m.slice (pField c 8 2)).state ≠ 2 → (s.m.slice (pField c 8 2)).retiredBank = some bank →
    ∃ t, exec (.memRetireBank c errs) s = .next t ∧ answered 0x22 stLimit (d4 0) c s.m t.m ∧
      (∀ k, t.m.slice k = s.m.slice k) ∧ t.m.mem = s.m.mem

/-- R607. ERR_COUNT[k], ERR_LOST and ERR_SUPPRESSED: each reads its 64-bit count, ignores a write, is 0 at reset and after a cold start whose
log takes nothing over, counts and saturates. -/
def Obligations.LogCounters : Prop :=
  (∀ m : Module, (∀ k < 4, m.readErr (0x28 + 8 * k) = BitVec.ofNat 64 (nth 0 m.log.counts k)) ∧
    m.readErr 0x48 = BitVec.ofNat 64 m.log.lost ∧ m.readErr 0x50 = BitVec.ofNat 64 m.log.suppressed) ∧
  (∀ (s : State) (off size v : Nat), 0x40028 ≤ off → off + size ≤ 0x40058 → bar0Aligned off size = true → serves 0 (off / 8 * 8) s.m →
    ∃ t, exec (.registerWrite 0 off size v) s = .next t ∧ t.m.log = s.m.log) ∧
  (State.reset.m.log.counts = [0, 0, 0, 0] ∧ State.reset.m.log.lost = 0 ∧ State.reset.m.log.suppressed = 0) ∧
  (∀ (m : Module) (quick asked : Bool) (cause : Nat), m.bring.shutdownPending = false →
    (m.coldStart quick asked cause).log.counts = [0, 0, 0, 0] ∧ (m.coldStart quick asked cause).log.lost = 0 ∧
    (m.coldStart quick asked cause).log.suppressed = 0) ∧
  (∀ (m : Module) (quick : Bool) (cause : Nat), (m.moduleReset quick cause).log.counts = m.log.counts ∧
    (m.moduleReset quick cause).log.lost = m.log.lost ∧ (m.moduleReset quick cause).log.suppressed = m.log.suppressed) ∧
  (∀ (m : Module) (e : Entry) (k : Nat), m.log.counts.length = 4 → e.cls < 4 → k < 4 →
    nth 0 (m.writeEntry e).log.counts k =
      (if k = e.cls then min (nth 0 m.log.counts k + 1) (2 ^ 64 - 1) else nth 0 m.log.counts k)) ∧
  (∀ (m : Module) (e o : Entry) (rest : List Entry), m.log.entries = o :: rest → m.log.entries.length = 4096 → m.log.isUnread o = true →
    (m.writeEntry e).log.lost = min (m.log.lost + 1) (2 ^ 64 - 1)) ∧
  (∀ (l : Log) (e n : Entry), l.alike e = some n → (l.foldInto e).suppressed = min (l.suppressed + 1) (2 ^ 64 - 1))

/-- R211. Conversion into a format gives its canonical quiet NaN and no other NaN, whatever NaN went in; a zero keeps its sign; E3M2, E2M3 and
E2M1 have no NaN; a NaN in a block of theirs is the block's scale 0xFF. -/
def Obligations.ConversionSpecials : Prop :=
  (fp32.nan = 0x7FC00000 ∧ bf16.nan = 0x7FC0 ∧ fp16.nan = 0x7E00 ∧ e4m3.nan = 0x7F ∧ e5m2.nan = 0x7E) ∧
  (∀ (f : Fmt) (r : Rnd) (sat : Bool) (v : Val), f ∈ [fp32, bf16, fp16, e4m3, e5m2] → (f = e4m3 → sat = true) →
    (v = .nan → roundF f r sat v = f.nan) ∧ (decodeF f (roundF f r sat v) = .nan → roundF f r sat v = f.nan)) ∧
  (∀ (f : Fmt) (r : Rnd) (sat neg : Bool) (e : Int), f ∈ [fp32, bf16, fp16, e4m3, e5m2, e3m2, e2m3, e2m1] →
    ∃ x, decodeF f (roundF f r sat (.fin neg 0 e)) = .fin neg 0 x) ∧
  (∀ (f : Fmt) (w : Nat), f ∈ [e3m2, e2m3, e2m1] → decodeF f w ≠ .nan) ∧
  (∀ (code : Nat) (rnd : Nat → Rnd) (vs : List Val), isMx code = true → Val.nan ∈ vs →
    getLe (encodeBlock code rnd vs) (4 * codeBits code) 1 = 0xFF) ∧
  (∀ (code : Nat) (b : List Byte), getLe b (4 * codeBits code) 1 = 0xFF → decodeBlock code b = List.replicate 32 .nan)
end

