-- ==== Sys2Proof/Laws/State.lean ====
section
/-! SUPPORT. What each named update of the module leaves as it was: one lemma for each field, true by rfl. -/

namespace Sys2Proof.Machine

@[simp] theorem Module.updCl_time (m : Module) (c : Nat) (f : Cluster → Cluster) : (m.updCl c f).time = m.time := rfl
@[simp] theorem Module.updCl_free (m : Module) (c : Nat) (f : Cluster → Cluster) : (m.updCl c f).free = m.free := rfl
@[simp] theorem Module.updCl_log (m : Module) (c : Nat) (f : Cluster → Cluster) : (m.updCl c f).log = m.log := rfl
@[simp] theorem Module.updCl_port (m : Module) (c : Nat) (f : Cluster → Cluster) : (m.updCl c f).port = m.port := rfl
@[simp] theorem Module.updCl_engine (m : Module) (c : Nat) (f : Cluster → Cluster) : (m.updCl c f).engine = m.engine := rfl
@[simp] theorem Module.updCl_bring (m : Module) (c : Nat) (f : Cluster → Cluster) : (m.updCl c f).bring = m.bring := rfl
@[simp] theorem Module.updCl_epochs (m : Module) (c : Nat) (f : Cluster → Cluster) : (m.updCl c f).epochs = m.epochs := rfl
@[simp] theorem Module.updCl_power (m : Module) (c : Nat) (f : Cluster → Cluster) : (m.updCl c f).power = m.power := rfl
@[simp] theorem Module.updCl_thermal (m : Module) (c : Nat) (f : Cluster → Cluster) : (m.updCl c f).thermal = m.thermal := rfl
@[simp] theorem Module.updCl_clocks (m : Module) (c : Nat) (f : Cluster → Cluster) : (m.updCl c f).clocks = m.clocks := rfl
@[simp] theorem Module.updCl_mem (m : Module) (c : Nat) (f : Cluster → Cluster) : (m.updCl c f).mem = m.mem := rfl
@[simp] theorem Module.updCl_cores (m : Module) (c : Nat) (f : Cluster → Cluster) : (m.updCl c f).cores = m.cores := rfl
@[simp] theorem Module.updCl_parts (m : Module) (c : Nat) (f : Cluster → Cluster) : (m.updCl c f).parts = m.parts := rfl
@[simp] theorem Module.updCl_net (m : Module) (c : Nat) (f : Cluster → Cluster) : (m.updCl c f).net = m.net := rfl
@[simp] theorem Module.updCl_fab (m : Module) (c : Nat) (f : Cluster → Cluster) : (m.updCl c f).fab = m.fab := rfl
@[simp] theorem Module.updCl_flight (m : Module) (c : Nat) (f : Cluster → Cluster) : (m.updCl c f).flight = m.flight := rfl
@[simp] theorem Module.updCl_tlb (m : Module) (c : Nat) (f : Cluster → Cluster) : (m.updCl c f).tlb = m.tlb := rfl
@[simp] theorem Module.updCl_telAlarm (m : Module) (c : Nat) (f : Cluster → Cluster) : (m.updCl c f).telAlarm = m.telAlarm := rfl
@[simp] theorem Module.updCl_telStatus (m : Module) (c : Nat) (f : Cluster → Cluster) : (m.updCl c f).telStatus = m.telStatus := rfl
@[simp] theorem Module.updCl_telEnable (m : Module) (c : Nat) (f : Cluster → Cluster) : (m.updCl c f).telEnable = m.telEnable := rfl
@[simp] theorem Module.updCl_telPrev (m : Module) (c : Nat) (f : Cluster → Cluster) : (m.updCl c f).telPrev = m.telPrev := rfl
@[simp] theorem Module.updCl_ibiCauses (m : Module) (c : Nat) (f : Cluster → Cluster) : (m.updCl c f).ibiCauses = m.ibiCauses := rfl
@[simp] theorem Module.updCl_fwSession (m : Module) (c : Nat) (f : Cluster → Cluster) : (m.updCl c f).fwSession = m.fwSession := rfl

@[simp] theorem Module.updCls_time (m : Module) (cs : List Nat) (f : Cluster → Cluster) : (m.updCls cs f).time = m.time := rfl
@[simp] theorem Module.updCls_free (m : Module) (cs : List Nat) (f : Cluster → Cluster) : (m.updCls cs f).free = m.free := rfl
@[simp] theorem Module.updCls_log (m : Module) (cs : List Nat) (f : Cluster → Cluster) : (m.updCls cs f).log = m.log := rfl
@[simp] theorem Module.updCls_port (m : Module) (cs : List Nat) (f : Cluster → Cluster) : (m.updCls cs f).port = m.port := rfl
@[simp] theorem Module.updCls_engine (m : Module) (cs : List Nat) (f : Cluster → Cluster) : (m.updCls cs f).engine = m.engine := rfl
@[simp] theorem Module.updCls_bring (m : Module) (cs : List Nat) (f : Cluster → Cluster) : (m.updCls cs f).bring = m.bring := rfl
@[simp] theorem Module.updCls_epochs (m : Module) (cs : List Nat) (f : Cluster → Cluster) : (m.updCls cs f).epochs = m.epochs := rfl
@[simp] theorem Module.updCls_power (m : Module) (cs : List Nat) (f : Cluster → Cluster) : (m.updCls cs f).power = m.power := rfl
@[simp] theorem Module.updCls_thermal (m : Module) (cs : List Nat) (f : Cluster → Cluster) : (m.updCls cs f).thermal = m.thermal := rfl
@[simp] theorem Module.updCls_clocks (m : Module) (cs : List Nat) (f : Cluster → Cluster) : (m.updCls cs f).clocks = m.clocks := rfl
@[simp] theorem Module.updCls_mem (m : Module) (cs : List Nat) (f : Cluster → Cluster) : (m.updCls cs f).mem = m.mem := rfl
@[simp] theorem Module.updCls_cores (m : Module) (cs : List Nat) (f : Cluster → Cluster) : (m.updCls cs f).cores = m.cores := rfl
@[simp] theorem Module.updCls_parts (m : Module) (cs : List Nat) (f : Cluster → Cluster) : (m.updCls cs f).parts = m.parts := rfl
@[simp] theorem Module.updCls_net (m : Module) (cs : List Nat) (f : Cluster → Cluster) : (m.updCls cs f).net = m.net := rfl
@[simp] theorem Module.updCls_fab (m : Module) (cs : List Nat) (f : Cluster → Cluster) : (m.updCls cs f).fab = m.fab := rfl
@[simp] theorem Module.updCls_flight (m : Module) (cs : List Nat) (f : Cluster → Cluster) : (m.updCls cs f).flight = m.flight := rfl
@[simp] theorem Module.updCls_tlb (m : Module) (cs : List Nat) (f : Cluster → Cluster) : (m.updCls cs f).tlb = m.tlb := rfl
@[simp] theorem Module.updCls_telAlarm (m : Module) (cs : List Nat) (f : Cluster → Cluster) : (m.updCls cs f).telAlarm = m.telAlarm := rfl
@[simp] theorem Module.updCls_telStatus (m : Module) (cs : List Nat) (f : Cluster → Cluster) : (m.updCls cs f).telStatus = m.telStatus := rfl
@[simp] theorem Module.updCls_telEnable (m : Module) (cs : List Nat) (f : Cluster → Cluster) : (m.updCls cs f).telEnable = m.telEnable := rfl
@[simp] theorem Module.updCls_telPrev (m : Module) (cs : List Nat) (f : Cluster → Cluster) : (m.updCls cs f).telPrev = m.telPrev := rfl
@[simp] theorem Module.updCls_ibiCauses (m : Module) (cs : List Nat) (f : Cluster → Cluster) : (m.updCls cs f).ibiCauses = m.ibiCauses := rfl
@[simp] theorem Module.updCls_fwSession (m : Module) (cs : List Nat) (f : Cluster → Cluster) : (m.updCls cs f).fwSession = m.fwSession := rfl

@[simp] theorem Module.updCore_time (m : Module) (c : Nat) (f : Core → Core) : (m.updCore c f).time = m.time := rfl
@[simp] theorem Module.updCore_free (m : Module) (c : Nat) (f : Core → Core) : (m.updCore c f).free = m.free := rfl
@[simp] theorem Module.updCore_log (m : Module) (c : Nat) (f : Core → Core) : (m.updCore c f).log = m.log := rfl
@[simp] theorem Module.updCore_port (m : Module) (c : Nat) (f : Core → Core) : (m.updCore c f).port = m.port := rfl
@[simp] theorem Module.updCore_engine (m : Module) (c : Nat) (f : Core → Core) : (m.updCore c f).engine = m.engine := rfl
@[simp] theorem Module.updCore_bring (m : Module) (c : Nat) (f : Core → Core) : (m.updCore c f).bring = m.bring := rfl
@[simp] theorem Module.updCore_epochs (m : Module) (c : Nat) (f : Core → Core) : (m.updCore c f).epochs = m.epochs := rfl
@[simp] theorem Module.updCore_power (m : Module) (c : Nat) (f : Core → Core) : (m.updCore c f).power = m.power := rfl
@[simp] theorem Module.updCore_clusters (m : Module) (c : Nat) (f : Core → Core) : (m.updCore c f).clusters = m.clusters := rfl
@[simp] theorem Module.updCore_thermal (m : Module) (c : Nat) (f : Core → Core) : (m.updCore c f).thermal = m.thermal := rfl
@[simp] theorem Module.updCore_clocks (m : Module) (c : Nat) (f : Core → Core) : (m.updCore c f).clocks = m.clocks := rfl
@[simp] theorem Module.updCore_mem (m : Module) (c : Nat) (f : Core → Core) : (m.updCore c f).mem = m.mem := rfl
@[simp] theorem Module.updCore_parts (m : Module) (c : Nat) (f : Core → Core) : (m.updCore c f).parts = m.parts := rfl
@[simp] theorem Module.updCore_net (m : Module) (c : Nat) (f : Core → Core) : (m.updCore c f).net = m.net := rfl
@[simp] theorem Module.updCore_fab (m : Module) (c : Nat) (f : Core → Core) : (m.updCore c f).fab = m.fab := rfl
@[simp] theorem Module.updCore_flight (m : Module) (c : Nat) (f : Core → Core) : (m.updCore c f).flight = m.flight := rfl
@[simp] theorem Module.updCore_tlb (m : Module) (c : Nat) (f : Core → Core) : (m.updCore c f).tlb = m.tlb := rfl
@[simp] theorem Module.updCore_telAlarm (m : Module) (c : Nat) (f : Core → Core) : (m.updCore c f).telAlarm = m.telAlarm := rfl
@[simp] theorem Module.updCore_telStatus (m : Module) (c : Nat) (f : Core → Core) : (m.updCore c f).telStatus = m.telStatus := rfl
@[simp] theorem Module.updCore_telEnable (m : Module) (c : Nat) (f : Core → Core) : (m.updCore c f).telEnable = m.telEnable := rfl
@[simp] theorem Module.updCore_telPrev (m : Module) (c : Nat) (f : Core → Core) : (m.updCore c f).telPrev = m.telPrev := rfl
@[simp] theorem Module.updCore_ibiCauses (m : Module) (c : Nat) (f : Core → Core) : (m.updCore c f).ibiCauses = m.ibiCauses := rfl
@[simp] theorem Module.updCore_fwSession (m : Module) (c : Nat) (f : Core → Core) : (m.updCore c f).fwSession = m.fwSession := rfl

@[simp] theorem Module.updCores_time (m : Module) (cs : List Nat) (f : Core → Core) : (m.updCores cs f).time = m.time := rfl
@[simp] theorem Module.updCores_free (m : Module) (cs : List Nat) (f : Core → Core) : (m.updCores cs f).free = m.free := rfl
@[simp] theorem Module.updCores_log (m : Module) (cs : List Nat) (f : Core → Core) : (m.updCores cs f).log = m.log := rfl
@[simp] theorem Module.updCores_port (m : Module) (cs : List Nat) (f : Core → Core) : (m.updCores cs f).port = m.port := rfl
@[simp] theorem Module.updCores_engine (m : Module) (cs : List Nat) (f : Core → Core) : (m.updCores cs f).engine = m.engine := rfl
@[simp] theorem Module.updCores_bring (m : Module) (cs : List Nat) (f : Core → Core) : (m.updCores cs f).bring = m.bring := rfl
@[simp] theorem Module.updCores_epochs (m : Module) (cs : List Nat) (f : Core → Core) : (m.updCores cs f).epochs = m.epochs := rfl
@[simp] theorem Module.updCores_power (m : Module) (cs : List Nat) (f : Core → Core) : (m.updCores cs f).power = m.power := rfl
@[simp] theorem Module.updCores_clusters (m : Module) (cs : List Nat) (f : Core → Core) : (m.updCores cs f).clusters = m.clusters := rfl
@[simp] theorem Module.updCores_thermal (m : Module) (cs : List Nat) (f : Core → Core) : (m.updCores cs f).thermal = m.thermal := rfl
@[simp] theorem Module.updCores_clocks (m : Module) (cs : List Nat) (f : Core → Core) : (m.updCores cs f).clocks = m.clocks := rfl
@[simp] theorem Module.updCores_mem (m : Module) (cs : List Nat) (f : Core → Core) : (m.updCores cs f).mem = m.mem := rfl
@[simp] theorem Module.updCores_parts (m : Module) (cs : List Nat) (f : Core → Core) : (m.updCores cs f).parts = m.parts := rfl
@[simp] theorem Module.updCores_net (m : Module) (cs : List Nat) (f : Core → Core) : (m.updCores cs f).net = m.net := rfl
@[simp] theorem Module.updCores_fab (m : Module) (cs : List Nat) (f : Core → Core) : (m.updCores cs f).fab = m.fab := rfl
@[simp] theorem Module.updCores_flight (m : Module) (cs : List Nat) (f : Core → Core) : (m.updCores cs f).flight = m.flight := rfl
@[simp] theorem Module.updCores_tlb (m : Module) (cs : List Nat) (f : Core → Core) : (m.updCores cs f).tlb = m.tlb := rfl
@[simp] theorem Module.updCores_telAlarm (m : Module) (cs : List Nat) (f : Core → Core) : (m.updCores cs f).telAlarm = m.telAlarm := rfl
@[simp] theorem Module.updCores_telStatus (m : Module) (cs : List Nat) (f : Core → Core) : (m.updCores cs f).telStatus = m.telStatus := rfl
@[simp] theorem Module.updCores_telEnable (m : Module) (cs : List Nat) (f : Core → Core) : (m.updCores cs f).telEnable = m.telEnable := rfl
@[simp] theorem Module.updCores_telPrev (m : Module) (cs : List Nat) (f : Core → Core) : (m.updCores cs f).telPrev = m.telPrev := rfl
@[simp] theorem Module.updCores_ibiCauses (m : Module) (cs : List Nat) (f : Core → Core) : (m.updCores cs f).ibiCauses = m.ibiCauses := rfl
@[simp] theorem Module.updCores_fwSession (m : Module) (cs : List Nat) (f : Core → Core) : (m.updCores cs f).fwSession = m.fwSession := rfl

@[simp] theorem Module.updSlice_time (m : Module) (c : Nat) (f : Slice → Slice) : (m.updSlice c f).time = m.time := rfl
@[simp] theorem Module.updSlice_free (m : Module) (c : Nat) (f : Slice → Slice) : (m.updSlice c f).free = m.free := rfl
@[simp] theorem Module.updSlice_log (m : Module) (c : Nat) (f : Slice → Slice) : (m.updSlice c f).log = m.log := rfl
@[simp] theorem Module.updSlice_port (m : Module) (c : Nat) (f : Slice → Slice) : (m.updSlice c f).port = m.port := rfl
@[simp] theorem Module.updSlice_engine (m : Module) (c : Nat) (f : Slice → Slice) : (m.updSlice c f).engine = m.engine := rfl
@[simp] theorem Module.updSlice_bring (m : Module) (c : Nat) (f : Slice → Slice) : (m.updSlice c f).bring = m.bring := rfl
@[simp] theorem Module.updSlice_epochs (m : Module) (c : Nat) (f : Slice → Slice) : (m.updSlice c f).epochs = m.epochs := rfl
@[simp] theorem Module.updSlice_power (m : Module) (c : Nat) (f : Slice → Slice) : (m.updSlice c f).power = m.power := rfl
@[simp] theorem Module.updSlice_clusters (m : Module) (c : Nat) (f : Slice → Slice) : (m.updSlice c f).clusters = m.clusters := rfl
@[simp] theorem Module.updSlice_thermal (m : Module) (c : Nat) (f : Slice → Slice) : (m.updSlice c f).thermal = m.thermal := rfl
@[simp] theorem Module.updSlice_clocks (m : Module) (c : Nat) (f : Slice → Slice) : (m.updSlice c f).clocks = m.clocks := rfl
@[simp] theorem Module.updSlice_cores (m : Module) (c : Nat) (f : Slice → Slice) : (m.updSlice c f).cores = m.cores := rfl
@[simp] theorem Module.updSlice_parts (m : Module) (c : Nat) (f : Slice → Slice) : (m.updSlice c f).parts = m.parts := rfl
@[simp] theorem Module.updSlice_net (m : Module) (c : Nat) (f : Slice → Slice) : (m.updSlice c f).net = m.net := rfl
@[simp] theorem Module.updSlice_fab (m : Module) (c : Nat) (f : Slice → Slice) : (m.updSlice c f).fab = m.fab := rfl
@[simp] theorem Module.updSlice_flight (m : Module) (c : Nat) (f : Slice → Slice) : (m.updSlice c f).flight = m.flight := rfl
@[simp] theorem Module.updSlice_tlb (m : Module) (c : Nat) (f : Slice → Slice) : (m.updSlice c f).tlb = m.tlb := rfl
@[simp] theorem Module.updSlice_telAlarm (m : Module) (c : Nat) (f : Slice → Slice) : (m.updSlice c f).telAlarm = m.telAlarm := rfl
@[simp] theorem Module.updSlice_telStatus (m : Module) (c : Nat) (f : Slice → Slice) : (m.updSlice c f).telStatus = m.telStatus := rfl
@[simp] theorem Module.updSlice_telEnable (m : Module) (c : Nat) (f : Slice → Slice) : (m.updSlice c f).telEnable = m.telEnable := rfl
@[simp] theorem Module.updSlice_telPrev (m : Module) (c : Nat) (f : Slice → Slice) : (m.updSlice c f).telPrev = m.telPrev := rfl
@[simp] theorem Module.updSlice_ibiCauses (m : Module) (c : Nat) (f : Slice → Slice) : (m.updSlice c f).ibiCauses = m.ibiCauses := rfl
@[simp] theorem Module.updSlice_fwSession (m : Module) (c : Nat) (f : Slice → Slice) : (m.updSlice c f).fwSession = m.fwSession := rfl

@[simp] theorem Module.updSlices_time (m : Module) (cs : List Nat) (f : Slice → Slice) : (m.updSlices cs f).time = m.time := rfl
@[simp] theorem Module.updSlices_free (m : Module) (cs : List Nat) (f : Slice → Slice) : (m.updSlices cs f).free = m.free := rfl
@[simp] theorem Module.updSlices_log (m : Module) (cs : List Nat) (f : Slice → Slice) : (m.updSlices cs f).log = m.log := rfl
@[simp] theorem Module.updSlices_port (m : Module) (cs : List Nat) (f : Slice → Slice) : (m.updSlices cs f).port = m.port := rfl
@[simp] theorem Module.updSlices_engine (m : Module) (cs : List Nat) (f : Slice → Slice) : (m.updSlices cs f).engine = m.engine := rfl
@[simp] theorem Module.updSlices_bring (m : Module) (cs : List Nat) (f : Slice → Slice) : (m.updSlices cs f).bring = m.bring := rfl
@[simp] theorem Module.updSlices_epochs (m : Module) (cs : List Nat) (f : Slice → Slice) : (m.updSlices cs f).epochs = m.epochs := rfl
@[simp] theorem Module.updSlices_power (m : Module) (cs : List Nat) (f : Slice → Slice) : (m.updSlices cs f).power = m.power := rfl
@[simp] theorem Module.updSlices_clusters (m : Module) (cs : List Nat) (f : Slice → Slice) : (m.updSlices cs f).clusters = m.clusters := rfl
@[simp] theorem Module.updSlices_thermal (m : Module) (cs : List Nat) (f : Slice → Slice) : (m.updSlices cs f).thermal = m.thermal := rfl
@[simp] theorem Module.updSlices_clocks (m : Module) (cs : List Nat) (f : Slice → Slice) : (m.updSlices cs f).clocks = m.clocks := rfl
@[simp] theorem Module.updSlices_cores (m : Module) (cs : List Nat) (f : Slice → Slice) : (m.updSlices cs f).cores = m.cores := rfl
@[simp] theorem Module.updSlices_parts (m : Module) (cs : List Nat) (f : Slice → Slice) : (m.updSlices cs f).parts = m.parts := rfl
@[simp] theorem Module.updSlices_net (m : Module) (cs : List Nat) (f : Slice → Slice) : (m.updSlices cs f).net = m.net := rfl
@[simp] theorem Module.updSlices_fab (m : Module) (cs : List Nat) (f : Slice → Slice) : (m.updSlices cs f).fab = m.fab := rfl
@[simp] theorem Module.updSlices_flight (m : Module) (cs : List Nat) (f : Slice → Slice) : (m.updSlices cs f).flight = m.flight := rfl
@[simp] theorem Module.updSlices_tlb (m : Module) (cs : List Nat) (f : Slice → Slice) : (m.updSlices cs f).tlb = m.tlb := rfl
@[simp] theorem Module.updSlices_telAlarm (m : Module) (cs : List Nat) (f : Slice → Slice) : (m.updSlices cs f).telAlarm = m.telAlarm := rfl
@[simp] theorem Module.updSlices_telStatus (m : Module) (cs : List Nat) (f : Slice → Slice) : (m.updSlices cs f).telStatus = m.telStatus := rfl
@[simp] theorem Module.updSlices_telEnable (m : Module) (cs : List Nat) (f : Slice → Slice) : (m.updSlices cs f).telEnable = m.telEnable := rfl
@[simp] theorem Module.updSlices_telPrev (m : Module) (cs : List Nat) (f : Slice → Slice) : (m.updSlices cs f).telPrev = m.telPrev := rfl
@[simp] theorem Module.updSlices_ibiCauses (m : Module) (cs : List Nat) (f : Slice → Slice) : (m.updSlices cs f).ibiCauses = m.ibiCauses := rfl
@[simp] theorem Module.updSlices_fwSession (m : Module) (cs : List Nat) (f : Slice → Slice) : (m.updSlices cs f).fwSession = m.fwSession := rfl

@[simp] theorem Module.updPart_time (m : Module) (n : Nat) (f : Part → Part) : (m.updPart n f).time = m.time := rfl
@[simp] theorem Module.updPart_free (m : Module) (n : Nat) (f : Part → Part) : (m.updPart n f).free = m.free := rfl
@[simp] theorem Module.updPart_log (m : Module) (n : Nat) (f : Part → Part) : (m.updPart n f).log = m.log := rfl
@[simp] theorem Module.updPart_port (m : Module) (n : Nat) (f : Part → Part) : (m.updPart n f).port = m.port := rfl
@[simp] theorem Module.updPart_engine (m : Module) (n : Nat) (f : Part → Part) : (m.updPart n f).engine = m.engine := rfl
@[simp] theorem Module.updPart_bring (m : Module) (n : Nat) (f : Part → Part) : (m.updPart n f).bring = m.bring := rfl
@[simp] theorem Module.updPart_epochs (m : Module) (n : Nat) (f : Part → Part) : (m.updPart n f).epochs = m.epochs := rfl
@[simp] theorem Module.updPart_power (m : Module) (n : Nat) (f : Part → Part) : (m.updPart n f).power = m.power := rfl
@[simp] theorem Module.updPart_clusters (m : Module) (n : Nat) (f : Part → Part) : (m.updPart n f).clusters = m.clusters := rfl
@[simp] theorem Module.updPart_thermal (m : Module) (n : Nat) (f : Part → Part) : (m.updPart n f).thermal = m.thermal := rfl
@[simp] theorem Module.updPart_clocks (m : Module) (n : Nat) (f : Part → Part) : (m.updPart n f).clocks = m.clocks := rfl
@[simp] theorem Module.updPart_mem (m : Module) (n : Nat) (f : Part → Part) : (m.updPart n f).mem = m.mem := rfl
@[simp] theorem Module.updPart_cores (m : Module) (n : Nat) (f : Part → Part) : (m.updPart n f).cores = m.cores := rfl
@[simp] theorem Module.updPart_net (m : Module) (n : Nat) (f : Part → Part) : (m.updPart n f).net = m.net := rfl
@[simp] theorem Module.updPart_fab (m : Module) (n : Nat) (f : Part → Part) : (m.updPart n f).fab = m.fab := rfl
@[simp] theorem Module.updPart_flight (m : Module) (n : Nat) (f : Part → Part) : (m.updPart n f).flight = m.flight := rfl
@[simp] theorem Module.updPart_tlb (m : Module) (n : Nat) (f : Part → Part) : (m.updPart n f).tlb = m.tlb := rfl
@[simp] theorem Module.updPart_telAlarm (m : Module) (n : Nat) (f : Part → Part) : (m.updPart n f).telAlarm = m.telAlarm := rfl
@[simp] theorem Module.updPart_telStatus (m : Module) (n : Nat) (f : Part → Part) : (m.updPart n f).telStatus = m.telStatus := rfl
@[simp] theorem Module.updPart_telEnable (m : Module) (n : Nat) (f : Part → Part) : (m.updPart n f).telEnable = m.telEnable := rfl
@[simp] theorem Module.updPart_telPrev (m : Module) (n : Nat) (f : Part → Part) : (m.updPart n f).telPrev = m.telPrev := rfl
@[simp] theorem Module.updPart_ibiCauses (m : Module) (n : Nat) (f : Part → Part) : (m.updPart n f).ibiCauses = m.ibiCauses := rfl
@[simp] theorem Module.updPart_fwSession (m : Module) (n : Nat) (f : Part → Part) : (m.updPart n f).fwSession = m.fwSession := rfl

@[simp] theorem Module.updFunc_time (m : Module) (n : Nat) (f : Func → Func) : (m.updFunc n f).time = m.time := rfl
@[simp] theorem Module.updFunc_free (m : Module) (n : Nat) (f : Func → Func) : (m.updFunc n f).free = m.free := rfl
@[simp] theorem Module.updFunc_log (m : Module) (n : Nat) (f : Func → Func) : (m.updFunc n f).log = m.log := rfl
@[simp] theorem Module.updFunc_engine (m : Module) (n : Nat) (f : Func → Func) : (m.updFunc n f).engine = m.engine := rfl
@[simp] theorem Module.updFunc_bring (m : Module) (n : Nat) (f : Func → Func) : (m.updFunc n f).bring = m.bring := rfl
@[simp] theorem Module.updFunc_epochs (m : Module) (n : Nat) (f : Func → Func) : (m.updFunc n f).epochs = m.epochs := rfl
@[simp] theorem Module.updFunc_power (m : Module) (n : Nat) (f : Func → Func) : (m.updFunc n f).power = m.power := rfl
@[simp] theorem Module.updFunc_clusters (m : Module) (n : Nat) (f : Func → Func) : (m.updFunc n f).clusters = m.clusters := rfl
@[simp] theorem Module.updFunc_thermal (m : Module) (n : Nat) (f : Func → Func) : (m.updFunc n f).thermal = m.thermal := rfl
@[simp] theorem Module.updFunc_clocks (m : Module) (n : Nat) (f : Func → Func) : (m.updFunc n f).clocks = m.clocks := rfl
@[simp] theorem Module.updFunc_mem (m : Module) (n : Nat) (f : Func → Func) : (m.updFunc n f).mem = m.mem := rfl
@[simp] theorem Module.updFunc_cores (m : Module) (n : Nat) (f : Func → Func) : (m.updFunc n f).cores = m.cores := rfl
@[simp] theorem Module.updFunc_parts (m : Module) (n : Nat) (f : Func → Func) : (m.updFunc n f).parts = m.parts := rfl
@[simp] theorem Module.updFunc_net (m : Module) (n : Nat) (f : Func → Func) : (m.updFunc n f).net = m.net := rfl
@[simp] theorem Module.updFunc_fab (m : Module) (n : Nat) (f : Func → Func) : (m.updFunc n f).fab = m.fab := rfl
@[simp] theorem Module.updFunc_flight (m : Module) (n : Nat) (f : Func → Func) : (m.updFunc n f).flight = m.flight := rfl
@[simp] theorem Module.updFunc_tlb (m : Module) (n : Nat) (f : Func → Func) : (m.updFunc n f).tlb = m.tlb := rfl
@[simp] theorem Module.updFunc_telAlarm (m : Module) (n : Nat) (f : Func → Func) : (m.updFunc n f).telAlarm = m.telAlarm := rfl
@[simp] theorem Module.updFunc_telStatus (m : Module) (n : Nat) (f : Func → Func) : (m.updFunc n f).telStatus = m.telStatus := rfl
@[simp] theorem Module.updFunc_telEnable (m : Module) (n : Nat) (f : Func → Func) : (m.updFunc n f).telEnable = m.telEnable := rfl
@[simp] theorem Module.updFunc_telPrev (m : Module) (n : Nat) (f : Func → Func) : (m.updFunc n f).telPrev = m.telPrev := rfl
@[simp] theorem Module.updFunc_ibiCauses (m : Module) (n : Nat) (f : Func → Func) : (m.updFunc n f).ibiCauses = m.ibiCauses := rfl
@[simp] theorem Module.updFunc_fwSession (m : Module) (n : Nat) (f : Func → Func) : (m.updFunc n f).fwSession = m.fwSession := rfl

@[simp] theorem Module.updSensor_time (m : Module) (n : Nat) (f : Sensor → Sensor) : (m.updSensor n f).time = m.time := rfl
@[simp] theorem Module.updSensor_free (m : Module) (n : Nat) (f : Sensor → Sensor) : (m.updSensor n f).free = m.free := rfl
@[simp] theorem Module.updSensor_log (m : Module) (n : Nat) (f : Sensor → Sensor) : (m.updSensor n f).log = m.log := rfl
@[simp] theorem Module.updSensor_port (m : Module) (n : Nat) (f : Sensor → Sensor) : (m.updSensor n f).port = m.port := rfl
@[simp] theorem Module.updSensor_engine (m : Module) (n : Nat) (f : Sensor → Sensor) : (m.updSensor n f).engine = m.engine := rfl
@[simp] theorem Module.updSensor_bring (m : Module) (n : Nat) (f : Sensor → Sensor) : (m.updSensor n f).bring = m.bring := rfl
@[simp] theorem Module.updSensor_epochs (m : Module) (n : Nat) (f : Sensor → Sensor) : (m.updSensor n f).epochs = m.epochs := rfl
@[simp] theorem Module.updSensor_power (m : Module) (n : Nat) (f : Sensor → Sensor) : (m.updSensor n f).power = m.power := rfl
@[simp] theorem Module.updSensor_clusters (m : Module) (n : Nat) (f : Sensor → Sensor) : (m.updSensor n f).clusters = m.clusters := rfl
@[simp] theorem Module.updSensor_clocks (m : Module) (n : Nat) (f : Sensor → Sensor) : (m.updSensor n f).clocks = m.clocks := rfl
@[simp] theorem Module.updSensor_mem (m : Module) (n : Nat) (f : Sensor → Sensor) : (m.updSensor n f).mem = m.mem := rfl
@[simp] theorem Module.updSensor_cores (m : Module) (n : Nat) (f : Sensor → Sensor) : (m.updSensor n f).cores = m.cores := rfl
@[simp] theorem Module.updSensor_parts (m : Module) (n : Nat) (f : Sensor → Sensor) : (m.updSensor n f).parts = m.parts := rfl
@[simp] theorem Module.updSensor_net (m : Module) (n : Nat) (f : Sensor → Sensor) : (m.updSensor n f).net = m.net := rfl
@[simp] theorem Module.updSensor_fab (m : Module) (n : Nat) (f : Sensor → Sensor) : (m.updSensor n f).fab = m.fab := rfl
@[simp] theorem Module.updSensor_flight (m : Module) (n : Nat) (f : Sensor → Sensor) : (m.updSensor n f).flight = m.flight := rfl
@[simp] theorem Module.updSensor_tlb (m : Module) (n : Nat) (f : Sensor → Sensor) : (m.updSensor n f).tlb = m.tlb := rfl
@[simp] theorem Module.updSensor_telAlarm (m : Module) (n : Nat) (f : Sensor → Sensor) : (m.updSensor n f).telAlarm = m.telAlarm := rfl
@[simp] theorem Module.updSensor_telStatus (m : Module) (n : Nat) (f : Sensor → Sensor) : (m.updSensor n f).telStatus = m.telStatus := rfl
@[simp] theorem Module.updSensor_telEnable (m : Module) (n : Nat) (f : Sensor → Sensor) : (m.updSensor n f).telEnable = m.telEnable := rfl
@[simp] theorem Module.updSensor_telPrev (m : Module) (n : Nat) (f : Sensor → Sensor) : (m.updSensor n f).telPrev = m.telPrev := rfl
@[simp] theorem Module.updSensor_ibiCauses (m : Module) (n : Nat) (f : Sensor → Sensor) : (m.updSensor n f).ibiCauses = m.ibiCauses := rfl
@[simp] theorem Module.updSensor_fwSession (m : Module) (n : Nat) (f : Sensor → Sensor) : (m.updSensor n f).fwSession = m.fwSession := rfl

@[simp] theorem Module.updFport_time (m : Module) (n : Nat) (f : FabPort → FabPort) : (m.updFport n f).time = m.time := rfl
@[simp] theorem Module.updFport_free (m : Module) (n : Nat) (f : FabPort → FabPort) : (m.updFport n f).free = m.free := rfl
@[simp] theorem Module.updFport_log (m : Module) (n : Nat) (f : FabPort → FabPort) : (m.updFport n f).log = m.log := rfl
@[simp] theorem Module.updFport_port (m : Module) (n : Nat) (f : FabPort → FabPort) : (m.updFport n f).port = m.port := rfl
@[simp] theorem Module.updFport_engine (m : Module) (n : Nat) (f : FabPort → FabPort) : (m.updFport n f).engine = m.engine := rfl
@[simp] theorem Module.updFport_bring (m : Module) (n : Nat) (f : FabPort → FabPort) : (m.updFport n f).bring = m.bring := rfl
@[simp] theorem Module.updFport_epochs (m : Module) (n : Nat) (f : FabPort → FabPort) : (m.updFport n f).epochs = m.epochs := rfl
@[simp] theorem Module.updFport_power (m : Module) (n : Nat) (f : FabPort → FabPort) : (m.updFport n f).power = m.power := rfl
@[simp] theorem Module.updFport_clusters (m : Module) (n : Nat) (f : FabPort → FabPort) : (m.updFport n f).clusters = m.clusters := rfl
@[simp] theorem Module.updFport_thermal (m : Module) (n : Nat) (f : FabPort → FabPort) : (m.updFport n f).thermal = m.thermal := rfl
@[simp] theorem Module.updFport_clocks (m : Module) (n : Nat) (f : FabPort → FabPort) : (m.updFport n f).clocks = m.clocks := rfl
@[simp] theorem Module.updFport_mem (m : Module) (n : Nat) (f : FabPort → FabPort) : (m.updFport n f).mem = m.mem := rfl
@[simp] theorem Module.updFport_cores (m : Module) (n : Nat) (f : FabPort → FabPort) : (m.updFport n f).cores = m.cores := rfl
@[simp] theorem Module.updFport_parts (m : Module) (n : Nat) (f : FabPort → FabPort) : (m.updFport n f).parts = m.parts := rfl
@[simp] theorem Module.updFport_net (m : Module) (n : Nat) (f : FabPort → FabPort) : (m.updFport n f).net = m.net := rfl
@[simp] theorem Module.updFport_flight (m : Module) (n : Nat) (f : FabPort → FabPort) : (m.updFport n f).flight = m.flight := rfl
@[simp] theorem Module.updFport_tlb (m : Module) (n : Nat) (f : FabPort → FabPort) : (m.updFport n f).tlb = m.tlb := rfl
@[simp] theorem Module.updFport_telAlarm (m : Module) (n : Nat) (f : FabPort → FabPort) : (m.updFport n f).telAlarm = m.telAlarm := rfl
@[simp] theorem Module.updFport_telStatus (m : Module) (n : Nat) (f : FabPort → FabPort) : (m.updFport n f).telStatus = m.telStatus := rfl
@[simp] theorem Module.updFport_telEnable (m : Module) (n : Nat) (f : FabPort → FabPort) : (m.updFport n f).telEnable = m.telEnable := rfl
@[simp] theorem Module.updFport_telPrev (m : Module) (n : Nat) (f : FabPort → FabPort) : (m.updFport n f).telPrev = m.telPrev := rfl
@[simp] theorem Module.updFport_ibiCauses (m : Module) (n : Nat) (f : FabPort → FabPort) : (m.updFport n f).ibiCauses = m.ibiCauses := rfl
@[simp] theorem Module.updFport_fwSession (m : Module) (n : Nat) (f : FabPort → FabPort) : (m.updFport n f).fwSession = m.fwSession := rfl

@[simp] theorem Module.answer_time (m : Module) (t : HostTx) : (m.answer t).time = m.time := rfl
@[simp] theorem Module.answer_free (m : Module) (t : HostTx) : (m.answer t).free = m.free := rfl
@[simp] theorem Module.answer_log (m : Module) (t : HostTx) : (m.answer t).log = m.log := rfl
@[simp] theorem Module.answer_engine (m : Module) (t : HostTx) : (m.answer t).engine = m.engine := rfl
@[simp] theorem Module.answer_bring (m : Module) (t : HostTx) : (m.answer t).bring = m.bring := rfl
@[simp] theorem Module.answer_epochs (m : Module) (t : HostTx) : (m.answer t).epochs = m.epochs := rfl
@[simp] theorem Module.answer_power (m : Module) (t : HostTx) : (m.answer t).power = m.power := rfl
@[simp] theorem Module.answer_clusters (m : Module) (t : HostTx) : (m.answer t).clusters = m.clusters := rfl
@[simp] theorem Module.answer_thermal (m : Module) (t : HostTx) : (m.answer t).thermal = m.thermal := rfl
@[simp] theorem Module.answer_clocks (m : Module) (t : HostTx) : (m.answer t).clocks = m.clocks := rfl
@[simp] theorem Module.answer_mem (m : Module) (t : HostTx) : (m.answer t).mem = m.mem := rfl
@[simp] theorem Module.answer_cores (m : Module) (t : HostTx) : (m.answer t).cores = m.cores := rfl
@[simp] theorem Module.answer_parts (m : Module) (t : HostTx) : (m.answer t).parts = m.parts := rfl
@[simp] theorem Module.answer_net (m : Module) (t : HostTx) : (m.answer t).net = m.net := rfl
@[simp] theorem Module.answer_fab (m : Module) (t : HostTx) : (m.answer t).fab = m.fab := rfl
@[simp] theorem Module.answer_flight (m : Module) (t : HostTx) : (m.answer t).flight = m.flight := rfl
@[simp] theorem Module.answer_tlb (m : Module) (t : HostTx) : (m.answer t).tlb = m.tlb := rfl
@[simp] theorem Module.answer_telAlarm (m : Module) (t : HostTx) : (m.answer t).telAlarm = m.telAlarm := rfl
@[simp] theorem Module.answer_telStatus (m : Module) (t : HostTx) : (m.answer t).telStatus = m.telStatus := rfl
@[simp] theorem Module.answer_telEnable (m : Module) (t : HostTx) : (m.answer t).telEnable = m.telEnable := rfl
@[simp] theorem Module.answer_telPrev (m : Module) (t : HostTx) : (m.answer t).telPrev = m.telPrev := rfl
@[simp] theorem Module.answer_ibiCauses (m : Module) (t : HostTx) : (m.answer t).ibiCauses = m.ibiCauses := rfl
@[simp] theorem Module.answer_fwSession (m : Module) (t : HostTx) : (m.answer t).fwSession = m.fwSession := rfl

@[simp] theorem Module.updCmd_time (m : Module) (n : Nat) (f : CmdSlot → CmdSlot) : (m.updCmd n f).time = m.time := rfl
@[simp] theorem Module.updCmd_free (m : Module) (n : Nat) (f : CmdSlot → CmdSlot) : (m.updCmd n f).free = m.free := rfl
@[simp] theorem Module.updCmd_log (m : Module) (n : Nat) (f : CmdSlot → CmdSlot) : (m.updCmd n f).log = m.log := rfl
@[simp] theorem Module.updCmd_port (m : Module) (n : Nat) (f : CmdSlot → CmdSlot) : (m.updCmd n f).port = m.port := rfl
@[simp] theorem Module.updCmd_bring (m : Module) (n : Nat) (f : CmdSlot → CmdSlot) : (m.updCmd n f).bring = m.bring := rfl
@[simp] theorem Module.updCmd_epochs (m : Module) (n : Nat) (f : CmdSlot → CmdSlot) : (m.updCmd n f).epochs = m.epochs := rfl
@[simp] theorem Module.updCmd_power (m : Module) (n : Nat) (f : CmdSlot → CmdSlot) : (m.updCmd n f).power = m.power := rfl
@[simp] theorem Module.updCmd_clusters (m : Module) (n : Nat) (f : CmdSlot → CmdSlot) : (m.updCmd n f).clusters = m.clusters := rfl
@[simp] theorem Module.updCmd_thermal (m : Module) (n : Nat) (f : CmdSlot → CmdSlot) : (m.updCmd n f).thermal = m.thermal := rfl
@[simp] theorem Module.updCmd_clocks (m : Module) (n : Nat) (f : CmdSlot → CmdSlot) : (m.updCmd n f).clocks = m.clocks := rfl
@[simp] theorem Module.updCmd_mem (m : Module) (n : Nat) (f : CmdSlot → CmdSlot) : (m.updCmd n f).mem = m.mem := rfl
@[simp] theorem Module.updCmd_cores (m : Module) (n : Nat) (f : CmdSlot → CmdSlot) : (m.updCmd n f).cores = m.cores := rfl
@[simp] theorem Module.updCmd_parts (m : Module) (n : Nat) (f : CmdSlot → CmdSlot) : (m.updCmd n f).parts = m.parts := rfl
@[simp] theorem Module.updCmd_net (m : Module) (n : Nat) (f : CmdSlot → CmdSlot) : (m.updCmd n f).net = m.net := rfl
@[simp] theorem Module.updCmd_fab (m : Module) (n : Nat) (f : CmdSlot → CmdSlot) : (m.updCmd n f).fab = m.fab := rfl
@[simp] theorem Module.updCmd_flight (m : Module) (n : Nat) (f : CmdSlot → CmdSlot) : (m.updCmd n f).flight = m.flight := rfl
@[simp] theorem Module.updCmd_tlb (m : Module) (n : Nat) (f : CmdSlot → CmdSlot) : (m.updCmd n f).tlb = m.tlb := rfl
@[simp] theorem Module.updCmd_telAlarm (m : Module) (n : Nat) (f : CmdSlot → CmdSlot) : (m.updCmd n f).telAlarm = m.telAlarm := rfl
@[simp] theorem Module.updCmd_telStatus (m : Module) (n : Nat) (f : CmdSlot → CmdSlot) : (m.updCmd n f).telStatus = m.telStatus := rfl
@[simp] theorem Module.updCmd_telEnable (m : Module) (n : Nat) (f : CmdSlot → CmdSlot) : (m.updCmd n f).telEnable = m.telEnable := rfl
@[simp] theorem Module.updCmd_telPrev (m : Module) (n : Nat) (f : CmdSlot → CmdSlot) : (m.updCmd n f).telPrev = m.telPrev := rfl
@[simp] theorem Module.updCmd_ibiCauses (m : Module) (n : Nat) (f : CmdSlot → CmdSlot) : (m.updCmd n f).ibiCauses = m.ibiCauses := rfl
@[simp] theorem Module.updCmd_fwSession (m : Module) (n : Nat) (f : CmdSlot → CmdSlot) : (m.updCmd n f).fwSession = m.fwSession := rfl

@[simp] theorem Module.updPacket_time (m : Module) (n q : Nat) (f : Packet → Packet) : (m.updPacket n q f).time = m.time := rfl
@[simp] theorem Module.updPacket_free (m : Module) (n q : Nat) (f : Packet → Packet) : (m.updPacket n q f).free = m.free := rfl
@[simp] theorem Module.updPacket_log (m : Module) (n q : Nat) (f : Packet → Packet) : (m.updPacket n q f).log = m.log := rfl
@[simp] theorem Module.updPacket_port (m : Module) (n q : Nat) (f : Packet → Packet) : (m.updPacket n q f).port = m.port := rfl
@[simp] theorem Module.updPacket_engine (m : Module) (n q : Nat) (f : Packet → Packet) : (m.updPacket n q f).engine = m.engine := rfl
@[simp] theorem Module.updPacket_bring (m : Module) (n q : Nat) (f : Packet → Packet) : (m.updPacket n q f).bring = m.bring := rfl
@[simp] theorem Module.updPacket_epochs (m : Module) (n q : Nat) (f : Packet → Packet) : (m.updPacket n q f).epochs = m.epochs := rfl
@[simp] theorem Module.updPacket_power (m : Module) (n q : Nat) (f : Packet → Packet) : (m.updPacket n q f).power = m.power := rfl
@[simp] theorem Module.updPacket_clusters (m : Module) (n q : Nat) (f : Packet → Packet) : (m.updPacket n q f).clusters = m.clusters := rfl
@[simp] theorem Module.updPacket_thermal (m : Module) (n q : Nat) (f : Packet → Packet) : (m.updPacket n q f).thermal = m.thermal := rfl
@[simp] theorem Module.updPacket_clocks (m : Module) (n q : Nat) (f : Packet → Packet) : (m.updPacket n q f).clocks = m.clocks := rfl
@[simp] theorem Module.updPacket_mem (m : Module) (n q : Nat) (f : Packet → Packet) : (m.updPacket n q f).mem = m.mem := rfl
@[simp] theorem Module.updPacket_cores (m : Module) (n q : Nat) (f : Packet → Packet) : (m.updPacket n q f).cores = m.cores := rfl
@[simp] theorem Module.updPacket_net (m : Module) (n q : Nat) (f : Packet → Packet) : (m.updPacket n q f).net = m.net := rfl
@[simp] theorem Module.updPacket_fab (m : Module) (n q : Nat) (f : Packet → Packet) : (m.updPacket n q f).fab = m.fab := rfl
@[simp] theorem Module.updPacket_flight (m : Module) (n q : Nat) (f : Packet → Packet) : (m.updPacket n q f).flight = m.flight := rfl
@[simp] theorem Module.updPacket_tlb (m : Module) (n q : Nat) (f : Packet → Packet) : (m.updPacket n q f).tlb = m.tlb := rfl
@[simp] theorem Module.updPacket_telAlarm (m : Module) (n q : Nat) (f : Packet → Packet) : (m.updPacket n q f).telAlarm = m.telAlarm := rfl
@[simp] theorem Module.updPacket_telStatus (m : Module) (n q : Nat) (f : Packet → Packet) : (m.updPacket n q f).telStatus = m.telStatus := rfl
@[simp] theorem Module.updPacket_telEnable (m : Module) (n q : Nat) (f : Packet → Packet) : (m.updPacket n q f).telEnable = m.telEnable := rfl
@[simp] theorem Module.updPacket_telPrev (m : Module) (n q : Nat) (f : Packet → Packet) : (m.updPacket n q f).telPrev = m.telPrev := rfl
@[simp] theorem Module.updPacket_ibiCauses (m : Module) (n q : Nat) (f : Packet → Packet) : (m.updPacket n q f).ibiCauses = m.ibiCauses := rfl
@[simp] theorem Module.updPacket_fwSession (m : Module) (n q : Nat) (f : Packet → Packet) : (m.updPacket n q f).fwSession = m.fwSession := rfl

@[simp] theorem Module.putBytes_time (m : Module) (a : Nat) (bs : List Byte) : (m.putBytes a bs).time = m.time := rfl
@[simp] theorem Module.putBytes_free (m : Module) (a : Nat) (bs : List Byte) : (m.putBytes a bs).free = m.free := rfl
@[simp] theorem Module.putBytes_log (m : Module) (a : Nat) (bs : List Byte) : (m.putBytes a bs).log = m.log := rfl
@[simp] theorem Module.putBytes_port (m : Module) (a : Nat) (bs : List Byte) : (m.putBytes a bs).port = m.port := rfl
@[simp] theorem Module.putBytes_engine (m : Module) (a : Nat) (bs : List Byte) : (m.putBytes a bs).engine = m.engine := rfl
@[simp] theorem Module.putBytes_bring (m : Module) (a : Nat) (bs : List Byte) : (m.putBytes a bs).bring = m.bring := rfl
@[simp] theorem Module.putBytes_epochs (m : Module) (a : Nat) (bs : List Byte) : (m.putBytes a bs).epochs = m.epochs := rfl
@[simp] theorem Module.putBytes_power (m : Module) (a : Nat) (bs : List Byte) : (m.putBytes a bs).power = m.power := rfl
@[simp] theorem Module.putBytes_clusters (m : Module) (a : Nat) (bs : List Byte) : (m.putBytes a bs).clusters = m.clusters := rfl
@[simp] theorem Module.putBytes_thermal (m : Module) (a : Nat) (bs : List Byte) : (m.putBytes a bs).thermal = m.thermal := rfl
@[simp] theorem Module.putBytes_clocks (m : Module) (a : Nat) (bs : List Byte) : (m.putBytes a bs).clocks = m.clocks := rfl
@[simp] theorem Module.putBytes_cores (m : Module) (a : Nat) (bs : List Byte) : (m.putBytes a bs).cores = m.cores := rfl
@[simp] theorem Module.putBytes_parts (m : Module) (a : Nat) (bs : List Byte) : (m.putBytes a bs).parts = m.parts := rfl
@[simp] theorem Module.putBytes_net (m : Module) (a : Nat) (bs : List Byte) : (m.putBytes a bs).net = m.net := rfl
@[simp] theorem Module.putBytes_fab (m : Module) (a : Nat) (bs : List Byte) : (m.putBytes a bs).fab = m.fab := rfl
@[simp] theorem Module.putBytes_flight (m : Module) (a : Nat) (bs : List Byte) : (m.putBytes a bs).flight = m.flight := rfl
@[simp] theorem Module.putBytes_tlb (m : Module) (a : Nat) (bs : List Byte) : (m.putBytes a bs).tlb = m.tlb := rfl
@[simp] theorem Module.putBytes_telAlarm (m : Module) (a : Nat) (bs : List Byte) : (m.putBytes a bs).telAlarm = m.telAlarm := rfl
@[simp] theorem Module.putBytes_telStatus (m : Module) (a : Nat) (bs : List Byte) : (m.putBytes a bs).telStatus = m.telStatus := rfl
@[simp] theorem Module.putBytes_telEnable (m : Module) (a : Nat) (bs : List Byte) : (m.putBytes a bs).telEnable = m.telEnable := rfl
@[simp] theorem Module.putBytes_telPrev (m : Module) (a : Nat) (bs : List Byte) : (m.putBytes a bs).telPrev = m.telPrev := rfl
@[simp] theorem Module.putBytes_ibiCauses (m : Module) (a : Nat) (bs : List Byte) : (m.putBytes a bs).ibiCauses = m.ibiCauses := rfl
@[simp] theorem Module.putBytes_fwSession (m : Module) (a : Nat) (bs : List Byte) : (m.putBytes a bs).fwSession = m.fwSession := rfl

@[simp] theorem Module.queueWork_time (m : Module) (n : Nat) (bs : List Byte) (v : Option Nat) (r : Bool) : (m.queueWork n bs v r).time = m.time := rfl
@[simp] theorem Module.queueWork_free (m : Module) (n : Nat) (bs : List Byte) (v : Option Nat) (r : Bool) : (m.queueWork n bs v r).free = m.free := rfl
@[simp] theorem Module.queueWork_log (m : Module) (n : Nat) (bs : List Byte) (v : Option Nat) (r : Bool) : (m.queueWork n bs v r).log = m.log := rfl
@[simp] theorem Module.queueWork_engine (m : Module) (n : Nat) (bs : List Byte) (v : Option Nat) (r : Bool) : (m.queueWork n bs v r).engine = m.engine := rfl
@[simp] theorem Module.queueWork_bring (m : Module) (n : Nat) (bs : List Byte) (v : Option Nat) (r : Bool) : (m.queueWork n bs v r).bring = m.bring := rfl
@[simp] theorem Module.queueWork_epochs (m : Module) (n : Nat) (bs : List Byte) (v : Option Nat) (r : Bool) : (m.queueWork n bs v r).epochs = m.epochs := rfl
@[simp] theorem Module.queueWork_power (m : Module) (n : Nat) (bs : List Byte) (v : Option Nat) (r : Bool) : (m.queueWork n bs v r).power = m.power := rfl
@[simp] theorem Module.queueWork_clusters (m : Module) (n : Nat) (bs : List Byte) (v : Option Nat) (r : Bool) : (m.queueWork n bs v r).clusters = m.clusters := rfl
@[simp] theorem Module.queueWork_thermal (m : Module) (n : Nat) (bs : List Byte) (v : Option Nat) (r : Bool) : (m.queueWork n bs v r).thermal = m.thermal := rfl
@[simp] theorem Module.queueWork_clocks (m : Module) (n : Nat) (bs : List Byte) (v : Option Nat) (r : Bool) : (m.queueWork n bs v r).clocks = m.clocks := rfl
@[simp] theorem Module.queueWork_mem (m : Module) (n : Nat) (bs : List Byte) (v : Option Nat) (r : Bool) : (m.queueWork n bs v r).mem = m.mem := rfl
@[simp] theorem Module.queueWork_cores (m : Module) (n : Nat) (bs : List Byte) (v : Option Nat) (r : Bool) : (m.queueWork n bs v r).cores = m.cores := rfl
@[simp] theorem Module.queueWork_parts (m : Module) (n : Nat) (bs : List Byte) (v : Option Nat) (r : Bool) : (m.queueWork n bs v r).parts = m.parts := rfl
@[simp] theorem Module.queueWork_net (m : Module) (n : Nat) (bs : List Byte) (v : Option Nat) (r : Bool) : (m.queueWork n bs v r).net = m.net := rfl
@[simp] theorem Module.queueWork_fab (m : Module) (n : Nat) (bs : List Byte) (v : Option Nat) (r : Bool) : (m.queueWork n bs v r).fab = m.fab := rfl
@[simp] theorem Module.queueWork_flight (m : Module) (n : Nat) (bs : List Byte) (v : Option Nat) (r : Bool) : (m.queueWork n bs v r).flight = m.flight := rfl
@[simp] theorem Module.queueWork_tlb (m : Module) (n : Nat) (bs : List Byte) (v : Option Nat) (r : Bool) : (m.queueWork n bs v r).tlb = m.tlb := rfl
@[simp] theorem Module.queueWork_telAlarm (m : Module) (n : Nat) (bs : List Byte) (v : Option Nat) (r : Bool) : (m.queueWork n bs v r).telAlarm = m.telAlarm := rfl
@[simp] theorem Module.queueWork_telStatus (m : Module) (n : Nat) (bs : List Byte) (v : Option Nat) (r : Bool) : (m.queueWork n bs v r).telStatus = m.telStatus := rfl
@[simp] theorem Module.queueWork_telEnable (m : Module) (n : Nat) (bs : List Byte) (v : Option Nat) (r : Bool) : (m.queueWork n bs v r).telEnable = m.telEnable := rfl
@[simp] theorem Module.queueWork_telPrev (m : Module) (n : Nat) (bs : List Byte) (v : Option Nat) (r : Bool) : (m.queueWork n bs v r).telPrev = m.telPrev := rfl
@[simp] theorem Module.queueWork_ibiCauses (m : Module) (n : Nat) (bs : List Byte) (v : Option Nat) (r : Bool) : (m.queueWork n bs v r).ibiCauses = m.ibiCauses := rfl
@[simp] theorem Module.queueWork_fwSession (m : Module) (n : Nat) (bs : List Byte) (v : Option Nat) (r : Bool) : (m.queueWork n bs v r).fwSession = m.fwSession := rfl

@[simp] theorem Module.detect_time (m : Module) (a b c : Nat) (k : List Nat) (fs : List Field) : (m.detect a b c k fs).time = m.time := rfl
@[simp] theorem Module.detect_free (m : Module) (a b c : Nat) (k : List Nat) (fs : List Field) : (m.detect a b c k fs).free = m.free := rfl
@[simp] theorem Module.detect_port (m : Module) (a b c : Nat) (k : List Nat) (fs : List Field) : (m.detect a b c k fs).port = m.port := rfl
@[simp] theorem Module.detect_engine (m : Module) (a b c : Nat) (k : List Nat) (fs : List Field) : (m.detect a b c k fs).engine = m.engine := rfl
@[simp] theorem Module.detect_bring (m : Module) (a b c : Nat) (k : List Nat) (fs : List Field) : (m.detect a b c k fs).bring = m.bring := rfl
@[simp] theorem Module.detect_epochs (m : Module) (a b c : Nat) (k : List Nat) (fs : List Field) : (m.detect a b c k fs).epochs = m.epochs := rfl
@[simp] theorem Module.detect_power (m : Module) (a b c : Nat) (k : List Nat) (fs : List Field) : (m.detect a b c k fs).power = m.power := rfl
@[simp] theorem Module.detect_clusters (m : Module) (a b c : Nat) (k : List Nat) (fs : List Field) : (m.detect a b c k fs).clusters = m.clusters := rfl
@[simp] theorem Module.detect_thermal (m : Module) (a b c : Nat) (k : List Nat) (fs : List Field) : (m.detect a b c k fs).thermal = m.thermal := rfl
@[simp] theorem Module.detect_clocks (m : Module) (a b c : Nat) (k : List Nat) (fs : List Field) : (m.detect a b c k fs).clocks = m.clocks := rfl
@[simp] theorem Module.detect_mem (m : Module) (a b c : Nat) (k : List Nat) (fs : List Field) : (m.detect a b c k fs).mem = m.mem := rfl
@[simp] theorem Module.detect_cores (m : Module) (a b c : Nat) (k : List Nat) (fs : List Field) : (m.detect a b c k fs).cores = m.cores := rfl
@[simp] theorem Module.detect_parts (m : Module) (a b c : Nat) (k : List Nat) (fs : List Field) : (m.detect a b c k fs).parts = m.parts := rfl
@[simp] theorem Module.detect_net (m : Module) (a b c : Nat) (k : List Nat) (fs : List Field) : (m.detect a b c k fs).net = m.net := rfl
@[simp] theorem Module.detect_fab (m : Module) (a b c : Nat) (k : List Nat) (fs : List Field) : (m.detect a b c k fs).fab = m.fab := rfl
@[simp] theorem Module.detect_flight (m : Module) (a b c : Nat) (k : List Nat) (fs : List Field) : (m.detect a b c k fs).flight = m.flight := rfl
@[simp] theorem Module.detect_tlb (m : Module) (a b c : Nat) (k : List Nat) (fs : List Field) : (m.detect a b c k fs).tlb = m.tlb := rfl
@[simp] theorem Module.detect_telAlarm (m : Module) (a b c : Nat) (k : List Nat) (fs : List Field) : (m.detect a b c k fs).telAlarm = m.telAlarm := rfl
@[simp] theorem Module.detect_telStatus (m : Module) (a b c : Nat) (k : List Nat) (fs : List Field) : (m.detect a b c k fs).telStatus = m.telStatus := rfl
@[simp] theorem Module.detect_telEnable (m : Module) (a b c : Nat) (k : List Nat) (fs : List Field) : (m.detect a b c k fs).telEnable = m.telEnable := rfl
@[simp] theorem Module.detect_telPrev (m : Module) (a b c : Nat) (k : List Nat) (fs : List Field) : (m.detect a b c k fs).telPrev = m.telPrev := rfl
@[simp] theorem Module.detect_ibiCauses (m : Module) (a b c : Nat) (k : List Nat) (fs : List Field) : (m.detect a b c k fs).ibiCauses = m.ibiCauses := rfl
@[simp] theorem Module.detect_fwSession (m : Module) (a b c : Nat) (k : List Nat) (fs : List Field) : (m.detect a b c k fs).fwSession = m.fwSession := rfl

@[simp] theorem Module.hostEvent_time (m : Module) (a b c d e f g h : Nat) : (m.hostEvent a b c d e f g h).time = m.time := rfl
@[simp] theorem Module.hostEvent_free (m : Module) (a b c d e f g h : Nat) : (m.hostEvent a b c d e f g h).free = m.free := rfl
@[simp] theorem Module.hostEvent_port (m : Module) (a b c d e f g h : Nat) : (m.hostEvent a b c d e f g h).port = m.port := rfl
@[simp] theorem Module.hostEvent_engine (m : Module) (a b c d e f g h : Nat) : (m.hostEvent a b c d e f g h).engine = m.engine := rfl
@[simp] theorem Module.hostEvent_bring (m : Module) (a b c d e f g h : Nat) : (m.hostEvent a b c d e f g h).bring = m.bring := rfl
@[simp] theorem Module.hostEvent_epochs (m : Module) (a b c d e f g h : Nat) : (m.hostEvent a b c d e f g h).epochs = m.epochs := rfl
@[simp] theorem Module.hostEvent_power (m : Module) (a b c d e f g h : Nat) : (m.hostEvent a b c d e f g h).power = m.power := rfl
@[simp] theorem Module.hostEvent_clusters (m : Module) (a b c d e f g h : Nat) : (m.hostEvent a b c d e f g h).clusters = m.clusters := rfl
@[simp] theorem Module.hostEvent_thermal (m : Module) (a b c d e f g h : Nat) : (m.hostEvent a b c d e f g h).thermal = m.thermal := rfl
@[simp] theorem Module.hostEvent_clocks (m : Module) (a b c d e f g h : Nat) : (m.hostEvent a b c d e f g h).clocks = m.clocks := rfl
@[simp] theorem Module.hostEvent_mem (m : Module) (a b c d e f g h : Nat) : (m.hostEvent a b c d e f g h).mem = m.mem := rfl
@[simp] theorem Module.hostEvent_cores (m : Module) (a b c d e f g h : Nat) : (m.hostEvent a b c d e f g h).cores = m.cores := rfl
@[simp] theorem Module.hostEvent_parts (m : Module) (a b c d e f g h : Nat) : (m.hostEvent a b c d e f g h).parts = m.parts := rfl
@[simp] theorem Module.hostEvent_net (m : Module) (a b c d e f g h : Nat) : (m.hostEvent a b c d e f g h).net = m.net := rfl
@[simp] theorem Module.hostEvent_fab (m : Module) (a b c d e f g h : Nat) : (m.hostEvent a b c d e f g h).fab = m.fab := rfl
@[simp] theorem Module.hostEvent_flight (m : Module) (a b c d e f g h : Nat) : (m.hostEvent a b c d e f g h).flight = m.flight := rfl
@[simp] theorem Module.hostEvent_tlb (m : Module) (a b c d e f g h : Nat) : (m.hostEvent a b c d e f g h).tlb = m.tlb := rfl
@[simp] theorem Module.hostEvent_telAlarm (m : Module) (a b c d e f g h : Nat) : (m.hostEvent a b c d e f g h).telAlarm = m.telAlarm := rfl
@[simp] theorem Module.hostEvent_telStatus (m : Module) (a b c d e f g h : Nat) : (m.hostEvent a b c d e f g h).telStatus = m.telStatus := rfl
@[simp] theorem Module.hostEvent_telEnable (m : Module) (a b c d e f g h : Nat) : (m.hostEvent a b c d e f g h).telEnable = m.telEnable := rfl
@[simp] theorem Module.hostEvent_telPrev (m : Module) (a b c d e f g h : Nat) : (m.hostEvent a b c d e f g h).telPrev = m.telPrev := rfl
@[simp] theorem Module.hostEvent_ibiCauses (m : Module) (a b c d e f g h : Nat) : (m.hostEvent a b c d e f g h).ibiCauses = m.ibiCauses := rfl
@[simp] theorem Module.hostEvent_fwSession (m : Module) (a b c d e f g h : Nat) : (m.hostEvent a b c d e f g h).fwSession = m.fwSession := rfl

end Sys2Proof.Machine
end

