-- ==== Sys2Proof/Laws/Ops.lean ====
section
/-! SUPPORT. What the shared operations leave as it was: messages, interrupt causes, completions, log entries. -/

namespace Sys2Proof.Machine

@[simp] theorem Module.updRing_time (m : Module) (r : Ring) (f : RingRegs → RingRegs) : (m.updRing r f).time = m.time := by cases r <;> rfl
@[simp] theorem Module.updRing_free (m : Module) (r : Ring) (f : RingRegs → RingRegs) : (m.updRing r f).free = m.free := by cases r <;> rfl
@[simp] theorem Module.updRing_log (m : Module) (r : Ring) (f : RingRegs → RingRegs) : (m.updRing r f).log = m.log := by cases r <;> rfl
@[simp] theorem Module.updRing_engine (m : Module) (r : Ring) (f : RingRegs → RingRegs) : (m.updRing r f).engine = m.engine := by cases r <;> rfl
@[simp] theorem Module.updRing_bring (m : Module) (r : Ring) (f : RingRegs → RingRegs) : (m.updRing r f).bring = m.bring := by cases r <;> rfl
@[simp] theorem Module.updRing_epochs (m : Module) (r : Ring) (f : RingRegs → RingRegs) : (m.updRing r f).epochs = m.epochs := by cases r <;> rfl
@[simp] theorem Module.updRing_power (m : Module) (r : Ring) (f : RingRegs → RingRegs) : (m.updRing r f).power = m.power := by cases r <;> rfl
@[simp] theorem Module.updRing_clusters (m : Module) (r : Ring) (f : RingRegs → RingRegs) : (m.updRing r f).clusters = m.clusters := by cases r <;> rfl
@[simp] theorem Module.updRing_thermal (m : Module) (r : Ring) (f : RingRegs → RingRegs) : (m.updRing r f).thermal = m.thermal := by cases r <;> rfl
@[simp] theorem Module.updRing_clocks (m : Module) (r : Ring) (f : RingRegs → RingRegs) : (m.updRing r f).clocks = m.clocks := by cases r <;> rfl
@[simp] theorem Module.updRing_mem (m : Module) (r : Ring) (f : RingRegs → RingRegs) : (m.updRing r f).mem = m.mem := by cases r <;> rfl
@[simp] theorem Module.updRing_cores (m : Module) (r : Ring) (f : RingRegs → RingRegs) : (m.updRing r f).cores = m.cores := by cases r <;> rfl
@[simp] theorem Module.updRing_parts (m : Module) (r : Ring) (f : RingRegs → RingRegs) : (m.updRing r f).parts = m.parts := by cases r <;> rfl
@[simp] theorem Module.updRing_net (m : Module) (r : Ring) (f : RingRegs → RingRegs) : (m.updRing r f).net = m.net := by cases r <;> rfl
@[simp] theorem Module.updRing_fab (m : Module) (r : Ring) (f : RingRegs → RingRegs) : (m.updRing r f).fab = m.fab := by cases r <;> rfl
@[simp] theorem Module.updRing_flight (m : Module) (r : Ring) (f : RingRegs → RingRegs) : (m.updRing r f).flight = m.flight := by cases r <;> rfl
@[simp] theorem Module.updRing_tlb (m : Module) (r : Ring) (f : RingRegs → RingRegs) : (m.updRing r f).tlb = m.tlb := by cases r <;> rfl
@[simp] theorem Module.updRing_telAlarm (m : Module) (r : Ring) (f : RingRegs → RingRegs) : (m.updRing r f).telAlarm = m.telAlarm := by cases r <;> rfl
@[simp] theorem Module.updRing_telStatus (m : Module) (r : Ring) (f : RingRegs → RingRegs) : (m.updRing r f).telStatus = m.telStatus := by cases r <;> rfl
@[simp] theorem Module.updRing_telEnable (m : Module) (r : Ring) (f : RingRegs → RingRegs) : (m.updRing r f).telEnable = m.telEnable := by cases r <;> rfl
@[simp] theorem Module.updRing_telPrev (m : Module) (r : Ring) (f : RingRegs → RingRegs) : (m.updRing r f).telPrev = m.telPrev := by cases r <;> rfl
@[simp] theorem Module.updRing_ibiCauses (m : Module) (r : Ring) (f : RingRegs → RingRegs) : (m.updRing r f).ibiCauses = m.ibiCauses := by cases r <;> rfl
@[simp] theorem Module.updRing_fwSession (m : Module) (r : Ring) (f : RingRegs → RingRegs) : (m.updRing r f).fwSession = m.fwSession := by cases r <;> rfl

@[simp] theorem Module.emit_time (m : Module) (n : Nat) (t : HostTx) : (m.emit n t).time = m.time := by unfold Module.emit; split <;> rfl
@[simp] theorem Module.emit_free (m : Module) (n : Nat) (t : HostTx) : (m.emit n t).free = m.free := by unfold Module.emit; split <;> rfl
@[simp] theorem Module.emit_log (m : Module) (n : Nat) (t : HostTx) : (m.emit n t).log = m.log := by unfold Module.emit; split <;> rfl
@[simp] theorem Module.emit_engine (m : Module) (n : Nat) (t : HostTx) : (m.emit n t).engine = m.engine := by unfold Module.emit; split <;> rfl
@[simp] theorem Module.emit_bring (m : Module) (n : Nat) (t : HostTx) : (m.emit n t).bring = m.bring := by unfold Module.emit; split <;> rfl
@[simp] theorem Module.emit_epochs (m : Module) (n : Nat) (t : HostTx) : (m.emit n t).epochs = m.epochs := by unfold Module.emit; split <;> rfl
@[simp] theorem Module.emit_power (m : Module) (n : Nat) (t : HostTx) : (m.emit n t).power = m.power := by unfold Module.emit; split <;> rfl
@[simp] theorem Module.emit_clusters (m : Module) (n : Nat) (t : HostTx) : (m.emit n t).clusters = m.clusters := by unfold Module.emit; split <;> rfl
@[simp] theorem Module.emit_thermal (m : Module) (n : Nat) (t : HostTx) : (m.emit n t).thermal = m.thermal := by unfold Module.emit; split <;> rfl
@[simp] theorem Module.emit_clocks (m : Module) (n : Nat) (t : HostTx) : (m.emit n t).clocks = m.clocks := by unfold Module.emit; split <;> rfl
@[simp] theorem Module.emit_mem (m : Module) (n : Nat) (t : HostTx) : (m.emit n t).mem = m.mem := by unfold Module.emit; split <;> rfl
@[simp] theorem Module.emit_cores (m : Module) (n : Nat) (t : HostTx) : (m.emit n t).cores = m.cores := by unfold Module.emit; split <;> rfl
@[simp] theorem Module.emit_parts (m : Module) (n : Nat) (t : HostTx) : (m.emit n t).parts = m.parts := by unfold Module.emit; split <;> rfl
@[simp] theorem Module.emit_net (m : Module) (n : Nat) (t : HostTx) : (m.emit n t).net = m.net := by unfold Module.emit; split <;> rfl
@[simp] theorem Module.emit_fab (m : Module) (n : Nat) (t : HostTx) : (m.emit n t).fab = m.fab := by unfold Module.emit; split <;> rfl
@[simp] theorem Module.emit_flight (m : Module) (n : Nat) (t : HostTx) : (m.emit n t).flight = m.flight := by unfold Module.emit; split <;> rfl
@[simp] theorem Module.emit_tlb (m : Module) (n : Nat) (t : HostTx) : (m.emit n t).tlb = m.tlb := by unfold Module.emit; split <;> rfl
@[simp] theorem Module.emit_telAlarm (m : Module) (n : Nat) (t : HostTx) : (m.emit n t).telAlarm = m.telAlarm := by unfold Module.emit; split <;> rfl
@[simp] theorem Module.emit_telStatus (m : Module) (n : Nat) (t : HostTx) : (m.emit n t).telStatus = m.telStatus := by unfold Module.emit; split <;> rfl
@[simp] theorem Module.emit_telEnable (m : Module) (n : Nat) (t : HostTx) : (m.emit n t).telEnable = m.telEnable := by unfold Module.emit; split <;> rfl
@[simp] theorem Module.emit_telPrev (m : Module) (n : Nat) (t : HostTx) : (m.emit n t).telPrev = m.telPrev := by unfold Module.emit; split <;> rfl
@[simp] theorem Module.emit_ibiCauses (m : Module) (n : Nat) (t : HostTx) : (m.emit n t).ibiCauses = m.ibiCauses := by unfold Module.emit; split <;> rfl
@[simp] theorem Module.emit_fwSession (m : Module) (n : Nat) (t : HostTx) : (m.emit n t).fwSession = m.fwSession := by unfold Module.emit; split <;> rfl

@[simp] theorem Module.sendMsix_time (m : Module) (n v : Nat) : (m.sendMsix n v).time = m.time := by unfold Module.sendMsix; dsimp only; split <;> (first | rfl | (split <;> simp))
@[simp] theorem Module.sendMsix_free (m : Module) (n v : Nat) : (m.sendMsix n v).free = m.free := by unfold Module.sendMsix; dsimp only; split <;> (first | rfl | (split <;> simp))
@[simp] theorem Module.sendMsix_log (m : Module) (n v : Nat) : (m.sendMsix n v).log = m.log := by unfold Module.sendMsix; dsimp only; split <;> (first | rfl | (split <;> simp))
@[simp] theorem Module.sendMsix_engine (m : Module) (n v : Nat) : (m.sendMsix n v).engine = m.engine := by unfold Module.sendMsix; dsimp only; split <;> (first | rfl | (split <;> simp))
@[simp] theorem Module.sendMsix_bring (m : Module) (n v : Nat) : (m.sendMsix n v).bring = m.bring := by unfold Module.sendMsix; dsimp only; split <;> (first | rfl | (split <;> simp))
@[simp] theorem Module.sendMsix_epochs (m : Module) (n v : Nat) : (m.sendMsix n v).epochs = m.epochs := by unfold Module.sendMsix; dsimp only; split <;> (first | rfl | (split <;> simp))
@[simp] theorem Module.sendMsix_power (m : Module) (n v : Nat) : (m.sendMsix n v).power = m.power := by unfold Module.sendMsix; dsimp only; split <;> (first | rfl | (split <;> simp))
@[simp] theorem Module.sendMsix_clusters (m : Module) (n v : Nat) : (m.sendMsix n v).clusters = m.clusters := by unfold Module.sendMsix; dsimp only; split <;> (first | rfl | (split <;> simp))
@[simp] theorem Module.sendMsix_thermal (m : Module) (n v : Nat) : (m.sendMsix n v).thermal = m.thermal := by unfold Module.sendMsix; dsimp only; split <;> (first | rfl | (split <;> simp))
@[simp] theorem Module.sendMsix_clocks (m : Module) (n v : Nat) : (m.sendMsix n v).clocks = m.clocks := by unfold Module.sendMsix; dsimp only; split <;> (first | rfl | (split <;> simp))
@[simp] theorem Module.sendMsix_mem (m : Module) (n v : Nat) : (m.sendMsix n v).mem = m.mem := by unfold Module.sendMsix; dsimp only; split <;> (first | rfl | (split <;> simp))
@[simp] theorem Module.sendMsix_cores (m : Module) (n v : Nat) : (m.sendMsix n v).cores = m.cores := by unfold Module.sendMsix; dsimp only; split <;> (first | rfl | (split <;> simp))
@[simp] theorem Module.sendMsix_parts (m : Module) (n v : Nat) : (m.sendMsix n v).parts = m.parts := by unfold Module.sendMsix; dsimp only; split <;> (first | rfl | (split <;> simp))
@[simp] theorem Module.sendMsix_net (m : Module) (n v : Nat) : (m.sendMsix n v).net = m.net := by unfold Module.sendMsix; dsimp only; split <;> (first | rfl | (split <;> simp))
@[simp] theorem Module.sendMsix_fab (m : Module) (n v : Nat) : (m.sendMsix n v).fab = m.fab := by unfold Module.sendMsix; dsimp only; split <;> (first | rfl | (split <;> simp))
@[simp] theorem Module.sendMsix_flight (m : Module) (n v : Nat) : (m.sendMsix n v).flight = m.flight := by unfold Module.sendMsix; dsimp only; split <;> (first | rfl | (split <;> simp))
@[simp] theorem Module.sendMsix_tlb (m : Module) (n v : Nat) : (m.sendMsix n v).tlb = m.tlb := by unfold Module.sendMsix; dsimp only; split <;> (first | rfl | (split <;> simp))
@[simp] theorem Module.sendMsix_telAlarm (m : Module) (n v : Nat) : (m.sendMsix n v).telAlarm = m.telAlarm := by unfold Module.sendMsix; dsimp only; split <;> (first | rfl | (split <;> simp))
@[simp] theorem Module.sendMsix_telStatus (m : Module) (n v : Nat) : (m.sendMsix n v).telStatus = m.telStatus := by unfold Module.sendMsix; dsimp only; split <;> (first | rfl | (split <;> simp))
@[simp] theorem Module.sendMsix_telEnable (m : Module) (n v : Nat) : (m.sendMsix n v).telEnable = m.telEnable := by unfold Module.sendMsix; dsimp only; split <;> (first | rfl | (split <;> simp))
@[simp] theorem Module.sendMsix_telPrev (m : Module) (n v : Nat) : (m.sendMsix n v).telPrev = m.telPrev := by unfold Module.sendMsix; dsimp only; split <;> (first | rfl | (split <;> simp))
@[simp] theorem Module.sendMsix_ibiCauses (m : Module) (n v : Nat) : (m.sendMsix n v).ibiCauses = m.ibiCauses := by unfold Module.sendMsix; dsimp only; split <;> (first | rfl | (split <;> simp))
@[simp] theorem Module.sendMsix_fwSession (m : Module) (n v : Nat) : (m.sendMsix n v).fwSession = m.fwSession := by unfold Module.sendMsix; dsimp only; split <;> (first | rfl | (split <;> simp))

@[simp] theorem Module.ibi_time (m : Module) (c : Nat) : (m.ibi c).time = m.time := by unfold Module.ibi; split <;> rfl
@[simp] theorem Module.ibi_free (m : Module) (c : Nat) : (m.ibi c).free = m.free := by unfold Module.ibi; split <;> rfl
@[simp] theorem Module.ibi_log (m : Module) (c : Nat) : (m.ibi c).log = m.log := by unfold Module.ibi; split <;> rfl
@[simp] theorem Module.ibi_port (m : Module) (c : Nat) : (m.ibi c).port = m.port := by unfold Module.ibi; split <;> rfl
@[simp] theorem Module.ibi_engine (m : Module) (c : Nat) : (m.ibi c).engine = m.engine := by unfold Module.ibi; split <;> rfl
@[simp] theorem Module.ibi_bring (m : Module) (c : Nat) : (m.ibi c).bring = m.bring := by unfold Module.ibi; split <;> rfl
@[simp] theorem Module.ibi_epochs (m : Module) (c : Nat) : (m.ibi c).epochs = m.epochs := by unfold Module.ibi; split <;> rfl
@[simp] theorem Module.ibi_power (m : Module) (c : Nat) : (m.ibi c).power = m.power := by unfold Module.ibi; split <;> rfl
@[simp] theorem Module.ibi_clusters (m : Module) (c : Nat) : (m.ibi c).clusters = m.clusters := by unfold Module.ibi; split <;> rfl
@[simp] theorem Module.ibi_thermal (m : Module) (c : Nat) : (m.ibi c).thermal = m.thermal := by unfold Module.ibi; split <;> rfl
@[simp] theorem Module.ibi_clocks (m : Module) (c : Nat) : (m.ibi c).clocks = m.clocks := by unfold Module.ibi; split <;> rfl
@[simp] theorem Module.ibi_mem (m : Module) (c : Nat) : (m.ibi c).mem = m.mem := by unfold Module.ibi; split <;> rfl
@[simp] theorem Module.ibi_cores (m : Module) (c : Nat) : (m.ibi c).cores = m.cores := by unfold Module.ibi; split <;> rfl
@[simp] theorem Module.ibi_parts (m : Module) (c : Nat) : (m.ibi c).parts = m.parts := by unfold Module.ibi; split <;> rfl
@[simp] theorem Module.ibi_net (m : Module) (c : Nat) : (m.ibi c).net = m.net := by unfold Module.ibi; split <;> rfl
@[simp] theorem Module.ibi_fab (m : Module) (c : Nat) : (m.ibi c).fab = m.fab := by unfold Module.ibi; split <;> rfl
@[simp] theorem Module.ibi_flight (m : Module) (c : Nat) : (m.ibi c).flight = m.flight := by unfold Module.ibi; split <;> rfl
@[simp] theorem Module.ibi_tlb (m : Module) (c : Nat) : (m.ibi c).tlb = m.tlb := by unfold Module.ibi; split <;> rfl
@[simp] theorem Module.ibi_telAlarm (m : Module) (c : Nat) : (m.ibi c).telAlarm = m.telAlarm := by unfold Module.ibi; split <;> rfl
@[simp] theorem Module.ibi_telStatus (m : Module) (c : Nat) : (m.ibi c).telStatus = m.telStatus := by unfold Module.ibi; split <;> rfl
@[simp] theorem Module.ibi_telEnable (m : Module) (c : Nat) : (m.ibi c).telEnable = m.telEnable := by unfold Module.ibi; split <;> rfl
@[simp] theorem Module.ibi_telPrev (m : Module) (c : Nat) : (m.ibi c).telPrev = m.telPrev := by unfold Module.ibi; split <;> rfl
@[simp] theorem Module.ibi_fwSession (m : Module) (c : Nat) : (m.ibi c).fwSession = m.fwSession := by unfold Module.ibi; split <;> rfl

@[simp] theorem Module.complete_time (m : Module) (i st : Nat) (d : List Byte) : (m.complete i st d).time = m.time := by unfold Module.complete; split <;> rfl
@[simp] theorem Module.complete_free (m : Module) (i st : Nat) (d : List Byte) : (m.complete i st d).free = m.free := by unfold Module.complete; split <;> rfl
@[simp] theorem Module.complete_log (m : Module) (i st : Nat) (d : List Byte) : (m.complete i st d).log = m.log := by unfold Module.complete; split <;> rfl
@[simp] theorem Module.complete_bring (m : Module) (i st : Nat) (d : List Byte) : (m.complete i st d).bring = m.bring := by unfold Module.complete; split <;> rfl
@[simp] theorem Module.complete_epochs (m : Module) (i st : Nat) (d : List Byte) : (m.complete i st d).epochs = m.epochs := by unfold Module.complete; split <;> rfl
@[simp] theorem Module.complete_power (m : Module) (i st : Nat) (d : List Byte) : (m.complete i st d).power = m.power := by unfold Module.complete; split <;> rfl
@[simp] theorem Module.complete_clusters (m : Module) (i st : Nat) (d : List Byte) : (m.complete i st d).clusters = m.clusters := by unfold Module.complete; split <;> rfl
@[simp] theorem Module.complete_thermal (m : Module) (i st : Nat) (d : List Byte) : (m.complete i st d).thermal = m.thermal := by unfold Module.complete; split <;> rfl
@[simp] theorem Module.complete_clocks (m : Module) (i st : Nat) (d : List Byte) : (m.complete i st d).clocks = m.clocks := by unfold Module.complete; split <;> rfl
@[simp] theorem Module.complete_mem (m : Module) (i st : Nat) (d : List Byte) : (m.complete i st d).mem = m.mem := by unfold Module.complete; split <;> rfl
@[simp] theorem Module.complete_cores (m : Module) (i st : Nat) (d : List Byte) : (m.complete i st d).cores = m.cores := by unfold Module.complete; split <;> rfl
@[simp] theorem Module.complete_parts (m : Module) (i st : Nat) (d : List Byte) : (m.complete i st d).parts = m.parts := by unfold Module.complete; split <;> rfl
@[simp] theorem Module.complete_net (m : Module) (i st : Nat) (d : List Byte) : (m.complete i st d).net = m.net := by unfold Module.complete; split <;> rfl
@[simp] theorem Module.complete_fab (m : Module) (i st : Nat) (d : List Byte) : (m.complete i st d).fab = m.fab := by unfold Module.complete; split <;> rfl
@[simp] theorem Module.complete_flight (m : Module) (i st : Nat) (d : List Byte) : (m.complete i st d).flight = m.flight := by unfold Module.complete; split <;> rfl
@[simp] theorem Module.complete_tlb (m : Module) (i st : Nat) (d : List Byte) : (m.complete i st d).tlb = m.tlb := by unfold Module.complete; split <;> rfl
@[simp] theorem Module.complete_telAlarm (m : Module) (i st : Nat) (d : List Byte) : (m.complete i st d).telAlarm = m.telAlarm := by unfold Module.complete; split <;> rfl
@[simp] theorem Module.complete_telStatus (m : Module) (i st : Nat) (d : List Byte) : (m.complete i st d).telStatus = m.telStatus := by unfold Module.complete; split <;> rfl
@[simp] theorem Module.complete_telEnable (m : Module) (i st : Nat) (d : List Byte) : (m.complete i st d).telEnable = m.telEnable := by unfold Module.complete; split <;> rfl
@[simp] theorem Module.complete_telPrev (m : Module) (i st : Nat) (d : List Byte) : (m.complete i st d).telPrev = m.telPrev := by unfold Module.complete; split <;> rfl
@[simp] theorem Module.complete_ibiCauses (m : Module) (i st : Nat) (d : List Byte) : (m.complete i st d).ibiCauses = m.ibiCauses := by unfold Module.complete; split <;> rfl
@[simp] theorem Module.complete_fwSession (m : Module) (i st : Nat) (d : List Byte) : (m.complete i st d).fwSession = m.fwSession := by unfold Module.complete; split <;> rfl

@[simp] theorem Module.refuseCmd_time (m : Module) (i st d : Nat) : (m.refuseCmd i st d).time = m.time := by unfold Module.refuseCmd; split <;> simp
@[simp] theorem Module.refuseCmd_free (m : Module) (i st d : Nat) : (m.refuseCmd i st d).free = m.free := by unfold Module.refuseCmd; split <;> simp
@[simp] theorem Module.refuseCmd_bring (m : Module) (i st d : Nat) : (m.refuseCmd i st d).bring = m.bring := by unfold Module.refuseCmd; split <;> simp
@[simp] theorem Module.refuseCmd_epochs (m : Module) (i st d : Nat) : (m.refuseCmd i st d).epochs = m.epochs := by unfold Module.refuseCmd; split <;> simp
@[simp] theorem Module.refuseCmd_power (m : Module) (i st d : Nat) : (m.refuseCmd i st d).power = m.power := by unfold Module.refuseCmd; split <;> simp
@[simp] theorem Module.refuseCmd_clusters (m : Module) (i st d : Nat) : (m.refuseCmd i st d).clusters = m.clusters := by unfold Module.refuseCmd; split <;> simp
@[simp] theorem Module.refuseCmd_thermal (m : Module) (i st d : Nat) : (m.refuseCmd i st d).thermal = m.thermal := by unfold Module.refuseCmd; split <;> simp
@[simp] theorem Module.refuseCmd_clocks (m : Module) (i st d : Nat) : (m.refuseCmd i st d).clocks = m.clocks := by unfold Module.refuseCmd; split <;> simp
@[simp] theorem Module.refuseCmd_mem (m : Module) (i st d : Nat) : (m.refuseCmd i st d).mem = m.mem := by unfold Module.refuseCmd; split <;> simp
@[simp] theorem Module.refuseCmd_cores (m : Module) (i st d : Nat) : (m.refuseCmd i st d).cores = m.cores := by unfold Module.refuseCmd; split <;> simp
@[simp] theorem Module.refuseCmd_parts (m : Module) (i st d : Nat) : (m.refuseCmd i st d).parts = m.parts := by unfold Module.refuseCmd; split <;> simp
@[simp] theorem Module.refuseCmd_net (m : Module) (i st d : Nat) : (m.refuseCmd i st d).net = m.net := by unfold Module.refuseCmd; split <;> simp
@[simp] theorem Module.refuseCmd_fab (m : Module) (i st d : Nat) : (m.refuseCmd i st d).fab = m.fab := by unfold Module.refuseCmd; split <;> simp
@[simp] theorem Module.refuseCmd_flight (m : Module) (i st d : Nat) : (m.refuseCmd i st d).flight = m.flight := by unfold Module.refuseCmd; split <;> simp
@[simp] theorem Module.refuseCmd_tlb (m : Module) (i st d : Nat) : (m.refuseCmd i st d).tlb = m.tlb := by unfold Module.refuseCmd; split <;> simp
@[simp] theorem Module.refuseCmd_telAlarm (m : Module) (i st d : Nat) : (m.refuseCmd i st d).telAlarm = m.telAlarm := by unfold Module.refuseCmd; split <;> simp
@[simp] theorem Module.refuseCmd_telStatus (m : Module) (i st d : Nat) : (m.refuseCmd i st d).telStatus = m.telStatus := by unfold Module.refuseCmd; split <;> simp
@[simp] theorem Module.refuseCmd_telEnable (m : Module) (i st d : Nat) : (m.refuseCmd i st d).telEnable = m.telEnable := by unfold Module.refuseCmd; split <;> simp
@[simp] theorem Module.refuseCmd_telPrev (m : Module) (i st d : Nat) : (m.refuseCmd i st d).telPrev = m.telPrev := by unfold Module.refuseCmd; split <;> simp
@[simp] theorem Module.refuseCmd_ibiCauses (m : Module) (i st d : Nat) : (m.refuseCmd i st d).ibiCauses = m.ibiCauses := by unfold Module.refuseCmd; split <;> simp
@[simp] theorem Module.refuseCmd_fwSession (m : Module) (i st d : Nat) : (m.refuseCmd i st d).fwSession = m.fwSession := by unfold Module.refuseCmd; split <;> simp

@[simp] theorem Module.finishCmd_time (m : Module) (i : Nat) (x : Answer) : (m.finishCmd i x).time = m.time := by cases x <;> simp [Module.finishCmd]
@[simp] theorem Module.finishCmd_free (m : Module) (i : Nat) (x : Answer) : (m.finishCmd i x).free = m.free := by cases x <;> simp [Module.finishCmd]
@[simp] theorem Module.finishCmd_bring (m : Module) (i : Nat) (x : Answer) : (m.finishCmd i x).bring = m.bring := by cases x <;> simp [Module.finishCmd]
@[simp] theorem Module.finishCmd_epochs (m : Module) (i : Nat) (x : Answer) : (m.finishCmd i x).epochs = m.epochs := by cases x <;> simp [Module.finishCmd]
@[simp] theorem Module.finishCmd_power (m : Module) (i : Nat) (x : Answer) : (m.finishCmd i x).power = m.power := by cases x <;> simp [Module.finishCmd]
@[simp] theorem Module.finishCmd_clusters (m : Module) (i : Nat) (x : Answer) : (m.finishCmd i x).clusters = m.clusters := by cases x <;> simp [Module.finishCmd]
@[simp] theorem Module.finishCmd_thermal (m : Module) (i : Nat) (x : Answer) : (m.finishCmd i x).thermal = m.thermal := by cases x <;> simp [Module.finishCmd]
@[simp] theorem Module.finishCmd_clocks (m : Module) (i : Nat) (x : Answer) : (m.finishCmd i x).clocks = m.clocks := by cases x <;> simp [Module.finishCmd]
@[simp] theorem Module.finishCmd_mem (m : Module) (i : Nat) (x : Answer) : (m.finishCmd i x).mem = m.mem := by cases x <;> simp [Module.finishCmd]
@[simp] theorem Module.finishCmd_cores (m : Module) (i : Nat) (x : Answer) : (m.finishCmd i x).cores = m.cores := by cases x <;> simp [Module.finishCmd]
@[simp] theorem Module.finishCmd_parts (m : Module) (i : Nat) (x : Answer) : (m.finishCmd i x).parts = m.parts := by cases x <;> simp [Module.finishCmd]
@[simp] theorem Module.finishCmd_net (m : Module) (i : Nat) (x : Answer) : (m.finishCmd i x).net = m.net := by cases x <;> simp [Module.finishCmd]
@[simp] theorem Module.finishCmd_fab (m : Module) (i : Nat) (x : Answer) : (m.finishCmd i x).fab = m.fab := by cases x <;> simp [Module.finishCmd]
@[simp] theorem Module.finishCmd_flight (m : Module) (i : Nat) (x : Answer) : (m.finishCmd i x).flight = m.flight := by cases x <;> simp [Module.finishCmd]
@[simp] theorem Module.finishCmd_tlb (m : Module) (i : Nat) (x : Answer) : (m.finishCmd i x).tlb = m.tlb := by cases x <;> simp [Module.finishCmd]
@[simp] theorem Module.finishCmd_telAlarm (m : Module) (i : Nat) (x : Answer) : (m.finishCmd i x).telAlarm = m.telAlarm := by cases x <;> simp [Module.finishCmd]
@[simp] theorem Module.finishCmd_telStatus (m : Module) (i : Nat) (x : Answer) : (m.finishCmd i x).telStatus = m.telStatus := by cases x <;> simp [Module.finishCmd]
@[simp] theorem Module.finishCmd_telEnable (m : Module) (i : Nat) (x : Answer) : (m.finishCmd i x).telEnable = m.telEnable := by cases x <;> simp [Module.finishCmd]
@[simp] theorem Module.finishCmd_telPrev (m : Module) (i : Nat) (x : Answer) : (m.finishCmd i x).telPrev = m.telPrev := by cases x <;> simp [Module.finishCmd]
@[simp] theorem Module.finishCmd_ibiCauses (m : Module) (i : Nat) (x : Answer) : (m.finishCmd i x).ibiCauses = m.ibiCauses := by cases x <;> simp [Module.finishCmd]
@[simp] theorem Module.finishCmd_fwSession (m : Module) (i : Nat) (x : Answer) : (m.finishCmd i x).fwSession = m.fwSession := by cases x <;> simp [Module.finishCmd]

@[simp] theorem Module.putStatus_time (m : Module) (b : Blk) (v : Nat) : (m.putStatus b v).time = m.time := by cases b <;> rfl
@[simp] theorem Module.setCause_time (m : Module) (b : Blk) (i : Nat) : (m.setCause b i).time = m.time := by
  unfold Module.setCause; dsimp only; split <;> simp
@[simp] theorem Module.putStatus_free (m : Module) (b : Blk) (v : Nat) : (m.putStatus b v).free = m.free := by cases b <;> rfl
@[simp] theorem Module.setCause_free (m : Module) (b : Blk) (i : Nat) : (m.setCause b i).free = m.free := by
  unfold Module.setCause; dsimp only; split <;> simp
@[simp] theorem Module.putStatus_engine (m : Module) (b : Blk) (v : Nat) : (m.putStatus b v).engine = m.engine := by cases b <;> rfl
@[simp] theorem Module.setCause_engine (m : Module) (b : Blk) (i : Nat) : (m.setCause b i).engine = m.engine := by
  unfold Module.setCause; dsimp only; split <;> simp
@[simp] theorem Module.putStatus_bring (m : Module) (b : Blk) (v : Nat) : (m.putStatus b v).bring = m.bring := by cases b <;> rfl
@[simp] theorem Module.setCause_bring (m : Module) (b : Blk) (i : Nat) : (m.setCause b i).bring = m.bring := by
  unfold Module.setCause; dsimp only; split <;> simp
@[simp] theorem Module.putStatus_epochs (m : Module) (b : Blk) (v : Nat) : (m.putStatus b v).epochs = m.epochs := by cases b <;> rfl
@[simp] theorem Module.setCause_epochs (m : Module) (b : Blk) (i : Nat) : (m.setCause b i).epochs = m.epochs := by
  unfold Module.setCause; dsimp only; split <;> simp
@[simp] theorem Module.putStatus_clusters (m : Module) (b : Blk) (v : Nat) : (m.putStatus b v).clusters = m.clusters := by cases b <;> rfl
@[simp] theorem Module.setCause_clusters (m : Module) (b : Blk) (i : Nat) : (m.setCause b i).clusters = m.clusters := by
  unfold Module.setCause; dsimp only; split <;> simp
@[simp] theorem Module.putStatus_cores (m : Module) (b : Blk) (v : Nat) : (m.putStatus b v).cores = m.cores := by cases b <;> rfl
@[simp] theorem Module.setCause_cores (m : Module) (b : Blk) (i : Nat) : (m.setCause b i).cores = m.cores := by
  unfold Module.setCause; dsimp only; split <;> simp
@[simp] theorem Module.putStatus_net (m : Module) (b : Blk) (v : Nat) : (m.putStatus b v).net = m.net := by cases b <;> rfl
@[simp] theorem Module.setCause_net (m : Module) (b : Blk) (i : Nat) : (m.setCause b i).net = m.net := by
  unfold Module.setCause; dsimp only; split <;> simp
@[simp] theorem Module.putStatus_flight (m : Module) (b : Blk) (v : Nat) : (m.putStatus b v).flight = m.flight := by cases b <;> rfl
@[simp] theorem Module.setCause_flight (m : Module) (b : Blk) (i : Nat) : (m.setCause b i).flight = m.flight := by
  unfold Module.setCause; dsimp only; split <;> simp
@[simp] theorem Module.putStatus_tlb (m : Module) (b : Blk) (v : Nat) : (m.putStatus b v).tlb = m.tlb := by cases b <;> rfl
@[simp] theorem Module.setCause_tlb (m : Module) (b : Blk) (i : Nat) : (m.setCause b i).tlb = m.tlb := by
  unfold Module.setCause; dsimp only; split <;> simp
@[simp] theorem Module.putStatus_telAlarm (m : Module) (b : Blk) (v : Nat) : (m.putStatus b v).telAlarm = m.telAlarm := by cases b <;> rfl
@[simp] theorem Module.setCause_telAlarm (m : Module) (b : Blk) (i : Nat) : (m.setCause b i).telAlarm = m.telAlarm := by
  unfold Module.setCause; dsimp only; split <;> simp
@[simp] theorem Module.putStatus_telEnable (m : Module) (b : Blk) (v : Nat) : (m.putStatus b v).telEnable = m.telEnable := by cases b <;> rfl
@[simp] theorem Module.setCause_telEnable (m : Module) (b : Blk) (i : Nat) : (m.setCause b i).telEnable = m.telEnable := by
  unfold Module.setCause; dsimp only; split <;> simp
@[simp] theorem Module.putStatus_telPrev (m : Module) (b : Blk) (v : Nat) : (m.putStatus b v).telPrev = m.telPrev := by cases b <;> rfl
@[simp] theorem Module.setCause_telPrev (m : Module) (b : Blk) (i : Nat) : (m.setCause b i).telPrev = m.telPrev := by
  unfold Module.setCause; dsimp only; split <;> simp
@[simp] theorem Module.putStatus_ibiCauses (m : Module) (b : Blk) (v : Nat) : (m.putStatus b v).ibiCauses = m.ibiCauses := by cases b <;> rfl
@[simp] theorem Module.setCause_ibiCauses (m : Module) (b : Blk) (i : Nat) : (m.setCause b i).ibiCauses = m.ibiCauses := by
  unfold Module.setCause; dsimp only; split <;> simp
@[simp] theorem Module.putStatus_fwSession (m : Module) (b : Blk) (v : Nat) : (m.putStatus b v).fwSession = m.fwSession := by cases b <;> rfl
@[simp] theorem Module.setCause_fwSession (m : Module) (b : Blk) (i : Nat) : (m.setCause b i).fwSession = m.fwSession := by
  unfold Module.setCause; dsimp only; split <;> simp
end Sys2Proof.Machine
end

