-- ==== Sys2Proof/Laws/Commands.lean ====
section
/-! SUPPORT. What the frame of a letterbox command does, once for all of them. -/

namespace Sys2Proof.Machine

open Sys2Proof.Safety

/-- The slot of a command that acts. -/
def actingSlot (op id : Nat) (claims : List Claim) (i : Option Instr) (c : Cmd) (q : CmdSlot) : Prop :=
  q.id = id ∧ q.fn = c.fn ∧ q.opcode = op ∧ q.tag = c.tag ∧ q.flags = c.flags ∧ q.partition = c.partition ∧ q.phase = .running ∧
  q.claims = claims ∧ q.cplFlags = (if isExpert c then 1 else 0) ∧ q.instr = i

/-- An accepted command acts at once: its body runs on the state with the command's slot as the only one, and its answer ends it. -/
theorem runCmd_accepted {sp : CmdSpec} {bad need : Option Nat} {claims : List Claim} {fence : Option Nat} {i : Instr} {c : Cmd} {m : Module}
    (body : Nat → Module → Module × Answer) (h : accepted sp bad need claims fence c m) :
    ∃ (id k : Nat) (q : CmdSlot), actingSlot sp.op id claims (some i) c q ∧
      runCmd sp bad need claims fence i c body m =
        (body id { m with engine := { m.engine with nextId := k, cmds := [q] } }).1.finishCmd id
          (body id { m with engine := { m.engine with nextId := k, cmds := [q] } }).2 := by
  obtain ⟨-, ha, hk, hc, hf⟩ := h
  obtain ⟨id, k, q, hid, hopen, hfld⟩ : ∃ (id k : Nat) (q : CmdSlot), q.id = id ∧
      m.openSlot sp.op c i = ({ m with engine := { m.engine with nextId := k, cmds := [q] } }, id, false) ∧
      q.fn = c.fn ∧ q.opcode = sp.op ∧ q.tag = c.tag ∧ q.flags = c.flags ∧ q.partition = c.partition ∧ q.cplFlags = 0 ∧
      q.phase = .taken ∧ q.instr = some i := by
    rcases ha with h0 | ⟨q, hq, h1, h2, h3, h4, h5, h6, h7⟩
    · refine ⟨m.engine.nextId, m.engine.nextId + 1,
        { id := m.engine.nextId, fn := c.fn, opcode := sp.op, tag := c.tag, flags := c.flags, partition := c.partition,
          phase := .taken, instr := some i, claims := [], cplFlags := 0, reserved := false, effect := false, info := [] },
        rfl, ?_, rfl, rfl, rfl, rfl, rfl, rfl, rfl, rfl⟩
      simp [Module.openSlot, h0]
    · refine ⟨q.id, m.engine.nextId, { q with instr := some i }, rfl, ?_, h1, h3, h2, h5, h6, h7, h4, rfl⟩
      simp [Module.openSlot, hq, h1, h2, h3, h4, Module.updCmd, modFirst]
  obtain ⟨f1, f2, f3, f4, f5, f6, f7, f8⟩ := hfld
  refine ⟨id, k, { q with cplFlags := if isExpert c then 1 else 0, phase := .running, claims := claims },
    ⟨hid, f1, f2, f3, f4, f5, rfl, rfl, rfl, f8⟩, ?_⟩
  have hset : setBit 0 0 true = 1 := by decide
  have hheld : ∀ q' : CmdSlot, q'.phase = .taken →
      ({ m with engine := { m.engine with nextId := k, cmds := [q'] } } : Module).heldClaims = m.heldClaims := by
    intro q' hq'
    rcases ha with h0 | ⟨q0, hq, -, -, -, h4, -⟩
    · simp [Module.heldClaims, h0, hq']
    · simp [Module.heldClaims, hq, h4, hq']
  have hfence : ∀ q' : CmdSlot,
      ({ m with engine := { m.engine with nextId := k, cmds := [q'] } } : Module).fenceMissing fence = none := by
    intro q'
    cases hfe : fence with
    | none => rfl
    | some n => have := hf n hfe; unfold Module.fenceMissing; exact if_pos this
  unfold runCmd
  simp only [hopen, hk, Bool.false_eq_true, if_false]
  simp only [Module.updCmd, modFirst, hid, beq_self_eq_true, if_true, f6]
  simp only [Module.fenceOpen, Module.earlier, Module.mayClaim, Module.claimsFree, List.filter, f7, hheld, hfence]
  simp [Module.claimsFree] at hc
  simp [Module.actCmd, Module.updCmd, modFirst, hset, Module.startOpen, Module.earlier, hid]
  exact fun x hx hm => absurd hm (hc x hx)

/-- A command that is done leaves an empty engine and its completion at the end of those that wait. -/
theorem complete_answered {m m' : Module} {op id st : Nat} {claims : List Claim} {i : Option Instr} {c : Cmd} {q : CmdSlot} (detail : List Byte)
    (hq : actingSlot op id claims i c q) (hc : m'.engine.cmds = [q]) (hp : m.port.cpls <+: m'.port.cpls) :
    answered op st detail c m (m'.finishCmd id (.done st detail)) := by
  obtain ⟨h1, h2, h3, h4, h5, h6, h7, h8, h9, -⟩ := hq
  have hcmd : m'.cmd id = some q := by simp [Module.cmd, hc, h1]
  refine ⟨by simp [Module.finishCmd, Module.complete, hcmd, hc, h1], m'.port.cpls, q.reserved, ?_, hp⟩
  simp [Module.finishCmd, Module.complete, hcmd, completionOf, h2, h3, h4, h5, h6, h9, isNotify]
  rfl

end Sys2Proof.Machine
end

