-- ==== Sys2Proof/Laws/Dispatch.lean ====
section
/-! SUPPORT. The meaning each command is dispatched to, in the uniform shape of onModule, onState, onCmd and their like. -/

namespace Sys2Proof.Machine

theorem exec_devNop (c : Cmd) (s : State) : exec (.devNop c) s =
    onCmd c (doDevNop c) s := rfl
theorem exec_devIdentify (c : Cmd) (s : State) : exec (.devIdentify c) s =
    onCmd c (doDevIdentify c) s := rfl
theorem exec_devExpert (c : Cmd) (s : State) : exec (.devExpert c) s =
    onCmd c (doDevExpert c) s := rfl
theorem exec_devNetQuery (c : Cmd) (s : State) : exec (.devNetQuery c) s =
    onCmd c (doDevNetQuery c) s := rfl
theorem exec_devReset (c : Cmd) (s : State) : exec (.devReset c) s =
    onCmd c (doDevReset c) s := rfl
theorem exec_devAckShortfall (c : Cmd) (s : State) : exec (.devAckShortfall c) s =
    onCmd c (doDevAckShortfall c) s := rfl
theorem exec_partCreate (c : Cmd) (s : State) : exec (.partCreate c) s =
    onCmd c (doPartCreate c) s := rfl
theorem exec_partDestroy (c : Cmd) (s : State) : exec (.partDestroy c) s =
    onCmd c (doPartDestroy c) s := rfl
theorem exec_partDisable (c : Cmd) (s : State) : exec (.partDisable c) s =
    onCmd c (doPartDisable c) s := rfl
theorem exec_partEnable (c : Cmd) (s : State) : exec (.partEnable c) s =
    onCmd c (doPartEnable c) s := rfl
theorem exec_partConfig (c : Cmd) (s : State) : exec (.partConfig c) s =
    onCmd c (doPartConfig c) s := rfl
theorem exec_partQuery (c : Cmd) (s : State) : exec (.partQuery c) s =
    onCmd c (doPartQuery c) s := rfl
theorem exec_partMap (c : Cmd) (s : State) : exec (.partMap c) s =
    onCmd c (doPartMap c) s := rfl
theorem exec_partUnmap (c : Cmd) (s : State) : exec (.partUnmap c) s =
    onCmd c (doPartUnmap c) s := rfl
theorem exec_partStripe (c : Cmd) (s : State) : exec (.partStripe c) s =
    onCmd c (doPartStripe c) s := rfl
theorem exec_partPool (c : Cmd) (s : State) : exec (.partPool c) s =
    onCmd c (doPartPool c) s := rfl
theorem exec_memQuery (c : Cmd) (s : State) : exec (.memQuery c) s =
    onCmd c (doMemQuery c) s := rfl
theorem exec_memRetirePage (c : Cmd) (s : State) : exec (.memRetirePage c) s =
    onCmd c (doMemRetirePage c) s := rfl
theorem exec_memRetireBank (c : Cmd) (errs : List (Nat × Nat)) (s : State) : exec (.memRetireBank c errs) s =
    onCmd c (doMemRetireBank c errs) s := rfl
theorem exec_memRetireSlice (c : Cmd) (s : State) : exec (.memRetireSlice c) s =
    onCmd c (doMemRetireSlice c) s := rfl
theorem exec_memClearPoison (c : Cmd) (s : State) : exec (.memClearPoison c) s =
    onCmd c (doMemClearPoison c) s := rfl
theorem exec_memScrubRange (c : Cmd) (errs : List (Nat × Nat)) (s : State) : exec (.memScrubRange c errs) s =
    onCmd c (doMemScrubRange c errs) s := rfl
theorem exec_memScrubConfig (c : Cmd) (s : State) : exec (.memScrubConfig c) s =
    onCmd c (doMemScrubConfig c) s := rfl
theorem exec_memArbConfig (c : Cmd) (s : State) : exec (.memArbConfig c) s =
    onCmd c (doMemArbConfig c) s := rfl
theorem exec_memListRetired (c : Cmd) (s : State) : exec (.memListRetired c) s =
    onCmd c (doMemListRetired c) s := rfl
theorem exec_memBankop (c : Cmd) (s : State) : exec (.memBankop c) s =
    onCmd c (doMemBankop c) s := rfl
theorem exec_workCollective (c : Cmd) (s : State) : exec (.workCollective c) s =
    onCmd c (doWorkCollective c) s := rfl
theorem exec_workTree (c : Cmd) (s : State) : exec (.workTree c) s =
    onCmd c (doWorkTree c) s := rfl
theorem exec_workCancel (c : Cmd) (s : State) : exec (.workCancel c) s =
    onCmd c (doWorkCancel c) s := rfl
theorem exec_pwrLimit (c : Cmd) (s : State) : exec (.pwrLimit c) s =
    onCmd c (doPwrLimit c) s := rfl
theorem exec_pwrLadder (c : Cmd) (s : State) : exec (.pwrLadder c) s =
    onCmd c (doPwrLadder c) s := rfl
theorem exec_pwrFeed (c : Cmd) (s : State) : exec (.pwrFeed c) s =
    onCmd c (doPwrFeed c) s := rfl
theorem exec_pwrOppoint (c : Cmd) (s : State) : exec (.pwrOppoint c) s =
    onCmd c (doPwrOppoint c) s := rfl
theorem exec_pwrCurrent (c : Cmd) (s : State) : exec (.pwrCurrent c) s =
    onCmd c (doPwrCurrent c) s := rfl
theorem exec_pwrView (c : Cmd) (s : State) : exec (.pwrView c) s =
    onCmd c (doPwrView c) s := rfl
theorem exec_thmSensors (c : Cmd) (s : State) : exec (.thmSensors c) s =
    onCmd c (doThmSensors c) s := rfl
theorem exec_thmConfig (c : Cmd) (s : State) : exec (.thmConfig c) s =
    onCmd c (doThmConfig c) s := rfl
theorem exec_thmResume (c : Cmd) (s : State) : exec (.thmResume c) s =
    onCmd c (doThmResume c) s := rfl
theorem exec_testMemory (c : Cmd) (fails : List CellFail) (s : State) : exec (.testMemory c fails) s =
    onModule (c.wf && fails.all CellFail.wf) (doTestMemory c fails) s := rfl
theorem exec_testKnownAnswer (c : Cmd) (fails : List Finding) (s : State) : exec (.testKnownAnswer c fails) s =
    onModule (c.wf && findingsOf 7 fails) (doTestKnownAnswer c fails) s := rfl
theorem exec_calRegulator (c : Cmd) (lost : List (Nat × Nat)) (s : State) : exec (.calRegulator c lost) s =
    onModule (c.wf && lost.all (fun p => clusterOk p.1 && decide (p.2 < 4))) (doCalRegulator c lost) s := rfl
theorem exec_calDeskew (c : Cmd) (failed : List Nat) (s : State) : exec (.calDeskew c failed) s =
    onModule (c.wf && failed.all siteOk) (doCalDeskew c failed) s := rfl
theorem exec_calSensor (c : Cmd) (s : State) : exec (.calSensor c) s =
    onCmd c (doCalSensor c) s := rfl
theorem exec_calBridge (c : Cmd) (failed : Nat) (s : State) : exec (.calBridge c failed) s =
    onModule (c.wf && decide (failed < 2 ^ 68)) (doCalBridge c failed) s := rfl
theorem exec_fwQuery (c : Cmd) (s : State) : exec (.fwQuery c) s =
    onCmd c (doFwQuery c) s := rfl
theorem exec_fwWrite (c : Cmd) (s : State) : exec (.fwWrite c) s =
    onCmd c (doFwWrite c) s := rfl
theorem exec_fwVerify (c : Cmd) (sigOk : Bool) (s : State) : exec (.fwVerify c sigOk) s =
    onCmd c (doFwVerify c sigOk) s := rfl
theorem exec_fwActivate (c : Cmd) (s : State) : exec (.fwActivate c) s =
    onCmd c (doFwActivate c) s := rfl
theorem exec_fwMicrocode (c : Cmd) (sigOk : Bool) (version : Nat) (incomplete : List Nat) (s : State) : exec (.fwMicrocode c sigOk version incomplete) s =
    onModule (c.wf && decide (version < 2 ^ 32) && incomplete.all siteOk) (doFwMicrocode c sigOk version incomplete) s := rfl
theorem exec_fwBroadcast (c : Cmd) (s : State) : exec (.fwBroadcast c) s =
    onCmd c (doFwBroadcast c) s := rfl
theorem exec_fabQuery (c : Cmd) (s : State) : exec (.fabQuery c) s =
    onCmd c (doFabQuery c) s := rfl
theorem exec_fabRole (c : Cmd) (s : State) : exec (.fabRole c) s =
    onCmd c (doFabRole c) s := rfl
theorem exec_fabPort (c : Cmd) (s : State) : exec (.fabPort c) s =
    onCmd c (doFabPort c) s := rfl
theorem exec_modePrepare (c : Cmd) (s : State) : exec (.modePrepare c) s =
    onCmd c (doModePrepare c) s := rfl
theorem exec_modeCommit (c : Cmd) (s : State) : exec (.modeCommit c) s =
    onCmd c (doModeCommit c) s := rfl
theorem exec_modeAbort (c : Cmd) (s : State) : exec (.modeAbort c) s =
    onCmd c (doModeAbort c) s := rfl
theorem exec_modeQuery (c : Cmd) (s : State) : exec (.modeQuery c) s =
    onCmd c (doModeQuery c) s := rfl
theorem exec_telSnapshot (c : Cmd) (s : State) : exec (.telSnapshot c) s =
    onCmd c (doTelSnapshot c) s := rfl
theorem exec_errRead (c : Cmd) (s : State) : exec (.errRead c) s =
    onCmd c (doErrRead c) s := rfl
theorem exec_errAck (c : Cmd) (s : State) : exec (.errAck c) s =
    onCmd c (doErrAck c) s := rfl
theorem exec_errInject (c : Cmd) (s : State) : exec (.errInject c) s =
    onCmd c (doErrInject c) s := rfl
theorem exec_ctNop (d : Desc) (s : State) : exec (.ctNop d) s =
    onDesc d 0x00 bodyCtNop s := rfl
theorem exec_ctEnd (d : Desc) (s : State) : exec (.ctEnd d) s =
    onDesc d 0x01 bodyCtEnd s := rfl
theorem exec_ctLoop (d : Desc) (s : State) : exec (.ctLoop d) s =
    onDesc d 0x02 bodyCtLoop s := rfl
theorem exec_ctBranch (d : Desc) (s : State) : exec (.ctBranch d) s =
    onDesc d 0x03 bodyCtBranch s := rfl
theorem exec_ctJump (d : Desc) (s : State) : exec (.ctJump d) s =
    onDesc d 0x04 bodyCtJump s := rfl
theorem exec_ctCall (d : Desc) (s : State) : exec (.ctCall d) s =
    onDesc d 0x05 bodyCtCall s := rfl
theorem exec_ctRet (d : Desc) (s : State) : exec (.ctRet d) s =
    onDesc d 0x06 bodyCtRet s := rfl
theorem exec_ctSetreg (d : Desc) (s : State) : exec (.ctSetreg d) s =
    onDesc d 0x07 bodyCtSetreg s := rfl
theorem exec_ctAddreg (d : Desc) (s : State) : exec (.ctAddreg d) s =
    onDesc d 0x08 bodyCtAddreg s := rfl
theorem exec_ctPost (d : Desc) (s : State) : exec (.ctPost d) s =
    onDesc d 0x09 bodyCtPost s := rfl
theorem exec_strLoad (d : Desc) (s : State) : exec (.strLoad d) s =
    onDesc d 0x10 bodyStr s := rfl
theorem exec_strStore (d : Desc) (s : State) : exec (.strStore d) s =
    onDesc d 0x11 bodyStr s := rfl
theorem exec_strCancel (d : Desc) (s : State) : exec (.strCancel d) s =
    onDesc d 0x12 bodyStrCancel s := rfl
theorem exec_mxLoadw (d : Desc) (s : State) : exec (.mxLoadw d) s =
    onDesc d 0x20 bodyMxLoadw s := rfl
theorem exec_mxRun (d : Desc) (s : State) : exec (.mxRun d) s =
    onDesc d 0x21 bodyMxRun s := rfl
theorem exec_mxDrain (d : Desc) (s : State) : exec (.mxDrain d) s =
    onDesc d 0x22 bodyMxDrain s := rfl
theorem exec_mxSplit (d : Desc) (s : State) : exec (.mxSplit d) s =
    onDesc d 0x23 bodyMxSplit s := rfl
theorem exec_mxElem (d : Desc) (s : State) : exec (.mxElem d) s =
    onDesc d 0x24 bodyMxElem s := rfl
theorem exec_vxAdd (d : Desc) (s : State) : exec (.vxAdd d) s =
    onDesc d 0x30 bodyVx s := rfl
theorem exec_vxSub (d : Desc) (s : State) : exec (.vxSub d) s =
    onDesc d 0x31 bodyVx s := rfl
theorem exec_vxMul (d : Desc) (s : State) : exec (.vxMul d) s =
    onDesc d 0x32 bodyVx s := rfl
theorem exec_vxFma (d : Desc) (s : State) : exec (.vxFma d) s =
    onDesc d 0x33 bodyVx s := rfl
theorem exec_vxMax (d : Desc) (s : State) : exec (.vxMax d) s =
    onDesc d 0x34 bodyVx s := rfl
theorem exec_vxMin (d : Desc) (s : State) : exec (.vxMin d) s =
    onDesc d 0x35 bodyVx s := rfl
theorem exec_vxUnary (d : Desc) (s : State) : exec (.vxUnary d) s =
    onDesc d 0x36 bodyVx s := rfl
theorem exec_vxReduce (d : Desc) (s : State) : exec (.vxReduce d) s =
    onDesc d 0x37 bodyVx s := rfl
theorem exec_vxConvert (d : Desc) (s : State) : exec (.vxConvert d) s =
    onDesc d 0x38 bodyVx s := rfl
theorem exec_vxCopy (d : Desc) (s : State) : exec (.vxCopy d) s =
    onDesc d 0x39 bodyVx s := rfl
theorem exec_vxFill (d : Desc) (s : State) : exec (.vxFill d) s =
    onDesc d 0x3A bodyVx s := rfl
theorem exec_vxSelect (d : Desc) (s : State) : exec (.vxSelect d) s =
    onDesc d 0x3B bodyVx s := rfl
theorem exec_khRead (d : Desc) (s : State) : exec (.khRead d) s =
    onDesc d 0x40 bodyKh s := rfl
theorem exec_khWrite (d : Desc) (s : State) : exec (.khWrite d) s =
    onDesc d 0x41 bodyKh s := rfl
theorem exec_khGather (d : Desc) (s : State) : exec (.khGather d) s =
    onDesc d 0x42 bodyKh s := rfl
theorem exec_khScatter (d : Desc) (s : State) : exec (.khScatter d) s =
    onDesc d 0x43 bodyKh s := rfl
theorem exec_bkRow (d : Desc) (s : State) : exec (.bkRow d) s =
    onDesc d 0x50 bodyBank s := rfl
theorem exec_bkStat (d : Desc) (s : State) : exec (.bkStat d) s =
    onDesc d 0x51 bodyBank s := rfl
theorem exec_nrSend (d : Desc) (s : State) : exec (.nrSend d) s =
    onDesc d 0x60 bodyNr s := rfl
theorem exec_nrReduce (d : Desc) (s : State) : exec (.nrReduce d) s =
    onDesc d 0x61 bodyNr s := rfl
theorem exec_nrGather (d : Desc) (s : State) : exec (.nrGather d) s =
    onDesc d 0x62 bodyNr s := rfl
theorem exec_nrBcast (d : Desc) (s : State) : exec (.nrBcast d) s =
    onDesc d 0x63 bodyNr s := rfl
theorem exec_syWait (d : Desc) (s : State) : exec (.syWait d) s =
    onDesc d 0x70 bodySyWait s := rfl
theorem exec_sySignal (d : Desc) (s : State) : exec (.sySignal d) s =
    onDesc d 0x71 bodySySignal s := rfl
theorem exec_syFence (d : Desc) (s : State) : exec (.syFence d) s =
    onDesc d 0x72 bodySyFence s := rfl
theorem exec_sySet (d : Desc) (s : State) : exec (.sySet d) s =
    onDesc d 0x73 bodySySet s := rfl
theorem exec_invalidOpcode (d : Desc) (s : State) : exec (.invalidOpcode d) s =
    onModule (d.wf && !opcodeListed (getLe d.bytes 0 1)) (doInvalidOpcode d) s := rfl
theorem exec_fetchReturn (site thread : Nat) (check : Bool) (s : State) : exec (.fetchReturn site thread check) s =
    onModule (siteThreadOk site thread) (doFetchReturn site thread check) s := rfl
theorem exec_waitRelease (site thread : Nat) (s : State) : exec (.waitRelease site thread) s =
    onModule (siteThreadOk site thread) (doWaitRelease site thread) s := rfl
theorem exec_descriptorCompletion (site thread id : Nat) (check : Bool) (s : State) : exec (.descriptorCompletion site thread id check) s =
    onModule (siteThreadOk site thread) (doDescriptorCompletion site thread id check) s := rfl
theorem exec_watchdogExpiry (site thread : Nat) (s : State) : exec (.watchdogExpiry site thread) s =
    onModule (siteThreadOk site thread) (doWatchdogExpiry site thread) s := rfl
theorem exec_streamRequestIssue (site slot : Nat) (s : State) : exec (.streamRequestIssue site slot) s =
    onModule (siteOk site && decide (slot < 16)) (doStreamRequestIssue site slot) s := rfl
theorem exec_keyholeSectorIssue (site thread : Nat) (s : State) : exec (.keyholeSectorIssue site thread) s =
    onModule (siteThreadOk site thread) (doKeyholeSectorIssue site thread) s := rfl
theorem exec_tableWalkComplete (w : Walk) (s : State) : exec (.tableWalkComplete w) s =
    onModule w.wf (doTableWalkComplete w) s := rfl
theorem exec_mxRunEntry (site half : Nat) (parityBad : Bool) (s : State) : exec (.mxRunEntry site half parityBad) s =
    onModule (siteOk site && decide (half < 2)) (doMxRunEntry site half parityBad) s := rfl
theorem exec_mxDrainStart (site half : Nat) (parityBad : Bool) (s : State) : exec (.mxDrainStart site half parityBad) s =
    onModule (siteOk site && decide (half < 2)) (doMxDrainStart site half parityBad) s := rfl
theorem exec_backgroundTestBankCycle (site : Nat) (wordBad : Option (Nat × Nat)) (s : State) : exec (.backgroundTestBankCycle site wordBad) s =
    onModule (siteOk site && wordBad.all (fun p => decide (p.1 < 64 ∧ 0 < p.2 ∧ p.2 < 256))) (doBackgroundTestBankCycle site wordBad) s := rfl
theorem exec_bar2Read (fn off len : Nat) (s : State) : exec (.bar2Read fn off len) s =
    onModule (fnOk fn && decide (0 < len ∧ len ≤ 4096)) (doBar2Read fn off len) s := rfl
theorem exec_bar2Write (fn off : Nat) (data : List Byte) (s : State) : exec (.bar2Write fn off data) s =
    onModule (fnOk fn && decide (0 < data.length ∧ data.length ≤ 4096)) (doBar2Write fn off data) s := rfl
theorem exec_bar4Read (fn off len : Nat) (s : State) : exec (.bar4Read fn off len) s =
    onModule (fnOk fn && decide (0 < len ∧ len ≤ 4096)) (doBar4Read fn off len) s := rfl
theorem exec_bar4Write (fn off : Nat) (data : List Byte) (s : State) : exec (.bar4Write fn off data) s =
    onModule (fnOk fn && decide (0 < data.length ∧ data.length ≤ 4096)) (doBar4Write fn off data) s := rfl
theorem exec_unsupportedRequest (fn kind : Nat) (s : State) : exec (.unsupportedRequest fn kind) s =
    onModule (fnOk fn) (doUnsupportedRequest fn kind) s := rfl
theorem exec_poisonedTlpWrite (fn bar off : Nat) (data : List Byte) (s : State) : exec (.poisonedTlpWrite fn bar off data) s =
    onModule (fnOk fn && decide (bar = 0 ∨ bar = 2 ∨ bar = 4) && decide (0 < data.length ∧ data.length ≤ 4096))
    (doPoisonedTlpWrite fn bar off data) s := rfl
theorem exec_configurationRequest (fn : Nat) (write : Bool) (reg value : Nat) (s : State) : exec (.configurationRequest fn write reg value) s =
    onModule (fnOk fn && decide (reg < 4096)) (doConfigurationRequest fn write reg value) s := rfl
theorem exec_bar0MisalignedAccess (fn off size : Nat) (write : Bool) (s : State) : exec (.bar0MisalignedAccess fn off size write) s =
    onModule (fnOk fn && decide (0 < size ∧ size ≤ 4096)) (doBar0MisalignedAccess fn off size write) s := rfl
theorem exec_undecodedBar0Access (fn off size : Nat) (write : Bool) (s : State) : exec (.undecodedBar0Access fn off size write) s =
    onModule (fnOk fn && decide (0 < size ∧ size ≤ 4096)) (doUndecodedBar0Access fn off size write) s := rfl
theorem exec_registerWrite (fn off size value : Nat) (s : State) : exec (.registerWrite fn off size value) s =
    onModule (fnOk fn && decide (0 < size ∧ size ≤ 512)) (doRegisterWrite fn off size value) s := rfl
theorem exec_lowerHalfRead (fn off : Nat) (s : State) : exec (.lowerHalfRead fn off) s =
    onModule (fnOk fn && off % 4 == 0) (doLowerHalfRead fn off) s := rfl
theorem exec_telSnapshotLatch (fn : Nat) (s : State) : exec (.telSnapshotLatch fn) s =
    onModule (fnOk fn) (doTelSnapshotLatch fn) s := rfl
theorem exec_devWindowWrite (fn value : Nat) (s : State) : exec (.devWindowWrite fn value) s =
    onModule (fnOk fn) (doDevWindowWrite fn value) s := rfl
theorem exec_expertWindowWrite (fn value : Nat) (s : State) : exec (.expertWindowWrite fn value) s =
    onModule (fnOk fn) (doExpertWindowWrite fn value) s := rfl
theorem exec_resetCore (fn site : Nat) (s : State) : exec (.resetCore fn site) s =
    onModule (fnOk fn && siteOk site) (doResetCore fn site) s := rfl
theorem exec_resetThread0 (fn site : Nat) (s : State) : exec (.resetThread0 fn site) s =
    onModule (fnOk fn && siteOk site) (doResetThread0 fn site) s := rfl
theorem exec_resetThread1 (fn site : Nat) (s : State) : exec (.resetThread1 fn site) s =
    onModule (fnOk fn && siteOk site) (doResetThread1 fn site) s := rfl
theorem exec_stallLatch (fn site : Nat) (s : State) : exec (.stallLatch fn site) s =
    onModule (fnOk fn && siteOk site) (doStallLatch fn site) s := rfl
theorem exec_stallClear (fn site : Nat) (s : State) : exec (.stallClear fn site) s =
    onModule (fnOk fn && siteOk site) (doStallClear fn site) s := rfl
theorem exec_coreFaultValidClear (fn site thread : Nat) (s : State) : exec (.coreFaultValidClear fn site thread) s =
    onModule (fnOk fn && siteThreadOk site thread) (doCoreFaultValidClear fn site thread) s := rfl
theorem exec_ltrCmdTailWrite (fn value : Nat) (s : State) : exec (.ltrCmdTailWrite fn value) s =
    onModule (fnOk fn) (doLtrCmdTailWrite fn value) s := rfl
theorem exec_wrkSubTailWrite (fn part value : Nat) (s : State) : exec (.wrkSubTailWrite fn part value) s =
    onModule (fnOk fn && partOk part && ringVisible fn (.work part)) (doWrkSubTailWrite fn part value) s := rfl
theorem exec_completionHeadWrite (fn : Nat) (ring : Ring) (value : Nat) (s : State) : exec (.completionHeadWrite fn ring value) s =
    onModule (fnOk fn && ring.wf && ringVisible fn ring) (doCompletionHeadWrite fn ring value) s := rfl
theorem exec_ringEnable (fn : Nat) (ring : Ring) (s : State) : exec (.ringEnable fn ring) s =
    onModule (fnOk fn && ring.wf && ringVisible fn ring) (doRingEnable fn ring) s := rfl
theorem exec_ringDisable (fn : Nat) (ring : Ring) (s : State) : exec (.ringDisable fn ring) s =
    onModule (fnOk fn && ring.wf && ringVisible fn ring) (doRingDisable fn ring) s := rfl
theorem exec_letterboxEntryTake (entry : Option (List Byte)) (s : State) : exec (.letterboxEntryTake entry) s =
    onModule (match entry with | none => true | some b => b.length == 64) (doLetterboxEntryTake entry) s := rfl
theorem exec_workPacketTake (part : Nat) (entry : Option (List Byte)) (s : State) : exec (.workPacketTake part entry) s =
    onModule (partOk part && (match entry with | none => true | some b => b.length == 128)) (doWorkPacketTake part entry) s := rfl
theorem exec_claimGrant (s : State) : exec .claimGrant s =
    onModule true doClaimGrant s := rfl
theorem exec_workFenceReached (part : Nat) (s : State) : exec (.workFenceReached part) s =
    onModule (partOk part) (doWorkFenceReached part) s := rfl
theorem exec_workFenceTimeout (part : Nat) (s : State) : exec (.workFenceTimeout part) s =
    onModule (partOk part) (doWorkFenceTimeout part) s := rfl
theorem exec_completionWrite (ring : Ring) (s : State) : exec (.completionWrite ring) s =
    onModule ring.wf (doCompletionWrite ring) s := rfl
theorem exec_program (part seq : Nat) (s : State) : exec (.program part seq) s =
    onModule (partOk part) (doProgram part seq) s := rfl
theorem exec_lengthTable (part seq : Nat) (s : State) : exec (.lengthTable part seq) s =
    onModule (partOk part) (doLengthTable part seq) s := rfl
theorem exec_copyIn (part seq : Nat) (s : State) : exec (.copyIn part seq) s =
    onModule (partOk part) (doCopyIn part seq) s := rfl
theorem exec_copyOut (part seq : Nat) (s : State) : exec (.copyOut part seq) s =
    onModule (partOk part) (doCopyOut part seq) s := rfl
theorem exec_copyHostDataArrival (part : Nat) (data : Option (List Byte)) (ep : Bool) (s : State) : exec (.copyHostDataArrival part data ep) s =
    onModule (partOk part) (doCopyHostDataArrival part data ep) s := rfl
theorem exec_itemCreation (part seq : Nat) (s : State) : exec (.itemCreation part seq) s =
    onModule (partOk part) (doItemCreation part seq) s := rfl
theorem exec_itemStart (site thread : Nat) (s : State) : exec (.itemStart site thread) s =
    onModule (siteThreadOk site thread) (doItemStart site thread) s := rfl
theorem exec_mergeItemCreation (part seq : Nat) (s : State) : exec (.mergeItemCreation part seq) s =
    onModule (partOk part) (doMergeItemCreation part seq) s := rfl
theorem exec_quantumExpiry (site thread : Nat) (s : State) : exec (.quantumExpiry site thread) s =
    onModule (siteThreadOk site thread) (doQuantumExpiry site thread) s := rfl
theorem exec_contextSwitch (site thread : Nat) (s : State) : exec (.contextSwitch site thread) s =
    onModule (siteThreadOk site thread) (doContextSwitch site thread) s := rfl
theorem exec_switchDeferral (site : Nat) (s : State) : exec (.switchDeferral site) s =
    onModule (siteOk site) (doSwitchDeferral site) s := rfl
theorem exec_switchRecheck (site : Nat) (s : State) : exec (.switchRecheck site) s =
    onModule (siteOk site) (doSwitchRecheck site) s := rfl
theorem exec_drainComplete (t : Target) (s : State) : exec (.drainComplete t) s =
    onModule t.wf (doDrainComplete t) s := rfl
theorem exec_drainTimeout (t : Target) (s : State) : exec (.drainTimeout t) s =
    onModule t.wf (doDrainTimeout t) s := rfl
theorem exec_abortComplete (t : Target) (s : State) : exec (.abortComplete t) s =
    onModule t.wf (doAbortComplete t) s := rfl
theorem exec_layoutAckTimeout (missing : Nat) (s : State) : exec (.layoutAckTimeout missing) s =
    onModule (decide (missing < 65536)) (doLayoutAckTimeout missing) s := rfl
theorem exec_layoutCommit (s : State) : exec .layoutCommit s =
    onModule true doLayoutCommit s := rfl
theorem exec_poolNodeRelocation (part extent : Nat) (s : State) : exec (.poolNodeRelocation part extent) s =
    onModule (partOk part) (doPoolNodeRelocation part extent) s := rfl
theorem exec_columnTransactionGrant (site parityFails bitErrs : Nat) (s : State) : exec (.columnTransactionGrant site parityFails bitErrs) s =
    onModule (siteOk site) (doColumnTransactionGrant site parityFails bitErrs) s := rfl
theorem exec_readSector (r : MemReq) (s : State) : exec (.readSector r) s =
    onModule (r.wf && !r.row && !r.write) (fun m => m.readArrives r) s := rfl
theorem exec_readRow (r : MemReq) (s : State) : exec (.readRow r) s =
    onModule (r.wf && r.row && !r.write) (fun m => m.readArrives r) s := rfl
theorem exec_writePacket (r : MemReq) (s : State) : exec (.writePacket r) s =
    onModule (r.wf && r.write) (fun m => m.writeArrives r) s := rfl
theorem exec_mergeEntryAgeExpiry (site row : Nat) (s : State) : exec (.mergeEntryAgeExpiry site row) s =
    onModule (siteOk site && decide (row < 2 ^ 18)) (doMergeEntryAgeExpiry site row) s := rfl
theorem exec_refreshInterval (site bank : Nat) (s : State) : exec (.refreshInterval site bank) s =
    onModule (siteOk site && decide (bank < 64)) (doRefreshInterval site bank) s := rfl
theorem exec_postponedRefreshForce (site bank : Nat) (s : State) : exec (.postponedRefreshForce site bank) s =
    onModule (siteOk site && decide (bank < 64)) (doPostponedRefreshForce site bank) s := rfl
theorem exec_writeHoldDrain (site parityFails : Nat) (errs : List (Nat × Nat)) (s : State) : exec (.writeHoldDrain site parityFails errs) s =
    onModule (siteOk site) (doWriteHoldDrain site parityFails errs) s := rfl
theorem exec_overHostReadTimeout (site : Nat) (s : State) : exec (.overHostReadTimeout site) s =
    onModule (siteOk site) (doOverHostReadTimeout site) s := rfl
theorem exec_scrubRowVisit (site parityFails bitErrs : Nat) (s : State) : exec (.scrubRowVisit site parityFails bitErrs) s =
    onModule (siteOk site) (doScrubRowVisit site parityFails bitErrs) s := rfl
theorem exec_bankopDelivery (deck : Nat) (s : State) : exec (.bankopDelivery deck) s =
    onModule (decide (deck < Config.decks)) (doBankopDelivery deck) s := rfl
theorem exec_bankopStepStart (site parityFails : Nat) (s : State) : exec (.bankopStepStart site parityFails) s =
    onModule (siteOk site) (doBankopStepStart site parityFails) s := rfl
theorem exec_bankopStepEnd (site : Nat) (parityBanks : List Nat) (s : State) : exec (.bankopStepEnd site parityBanks) s =
    onModule (siteOk site) (doBankopStepEnd site parityBanks) s := rfl
theorem exec_correctionDetour (site bank parityFails bitErrs : Nat) (s : State) : exec (.correctionDetour site bank parityFails bitErrs) s =
    onModule (siteOk site && decide (bank < 64)) (doCorrectionDetour site bank parityFails bitErrs) s := rfl
theorem exec_bankopHoldLimit (site : Nat) (s : State) : exec (.bankopHoldLimit site) s =
    onModule (siteOk site) (doBankopHoldLimit site) s := rfl
theorem exec_bankUnitTimeout (site bank : Nat) (s : State) : exec (.bankUnitTimeout site bank) s =
    onModule (siteOk site && decide (bank < 64)) (doBankUnitTimeout site bank) s := rfl
theorem exec_bankopCompletion (id : Nat) (s : State) : exec (.bankopCompletion id) s =
    onModule true (doBankopCompletion id) s := rfl
theorem exec_flitArrival (f : Flit) (s : State) : exec (.flitArrival f) s =
    onModule f.wf (doFlitArrival f) s := rfl
theorem exec_dataPacket (src : Src) (s : State) : exec (.dataPacket src) s =
    onModule true (doDataPacket src) s := rfl
theorem exec_accept (src : Src) (s : State) : exec (.accept src) s =
    onModule true (doAccept src) s := rfl
theorem exec_nrSendPacket (src dst : Nat) (s : State) : exec (.nrSendPacket src dst) s =
    onModule (siteOk src && siteOk dst) (doNrSendPacket src dst) s := rfl
theorem exec_nrGatherPacket (src dst : Nat) (s : State) : exec (.nrGatherPacket src dst) s =
    onModule (siteOk src && siteOk dst) (doNrGatherPacket src dst) s := rfl
theorem exec_nrBcastPacket (src dst : Nat) (s : State) : exec (.nrBcastPacket src dst) s =
    onModule (endpointOk src && endpointOk dst) (doNrBcastPacket src dst) s := rfl
theorem exec_reduceFlit (deck tree cluster : Nat) (s : State) : exec (.reduceFlit deck tree cluster) s =
    onModule (decide (deck < Config.decks ∧ tree < 8 ∧ cluster < 64)) (doReduceFlit deck tree cluster) s := rfl
theorem exec_signalPacket (src dst : Nat) (s : State) : exec (.signalPacket src dst) s =
    onModule (siteOk src && siteOk dst) (doSignalPacket src dst) s := rfl
theorem exec_nrAck (src dst : Nat) (s : State) : exec (.nrAck src dst) s =
    onModule (endpointOk src && endpointOk dst) (doNrAck src dst) s := rfl
theorem exec_nrNack (src dst : Nat) (s : State) : exec (.nrNack src dst) s =
    onModule (siteOk src && siteOk dst) (doNrNack src dst) s := rfl
theorem exec_routeMark (src dst : Nat) (s : State) : exec (.routeMark src dst) s =
    onModule (endpointOk src && endpointOk dst) (doRouteMark src dst) s := rfl
theorem exec_routeLoss (router endpoint : Nat) (s : State) : exec (.routeLoss router endpoint) s =
    onModule (clusterOk router && endpointOk endpoint) (doRouteLoss router endpoint) s := rfl
theorem exec_transom (deck id : Nat) (s : State) : exec (.transom deck id) s =
    onModule (decide (deck < Config.decks)) (doTransom deck id) s := rfl
theorem exec_routerFence (cluster _cause : Nat) (s : State) : exec (.routerFence cluster _cause) s =
    onModule (clusterOk cluster) (doRouterFence cluster) s := rfl
theorem exec_routeTableUpdate (s : State) : exec .routeTableUpdate s =
    onModule true doRouteTableUpdate s := rfl
theorem exec_halfFrequencyChange (half : Nat) (slow : Bool) (s : State) : exec (.halfFrequencyChange half slow) s =
    onModule (decide (half < 2 * Config.decks)) (doHalfFrequencyChange half slow) s := rfl
theorem exec_halfSlowDecision (half : Nat) (s : State) : exec (.halfSlowDecision half) s =
    onModule (decide (half < 2 * Config.decks)) (doHalfSlowDecision half) s := rfl
theorem exec_bridgeFrameReceive (bridge group dir seq : Nat) (crcOk : Bool) (s : State) : exec (.bridgeFrameReceive bridge group dir seq crcOk) s =
    onModule (groupOk bridge group dir && decide (seq < 256)) (doBridgeFrameReceive bridge group dir seq crcOk) s := rfl
theorem exec_laneFailure (bridge group dir lane : Nat) (s : State) : exec (.laneFailure bridge group dir lane) s =
    onModule (groupOk bridge group dir && decide (lane < 34)) (doLaneFailure bridge group dir lane) s := rfl
theorem exec_groupRetrainDone (bridge group dir : Nat) (ok : Bool) (s : State) : exec (.groupRetrainDone bridge group dir ok) s =
    onModule (groupOk bridge group dir) (doGroupRetrainDone bridge group dir ok) s := rfl
theorem exec_bridgeRetrain (bridge : Nat) (s : State) : exec (.bridgeRetrain bridge) s =
    onModule (bridgeOk bridge) (doBridgeRetrain bridge) s := rfl
theorem exec_fabricFlitReceive (port : Nat) (f : FabFlit) (s : State) : exec (.fabricFlitReceive port f) s =
    onModule (portOk port && f.wf) (doFabricFlitReceive port f) s := rfl
theorem exec_fabricAckTimeout (port : Nat) (s : State) : exec (.fabricAckTimeout port) s =
    onModule (decide (port < Config.ports)) (doFabricAckTimeout port) s := rfl
theorem exec_fecErrorThreshold (port uncorr corr : Nat) (s : State) : exec (.fecErrorThreshold port uncorr corr) s =
    onModule (decide (port < Config.ports)) (doFecErrorThreshold port uncorr corr) s := rfl
theorem exec_portTraining (port lanes : Nat) (s : State) : exec (.portTraining port lanes) s =
    onModule (portOk port && decide (lanes < 256)) (doPortTraining port lanes) s := rfl
theorem exec_portTrainRetry (port : Nat) (s : State) : exec (.portTrainRetry port) s =
    onModule (decide (port < Config.ports)) (doPortTrainRetry port) s := rfl
theorem exec_writeSp (port : Nat) (t : Trans) (s : State) : exec (.writeSp port t) s =
    onTrans port t 0x01 (doWriteSp port t) s := rfl
theorem exec_writeVa (port : Nat) (t : Trans) (s : State) : exec (.writeVa port t) s =
    onTrans port t 0x02 (doWriteVa port t) s := rfl
theorem exec_readVa (port : Nat) (t : Trans) (s : State) : exec (.readVa port t) s =
    onTrans port t 0x03 (doReadVa port t) s := rfl
theorem exec_dataTransaction (port : Nat) (t : Trans) (s : State) : exec (.dataTransaction port t) s =
    onTrans port t 0x04 (doDataTransaction port t) s := rfl
theorem exec_ack (port : Nat) (t : Trans) (s : State) : exec (.ack port t) s =
    onTrans port t 0x05 (doAck port t) s := rfl
theorem exec_nack (port : Nat) (t : Trans) (s : State) : exec (.nack port t) s =
    onTrans port t 0x06 (doNack port t) s := rfl
theorem exec_step (port : Nat) (t : Trans) (s : State) : exec (.step port t) s =
    onTrans port t 0x10 (doStep port t) s := rfl
theorem exec_fwChunkTransaction (port : Nat) (t : Trans) (s : State) : exec (.fwChunkTransaction port t) s =
    onTrans port t 0x18 (doFwChunkTransaction port t) s := rfl
theorem exec_hello (port : Nat) (t : Trans) (s : State) : exec (.hello port t) s =
    onTrans port t 0x20 (doHello port t) s := rfl
theorem exec_beacon (port : Nat) (t : Trans) (s : State) : exec (.beacon port t) s =
    onTrans port t 0x21 (doBeacon port t) s := rfl
theorem exec_topo (port : Nat) (t : Trans) (s : State) : exec (.topo port t) s =
    onTrans port t 0x22 (doTopo port t) s := rfl
theorem exec_idAssign (port : Nat) (t : Trans) (s : State) : exec (.idAssign port t) s =
    onTrans port t 0x23 (doIdAssign port t) s := rfl
theorem exec_heartbeat (port : Nat) (t : Trans) (s : State) : exec (.heartbeat port t) s =
    onTrans port t 0x24 (doHeartbeat port t) s := rfl
theorem exec_slow (port : Nat) (t : Trans) (s : State) : exec (.slow port t) s =
    onTrans port t 0x25 (doSlow port t) s := rfl
theorem exec_holdReport (port : Nat) (t : Trans) (s : State) : exec (.holdReport port t) s =
    onTrans port t 0x26 (doHoldReport port t) s := rfl
theorem exec_modePrep (port : Nat) (t : Trans) (s : State) : exec (.modePrep port t) s =
    onTrans port t 0x27 (doModePrep port t) s := rfl
theorem exec_modeAck (port : Nat) (t : Trans) (s : State) : exec (.modeAck port t) s =
    onTrans port t 0x28 (doModeAck port t) s := rfl
theorem exec_modeCommitTransaction (port : Nat) (t : Trans) (s : State) : exec (.modeCommitTransaction port t) s =
    onTrans port t 0x29 (doModeCommitTransaction port t) s := rfl
theorem exec_modeAbortTransaction (port : Nat) (t : Trans) (s : State) : exec (.modeAbortTransaction port t) s =
    onTrans port t 0x2A (doModeAbortTransaction port t) s := rfl
theorem exec_epochPoll (port : Nat) (t : Trans) (s : State) : exec (.epochPoll port t) s =
    onTrans port t 0x2B (doEpochPoll port t) s := rfl
theorem exec_epochInfo (port : Nat) (t : Trans) (s : State) : exec (.epochInfo port t) s =
    onTrans port t 0x2C (doEpochInfo port t) s := rfl
theorem exec_fwPoll (port : Nat) (t : Trans) (s : State) : exec (.fwPoll port t) s =
    onTrans port t 0x2D (doFwPoll port t) s := rfl
theorem exec_fwBitmap (port : Nat) (t : Trans) (s : State) : exec (.fwBitmap port t) s =
    onTrans port t 0x2E (doFwBitmap port t) s := rfl
theorem exec_fwCommit (port : Nat) (t : Trans) (s : State) : exec (.fwCommit port t) s =
    onTrans port t 0x2F (doFwCommit port t) s := rfl
theorem exec_nackRetransmit (tag : Nat) (s : State) : exec (.nackRetransmit tag) s =
    onModule (decide (tag < 2 ^ 32)) (doNackRetransmit tag) s := rfl
theorem exec_nrAckTimeout (tag : Nat) (s : State) : exec (.nrAckTimeout tag) s =
    onModule (decide (tag < 2 ^ 32)) (doNrAckTimeout tag) s := rfl
theorem exec_epochHoldPoll (k : Nat) (s : State) : exec (.epochHoldPoll k) s =
    onModule true (doEpochHoldPoll k) s := rfl
theorem exec_epochHoldTimeout (k : Nat) (s : State) : exec (.epochHoldTimeout k) s =
    onModule true (doEpochHoldTimeout k) s := rfl
theorem exec_stagedValuePoll (kind : Nat) (s : State) : exec (.stagedValuePoll kind) s =
    onModule (decide (kind < 256)) (doStagedValuePoll kind) s := rfl
theorem exec_stagedValueDiscard (kind : Nat) (s : State) : exec (.stagedValueDiscard kind) s =
    onModule (decide (kind < 256)) (doStagedValueDiscard kind) s := rfl
theorem exec_modeAckTimeout (kind : Nat) (s : State) : exec (.modeAckTimeout kind) s =
    onModule (decide (kind < 256)) (doModeAckTimeout kind) s := rfl
theorem exec_heartbeatSend (s : State) : exec .heartbeatSend s =
    onModule true doHeartbeatSend s := rfl
theorem exec_groupSummarySend (s : State) : exec .groupSummarySend s =
    onModule true doGroupSummarySend s := rfl
theorem exec_managerLost (s : State) : exec .managerLost s =
    onModule true doManagerLost s := rfl
theorem exec_actingManagerTakeover (group : Nat) (s : State) : exec (.actingManagerTakeover group) s =
    onModule (decide (group < 16)) (doActingManagerTakeover group) s := rfl
theorem exec_leadManagerTimeout (s : State) : exec .leadManagerTimeout s =
    onModule true doLeadManagerTimeout s := rfl
theorem exec_routingPauseDrained (s : State) : exec .routingPauseDrained s =
    onModule true doRoutingPauseDrained s := rfl
theorem exec_stepTimeout (tag part : Nat) (s : State) : exec (.stepTimeout tag part) s =
    onModule (decide (tag < 2 ^ 32) && partOk part) (doStepTimeout tag part) s := rfl
theorem exec_slowSend (s : State) : exec .slowSend s =
    onModule true doSlowSend s := rfl
theorem exec_holdReportSend (s : State) : exec .holdReportSend s =
    onModule true doHoldReportSend s := rfl
theorem exec_feedUndervoltage (feed volts : Nat) (s : State) : exec (.feedUndervoltage feed volts) s =
    onModule (decide (feed < 2)) (fun m => m.watchFeeds (doFeedUndervoltage feed volts)) s := rfl
theorem exec_feedOvervoltage (feed volts : Nat) (s : State) : exec (.feedOvervoltage feed volts) s =
    onModule (decide (feed < 2)) (fun m => m.watchFeeds (doFeedOvervoltage feed volts)) s := rfl
theorem exec_feedOutOfRange (feed volts : Nat) (s : State) : exec (.feedOutOfRange feed volts) s =
    onModule (decide (feed < 2)) (fun m => m.watchFeeds (doFeedOutOfRange feed volts)) s := rfl
theorem exec_feedRestore (feed volts : Nat) (s : State) : exec (.feedRestore feed volts) s =
    onModule (decide (feed < 2)) (fun m => m.watchFeeds (doFeedRestore feed volts)) s := rfl
theorem exec_bothFeedsLost (s : State) : exec .bothFeedsLost s =
    onState true (fun s => { s with
    m := { s.m.watchFeeds doBothFeedsLost with ibiCauses := [], fwSession := false }, mgmt := {}, jtag := {} }) s := rfl
theorem exec_powerApplied (feed volts : Nat) (s : State) : exec (.powerApplied feed volts) s =
    onModule (decide (feed < 2)) (fun m => m.watchFeeds (doPowerApplied feed volts)) s := rfl
theorem exec_railFault (rail volts : Nat) (s : State) : exec (.railFault rail volts) s =
    onModule (decide (rail < 4)) (doRailFault rail volts) s := rfl
theorem exec_cellFailure (cluster cell cause : Nat) (s : State) : exec (.cellFailure cluster cell cause) s =
    onModule (clusterOk cluster && decide (cell < 4 ∧ 1 ≤ cause ∧ cause ≤ 4)) (doCellFailure cluster cell cause) s := rfl
theorem exec_boostSwitch (cluster cell : Nat) (s : State) : exec (.boostSwitch cluster cell) s =
    onModule (clusterOk cluster && decide (cell < 4)) (doBoostSwitch cluster cell) s := rfl
theorem exec_shuntClamp (cluster cell : Nat) (s : State) : exec (.shuntClamp cluster cell) s =
    onModule (clusterOk cluster && decide (cell < 4)) (doShuntClamp cluster cell) s := rfl
theorem exec_powerSample (wattsA wattsB avg100us : Nat) (s : State) : exec (.powerSample wattsA wattsB avg100us) s =
    onModule true (doPowerSample wattsA wattsB avg100us) s := rfl
theorem exec_powerLimitCheck (avg100ms avg1ms : Nat) (s : State) : exec (.powerLimitCheck avg100ms avg1ms) s =
    onModule true (doPowerLimitCheck avg100ms avg1ms) s := rfl
theorem exec_powerCapRaise (s : State) : exec .powerCapRaise s =
    onModule true doPowerCapRaise s := rfl
theorem exec_currentSample (samples : List (Nat × Nat × Nat)) (s : State) : exec (.currentSample samples) s =
    onModule (samples.all (fun p => decide (p.1 < currentDomains))) (doCurrentSample samples) s := rfl
theorem exec_operatingPointStep (cluster : Nat) (s : State) : exec (.operatingPointStep cluster) s =
    onModule (clusterOk cluster) (doOperatingPointStep cluster) s := rfl
theorem exec_rampHintExpiry (cluster : Nat) (s : State) : exec (.rampHintExpiry cluster) s =
    onModule (clusterOk cluster) (doRampHintExpiry cluster) s := rfl
theorem exec_louvreClosure (cluster droopMv quadrantDa : Nat) (s : State) : exec (.louvreClosure cluster droopMv quadrantDa) s =
    onModule (clusterOk cluster) (doLouvreClosure cluster droopMv quadrantDa) s := rfl
theorem exec_clusterWakeComplete (cluster : Nat) (s : State) : exec (.clusterWakeComplete cluster) s =
    onModule (clusterOk cluster) (doClusterWakeComplete cluster) s := rfl
theorem exec_ajarIdleTimeout (cluster : Nat) (s : State) : exec (.ajarIdleTimeout cluster) s =
    onModule (clusterOk cluster) (doAjarIdleTimeout cluster) s := rfl
theorem exec_shutterIdleTimeout (cluster : Nat) (s : State) : exec (.shutterIdleTimeout cluster) s =
    onModule (clusterOk cluster) (doShutterIdleTimeout cluster) s := rfl
theorem exec_ajarExit (cluster : Nat) (s : State) : exec (.ajarExit cluster) s =
    onModule (clusterOk cluster) (doAjarExit cluster) s := rfl
theorem exec_shutterQuiesceTimeout (site thread : Nat) (s : State) : exec (.shutterQuiesceTimeout site thread) s =
    onModule (siteThreadOk site thread) (doShutterQuiesceTimeout site thread) s := rfl
theorem exec_sliceIslandReturn (cluster : Nat) (s : State) : exec (.sliceIslandReturn cluster) s =
    onModule (clusterOk cluster) (doSliceIslandReturn cluster) s := rfl
theorem exec_sealedEntry (s : State) : exec .sealedEntry s =
    onModule true doSealedEntry s := rfl
theorem exec_sealedExit (s : State) : exec .sealedExit s =
    onModule true doSealedExit s := rfl
theorem exec_sensorSample (samples : List Reading) (s : State) : exec (.sensorSample samples) s =
    onModule (samples.all Reading.wf) (doSensorSample samples) s := rfl
theorem exec_suspectPersistence (sensor : Nat) (s : State) : exec (.suspectPersistence sensor) s =
    onModule (decide (sensor < 3842)) (doSuspectPersistence sensor) s := rfl
theorem exec_suspectRecovery (sensor : Nat) (s : State) : exec (.suspectRecovery sensor) s =
    onModule (decide (sensor < 3842)) (doSuspectRecovery sensor) s := rfl
theorem exec_forecastEvaluation (peaks : List (Nat × Int)) (s : State) : exec (.forecastEvaluation peaks) s =
    onModule (peaks.all (fun p => decide (p.1 < 3840))) (doForecastEvaluation peaks) s := rfl
theorem exec_capRelease (cluster : Nat) (s : State) : exec (.capRelease cluster) s =
    onModule (clusterOk cluster) (doCapRelease cluster) s := rfl
theorem exec_throttleStep (cluster : Nat) (s : State) : exec (.throttleStep cluster) s =
    onModule (clusterOk cluster) (doThrottleStep cluster) s := rfl
theorem exec_throttleReleaseStep (cluster : Nat) (s : State) : exec (.throttleReleaseStep cluster) s =
    onModule (clusterOk cluster) (doThrottleReleaseStep cluster) s := rfl
theorem exec_tripComparator (sensor : Nat) (s : State) : exec (.tripComparator sensor) s =
    onModule (decide (sensor < 3840)) (doTripComparator sensor) s := rfl
theorem exec_flowTachPulse (sinceLastUs perSecond : Nat) (s : State) : exec (.flowTachPulse sinceLastUs perSecond) s =
    onModule true (doFlowTachPulse sinceLastUs perSecond) s := rfl
theorem exec_coolantDegraded (condition : Nat) (s : State) : exec (.coolantDegraded condition) s =
    onModule (decide (condition < 3)) (doCoolantDegraded condition) s := rfl
theorem exec_coolantDegradedClear (s : State) : exec .coolantDegradedClear s =
    onModule true doCoolantDegradedClear s := rfl
theorem exec_moduleLimitLower (s : State) : exec .moduleLimitLower s =
    onModule true doModuleLimitLower s := rfl
theorem exec_moduleLimitRaise (s : State) : exec .moduleLimitRaise s =
    onModule true doModuleLimitRaise s := rfl
theorem exec_coolantStop (cause : Nat) (s : State) : exec (.coolantStop cause) s =
    onModule (decide (cause < 2)) (doCoolantStop cause) s := rfl
theorem exec_pllLockLoss (pll : Pll) (s : State) : exec (.pllLockLoss pll) s =
    onModule (Pll.wf pll) (doPllLockLoss pll) s := rfl
theorem exec_relockAttemptEnd (pll : Pll) (ok : Bool) (s : State) : exec (.relockAttemptEnd pll ok) s =
    onModule (Pll.wf pll) (doRelockAttemptEnd pll ok) s := rfl
theorem exec_columnDeskew (stack : Nat) (failedSites : List Nat) (s : State) : exec (.columnDeskew stack failedSites) s =
    onModule (decide (stack < 40) && failedSites.all (fun x => siteOk x && stackOfSite x == stack))
    (doColumnDeskew stack failedSites) s := rfl
theorem exec_moduleReferenceLoss (s : State) : exec .moduleReferenceLoss s =
    onModule true doModuleReferenceLoss s := rfl
theorem exec_refclkMgmtLoss (s : State) : exec .refclkMgmtLoss s =
    onModule true doRefclkMgmtLoss s := rfl
theorem exec_refclkMgmtRestore (s : State) : exec .refclkMgmtRestore s =
    onModule true doRefclkMgmtRestore s := rfl
theorem exec_resetComplete (scope target : Nat) (s : State) : exec (.resetComplete scope target) s =
    onModule true (doResetComplete scope target) s := rfl
theorem exec_perstNAssert (widthUs : Nat) (s : State) : exec (.perstNAssert widthUs) s =
    onModule true (doPerstNAssert widthUs) s := rfl
theorem exec_perstNDeassert (refclkOk : Bool) (s : State) : exec (.perstNDeassert refclkOk) s =
    onModule true (doPerstNDeassert refclkOk) s := rfl
theorem exec_functionLevelResetVf (fn : Nat) (s : State) : exec (.functionLevelResetVf fn) s =
    onModule (decide (1 ≤ fn) && fnOk fn) (doFunctionLevelResetVf fn) s := rfl
theorem exec_functionLevelResetPf (s : State) : exec .functionLevelResetPf s =
    onModule true doFunctionLevelResetPf s := rfl
theorem exec_vfEnableClear (numVfs : Nat) (s : State) : exec (.vfEnableClear numVfs) s =
    onModule (decide (numVfs < 64)) (doVfEnableClear numVfs) s := rfl
theorem exec_busMasterEnableClear (fn : Nat) (s : State) : exec (.busMasterEnableClear fn) s =
    onModule (fnOk fn) (doBusMasterEnableClear fn) s := rfl
theorem exec_busMasterEnableSet (fn : Nat) (s : State) : exec (.busMasterEnableSet fn) s =
    onModule (fnOk fn) (doBusMasterEnableSet fn) s := rfl
theorem exec_memorySpaceDisable (fn : Nat) (d3hot : Bool) (s : State) : exec (.memorySpaceDisable fn d3hot) s =
    onModule (fnOk fn) (doMemorySpaceDisable fn d3hot) s := rfl
theorem exec_linkDown (downUs : Nat) (s : State) : exec (.linkDown downUs) s =
    onModule true (doLinkDown downUs) s := rfl
theorem exec_linkRecovery (downUs width rate : Nat) (s : State) : exec (.linkRecovery downUs width rate) s =
    onModule true (doLinkRecovery downUs width rate) s := rfl
theorem exec_s0Standby (romOk : Bool) (controllerRev : Nat) (dur : Nat) (s : State) : exec (.s0Standby romOk controllerRev dur) s =
    onState true (fun s => { s with
    m := doS0Standby romOk controllerRev dur s.m, mgmt := if s.m.inStage 0 then s.mgmt.started else s.mgmt }) s := rfl
theorem exec_s1Firmware (info : FwInfo) (fs : List Finding) (dur : Nat) (s : State) : exec (.s1Firmware info fs dur) s =
    onModule (decide (info.grade < 2) && info.deadDecks.all (fun d => decide (d < 10))) (doS1Firmware info fs dur) s := rfl
theorem exec_s2Rails (fs : List Finding) (dur : Nat) (s : State) : exec (.s2Rails fs dur) s =
    onModule (findingsOf 2 fs) (doS2Rails fs dur) s := rfl
theorem exec_s3Discovery (disc : Discovery) (deckRev : Nat) (fs : List Finding) (dur : Nat) (s : State) : exec (.s3Discovery disc deckRev fs dur) s =
    onModule (discWf disc && findingsOf 3 fs && fs.all (fun f => decide (0x0034 ≤ f.cause))) (doS3Discovery disc deckRev fs dur) s := rfl
theorem exec_s4Calibration (fs : List Finding) (dur : Nat) (s : State) : exec (.s4Calibration fs dur) s =
    onModule (findingsOf 4 fs) (doS4Calibration fs dur) s := rfl
theorem exec_s5Memory (fails : List CellFail) (dur : Nat) (s : State) : exec (.s5Memory fails dur) s =
    onModule (fails.all CellFail.wf) (doS5Memory fails dur) s := rfl
theorem exec_retentionHoldEnd (stack group ms : Nat) (fails : List CellFail) (s : State) : exec (.retentionHoldEnd stack group ms fails) s =
    onModule (decide (stack < 40 ∧ group < 4 ∧ ms ∈ [2048, 3072, 5120, 8192]) && fails.all CellFail.wf)
    (doRetentionHoldEnd stack group ms fails) s := rfl
theorem exec_coldWarmingEnd (durS : Nat) (s : State) : exec (.coldWarmingEnd durS) s =
    onModule true (doColdWarmingEnd durS) s := rfl
theorem exec_s6Repair (fs : List Finding) (dur : Nat) (s : State) : exec (.s6Repair fs dur) s =
    onModule (findingsOf 6 fs) (doS6Repair fs dur) s := rfl
theorem exec_s7KnownAnswer (fs : List Finding) (dur : Nat) (s : State) : exec (.s7KnownAnswer fs dur) s =
    onModule (findingsOf 7 fs) (doS7KnownAnswer fs dur) s := rfl
theorem exec_s8HostReady (fs : List Finding) (dur : Nat) (s : State) : exec (.s8HostReady fs dur) s =
    onModule (findingsOf 8 fs) (doS8HostReady fs dur) s := rfl
theorem exec_s9Fabric (fs : List Finding) (dur : Nat) (s : State) : exec (.s9Fabric fs dur) s =
    onModule (findingsOf 9 fs) (doS9Fabric fs dur) s := rfl
theorem exec_stageResume (s : State) : exec .stageResume s =
    onModule true doStageResume s := rfl
theorem exec_stageSuspendTimeout (s : State) : exec .stageSuspendTimeout s =
    onModule true doStageSuspendTimeout s := rfl
theorem exec_mgPrivateWrite (bytes : List Byte) (s : State) : exec (.mgPrivateWrite bytes) s =
    onState true (doMgPrivateWrite bytes) s := rfl
theorem exec_mgPrivateRead (len : Nat) (s : State) : exec (.mgPrivateRead len) s =
    onState true (doMgPrivateRead len) s := rfl
theorem exec_i2cTransfer (addr : Nat) (write : Bool) (bytes : List Byte) (len : Nat) (s : State) : exec (.i2cTransfer addr write bytes len) s =
    onState (decide (addr < 128)) (doI2cTransfer addr write bytes len) s := rfl
theorem exec_entdaa (addr : Nat) (enumInHigh : Bool) (s : State) : exec (.entdaa addr enumInHigh) s =
    onState (decide (addr < 128)) (doEntdaa addr enumInHigh) s := rfl
theorem exec_rstdaa (s : State) : exec .rstdaa s =
    onState true doRstdaa s := rfl
theorem exec_enec (s : State) : exec .enec s =
    onState true doEnec s := rfl
theorem exec_disec (s : State) : exec .disec s =
    onState true doDisec s := rfl
theorem exec_getpid (s : State) : exec .getpid s =
    onState true doGetpid s := rfl
theorem exec_getbcr (s : State) : exec .getbcr s =
    onState true doGetbcr s := rfl
theorem exec_getdcr (s : State) : exec .getdcr s =
    onState true doGetdcr s := rfl
theorem exec_getstatus (s : State) : exec .getstatus s =
    onState true doGetstatus s := rfl
theorem exec_getmwl (s : State) : exec .getmwl s =
    onState true doGetmwl s := rfl
theorem exec_getmrl (s : State) : exec .getmrl s =
    onState true doGetmrl s := rfl
theorem exec_setmwl (len : Nat) (s : State) : exec (.setmwl len) s =
    onState true (doSetmwl len) s := rfl
theorem exec_setmrl (len : Nat) (s : State) : exec (.setmrl len) s =
    onState true (doSetmrl len) s := rfl
theorem exec_mgmtResetN (lowUs : Nat) (s : State) : exec (.mgmtResetN lowUs) s =
    onState true (doMgmtResetN lowUs) s := rfl
theorem exec_mgLogSeqWrite (value : Nat) (s : State) : exec (.mgLogSeqWrite value) s =
    onState (decide (value < 2 ^ 64)) (doMgLogSeqWrite value) s := rfl
theorem exec_mgFwBufWrite (off : Nat) (bytes : List Byte) (s : State) : exec (.mgFwBufWrite off bytes) s =
    onState (decide (off + bytes.length ≤ 4096)) (doMgFwBufWrite off bytes) s := rfl
theorem exec_coldStart (s : State) : exec .coldStart s =
    onState true doColdStart s := rfl
theorem exec_moduleReset (s : State) : exec .moduleReset s =
    onState true doModuleReset s := rfl
theorem exec_wake (s : State) : exec .wake s =
    onState true doWake s := rfl
theorem exec_board (s : State) : exec .board s =
    onState true doBoard s := rfl
theorem exec_unboard (s : State) : exec .unboard s =
    onState true doUnboard s := rfl
theorem exec_feed (s : State) : exec .feed s =
    onState true doFeed s := rfl
theorem exec_limit (s : State) : exec .limit s =
    onState true doLimit s := rfl
theorem exec_role (s : State) : exec .role s =
    onState true doRole s := rfl
theorem exec_resume (s : State) : exec .resume s =
    onState true doResume s := rfl
theorem exec_fwBegin (s : State) : exec .fwBegin s =
    onState true doFwBegin s := rfl
theorem exec_mgFwChunk (s : State) : exec .mgFwChunk s =
    onState true doMgFwChunk s := rfl
theorem exec_mgFwVerify (sigOk : Bool) (s : State) : exec (.mgFwVerify sigOk) s =
    onState true (doMgFwVerify sigOk) s := rfl
theorem exec_mgFwActivate (s : State) : exec .mgFwActivate s =
    onState true doMgFwActivate s := rfl
theorem exec_fwEnd (s : State) : exec .fwEnd s =
    onState true doFwEnd s := rfl
theorem exec_fwSessionTimeout (s : State) : exec .fwSessionTimeout s =
    onState true doFwSessionTimeout s := rfl
theorem exec_inBandInterrupt (s : State) : exec .inBandInterrupt s =
    onState true doInBandInterrupt s := rfl
theorem exec_bypass (s : State) : exec .bypass s =
    onState true doBypass s := rfl
theorem exec_idcode (s : State) : exec .idcode s =
    onState true doIdcode s := rfl
theorem exec_sample (pins : Nat) (s : State) : exec (.sample pins) s =
    onState (decide (pins < 2 ^ 64)) (doSample pins) s := rfl
theorem exec_extest (s : State) : exec .extest s =
    onState true doExtest s := rfl
theorem exec_clamp (s : State) : exec .clamp s =
    onState true doClamp s := rfl
theorem exec_peepUnlock (serial challenge : Nat) (sigOk : Bool) (s : State) : exec (.peepUnlock serial challenge sigOk) s =
    onState true (doPeepUnlock serial challenge sigOk) s := rfl
theorem exec_peepRead (off len : Nat) (s : State) : exec (.peepRead off len) s =
    onState (decide (len ≤ 4096)) (doPeepRead off len) s := rfl
theorem exec_logEntryWrite (s : State) : exec .logEntryWrite s =
    onModule true (fun m => m.logFront) s := rfl
theorem exec_retireSliceHoldTimeout (site : Nat) (s : State) : exec (.retireSliceHoldTimeout site) s =
    onModule (siteOk site) (doRetireSliceHoldTimeout site) s := rfl
theorem exec_bridgeRetrainEnd (bridge : Nat) (ok : Bool) (s : State) : exec (.bridgeRetrainEnd bridge ok) s =
    onModule (bridgeOk bridge) (doBridgeRetrainEnd bridge ok) s := rfl
theorem exec_completionTimeout (ring : Ring) (copy : Bool) (s : State) : exec (.completionTimeout ring copy) s =
    onModule ring.wf (doCompletionTimeout ring copy) s := rfl
theorem exec_hostLinkLoss (s : State) : exec .hostLinkLoss s =
    onModule true doHostLinkLoss s := rfl
theorem exec_aerUncorrectableError (status : Nat) (s : State) : exec (.aerUncorrectableError status) s =
    onModule (decide (status < 2 ^ 32)) (doAerUncorrectableError status) s := rfl
theorem exec_feedBackInRange (feed volts : Nat) (s : State) : exec (.feedBackInRange feed volts) s =
    onModule (decide (feed < 2)) (fun m => m.watchFeeds (doFeedBackInRange feed volts)) s := rfl

end Sys2Proof.Machine
end

