-- ==== Sys2Proof/Laws/Edits.lean ====
section
/-! SUPPORT. Table edits do not look at the command engine: with another engine they do the same. -/

namespace Sys2Proof.Laws

open Sys2Proof.Machine

/-- The module with another command engine. -/
def eng (e : Engine) (m : Module) : Module := { m with engine := e }

/-- The same for an edit's result. -/
def engTo (e : Engine) {ε : Type} (r : Except ε Module) : Except ε Module := r.map (eng e)

theorem writeRow_eng (e : Engine) (m : Module) (site r : Nat) (d : List Byte) (p : Bool) (src : Nat) :
    (eng e m).writeRow site r d p src = eng e (m.writeRow site r d p src) := rfl
theorem updSlice_eng (e : Engine) (m : Module) (site : Nat) (f : Slice → Slice) :
    (eng e m).updSlice site f = eng e (m.updSlice site f) := rfl
theorem toHold_eng (e : Engine) (m : Module) (site r lo : Nat) (d : List Byte) (p h : Bool) :
    (eng e m).toHold site r lo d p h = (m.toHold site r lo d p h).map (eng e) := by
  unfold Module.toHold
  simp only [show (eng e m).slice = m.slice from rfl, updSlice_eng]
  repeat' split
  all_goals rfl
theorem settleRow_eng (e : Engine) (m : Module) (site r : Nat) : (eng e m).settleRow site r = eng e (m.settleRow site r) := by
  unfold Module.settleRow
  simp only [show (eng e m).slice = m.slice from rfl]
  split <;> rfl
theorem acceptWrite_eng (e : Engine) (m : Module) (w : MemReq) : (eng e m).acceptWrite w = (m.acceptWrite w).map (eng e) := by
  unfold Module.acceptWrite
  simp only [show (eng e m).slice = m.slice from rfl, updSlice_eng, toHold_eng, show (eng e m).rowHeld = m.rowHeld from rfl,
    show (eng e m).time = m.time from rfl]
  repeat' split
  all_goals simp [Function.comp_def, updSlice_eng]
theorem rowWrite_eng (e : Engine) (m : Module) (a : Nat) (bs : List Byte) (p : Bool) :
    (eng e m).rowWrite a bs p = (m.rowWrite a bs p).map (eng e) := by
  unfold Module.rowWrite
  simp only [acceptWrite_eng, show (eng e m).slice = m.slice from rfl, show (eng e m).rowHeld = m.rowHeld from rfl, settleRow_eng]
  cases m.acceptWrite ⟨siteOfAddr a, offOfAddr a, 2, .firmware 0, true, false, bs, p⟩ with
  | some x => rfl
  | none => simp only [Option.map_none]; split <;> simp_all
theorem fwWriteRow_eng (e : Engine) (m : Module) (a : Nat) (bs : List Byte) :
    (eng e m).fwWriteRow a bs = (m.fwWriteRow a bs).map (eng e) := rowWrite_eng e m a bs false
theorem fold_eng {α : Type} (e : Engine) (f : Module → α → Option Module) (h : ∀ m x, f (eng e m) x = (f m x).map (eng e)) (l : List α)
    (r : Option Module) : l.foldl (fun acc x => acc.bind (fun y => f y x)) (r.map (eng e)) =
      (l.foldl (fun acc x => acc.bind (fun y => f y x)) r).map (eng e) := by
  induction l generalizing r with
  | nil => rfl
  | cons x l ih =>
    simp only [List.foldl_cons]
    rw [← ih]
    cases r <;> simp [h]
theorem fwWrite_eng (e : Engine) (m : Module) (a : Nat) (bs : List Byte) : (eng e m).fwWrite a bs = (m.fwWrite a bs).map (eng e) := by
  unfold Module.fwWrite
  dsimp only
  split
  · exact fwWriteRow_eng ..
  · split
    · rw [fwWriteRow_eng]; cases m.fwWriteRow a _ <;> simp [fwWriteRow_eng]
    · exact fold_eng e (fun (m : Module) (p : Nat × List Byte) => m.fwWriteRow p.1 p.2) (fun m p => fwWriteRow_eng ..) _ (some m)
theorem putTable_eng (e : Engine) (m : Module) (a : Nat) (bs : List Byte) : (eng e m).putTable a bs = (m.putTable a bs).map (eng e) := by
  unfold Module.putTable
  rw [fwWrite_eng]
  cases m.fwWrite a bs <;> rfl
theorem putEntry_eng (e : Engine) (m : Module) (a v : Nat) : (eng e m).putEntry a v = (m.putEntry a v).map (eng e) := putTable_eng ..
theorem getEntry_eng (e : Engine) (m : Module) (a : Nat) : (eng e m).getEntry a = m.getEntry a := rfl

/-- An edit with a second result. -/
def engP (e : Engine) {α : Type} (r : Except EditErr (Module × α)) : Except EditErr (Module × α) := r.map (fun p => (eng e p.1, p.2))

theorem newNode_eng (e : Engine) (m : Module) (n l : Nat) : (eng e m).newNode n l = engP e (m.newNode n l) := by
  unfold Module.newNode
  simp only [show (eng e m).fitNode = m.fitNode from rfl, show (eng e m).part = m.part from rfl, putTable_eng]
  cases m.fitNode (m.part n) (if l = 4 then 256 else nodeSize l) with
  | none => rfl
  | some a =>
    dsimp only
    generalize m.putTable a (List.replicate (if l = 4 then 256 else nodeSize l) 0) = r
    cases r <;> rfl

theorem leavesUnder_eng (e : Engine) (m : Module) (l node base : Nat) : (eng e m).leavesUnder l node base = m.leavesUnder l node base := by
  induction l generalizing node base with
  | zero => rfl
  | succ l ih => unfold Module.leavesUnder; simp only [getEntry_eng, ih]
theorem reach_eng (e : Engine) (m : Module) (l node : Nat) : (eng e m).reach l node = m.reach l node := by
  induction l generalizing node with
  | zero => rfl
  | succ l ih => unfold Module.reach; simp only [getEntry_eng, ih]

theorem foldP_eng {α β : Type} (e : Engine) (f : Module × β → α → Except EditErr (Module × β))
    (h : ∀ p x, f (eng e p.1, p.2) x = engP e (f p x)) (l : List α) (r : Except EditErr (Module × β)) :
    l.foldl (fun acc x => acc >>= fun p => f p x) (engP e r) = engP e (l.foldl (fun acc x => acc >>= fun p => f p x) r) := by
  induction l generalizing r with
  | nil => rfl
  | cons x l ih =>
    simp only [List.foldl_cons]
    rw [← ih]
    cases r with
    | error _ => rfl
    | ok p => exact congrArg (fun r => l.foldl (fun acc x => acc >>= fun p => f p x) r) (h p x)

theorem prune_eng (e : Engine) (l node : Nat) (m : Module) : Module.prune l node (eng e m) = engP e (Module.prune l node m) := by
  induction l generalizing node m with
  | zero =>
    unfold Module.prune
    refine foldP_eng e (fun (r : Module × Bool) i => _) ?_ _ (.ok (m, true))
    intro p i
    show (if (!entValid (p.1.getEntry (node + 8 * i))) = true then Except.ok (eng e p.1, p.2)
      else if entType (p.1.getEntry (node + 8 * i)) = 0 then Except.ok (eng e p.1, false) else Except.ok (eng e p.1, false)) =
      engP e (if (!entValid (p.1.getEntry (node + 8 * i))) = true then Except.ok p
      else if entType (p.1.getEntry (node + 8 * i)) = 0 then Except.ok (p.1, false) else Except.ok (p.1, false))
    split
    · rfl
    · split <;> rfl
  | succ l ih =>
    unfold Module.prune
    refine foldP_eng e (fun (r : Module × Bool) i => _) ?_ _ (.ok (m, true))
    intro p i
    simp only [getEntry_eng, ih]
    split
    · rfl
    · split
      · cases Module.prune l (entAddr (p.1.getEntry (node + 8 * i))) p.1 with
        | error _ => rfl
        | ok q =>
          simp only [engP, Except.map, bind, Except.bind, putEntry_eng]
          split
          · cases q.1.putEntry (node + 8 * i) 0 <;> rfl
          · rfl
      · rfl
theorem tidy_eng (e : Engine) (m : Module) (n : Nat) : (eng e m).tidy n = (m.tidy n).map (eng e) := by
  unfold Module.tidy
  simp only [prune_eng, show (eng e m).part = m.part from rfl]
  cases Module.prune 3 (m.part n).root m with
  | error _ => rfl
  | ok r => simp only [engP, Except.map, bind, Except.bind, reach_eng]; rfl

theorem splitLeaf_eng (e : Engine) (m : Module) (n l ea va v : Nat) : (eng e m).splitLeaf n l ea va v = engP e (m.splitLeaf n l ea va v) := by
  unfold Module.splitLeaf
  simp only [newNode_eng, show (eng e m).splitEntry = m.splitEntry from rfl]
  cases m.newNode n (l - 1) with
  | error _ => rfl
  | ok r =>
    simp only [engP, Except.map, bind, Except.bind, putTable_eng]
    cases r.1.putTable r.2 ((List.range (2 ^ levelBits (l - 1))).flatMap (fun i => leBytes 8 (m.splitEntry l va v i))) with
    | error _ => rfl
    | ok m1 =>
      simp only [putEntry_eng]
      cases m1.putEntry ea (r.2 + 1) <;> rfl
theorem nodeFor_eng (e : Engine) (n va target : Nat) (rep : Bool) (l node : Nat) (m : Module) :
    Module.nodeFor n va target rep l node (eng e m) = engP e (Module.nodeFor n va target rep l node m) := by
  induction l generalizing node m with
  | zero => simp [Module.nodeFor, engP, Except.map]
  | succ l ih =>
    unfold Module.nodeFor
    split
    · rfl
    · simp only [getEntry_eng, newNode_eng, splitLeaf_eng]
      split
      · cases m.newNode n l with
        | error _ => rfl
        | ok r =>
          simp only [engP, Except.map, bind, Except.bind, putEntry_eng]
          cases r.1.putEntry (entryAddr node (l + 1) va) (r.2 + 1) with
          | error _ => rfl
          | ok x => exact ih ..
      · split
        · exact ih ..
        · split
          · cases m.splitLeaf n (l + 1) (entryAddr node (l + 1) va) va (m.getEntry (entryAddr node (l + 1) va)) with
            | error _ => rfl
            | ok r => exact ih ..
          · rfl
theorem putLeaf_eng (e : Engine) (m : Module) (n va t ent : Nat) (rep : Bool) :
    (eng e m).putLeaf n va t ent rep = (m.putLeaf n va t ent rep).map (eng e) := by
  unfold Module.putLeaf
  simp only [nodeFor_eng, show (eng e m).part = m.part from rfl]
  cases Module.nodeFor n va t rep 3 (m.part n).root m with
  | error _ => rfl
  | ok r =>
    simp only [engP, Except.map, bind, Except.bind, getEntry_eng, leavesUnder_eng, putEntry_eng]
    cases t <;> dsimp only <;> split <;> rfl

theorem foldE_eng {α : Type} (e : Engine) (f : Module → α → Except EditErr Module) (h : ∀ m x, f (eng e m) x = (f m x).map (eng e))
    (l : List α) (r : Except EditErr Module) :
    l.foldl (fun acc x => acc.bind (fun y => f y x)) (r.map (eng e)) = (l.foldl (fun acc x => acc.bind (fun y => f y x)) r).map (eng e) := by
  induction l generalizing r with
  | nil => rfl
  | cons x l ih =>
    simp only [List.foldl_cons]
    rw [← ih]
    cases r with
    | error _ => rfl
    | ok p => exact congrArg (fun r => l.foldl (fun acc x => acc.bind (fun y => f y x)) r) (h p x)

/-- PART.STRIPE's edit with another command engine. -/
theorem striped_eng (e : Engine) (m : Module) (c : Cmd) : (eng e m).striped c = (m.striped c).map (eng e) := by
  unfold Module.striped
  simp only [newNode_eng]
  cases m.newNode (cmdPart c) 4 with
  | error _ => rfl
  | ok r =>
    show ((eng e r.1).putTable r.2 (stripeRecord c) >>= _) = Except.map _ (r.1.putTable r.2 (stripeRecord c) >>= _)
    rw [putTable_eng]
    cases r.1.putTable r.2 (stripeRecord c) with
    | error _ => rfl
    | ok m1 =>
      have h := foldE_eng e (fun (y : Module) (x : Nat × Nat) => y.putLeaf (cmdPart c) x.1 x.2 (r.2 + 8 * pField c 21 1 + 5)
        (bitOf (pField c 22 1) 0)) (fun m x => putLeaf_eng ..) (stripeSteps (pField c 16 4) (pField c 8 8) (pField c 8 8 + pField c 16 4 * 2 ^ 21)) (.ok m1)
      have k : ∀ q : Except EditErr Module, (q.map (eng e) >>= fun (x : Module) => x.tidy (cmdPart c)) =
          (q >>= fun (x : Module) => x.tidy (cmdPart c)).map (eng e) := by
        intro q
        cases q with
        | error _ => rfl
        | ok x => dsimp only [Except.map, bind, Except.bind]; rw [tidy_eng]; cases x.tidy (cmdPart c) <;> rfl
      exact (congrArg (fun (r : Except EditErr Module) => r >>= fun (x : Module) => x.tidy (cmdPart c)) h).trans (k _)

/-- PART.MAP's entries with another command engine. -/
theorem mapEntry_eng (e : Engine) (m : Module) (n : Nat) (rep : Bool) (en : List Byte) :
    (eng e m).mapEntry n rep en = (m.mapEntry n rep en).map (fun q => (eng e q.1, q.2)) := by
  unfold Module.mapEntry
  simp only [show (eng e m).mapEntryBad = m.mapEntryBad from rfl, show (eng e m).retiredBit = m.retiredBit from rfl, putLeaf_eng]
  split
  · rfl
  · cases m.putLeaf n (getLe en 0 6) (getLe en 6 1)
      (plainLeaf (getLe en 8 6) (getLe en 7 1) (m.retiredBit (getLe en 8 6) (2 ^ levelShift (getLe en 6 1)))) rep with
    | error x => cases x <;> rfl
    | ok x =>
      simp only [Except.map, Except.bind, tidy_eng]
      cases x.tidy n with
      | error y => cases y <;> rfl
      | ok y => cases rep <;> rfl
theorem mapEntries_eng (e : Engine) (m : Module) (c : Cmd) :
    (eng e m).mapEntries c = (m.mapEntries c).map (fun q => (eng e q.1, q.2)) := by
  unfold Module.mapEntries
  suffices h : ∀ (l : List (List Byte)) (r : Option (Module × List Nat)),
      l.foldl (fun acc en => acc.bind (fun r => (r.1.mapEntry (cmdPart c) (bitOf (pField c 20 1) 0) en).map (fun q => (q.1, r.2 ++ [q.2]))))
        (r.map (fun q => (eng e q.1, q.2))) =
      (l.foldl (fun acc en => acc.bind (fun r => (r.1.mapEntry (cmdPart c) (bitOf (pField c 20 1) 0) en).map (fun q => (q.1, r.2 ++ [q.2]))))
        r).map (fun q => (eng e q.1, q.2)) from h _ (some (m, []))
  intro l
  induction l with
  | nil => intro r; rfl
  | cons x l ih =>
    intro r
    simp only [List.foldl_cons]
    rw [← ih]
    cases r with
    | none => rfl
    | some p => simp [mapEntry_eng, Function.comp_def]

end Sys2Proof.Laws
end

