-- ==== Sys2Proof/Laws/Maps.lean ====
section
/-! SUPPORT. Sparse maps: every operation keeps the canonical form, and a read after a write gives what was written
and nothing else changed. -/

namespace Sys2Proof.Machine

section
variable {α : Type} [DecidableEq α] {d : α}

/-- Every key of the list is beyond `k`, rising, and nothing listed equals the default. -/
def SMap.beyond (d : α) (k : Nat) : SMap α → Prop
  | [] => True
  | (k', v) :: rest => k < k' ∧ v ≠ d ∧ SMap.beyond d k' rest

omit [DecidableEq α] in
theorem SMap.beyond_le {m : SMap α} : ∀ {i k : Nat}, i ≤ k → SMap.beyond d k m → SMap.beyond d i m := by
  cases m with
  | nil => intros; trivial
  | cons p rest => exact fun hik h => ⟨Nat.lt_of_le_of_lt hik h.1, h.2.1, h.2.2⟩

theorem SMap.wf_cons (k : Nat) (v : α) (rest : SMap α) : SMap.wf d ((k, v) :: rest) = true ↔ v ≠ d ∧ SMap.beyond d k rest := by
  induction rest generalizing k v with
  | nil => simp [SMap.wf, SMap.beyond]
  | cons p rest ih =>
    obtain ⟨k', v'⟩ := p
    simp only [SMap.wf, Bool.and_eq_true, decide_eq_true_eq, ih, SMap.beyond]
    constructor
    · rintro ⟨⟨a, b⟩, c, e⟩; exact ⟨a, b, c, e⟩
    · rintro ⟨a, b, c, e⟩; exact ⟨⟨a, b⟩, c, e⟩

theorem SMap.wf_tail {p : Nat × α} {rest : SMap α} (h : SMap.wf d (p :: rest) = true) : SMap.wf d rest = true := by
  obtain ⟨k, v⟩ := p
  rw [SMap.wf_cons] at h
  cases rest with
  | nil => rfl
  | cons q rest => obtain ⟨k', v'⟩ := q; rw [SMap.wf_cons]; exact h.2.2

omit [DecidableEq α] in
theorem SMap.get_beyond {m : SMap α} : ∀ {k i : Nat}, SMap.beyond d k m → i ≤ k → SMap.get d m i = d := by
  induction m with
  | nil => intros; rfl
  | cons p rest ih =>
    obtain ⟨k', v⟩ := p
    intro k i h hi
    have h1 := h.1
    have hne : i ≠ k' := by omega
    simp only [SMap.get, hne, if_false]
    exact ih h.2.2 (by omega)

omit [DecidableEq α] in
/-- Nothing is dropped that does not stand there. -/
theorem SMap.drop_beyond {m : SMap α} : ∀ {i k : Nat}, SMap.beyond d i m → k ≤ i → SMap.drop m k = m := by
  induction m with
  | nil => intros; rfl
  | cons p rest ih =>
    obtain ⟨k', v⟩ := p
    intro i k h hk
    have h1 := h.1
    have hne : k' ≠ k := by omega
    rw [SMap.drop, List.filter_cons_of_pos (by simpa using hne)]
    exact congrArg _ (ih h.2.2 (by omega))

theorem SMap.beyond_set {m : SMap α} (v : α) : ∀ {i k : Nat}, SMap.beyond d i m → i < k → SMap.beyond d i (SMap.set d m k v) := by
  induction m with
  | nil =>
    intro i k _ hik
    by_cases hv : v = d <;> simp [SMap.set, hv, SMap.beyond, hik]
  | cons p rest ih =>
    obtain ⟨k', v'⟩ := p
    intro i k h hik
    obtain ⟨h1, h2, h3⟩ := h
    unfold SMap.set
    split
    · rename_i he
      subst he
      split
      · rw [SMap.drop_beyond h3 (Nat.le_refl _)]; exact SMap.beyond_le (by omega) h3
      · rename_i hv; exact ⟨hik, hv, h3⟩
    · split
      · split
        · rename_i hlt _; rw [SMap.drop_beyond h3 (Nat.le_of_lt hlt)]; exact ⟨h1, h2, h3⟩
        · rename_i hlt hv; exact ⟨hik, hv, hlt, h2, h3⟩
      · exact ⟨h1, h2, ih h3 (by omega)⟩

/-- A write keeps the canonical form. -/
theorem SMap.set_wf {m : SMap α} (k : Nat) (v : α) (h : SMap.wf d m = true) : SMap.wf d (SMap.set d m k v) = true := by
  cases m with
  | nil => by_cases hv : v = d <;> simp [SMap.set, hv, SMap.wf]
  | cons p rest =>
    obtain ⟨k', v'⟩ := p
    have h' := (SMap.wf_cons k' v' rest).1 h
    unfold SMap.set
    split
    · rename_i he
      subst he
      split
      · rw [SMap.drop_beyond h'.2 (Nat.le_refl _)]; exact SMap.wf_tail h
      · rename_i hv; exact (SMap.wf_cons _ _ _).2 ⟨hv, h'.2⟩
    · split
      · split
        · rename_i hlt _; rw [SMap.drop_beyond h'.2 (Nat.le_of_lt hlt)]; exact h
        · rename_i hlt hv; exact (SMap.wf_cons _ _ _).2 ⟨hv, hlt, h'.1, h'.2⟩
      · exact (SMap.wf_cons _ _ _).2 ⟨h'.1, SMap.beyond_set v h'.2 (by omega)⟩

theorem SMap.upd_wf {m : SMap α} (k : Nat) (f : α → α) (h : SMap.wf d m = true) : SMap.wf d (SMap.upd d m k f) = true :=
  SMap.set_wf k _ h

theorem SMap.updAll_wf (ks : List Nat) (f : α → α) : ∀ {m : SMap α}, SMap.wf d m = true → SMap.wf d (SMap.updAll d m ks f) = true := by
  induction ks with
  | nil => exact fun h => h
  | cons k ks ih => exact fun h => ih (SMap.upd_wf k f h)

omit [DecidableEq α] in
/-- Reading what is left after cells were dropped by their key. -/
theorem SMap.get_filter {m : SMap α} (q : Nat → Bool) (k : Nat) :
    SMap.get d (m.filter (fun c => q c.1)) k = if q k then SMap.get d m k else d := by
  induction m with
  | nil => simp [SMap.get]
  | cons p rest ih =>
    obtain ⟨k', v⟩ := p
    by_cases hq : q k'
    · rw [List.filter_cons_of_pos (by simpa using hq)]
      by_cases he : k = k'
      · subst he; simp [SMap.get, hq]
      · simp [SMap.get, he, ih]
    · rw [List.filter_cons_of_neg (by simpa using hq), ih]
      by_cases he : k = k'
      · subst he; simp [hq]
      · simp [SMap.get, he]

omit [DecidableEq α] in
theorem SMap.get_drop {m : SMap α} (k i : Nat) : SMap.get d (SMap.drop m k) i = if i = k then d else SMap.get d m i := by
  rw [SMap.drop, SMap.get_filter (fun j => j != k)]
  by_cases h : i = k <;> simp [h]

/-- What stands at the key just written, whatever the form of the list. -/
@[simp] theorem SMap.get_set_self {m : SMap α} (k : Nat) (v : α) : SMap.get d (SMap.set d m k v) k = v := by
  induction m with
  | nil => by_cases hv : v = d <;> simp [SMap.set, SMap.get, hv]
  | cons p rest ih =>
    obtain ⟨k', v'⟩ := p
    unfold SMap.set
    by_cases he : k = k'
    · by_cases hv : v = d <;> simp [he, hv, SMap.get, SMap.get_drop]
    · by_cases hlt : k < k'
      · by_cases hv : v = d <;> simp [he, hlt, hv, SMap.get, SMap.get_drop]
      · simp [he, hlt, SMap.get, ih]

/-- A write leaves every other key as it was. -/
theorem SMap.get_set_other {m : SMap α} {k i : Nat} (v : α) (hi : i ≠ k) :
    SMap.get d (SMap.set d m k v) i = SMap.get d m i := by
  induction m with
  | nil => by_cases hv : v = d <;> simp [SMap.set, SMap.get, hv, hi]
  | cons p rest ih =>
    obtain ⟨k', v'⟩ := p
    unfold SMap.set
    by_cases he : k = k'
    · subst he
      by_cases hv : v = d <;> simp [hv, SMap.get, SMap.get_drop, hi]
    · by_cases hlt : k < k'
      · by_cases hv : v = d <;> by_cases h2 : i = k' <;> simp [he, hlt, hv, SMap.get, SMap.get_drop, hi, h2, Ne.symm he]
      · simp only [he, hlt, if_false, SMap.get, ih]

@[simp] theorem SMap.get_upd_self {m : SMap α} (k : Nat) (f : α → α) : SMap.get d (SMap.upd d m k f) k = f (SMap.get d m k) :=
  SMap.get_set_self k _
theorem SMap.get_upd_other {m : SMap α} {k i : Nat} (f : α → α) (hi : i ≠ k) : SMap.get d (SMap.upd d m k f) i = SMap.get d m i :=
  SMap.get_set_other _ hi

omit [DecidableEq α] in
theorem SMap.beyond_filter (p : Nat × α → Bool) {m : SMap α} : ∀ {k : Nat}, SMap.beyond d k m → SMap.beyond d k (m.filter p) := by
  induction m with
  | nil => exact fun h => h
  | cons q rest ih =>
    obtain ⟨k', v⟩ := q
    intro k h
    obtain ⟨h1, h2, h3⟩ := h
    by_cases hp : p (k', v)
    · rw [List.filter_cons_of_pos hp]; exact ⟨h1, h2, ih h3⟩
    · rw [List.filter_cons_of_neg hp]; exact SMap.beyond_le (Nat.le_of_lt h1) (ih h3)

/-- Dropping cells keeps the canonical form. -/
theorem SMap.filter_wf (p : Nat × α → Bool) {m : SMap α} (h : SMap.wf d m = true) : SMap.wf d (m.filter p) = true := by
  induction m with
  | nil => rfl
  | cons q rest ih =>
    obtain ⟨k', v⟩ := q
    have h' := (SMap.wf_cons k' v rest).1 h
    by_cases hp : p (k', v)
    · rw [List.filter_cons_of_pos hp]; exact (SMap.wf_cons k' v (rest.filter p)).2 ⟨h'.1, SMap.beyond_filter p h'.2⟩
    · rw [List.filter_cons_of_neg hp]; exact ih (SMap.wf_tail h)

/-- Writes at several keys keep the canonical form. -/
theorem SMap.foldl_set_wf {β : Type} (key : β → Nat) (val : β → α) (l : List β) :
    ∀ {m : SMap α}, SMap.wf d m = true → SMap.wf d (l.foldl (fun (b : SMap α) x => SMap.set d b (key x) (val x)) m) = true := by
  induction l with
  | nil => exact fun h => h
  | cons x xs ih => exact fun h => ih (SMap.set_wf _ _ h)

end

/-! ## Memory -/

theorem putRange_wf (bs : List Byte) : ∀ {b : SMap Byte} {a : Nat}, SMap.wf 0 b = true → SMap.wf 0 (putRange b a bs) = true := by
  induction bs with
  | nil => exact fun h => h
  | cons x xs ih => exact fun h => ih (SMap.set_wf _ x h)

end Sys2Proof.Machine
end

