-- ==== Sys2Proof/Laws/Memory.lean ====
section
/-! SUPPORT. Memory keeps its canonical form under every operation that writes bytes. -/

namespace Sys2Proof.Machine

theorem reset_memory_wf : Memory.wf State.reset.m.mem.bytes = true := rfl

theorem Module.putBytes_memory_wf (m : Module) (a : Nat) (bs : List Byte) (h : Memory.wf m.mem.bytes = true) :
    Memory.wf (m.putBytes a bs).mem.bytes = true := putRange_wf bs h

theorem Module.writeRow_memory_wf (m : Module) (site r : Nat) (data : List Byte) (p : Bool) (src : Nat)
    (h : Memory.wf m.mem.bytes = true) : Memory.wf (m.writeRow site r data p src).mem.bytes = true := putRange_wf data h

theorem Module.zeroSlice_memory_wf (m : Module) (site part strength : Nat) (h : Memory.wf m.mem.bytes = true) :
    Memory.wf (m.zeroSlice site part strength).mem.bytes = true := SMap.filter_wf _ h

theorem Module.zeroSaveArea_memory_wf (m : Module) (site : Nat) (h : Memory.wf m.mem.bytes = true) :
    Memory.wf (m.zeroSaveArea site).mem.bytes = true := SMap.filter_wf _ h

theorem Module.putImage_memory_wf (m : Module) (site : Nat) (split : Bool) (t : Nat) (s : Scratch)
    (h : Memory.wf m.mem.bytes = true) : Memory.wf (m.putImage site split t s).mem.bytes = true :=
  SMap.foldl_set_wf (d := (0 : Byte)) _ _ _ (SMap.filter_wf _ h)

theorem Module.loseEighths_memory_wf (m : Module) (keep : Nat) (h : Memory.wf m.mem.bytes = true) :
    Memory.wf (m.loseEighths keep).mem.bytes = true := SMap.filter_wf _ h

/-- A run of operations that each keep the form keeps it. -/
theorem foldl_memory_wf {β : Type} (f : Module → β → Module)
    (hf : ∀ m x, Memory.wf m.mem.bytes = true → Memory.wf (f m x).mem.bytes = true) (l : List β) :
    ∀ {m : Module}, Memory.wf m.mem.bytes = true → Memory.wf (l.foldl f m).mem.bytes = true := by
  induction l with
  | nil => exact fun h => h
  | cons x xs ih => exact fun h => ih (hf _ x h)

theorem Module.loseDonors_memory_wf (m : Module) (site bank : Nat) (h : Memory.wf m.mem.bytes = true) :
    Memory.wf (m.loseDonors site bank).mem.bytes = true :=
  foldl_memory_wf (fun (a : Module) r => a.updSlice site (fun s => s.forget r)) (fun _ _ h => h) _ (SMap.filter_wf (d := (0 : Byte)) _ h)

theorem Module.testWipe_memory_wf (m : Module) (part site : Nat) (h : Memory.wf m.mem.bytes = true) :
    Memory.wf (m.testWipe part site).mem.bytes = true :=
  SMap.filter_wf (d := (0 : Byte)) _ (foldl_memory_wf (fun (a : Module) r => a.updSlice site (fun s => s.forget r)) (fun _ _ h => h) _ h)

theorem Module.settleRow_memory_wf (m : Module) (site r : Nat) (h : Memory.wf m.mem.bytes = true) :
    Memory.wf (m.settleRow site r).mem.bytes = true := by
  unfold Module.settleRow
  split
  · exact putRange_wf _ h
  · exact h

theorem Module.settleHold_memory_wf (m : Module) (site r : Nat) (h : Memory.wf m.mem.bytes = true) :
    Memory.wf (m.settleHold site r).mem.bytes = true := Module.settleRow_memory_wf (m.updSlice site _) site r h

theorem Module.settleQueued_memory_wf (m : Module) (site r : Nat) (h : Memory.wf m.mem.bytes = true) :
    Memory.wf (m.settleQueued site r).mem.bytes = true := by
  unfold Module.settleQueued
  split
  · exact h
  · exact putRange_wf _ h

theorem Module.settleSlice_memory_wf (m : Module) (site : Nat) (h : Memory.wf m.mem.bytes = true) :
    Memory.wf (m.settleSlice site).mem.bytes = true :=
  foldl_memory_wf _ (fun m r => m.settleRow_memory_wf site r) _ h

theorem Module.fillClusters_memory_wf (m : Module) (cs : List Nat) (part strength : Nat) (h : Memory.wf m.mem.bytes = true) :
    Memory.wf (m.fillClusters cs part strength).mem.bytes = true :=
  foldl_memory_wf (fun (acc : Module) s => (((acc.updSlice s (fun x => { x with merge := [], rowQueue := [], holdQueue := [] })).zeroSlice s
    part strength).zeroSaveArea s)) (fun _ s h => Module.zeroSaveArea_memory_wf _ s (Module.zeroSlice_memory_wf _ s part strength h)) _ h

end Sys2Proof.Machine
end

