-- ==== Sys2Proof/Laws/Reads.lean ====
section
/-! SUPPORT. Reading a unit after one of its kind was changed: the unit changed holds what the change gives, every other one what it
held. The laws hold for every list, in canonical form or not. -/

namespace Sys2Proof.Machine

@[simp] theorem Module.updCl_cl (m : Module) (c : Nat) (f : Cluster → Cluster) : (m.updCl c f).cl c = f (m.cl c) := SMap.get_upd_self c f
theorem Module.updCl_cl_ne (m : Module) {c k : Nat} (f : Cluster → Cluster) (h : k ≠ c) : (m.updCl c f).cl k = m.cl k := SMap.get_upd_other f h
@[simp] theorem Module.updCore_core (m : Module) (s : Nat) (f : Core → Core) : (m.updCore s f).core s = f (m.core s) := SMap.get_upd_self s f
theorem Module.updCore_core_ne (m : Module) {s k : Nat} (f : Core → Core) (h : k ≠ s) : (m.updCore s f).core k = m.core k := SMap.get_upd_other f h
@[simp] theorem Module.updSlice_slice (m : Module) (s : Nat) (f : Slice → Slice) : (m.updSlice s f).slice s = f (m.slice s) := SMap.get_upd_self s f
theorem Module.updSlice_slice_ne (m : Module) {s k : Nat} (f : Slice → Slice) (h : k ≠ s) : (m.updSlice s f).slice k = m.slice k := SMap.get_upd_other f h
@[simp] theorem Module.updPart_part (m : Module) (n : Nat) (f : Part → Part) : (m.updPart n f).part n = f (m.part n) := SMap.get_upd_self n f
theorem Module.updPart_part_ne (m : Module) {n k : Nat} (f : Part → Part) (h : k ≠ n) : (m.updPart n f).part k = m.part k := SMap.get_upd_other f h
@[simp] theorem Module.updFunc_func (m : Module) (fn : Nat) (f : Func → Func) : (m.updFunc fn f).func fn = f (m.func fn) := SMap.get_upd_self fn f
theorem Module.updFunc_func_ne (m : Module) {fn k : Nat} (f : Func → Func) (h : k ≠ fn) : (m.updFunc fn f).func k = m.func k := SMap.get_upd_other f h
@[simp] theorem Module.updSensor_sensor (m : Module) (i : Nat) (f : Sensor → Sensor) : (m.updSensor i f).sensor i = f (m.sensor i) := SMap.get_upd_self i f
theorem Module.updSensor_sensor_ne (m : Module) {i k : Nat} (f : Sensor → Sensor) (h : k ≠ i) : (m.updSensor i f).sensor k = m.sensor k := SMap.get_upd_other f h
@[simp] theorem Module.updBridge_bridge (m : Module) (b : Nat) (f : Bridge → Bridge) : (m.updBridge b f).net.bridge b = f (m.net.bridge b) := SMap.get_upd_self b f
theorem Module.updBridge_bridge_ne (m : Module) {b k : Nat} (f : Bridge → Bridge) (h : k ≠ b) : (m.updBridge b f).net.bridge k = m.net.bridge k := SMap.get_upd_other f h

/-- Changing every unit of a list: what is in the list is changed as often as it stands there, what is not stays. -/
theorem SMap.get_updAll_not_mem {α : Type} [DecidableEq α] {d : α} (f : α → α) {k : Nat} : ∀ (ks : List Nat) (m : SMap α), k ∉ ks →
    SMap.get d (SMap.updAll d m ks f) k = SMap.get d m k := by
  intro ks
  induction ks with
  | nil => intros; rfl
  | cons a ks ih =>
    intro m h
    have h1 : k ≠ a := fun e => h (by simp [e])
    exact (ih (SMap.upd d m a f) (fun e => h (by simp [e]))).trans (SMap.get_upd_other f h1)

/-- A change that gives the same a second time acts once, however often the unit stands in the list. -/
theorem SMap.get_updAll_mem {α : Type} [DecidableEq α] {d : α} (f : α → α) (hf : ∀ x, f (f x) = f x) {k : Nat} :
    ∀ (ks : List Nat) (m : SMap α), k ∈ ks → SMap.get d (SMap.updAll d m ks f) k = f (SMap.get d m k) := by
  intro ks
  induction ks with
  | nil => intro m h; exact absurd h (by simp)
  | cons a ks ih =>
    intro m h
    change SMap.get d (SMap.updAll d (SMap.upd d m a f) ks f) k = _
    by_cases hk : k ∈ ks
    · rw [ih _ hk]
      by_cases e : k = a
      · subst e; rw [SMap.get_upd_self, hf]
      · rw [SMap.get_upd_other f e]
    · have e : k = a := by simpa [hk] using h
      subst e
      rw [SMap.get_updAll_not_mem f ks _ hk, SMap.get_upd_self]

@[simp] theorem Module.updUnit_unit (m : Module) (site bank : Nat) (f : BankUnit → BankUnit) :
    (m.updUnit site bank f).unit site bank = f (m.unit site bank) := SMap.get_upd_self _ f
@[simp] theorem Module.updGroup_group (m : Module) (b dir g : Nat) (f : LaneGroup → LaneGroup) :
    (m.updGroup b dir g f).net.group b dir g = f (m.net.group b dir g) := SMap.get_upd_self _ f

end Sys2Proof.Machine
end

