-- ==== Sys2Proof/Tests/Slice0.lean ====
section
/-! SUPPORT. Tests: for every statement of Certificates/Slice0/Obligations.lean with hypotheses, states and operands that meet
them; the worked examples of the spec; for every check of WellFormed.lean a term it refuses. -/

open Sys2Proof.Machine Sys2Proof.Safety
set_option maxRecDepth 4000
namespace Sys2Proof.Tests

/-! ## Helpers: a module in service, packets, descriptors -/

/-- A function that may be addressed and may send. -/
def onFn : Func := { memSpace := true, busMaster := true }

/-- A module that is ready: two functions, partition 1 Active with cluster 0, two enabled sites with their slices, every layer group
Cool. -/
def live : Module :=
  { bring := { ready := true, stage := 9, slots := [{ valid := true, active := true }, { valid := true }] },
    port := { perst := false, linkUp := true, cfgReady := true, numVfs := 3, funcs := [(0, onFn), (1, onFn)] },
    clusters := [(0, { owner := some 1, functionView := false })],
    cores := [(0, { enabled := true }), (1, { enabled := true })],
    mem := { slices := [(0, { state := 0 }), (1, { state := 0 })] },
    thermal := { bands := (List.range 160).map (fun g => (g, 1)), flow := 999, flowPresent := true },
    power := { standby := true, vib := true, vdram := true, vpp := true, vlink := true, pwrGood := true,
               feedA := { ok := true }, feedB := { ok := true } },
    clocks := { mgmtRefOk := true, hostRefOk := true },
    parts := { parts := [(1, { state := 2 }), (2, { state := 5 })] } }

/-- The management port as it answers. -/
def onMgmt : Mgmt := { up := true, dynAddr := some 9, enumOut := true }

/-- A state with this module. -/
def st (m : Module) : State := { State.reset with m := m, mgmt := onMgmt }

/-- A request waiting at the management port. -/
def req (op arg : Nat) (m : Module) : State := { st m with mgmt := { onMgmt with reqBusy := true, reqOp := op, reqArg := arg } }

/-- A packet of function `fn` naming `part`, its parameters as fields of the packet. -/
def pkt (fn flags part : Nat) (fs : List (Nat × Nat × Nat)) : Cmd :=
  { fn := fn, flags := flags, tag := 5, partition := part, length := 56,
    params := packRec 56 (fs.map (fun f => ⟨f.1 - 8, f.2.1, f.2.2⟩)), hostIn := none, hostOut := true }

/-- What `accepted` asks, as a computation. -/
def accepts (sp : CmdSpec) (bad need : Option Nat) (claims : List Claim) (fence : Option Nat) (c : Cmd) (m : Module) : Bool :=
  c.wf && m.engine.cmds.isEmpty && (sp.check c m bad need).isNone && m.claimsFree claims &&
  (match fence with | none => true | some n => m.atWorkFence n)

theorem accepted_of {sp : CmdSpec} {bad need : Option Nat} {claims : List Claim} {fence : Option Nat} {c : Cmd} {m : Module}
    (h : accepts sp bad need claims fence c m = true) : accepted sp bad need claims fence c m := by
  simp only [accepts, Bool.and_eq_true, List.isEmpty_iff, Option.isNone_iff_eq_none] at h
  obtain ⟨⟨⟨⟨h1, h2⟩, h3⟩, h4⟩, h5⟩ := h
  refine ⟨h1, .inl h2, h3, h4, ?_⟩
  rintro n rfl
  exact h5


def isOk {α ε : Type} : Except ε α → Bool | .ok _ => true | .error _ => false
theorem ok_of {α ε : Type} {r : Except ε α} (h : isOk r = true) : ∃ x, r = .ok x := by
  cases r with
  | ok a => exact ⟨a, rfl⟩
  | error e => cases h

/-- An item of partition 1 that starts at 0x1000. -/
def item : Item := { part := 1, seq := 0, ctx := 0, pc := 0x1000, args := [], thread := 0, epoch := 0, merge := false, triple := 0, hint := 0xFFFF }

/-- An entry of class 1. -/
def entry : Entry := { seq := 0, cls := 1, event := 0x03, flags := 0, part := 0xFF, time := 0, repeats := 0, key := [], body := [] }

/-- The physical function holds expert rights. -/
def expert : Module := { live with engine := { rights := 1 } }

/-- This module alone as the lead manager of a fabric, its bring-up complete. -/
def lead : Module := { live with bring := { live.bring with fabricReady := true }, fab := { idValid := true } }

/-- A power-cap profile: 4,400 W, every target point left as it is. -/
def profile : List Byte := leBytes 2 4400 ++ List.replicate 6 0 ++ List.replicate 64 0xFF

/-- A packet with what it reads from host memory. -/
def fed (c : Cmd) (bs : List Byte) : Cmd := { c with hostIn := some bs }

/-- `live` with core 0's thread 0 running an item at 0x1000. -/
def busyTh (th : Thread) : Module :=
  { live with cores := [(0, { enabled := true, t0 := { th with pc := 0x1000, item := some item } }), (1, { enabled := true })] }
/-- The plain case. -/
def busy : Module := busyTh {}
/-- A descriptor of core 0's thread 0: its opcode and its fields. -/
def dsc (op : Nat) (fs : List (Nat × Nat × Nat)) : Desc := ⟨0, 0, packRec 32 (⟨0, 1, op⟩ :: fs.map (fun f => ⟨f.1, f.2.1, f.2.2⟩))⟩

theorem issuable_of {op : Nat} {d : Desc} {m : Module} (h : (d.wf && getLe d.bytes 0 1 == op && m.mayIssue d.site d.thread d.bytes) = true) :
    issuable op d m := by
  simp only [Bool.and_eq_true, beq_iff_eq] at h
  exact ⟨h.1.1, h.1.2, h.2⟩

/-- A DISPATCH packet of partition 1, its own sequence number 0. -/
def launch : Packet :=
  { seq := 0, bytes := List.replicate 64 0, started := true, done := false, status := 0, created := 1, ok := 0, faulted := 0, cancelled := 0,
    skipped := 0, moved := 0, pos := [], fault := [], result := 0, running := 1, info := [], chunks := [], header := [], lists := [], at_ := 0 }

/-- Partition 1 with tables: address 0 on is slice 0, as one leaf of 512 MiB. -/
def tabled : Module :=
  { live with
    parts := { parts := [(1, { state := 2, root := 0x100000, pool := [(0x100000, 32)], nodes := [(0x100000, 4096, 3), (0x110000, 8192, 2)] }),
                         (2, { state := 5 })] },
    mem := { live.mem with bytes := [(0x100000, 0x01), (0x100002, 0x11), (0x110000, 0x3B)] } }
/-! ## Witnesses: states and operands that meet the hypotheses of each statement, clause by clause -/

theorem witness_StepRunsFront : ({ st live with pending := [.rstdaa, .enec] } : State).pending = .rstdaa :: [.enec] := rfl
theorem witness_EmptyQueueTicks : (st live).pending = [] := rfl
theorem witness_PortsKept : ∃ t, exec .logEntryWrite (st live) = .next t := ⟨_, rfl⟩
theorem witness_PortOrderKept : mgmtOk (st live).mgmt ∧ ∃ t, step (st live) = .next t := ⟨by unfold mgmtOk; decide, _, rfl⟩

theorem witness_ManagementTransfers :
    (portAnswers (st live).mgmt ∧ 65528 < 65536 ∧ 65528 % 8 = 0 ∧ (List.replicate 8 (0 : Byte)).length = 8 ∧ 8 ≤ (st live).mgmt.maxWrite) ∧
    (let g : Mgmt := { onMgmt with dynAddr := none, enumOut := false, strap := 7 }; g.up = true ∧ g.dynAddr = none ∧ 0x48 + g.strap < 128 ∧
      8 ≤ g.maxWrite) ∧
    (onMgmt.seqAt = 0 ∨ onMgmt.seqAt + 50 ≤ live.time + 1) ∧
    (let g : Mgmt := { onMgmt with seqAt := 1 }; g.seqAt ≠ 0 ∧ (49 : Nat) + 1 < g.seqAt + 50) ∧
    ((2 ^ 64 - 1 : Nat) < 2 ^ 64 ∧ onMgmt.up = true ∧ live.romFailed = false) ∧
    (¬ (onMgmt.reqBusy = true ∧ onMgmt.reqOp = 0x11) ∧ 4088 % 8 = 0 ∧ 4088 + 8 ≤ 4096) := by unfold portAnswers; decide

theorem witness_RequestRegisters :
    live.romFailed = false ∧ (onMgmt.reqBusy = false ∧ 0x0501 % 256 ∈ mgOps) ∧ (req 1 0 live).mgmt.reqBusy = true ∧ 0xFF % 256 ∉ mgOps ∧
    bitOf 2 1 = true := by decide

theorem witness_CommonCommands :
    ({ onMgmt with dynAddr := none } : Mgmt).up = true ∧ ({ onMgmt with dynAddr := none } : Mgmt).dynAddr = none ∧ 127 < 128 ∧ onMgmt.up = true ∧
    portAnswers onMgmt ∧ (16 ≤ 256 ∧ 256 ≤ 256) ∧ (15 < 16 ∨ 256 < 15) := by unfold portAnswers; decide

theorem witness_PortResetAndInterrupt :
    1 ≤ 1 ∧ (onMgmt.reqBusy = false ∧ onMgmt.sessionAt + 60000000 ≤ ({ live with time := 60000000 } : Module).time) ∧
    (portAnswers { onMgmt with ibiOn := true } ∧ ({ live with ibiCauses := [1] } : Module).ibiCauses = 1 :: []) := by unfold portAnswers; decide

/-- Request `op` waits with its argument inside the mask. -/
theorem requested_of {op mask arg : Nat} {m : Module} (h : (arg &&& mask == arg) = true) : requested (req op arg m).mgmt op mask :=
  ⟨rfl, rfl, rfl, eq_of_beq h⟩

theorem witness_PowerRequests :
    (requested (req 0x01 1 live).mgmt 0x01 1 ∧ live.startBlocked = false) ∧
    (requested (req 0x02 1 live).mgmt 0x02 1 ∧ 3 ≤ live.bring.stage ∧ live.power.pwrGood = true ∧ live.power.moduleState ≠ 3) ∧
    (requested (req 0x03 0 live).mgmt 0x03 0 ∧ ({ live with power := { live.power with moduleState := 3 } } : Module).power.moduleState = 3) ∧
    (requested (req 0x04 0 live).mgmt 0x04 1 ∧ ∀ n < 64, (({ live with parts := {} } : Module).part n).state ≠ 2) ∧
    (requested (req 0x05 1 live).mgmt 0x05 1 ∧ ({ live with power := { live.power with moduleState := 4 } } : Module).power.moduleState = 4) ∧
    (requested (req 0x06 1 live).mgmt 0x06 0x101 ∧ live.claimsFree [.power] = true ∧ bitOf 1 8 = false) ∧
    (requested (req 0x07 4400 live).mgmt 0x07 0x1FFF ∧ 1500 ≤ 4400 ∧ live.bring.ready = true) ∧
    requested (req 0x08 2 live).mgmt 0x08 3 ∧
    (requested (req 0x09 0 live).mgmt 0x09 0 ∧ live.thermal.stop = false) ∧
    (let m : Module := { live with time := 20000000, thermal := { live.thermal with
        stop := true, flowOkSince := some 0, coolSince := some 0 } }
     m.thermal.stop = true ∧ m.resumeOk = true) :=
  ⟨⟨requested_of rfl, by decide⟩, ⟨requested_of rfl, by decide⟩, ⟨requested_of rfl, by decide⟩, ⟨requested_of rfl, by decide⟩,
   ⟨requested_of rfl, by decide⟩, ⟨requested_of rfl, by decide⟩, ⟨requested_of rfl, by decide⟩, requested_of rfl, ⟨requested_of rfl, by decide⟩,
   by decide⟩

theorem witness_FirmwareRequests :
    (requested (req 0x10 0 live).mgmt 0x10 0 ∧ live.claimsFree [.slots] = true) ∧
    (requested (req 0x11 2047 live).mgmt 0x11 (0x7FF + (2 ^ 32 - 1) * 2 ^ 32) ∧ ({ live with fwSession := true } : Module).fwSession = true) ∧
    (requested (req 0x12 1 live).mgmt 0x12 1 ∧ requested (req 0x13 1 live).mgmt 0x13 0x101 ∧ (live.slot (1 % 2)).valid = true ∧ bitOf 1 8 = false) ∧
    (requested (req 0x14 0 live).mgmt 0x14 0 ∧ live.fwSession = false) :=
  ⟨⟨requested_of rfl, by decide⟩, ⟨requested_of rfl, rfl⟩, ⟨requested_of rfl, requested_of rfl, by decide⟩, ⟨requested_of rfl, rfl⟩⟩

/-- The CRC-32C of the standard's check string, and of nothing: an empty buffer's chunk agrees with an argument of 0. -/
theorem test_crc32c : crc32c [0x31, 0x32, 0x33, 0x34, 0x35, 0x36, 0x37, 0x38, 0x39] = 0xE3069283 ∧ crc32c [] = 0 := by decide

theorem witness_TestAccessPort :
    (State.reset.jtag.instr ≠ 0x20 ∧ (2 ^ 64 - 1 : Nat) < 2 ^ 64) ∧
    (({ live with power := { live.power with moduleState := 4 } } : Module).power.moduleState = 4 ∧ live.power.moduleState ≠ 4 ∧
      live.bring.stageFailed = false) ∧
    ({ State.reset.jtag with instr := 0x20, challenge := 8 } : Jtag).challenge = 7 + 1 ∧
    ({ State.reset.jtag with instr := 0x20 } : Jtag).challenge ≠ 7 + 1 ∧ State.reset.jtag.unlocked = false ∧
    ({ State.reset.jtag with unlocked := true } : Jtag).unlocked = true := by decide

theorem witness_LogWriter :
    (let l : Log := { pend := [entry] }; l.pend = entry :: [] ∧ 1 ≤ entry.cls ∧ l.entries.length < 4096) ∧ live.log.pend = [] := by decide
theorem witness_LogRing :
    (let l : Log := { entries := List.replicate 4096 entry }; ∃ o rest, l.entries = o :: rest ∧ l.entries.length = 4096 ∧ l.isUnread o = true) ∧
    (2 ^ 31 - 1 : Nat) < 2 ^ 31 ∧ (2 ^ 31 : Nat) < 2 ^ 32 :=
  ⟨⟨entry, List.replicate 4095 entry, by rw [List.replicate_succ], List.length_replicate, rfl⟩, by decide⟩
theorem witness_CommandFrame :
    (live.engine.cmds = [] ∧ specDevExpert.check (pkt 1 0 1 []) live none none = some (stNotPermitted, 0)) ∧
    (let m : Module := { live with fwSession := true }; m.engine.cmds = [] ∧
      specFwVerify.check (pkt 0 0 0xFFFF [(8, 1, 1)]) m none none = none ∧ m.claimsFree [.slots] = false ∧ m.atWorkFence 1 = true) := by decide

theorem witness_DevCommands :
    accepted specDevNop none none [] none (pkt 1 0 1 []) live ∧
    (let c := pkt 0 0 0xFFFF [(8, 8, 4096), (16, 4, 128)]; accepted specDevIdentify (bufferBad c 128) none [] none c live ∧ mayRequest c.fn live) ∧
    (let c := pkt 0 0 0xFFFF [(8, 8, 2), (16, 1, 1)]; accepted specDevExpert (if 1 < pField c 16 1 then some 16 else none) none [] none c live) ∧
    (let c := pkt 1 0 1 [(8, 8, 4096)]; accepted specDevNetQuery (if c.hostOut then none else some 8) none [] none c live ∧ mayRequest c.fn live) ∧
    (let c := pkt 1 0 1 [(8, 8, 4096), (16, 4, 64)]; accepted specTelSnapshot (bufferBad c 64) none [] none c live) ∧
    (let c := pkt 0 0 0xFFFF [(8, 2, 2), (10, 2, 2)]
     let m : Module := { live with bring := { live.bring with ready := false, shortfall := true } }
     accepted specAckShortfall none none [] none c m ∧ m.bring.shortfall = true ∧ m.bring.ready = false ∧ pField c 8 2 = m.enabledCores ∧
       pField c 10 2 = m.usableSlices) :=
  ⟨accepted_of (by decide), ⟨accepted_of (by decide), by unfold mayRequest; decide⟩, accepted_of (by decide),
   ⟨accepted_of (by decide), by unfold mayRequest; decide⟩, accepted_of (by decide), accepted_of (by decide), by decide⟩

theorem witness_DevReset :
    (let c := pkt 0 1 0xFFFF [(8, 1, 6)]
     accepted { specDevReset with early := pField c 8 1 == 6 } (badDevReset c) none [] none c expert ∧ pField c 8 1 = 6 ∧
       expert.thermal.stop = false) ∧
    (let c := pkt 0 1 0xFFFF [(8, 1, 2), (10, 2, 1)]
     accepted { specDevReset with early := pField c 8 1 == 6 } (badDevReset c) none [] none c expert ∧ pField c 8 1 < 6 ∧
       expert.resetFenced (pField c 8 1) (pField c 10 2) = false) :=
  ⟨⟨accepted_of (by decide), by decide⟩, ⟨accepted_of (by decide), by decide⟩⟩

/-- A log with one entry, numbered 1. -/
def logged : Module := { live with log := { entries := [{ entry with seq := 1 }], newest := 1 } }

theorem witness_ErrCommands :
    (let c := pkt 0 0 0xFFFF [(8, 8, 4096), (16, 4, 64), (20, 4, 1)]
     accepted specErrRead (badErrRead c) none [] none c logged ∧
       (logged.log.from_ c.fn (pField c 20 4)).take (pField c 16 4 / 64) = [] ++ [{ entry with seq := 1 }]) ∧
    (let c := pkt 0 0 0xFFFF [(8, 8, 4096), (16, 4, 64), (20, 4, 2)]
     accepted specErrRead (badErrRead c) none [] none c logged ∧ (logged.log.from_ c.fn (pField c 20 4)).take (pField c 16 4 / 64) = []) ∧
    (let c := pkt 0 0 0xFFFF [(8, 4, 1)]; accepted specErrAck (badErrAck c logged) none [] none c logged ∧ logged.log.moves (pField c 8 4) = true) ∧
    (let c := pkt 0 1 0xFFFF [(8, 1, 0xA0), (10, 2, 0)]
     accepted specErrInject (if (eventClass (pField c 8 1)).isNone then some 8 else none) none [] none c expert) :=
  ⟨⟨accepted_of (by decide), by decide⟩, ⟨accepted_of (by decide), by decide⟩, ⟨accepted_of (by decide), by decide⟩, accepted_of (by decide)⟩

theorem witness_TestAndCalibration :
    (let c := pkt 1 0 1 [(8, 2, 1), (10, 1, 8)]
     accepted specTestMemory (badTestMemory c live) none (testClaims (cmdPart c) [Claim.slice (pField c 8 2)]) (some (cmdPart c)) c live ∧
       pField c 8 2 < Config.sites ∧ live.partLive (cmdPart c) = true ∧ (live.part (cmdPart c)).root = 0 ∧ (live.slice (pField c 8 2)).state ≠ 2 ∧
       ∀ g < 4, live.held (stackOfSite (pField c 8 2) * 4 + g) = false) ∧
    (let c := pkt 1 0 1 [(8, 1, 7), (9, 1, 7)]
     accepted specTestKnownAnswer (if 31 < pField c 8 1 then some 8 else if 7 < pField c 9 1 then some 9 else none) none
       (testClaims (cmdPart c) []) (some (cmdPart c)) c live ∧ live.partLive (cmdPart c) = true ∧ bitOf (testEngines c) 4 = false ∧
       bitOf (testEngines c) 3 = false) ∧
    (let c := pkt 0 0 0xFFFF [(8, 2, 639)]
     accepted specCalRegulator none none [.record] none c live ∧ pField c 8 2 < 640 ∧ live.thermal.stop = false ∧ live.calSkips (pField c 8 2) = false) ∧
    (let c := pkt 0 0 0xFFFF [(8, 1, 39)]
     accepted specCalDeskew none none [.record, .stack (pField c 8 1)] none c live ∧ pField c 8 1 < 40 ∧
       (clustersUnder (pField c 8 1)).all live.calSkips = false ∧ SMap.get 0 live.clocks.deskewAt (pField c 8 1) = 0) ∧
    (let c := pkt 0 0 0xFFFF [(8, 2, 3841)]; accepted specCalSensor none none [] none c live ∧ pField c 8 2 < 3842) ∧
    (let c := pkt 0 1 0xFFFF [(8, 1, 12), (9, 1, 15)]
     accepted specCalBridge none none [.group (pField c 8 1) (pField c 9 1), .record] none c expert ∧ pField c 8 1 < Config.bridges ∧
       pField c 9 1 ≤ 15 ∧ expert.groupUp (pField c 8 1) (pField c 9 1) = true ∧ expert.bridgeDown (pField c 8 1) = false) :=
  ⟨⟨accepted_of (by decide), by decide⟩, ⟨accepted_of (by decide), by decide⟩, ⟨accepted_of (by decide), by decide⟩,
   ⟨accepted_of (by decide), by decide⟩, ⟨accepted_of (by decide), by decide⟩, ⟨accepted_of (by decide), by decide⟩⟩


/-- A partition is stopping. -/
def stopping : Module := { live with parts := { parts := [(1, { state := 3 })] } }

theorem witness_PartitionLifecycle :
    (let c := fed (pkt 0 0 3 [(8, 8, 4096), (28, 4, 8), (32, 8, 0x20000)]) ([2] ++ List.replicate 79 0)
     let m : Module := { live with cores := [(16, { enabled := true })], mem := { slices := [(16, { state := 0 })] } }
     let c2 := fed (pkt 0 0 3 [(8, 8, 4096), (28, 4, 8), (32, 8, 0x200020000)]) ([2] ++ List.replicate 79 0)
     accepted specPartCreate (badPartCreate c2 m) none [.partition c2.partition, .tables c2.partition, .epoch] none c2 m ∧
       (m.part c.partition).state = 0 ∧ (bitmapClusters (hostData c2)).all (fun k => (m.cl k).owner.isNone) = true ∧
       (bitmapClusters (hostData c2)).any (fun k => (sitesOf k).any (fun x => (m.slice x).state != 2)) = true ∧
       (m.rootPlace c2).isSome = true) ∧
    (let c := pkt 0 0 2 []; accepted specPartEnable none none [.partition c.partition, .tables c.partition] none c live ∧
       (live.part c.partition).state = 5) ∧
    (let c := pkt 0 0 2 [(10, 2, 10000)]
     accepted specPartDisable (badDisable c) none [.partition c.partition, .tables c.partition] none c live ∧ (live.part c.partition).state = 5) ∧
    (let c := pkt 0 0 1 []
     accepted specPartDisable (badDisable c) none [.partition c.partition, .tables c.partition] none c live ∧ (live.part c.partition).state = 2 ∧
       live.joins c.partition (.partition c.partition) = none ∧ pField c 9 1 = 0) ∧
    (let c := pkt 0 0 1 [(9, 1, 1)]; accepted specPartDisable (badDisable c) none [] none c stopping ∧ (stopping.part c.partition).state = 3) ∧
    (let c := pkt 0 0 1 [(9, 1, 1)]
     accepted specPartDestroy (badDisable c) none [.partition c.partition, .tables c.partition, .epoch] none c live ∧
       (live.part c.partition).state = 2) ∧
    (let c := pkt 0 0 2 []
     accepted specPartDestroy (badDisable c) none [.partition c.partition, .tables c.partition, .epoch] none c live ∧
       (live.part c.partition).state = 5) :=
  ⟨⟨accepted_of (by decide), by decide⟩, ⟨accepted_of (by decide), by decide⟩, ⟨accepted_of (by decide), by decide⟩,
   ⟨accepted_of (by decide), by decide⟩, ⟨accepted_of (by decide), by decide⟩, ⟨accepted_of (by decide), by decide⟩,
   ⟨accepted_of (by decide), by decide⟩⟩

theorem test_walk : tabled.walk 1 0x12345 3 = .ok 0x12345 ∧ tabled.walk 1 (2 ^ 29) 3 = .fault 1 none := by decide

theorem witness_PartitionSettings_plain :
    (let c := pkt 0 0 1 [(8, 1, 15), (18, 2, 1000)]
     accepted specPartConfig (badPartConfig c live) none [.partition c.partition, .tables c.partition] none c live ∧
       live.partLive c.partition = true) ∧
    (let c := pkt 0 0 1 [(8, 8, 4096), (16, 4, 128)]; accepted specPartQuery (bufferBad c 128) none [] none c live ∧ mayRequest c.fn live) ∧
    (let c := pkt 0 0 1 [(8, 8, 0x1F7F0000), (16, 4, 1)]
     accepted specPartPool (badPartPool c live) none [.partition c.partition, .tables c.partition] none c live ∧
       live.partLive c.partition = true ∧ (live.part c.partition).pool.length < 16) :=
  ⟨⟨accepted_of (by decide), by decide⟩, ⟨accepted_of (by decide), by unfold mayRequest; decide⟩, ⟨accepted_of (by decide), by decide⟩⟩

theorem witness_PartitionSettings_unmap :
    let c := pkt 1 0 1 [(8, 8, 2 ^ 29), (16, 8, 65536)]
    accepted specPartUnmap (badPartUnmap c live) none [.tables (cmdPart c)] none c live ∧ live.partLive (cmdPart c) = true ∧
      anyEngine live (fun m => ∃ x, m.unmapped c = .ok x) :=
  ⟨accepted_of (by decide), by decide, fun e => ok_of (by cbv)⟩

theorem test_striped : isOk (tabled.striped (fed (pkt 1 0 1 [(8, 8, 2 ^ 29), (16, 4, 256), (20, 1, 2), (21, 1, 7), (24, 8, 0x300000),
    (32, 8, 4096)]) [0, 0, 1, 0])) = true := by decide +kernel

theorem witness_PartitionSettings_stripe :
    let c := fed (pkt 1 0 1 [(8, 8, 2 ^ 29), (16, 4, 256), (20, 1, 2), (21, 1, 7), (24, 8, 0x300000), (32, 8, 4096)]) [0, 0, 1, 0]
    accepted specPartStripe (badPartStripe c tabled) none [.tables (cmdPart c)] none c tabled ∧ tabled.partLive (cmdPart c) = true ∧
      anyEngine tabled (fun m => ∃ x, m.striped c = .ok x) := by
  refine ⟨accepted_of (by decide), by decide, fun e => ?_⟩
  obtain ⟨x, hx⟩ := ok_of test_striped
  exact ⟨Laws.eng e x, (Laws.striped_eng e tabled _).trans (congrArg _ hx)⟩

/-- An entry of PART.MAP: 512 MiB at 512 MiB, slice 1, all rights. -/
def mapping : List Byte := leBytes 6 (2 ^ 29) ++ [2, 7] ++ leBytes 6 (2 ^ 29) ++ [0, 0]

theorem test_mapped : (tabled.mapEntries (fed (pkt 1 0 1 [(8, 8, 4096), (16, 4, 1)]) mapping)).map (fun r => r.2) = some [stOk] := by
  decide +kernel

theorem witness_PartitionSettings_map :
    let c := fed (pkt 1 0 1 [(8, 8, 4096), (16, 4, 1)]) mapping
    accepted specPartMap (badPartMap c) none [.tables (cmdPart c)] none c tabled ∧ tabled.partLive (cmdPart c) = true ∧
      anyEngine tabled (fun m => (m.mapEntries c).isSome = true) := by
  refine ⟨accepted_of (by decide), by decide, fun e => ?_⟩
  refine (congrArg Option.isSome (Laws.mapEntries_eng e tabled _)).trans ?_
  have h := congrArg Option.isSome test_mapped
  simpa using h

/-- `tabled` with a shard map at address 0x200000 of one part, core site 0, elements from address 0x30 on. -/
def mapped : Module :=
  { tabled with mem := { tabled.mem with bytes := tabled.mem.bytes ++
      [(0x200001, 1), (0x200010, 1), (0x200014, 1), (0x200018, 1), (0x20001C, 1), (0x200020, 4), (0x200042, 1), (0x200048, 0x80),
       (0x20004A, 0x20), (0x200052, 1), (0x20005A, 1), (0x200062, 1), (0x20006A, 1), (0x200088, 0x30)] } }

theorem test_mapped_memory : SMap.wf (0 : Byte) mapped.mem.bytes = true := by decide

/-- The shard map as it is read. -/
def oneShard : Shard :=
  { fmt := 0, rank := 1, shape := [1, 1, 1, 1], stride := [4, 0, 0, 0], kind := 0, parts := 1,
    dims := [⟨0, 1, 0⟩, ⟨0, 1, 0⟩, ⟨0, 1, 0⟩, ⟨0, 1, 0⟩], list := 0x200080, units := [(0, 0x30)] }

theorem shard_any : ∀ (e : Engine) (off : Nat), ({ mapped with engine := e } : Module).shard 1 0x200000 off = .ok oneShard := by
  intro e off; cbv

/-- `live` after one packet of partition 1's work ring. -/
def worked : Module := { live with port := { live.port with works := [(1, { seq := 1 })] } }

theorem witness_WorkCancel :
    (let c := pkt 1 0 1 [(16, 8, 0)]
     accepted specWorkCancel (badWorkCancel c worked) none [] none c worked ∧ worked.partLive (cmdPart c) = true ∧
       anyEngine worked (fun m => m.cancelTargets c = [])) ∧
    (let c := pkt 1 0 1 [(8, 1, 1), (9, 1, 1), (16, 8, 0)]
     let m : Module := { live with parts := { parts := [(1, { state := 2, nextCtx := 1, contexts := [{ num := 0, site := 0, item := item, saved := false }] })] } }
     accepted specWorkCancel (badWorkCancel c m) none [] none c m ∧ m.partLive (cmdPart c) = true ∧ anyEngine m (fun m => m.cancelTargets c ≠ [])) :=
  ⟨⟨accepted_of (by decide), by decide, fun e => by cbv⟩, ⟨accepted_of (by decide), by decide, fun e => by cbv; simp⟩⟩

theorem witness_WorkTree :
    (let c := pkt 1 0 1 [(8, 1, 7), (10, 2, 0), (16, 8, 0x200000)]
     accepted specWorkTree (badWorkTree c) none (mapped.treeClaims c) none c mapped ∧ mapped.partLive (cmdPart c) = true ∧ pField c 9 1 = 0 ∧ mapped.poolMoving (cmdPart c) = false ∧
       anyEngine mapped (fun m => m.shard (cmdPart c) (pField c 16 8) 16 = .ok oneShard) ∧ oneShard.kind ≤ 1 ∧
       pField c 10 2 ∈ mapped.treeMembers oneShard ∧
       (mapped.treeDecks (pField c 10 2) (mapped.treeMembers oneShard)).all (fun d => (mapped.tree d (pField c 8 1)).isNone) = true) ∧
    (let c := pkt 1 0 1 [(9, 1, 1)]
     accepted specWorkTree (badWorkTree c) none (live.treeClaims c) none c live ∧ live.partLive (cmdPart c) = true ∧ pField c 9 1 ≠ 0 ∧
       live.treeBusy (cmdPart c) (pField c 8 1) = false) :=
  ⟨⟨accepted_of (by decide +kernel), by decide, by decide, by decide, fun e => shard_any e 16, by decide, by decide, by decide⟩, ⟨accepted_of (by decide), by decide⟩⟩

theorem witness_WorkCollective :
    let c := pkt 1 0 1 [(8, 1, 0), (9, 1, 7), (16, 8, 0x200000), (24, 8, 0x200000)]
    accepted specWorkCollective (badWorkCollective c) none (mapped.collClaims c) none c mapped ∧ mapped.partLive (cmdPart c) = true ∧
      mapped.poolMoving (cmdPart c) = false ∧
      anyEngine mapped (fun m => m.shard (cmdPart c) (pField c 16 8) 16 = .ok oneShard ∧ m.shard (cmdPart c) (pField c 24 8) 24 = .ok oneShard ∧
        ∀ id, ∃ k, m.newColl c id oneShard oneShard = .ok k ∧ k.partners.all (fun d => (m.egress d).isSome) = true) ∧
      collBad (pField c 8 1) oneShard oneShard = none ∧
      (mapped.decksOf (cmdPart c)).all (fun d => (mapped.tree d (pField c 9 1)).isNone) = true :=
  ⟨accepted_of (by decide), by decide, by decide, fun e => ⟨shard_any e 16, shard_any e 24, fun id => ⟨_, by rw [show ({ mapped with engine := e } : Module).newColl
      (pkt 1 0 1 [(8, 1, 0), (9, 1, 7), (16, 8, 0x200000), (24, 8, 0x200000)]) id oneShard oneShard = _ by cbv], by cbv⟩⟩, by decide, by decide⟩

/-- MEM.BANKOP: BK.ROW ZERO of bank 0's row 0, partition scope. -/
def zeroRow : Cmd := pkt 1 0 1 [(8, 1, 0x50), (9, 1, 0x31), (10, 1, 2), (16, 1, 1), (26, 2, 1)]
theorem witness_MemBankop :
    accepted specBankop (badBankop zeroRow) (needBankop zeroRow) [] none zeroRow live ∧ rowsBad (bkRecord zeroRow) = false ∧
      ((bkRec (bkRecord zeroRow)).scope = 3 → zeroRow.fn = 0) ∧
      live.partLive (cmdPart zeroRow) = true ∧
      ((bkRec (bkRecord zeroRow)).scope = 1 → (live.cl (pField zeroRow 40 2)).owner = some (cmdPart zeroRow)) :=
  ⟨accepted_of (by decide), by decide⟩

theorem witness_MemoryCommands :
    (let c := pkt 1 0 1 [(8, 2, 1)]
     accepted specMemQuery (badSite c) none [] none c live ∧ (c.fn ≠ 0 → (live.cl (clusterOf (pField c 8 2))).owner = some c.fn)) ∧
    (let c := pkt 0 0 0xFFFF [(8, 2, 168)]
     accepted specScrubConfig (if 168 < pField c 8 2 then some 8 else none) (if pField c 8 2 = 0 then some 8 else none) [] none c live) ∧
    (let c := pkt 0 1 0xFFFF [(8, 2, 1), (10, 4, 0x00000408)]
     accepted specArbConfig (badArbConfig c) none [] none c expert ∧ pField c 8 2 ≠ 0xFFFF ∧ (expert.slice (pField c 8 2)).state ≠ 2) ∧
    (let c := pkt 0 1 0xFFFF [(8, 2, 0xFFFF)]; accepted specArbConfig (badArbConfig c) none [] none c expert ∧ pField c 8 2 = 0xFFFF) ∧
    (let c := pkt 0 0 0xFFFF [(8, 8, 4096), (16, 4, 16)]; accepted specListRetired (bufferBad c 0) none [] none c live ∧ mayRequest c.fn live) ∧
    (let c := pkt 0 0 0xFFFF [(8, 8, 2048), (16, 4, 1)]
     accepted specClearPoison (badRows c live) none (live.rowClaims c) none c live ∧ live.cmdRows c = some [(0, 1)] ∧
       ∀ r ∈ [((0 : Nat), (1 : Nat))], (live.slice r.1).state ≠ 2 ∧ (live.slice r.1).selfRefresh = false ∧ live.rowHeld r.1 r.2 = false) ∧
    (let c := pkt 0 1 0xFFFF [(8, 8, 2048), (16, 4, 1), (20, 1, 1)]
     accepted specScrubRange (if (expert.cmdRows c).isNone then some 8 else if 1 < pField c 20 1 then some 20 else none)
       (if pField c 20 1 = 1 then some 20 else none) (expert.rowClaims c) none c expert ∧ expert.cmdRows c = some [(0, 1)] ∧
       (expert.slice 0).state ≠ 2 ∧ expert.rowRetired 0 1 = false) :=
  ⟨⟨accepted_of (by decide), by decide⟩, accepted_of (by decide), ⟨accepted_of (by decide), by decide⟩, ⟨accepted_of (by decide), by decide⟩,
   ⟨accepted_of (by decide), by unfold mayRequest; decide⟩, ⟨accepted_of (by decide), by decide⟩, ⟨accepted_of (by decide), by decide⟩⟩

/-- `live` with cluster 0 in no partition. -/
def unowned : Module := { live with clusters := [] }

theorem witness_Retirement :
    (let c := pkt 0 0 0xFFFF [(8, 8, 0x1F7F0000)]
     accepted specRetirePage (badRetirePage c) none (unowned.retireClaims (siteOfAddr (pField c 8 8))) none c unowned ∧
       (unowned.slice (siteOfAddr (pField c 8 8))).state ≠ 2 ∧
       unowned.offRetired (siteOfAddr (pField c 8 8)) (offOfAddr (pField c 8 8)) = false ∧ unowned.recordRoom 3 = true ∧
       (unowned.cl (clusterOf (siteOfAddr (pField c 8 8)))).owner = none) ∧
    (let c := pkt 0 0 0xFFFF [(8, 8, 0x1F7F0000)]
     accepted specRetirePage (badRetirePage c) none (live.retireClaims (siteOfAddr (pField c 8 8))) none c live ∧
       (live.slice (siteOfAddr (pField c 8 8))).state ≠ 2 ∧ live.offRetired (siteOfAddr (pField c 8 8)) (offOfAddr (pField c 8 8)) = false ∧
       live.recordRoom 3 = true ∧ anyEngine live (fun m => ∃ x, m.takePageOut (pField c 8 8) = .ok x)) ∧
    (let c := pkt 0 0 0xFFFF [(8, 2, 1), (10, 1, 63)]
     accepted specRetireBank (badRetireBank c) none (live.retireClaims (pField c 8 2)) (live.cl (clusterOf (pField c 8 2))).owner c live ∧
       (live.slice (pField c 8 2)).state ≠ 2 ∧ (live.slice (pField c 8 2)).retiredBank = none ∧ live.recordRoom 4 = true ∧
       anyEngine live (fun m => ∃ x, ((m.decodeBank (pField c 8 2) (pField c 10 1) []).bankRetired (pField c 8 2) (pField c 10 1)).tablesFollow
         (m.cl (clusterOf (pField c 8 2))).owner = .ok x)) ∧
    (let c := pkt 0 0 0xFFFF [(8, 2, 1)]
     accepted specRetireSlice (badSite c) none (live.retireClaims (pField c 8 2)) none c live ∧ (live.slice (pField c 8 2)).state ≠ 2 ∧
       live.recordRoom 2 = true) :=
  ⟨⟨accepted_of (by decide), by decide⟩, ⟨accepted_of (by decide), by decide, by decide, by decide, fun e => ok_of (by cbv)⟩,
   ⟨accepted_of (by decide), by decide, by decide, by decide, fun e => ok_of (by cbv)⟩, ⟨accepted_of (by decide), by decide⟩⟩

theorem witness_PowerCommands :
    (let c := pkt 0 0 0xFFFF [(8, 2, 1500)]
     accepted specPwrLimit (if pField c 8 2 < 1500 ∨ 4400 < pField c 8 2 then some 8 else none) none [.power] none c live) ∧
    (let c := pkt 0 0 0xFFFF [(8, 1, 3), (9, 1, 0xFF)]
     let m : Module := { live with parts := {} }
     accepted specPwrLadder (badPwrLadder c) none [.power] none c m ∧ pField c 8 1 = 3 ∧ m.sealOk (pField c 9 1) = true) ∧
    (let c := pkt 0 0 0xFFFF [(8, 1, 2)]; accepted specPwrLadder (badPwrLadder c) none [.power] none c live ∧ (pField c 8 1 = 1 ∨ pField c 8 1 = 2)) ∧
    (let c := pkt 0 0 0xFFFF []
     accepted specPwrLadder (badPwrLadder c) none [.power] none c live ∧ pField c 8 1 = 0 ∧ live.thermal.stop = false) ∧
    (let c := pkt 0 0 0xFFFF [(8, 1, 4)]
     let m : Module := { live with parts := {} }
     accepted specPwrLadder (badPwrLadder c) none [.power] none c m ∧ pField c 8 1 = 4 ∧
       (List.range 64).all (fun n => (m.part n).state != 2) = true) ∧
    (let c := pkt 0 1 0xFFFF [(8, 1, 1), (9, 1, 1)]
     accepted specPwrFeed (if 1 < pField c 8 1 then some 8 else if 1 < pField c 9 1 then some 9 else none) none [.power] none c expert ∧
       (pField c 9 1 = 1 → (expert.feed (1 - pField c 8 1)).ok = true)) ∧
    (let c := pkt 1 0 1 [(8, 1, 4)]
     accepted specPwrOppoint (if 7 < pField c 8 1 then some 8 else none) (if 4 < pField c 8 1 then some 8 else none) [] none c live ∧
       live.partLive (cmdPart c) = true) ∧
    (let c := pkt 0 0 0xFFFF [(8, 8, 4096), (16, 4, 4096), (22, 2, 1), (24, 2, 1024)]
     accepted specPwrCurrent (badPwrCurrent c) none [] none c live ∧ mayRequest c.fn live) ∧
    (let c := fed (pkt 0 1 0xFFFF [(8, 8, 4096), (16, 1, 1), (18, 2, 900), (20, 2, 700)]) ([2] ++ List.replicate 79 0)
     let m : Module := { expert with clusters := [(0, { owner := some 1 }), (1, { ladder := 2 })] }
     accepted specPwrView (badPwrView c) none [.power] none c m ∧ (viewClusters c).all m.viewOk = true) :=
  ⟨accepted_of (by decide), ⟨accepted_of (by decide), by decide⟩, ⟨accepted_of (by decide), by decide⟩, ⟨accepted_of (by decide), by decide⟩,
   ⟨accepted_of (by decide), by decide⟩, ⟨accepted_of (by decide), by decide⟩, ⟨accepted_of (by decide), by decide⟩,
   ⟨accepted_of (by decide), by unfold mayRequest; decide⟩, ⟨accepted_of (by decide), by decide⟩⟩

theorem witness_ThermalCommands :
    (let c := pkt 0 0 0xFFFF [(8, 8, 4096), (16, 4, 8)]; accepted specThmSensors (bufferBad c 8) none [] none c live ∧ mayRequest c.fn live) ∧
    (let c := pkt 0 0 0xFFFF [(8, 1, 7), (10, 2, 450), (12, 1, 10), (14, 2, 2000)]
     accepted specThmConfig (badThmConfig c) (if bitOf (pField c 8 1) 0 ∧ pField c 10 2 < 450 then some 10 else none) [] none c live) ∧
    (let c := pkt 0 0 0xFFFF []; accepted specThmResume none none [] none c live ∧ live.thermal.stop = false) ∧
    (let c := pkt 0 0 0xFFFF []
     let m : Module := { live with time := 20000000, thermal := { live.thermal with stop := true, flowOkSince := some 0, coolSince := some 0 } }
     accepted specThmResume none none [] none c m ∧ m.thermal.stop = true ∧ m.resumeOk = true) :=
  ⟨⟨accepted_of (by decide), by unfold mayRequest; decide⟩, accepted_of (by decide), ⟨accepted_of (by decide), by decide⟩,
   ⟨accepted_of (by decide), by decide⟩⟩

theorem witness_FabricCommands :
    (let c := pkt 0 0 0xFFFF [(8, 8, 4096), (16, 4, 256)]
     accepted specFabQuery (bufferBad c 256) none [] none c live ∧ mayRequest c.fn live ∧ live.isHead = false) ∧
    (let c := pkt 0 0 0xFFFF [(8, 8, 4096), (16, 4, 256)]
     accepted specFabQuery (bufferBad c 256) none [] none c lead ∧ mayRequest c.fn lead ∧ lead.isHead = true) ∧
    (let c := pkt 0 1 0xFFFF [(8, 1, 2)]; accepted specFabRole (if 2 < pField c 8 1 then some 8 else none) none [] none c expert) ∧
    (let c := pkt 0 0 0xFFFF [(8, 1, 3)]
     let m : Module := { live with fab := { live.fab with ports := [{}, {}, {}, { state := 4 }] } }
     accepted specFabPort (badFabPort c) none [] none c m ∧ pField c 12 1 = 0 ∧ (m.fport (pField c 8 1)).state = 4) ∧
    (let c := pkt 0 0 0xFFFF [(8, 1, 3), (9, 1, 1)]
     accepted specFabPort (badFabPort c) none [] none c live ∧ pField c 12 1 = 0 ∧ (live.fport (pField c 8 1)).state ≠ 4) ∧
    (let c := pkt 0 0 0xFFFF [(12, 1, 1)]; accepted specFabPort (badFabPort c) none [] none c live ∧ pField c 12 1 = 1 ∧ live.fab.ports.length = 4) ∧
    (let c := pkt 0 0 0xFFFF [(12, 1, 2)]
     accepted specFabPort (badFabPort c) none [] none c live ∧ pField c 12 1 = 2 ∧ live.fab.ports.length = 4 ∧
       (live.fport (pField c 8 1)).state ≠ 4) :=
  ⟨⟨accepted_of (by decide), by unfold mayRequest; decide⟩, ⟨accepted_of (by decide), by unfold mayRequest; decide⟩, accepted_of (by decide),
   ⟨accepted_of (by decide), by decide⟩, ⟨accepted_of (by decide), by decide⟩, ⟨accepted_of (by decide), by decide⟩,
   ⟨accepted_of (by decide), by decide⟩⟩

/-- A power-cap profile prepared here for this module alone. -/
def staged : Staged := ⟨2, 0, profile, 0, true, false, [], [], none, [], none, none⟩
/-- A module that holds it. -/
def holding : Module := { live with epochs := { live.epochs with staged := [staged] } }

theorem witness_ModeCommands :
    accepted specModeQuery none none [] none (pkt 0 0 0xFFFF []) live ∧
    (let c := fed (pkt 0 0 0xFFFF [(8, 1, 2), (12, 4, live.epochs.epoch), (16, 8, 4096), (24, 4, 72)]) profile
     accepted specModePrepare (badModePrepare c) (needModePrepare c) ([.epoch] ++ (if pField c 8 1 = 2 then [.power] else [])) none c live ∧
       pField c 9 1 = 0 ∧ pField c 12 4 = live.epochs.epoch ∧ (pField c 8 1 = 1 → live.isLead = false)) ∧
    (let c := fed (pkt 0 0 0xFFFF [(8, 1, 2), (9, 1, 2), (12, 4, lead.epochs.epoch), (16, 8, 4096), (24, 4, 72)]) profile
     accepted specModePrepare (badModePrepare c) (needModePrepare c) ([.epoch] ++ (if pField c 8 1 = 2 then [.power] else [])) none c lead ∧
       pField c 9 1 ≠ 0 ∧ lead.fabricOpen = true ∧ lead.tierOk (pField c 9 1) = true ∧ pField c 12 4 = lead.epochs.epoch ∧
       (pField c 8 1 = 1 → lead.isLead = false)) ∧
    (let c := pkt 0 0 0xFFFF [(8, 1, 2), (12, 4, holding.epochs.epoch + 1)]
     accepted specModeCommit (if 2 < pField c 8 1 then some 8 else none) none [] none c holding ∧
       holding.stagedOf (pField c 8 1) = some staged ∧ staged.mine = true ∧ staged.cmd = none ∧ staged.pausing = none ∧ staged.scope = 0 ∧
       staged.kind = 2 ∧ holding.flight.heldPkts = [] ∧ seqNewer (pField c 12 4) (holding.newestAck staged) = true ∧
       seqNewer (pField c 12 4) holding.epochs.epoch = true) ∧
    (let c := pkt 0 0 0xFFFF [(8, 1, 1)]
     accepted specModeAbort (if 2 < pField c 8 1 then some 8 else none) none [] none c live ∧ live.stagedOf (pField c 8 1) = none) ∧
    (let c := pkt 0 0 0xFFFF [(8, 1, 2)]
     accepted specModeAbort (if 2 < pField c 8 1 then some 8 else none) none [] none c holding ∧
       holding.stagedOf (pField c 8 1) = some staged ∧ staged.kind ≠ 1 ∧ staged.kind ≠ 255 ∧
       (staged.mine = true → staged.scope = 0 ∧ staged.auto = false ∧ staged.cmd = none ∧ staged.commit = none)) :=
  ⟨accepted_of (by decide), ⟨accepted_of (by decide), by decide⟩, ⟨accepted_of (by decide), by decide⟩, ⟨accepted_of (by decide), by decide⟩,
   ⟨accepted_of (by decide), by decide⟩, ⟨accepted_of (by decide), by decide⟩⟩

theorem witness_FirmwareCommands :
    (let c := pkt 0 0 0xFFFF [(8, 8, 4096), (16, 4, 64)]; accepted specFwQuery (bufferBad c 64) none [] none c live ∧ mayRequest c.fn live) ∧
    (let c := pkt 0 0 0xFFFF [(8, 1, 1)]
     accepted specFwVerify (if 1 < pField c 8 1 then some 8 else none) none [.slots] none c live ∧ live.bring.slots.length = 2) ∧
    (let c := pkt 0 0 0xFFFF [(8, 1, 1)]
     accepted specFwActivate (if 1 < pField c 8 1 then some 8 else if 1 < pField c 9 1 then some 9 else none)
       (if pField c 9 1 = 1 then some 9 else none) [.slots] none c live ∧ pField c 9 1 = 0 ∧ (live.slot (pField c 8 1)).valid = true) ∧
    (let c := pkt 0 1 0xFFFF [(8, 1, 1), (9, 1, 1)]
     accepted specFwActivate (if 1 < pField c 8 1 then some 8 else if 1 < pField c 9 1 then some 9 else none)
       (if pField c 9 1 = 1 then some 9 else none) [.slots] none c expert ∧ pField c 9 1 = 1 ∧ (expert.slot (pField c 8 1)).valid = true) ∧
    (let c := fed (pkt 0 1 0xFFFF [(8, 8, 4096), (16, 4, 9), (20, 4, 0xE3069283)]) [0x31, 0x32, 0x33, 0x34, 0x35, 0x36, 0x37, 0x38, 0x39]
     accepted specFwMicrocode (badFwMicrocode c) none [.epoch, .slots] none c expert ∧ crc32c (hostData c) = pField c 20 4 ∧ 7 < 2 ^ 32) ∧
    (let c := pkt 0 0 0xFFFF [(8, 1, 1), (9, 1, 2)]
     accepted specFwBroadcast (badFwBroadcast c) none [.slots] none c lead ∧ lead.fabricOpen = true ∧ lead.tierOk (pField c 9 1) = true ∧
       (lead.slot (pField c 8 1)).valid = true ∧ lead.others = []) :=
  ⟨⟨accepted_of (by decide), by unfold mayRequest; decide⟩, ⟨accepted_of (by decide), by decide⟩, ⟨accepted_of (by decide), by decide⟩,
   ⟨accepted_of (by decide), by decide⟩, ⟨accepted_of (by decide), by decide⟩, ⟨accepted_of (by decide), by decide⟩⟩

/-- A chunk of zeros. -/
def zeros : List Byte := List.replicate 4096 0
/-- The CRC register after each 128 bytes of it, computed with the polynomial outside Lean. -/
def crcSteps : List (BitVec 32) :=
  [0xF7D89B24, 0x478D4E6F, 0x4509D0C9, 0xCF03123F, 0x1FD80331, 0xC5C4C2F9, 0x0D77C4C0, 0x11512183,
   0xA8448891, 0x72802FED, 0x6B47581E, 0x0A6FD2D2, 0xFBD7265A, 0x5BCB999C, 0x50E61FFC, 0x5B767CB0,
   0x22B79A12, 0x13CA39CB, 0xE41FC7CF, 0x4DF00A81, 0x278B2FA4, 0x24571252, 0xD84843AE, 0xDF52BE5C,
   0xF18F24B4, 0x0A82160E, 0x17AB347E, 0xF76F41EA, 0x81BD34D5, 0x142AC051, 0x54AF813B, 0x6706BE76]
/-- Each step follows from the one before. -/
def crcChained : BitVec 32 → List (BitVec 32) → Bool
  | _, [] => true
  | x, y :: l => (List.replicate 128 0).foldl crcByte x == y && crcChained y l
theorem crcChained_last (l : List (BitVec 32)) (x : BitVec 32) (h : crcChained x l = true) :
    (List.replicate (128 * l.length) 0).foldl crcByte x = l.getLast?.getD x := by
  induction l generalizing x with
  | nil => rfl
  | cons y l ih =>
    simp only [crcChained, Bool.and_eq_true, beq_iff_eq] at h
    rw [List.length_cons, Nat.mul_succ, Nat.add_comm, ← List.replicate_append_replicate, List.foldl_append, h.1, ih y h.2]
    cases l <;> simp [List.getLast?_cons]
theorem test_crc_zeros : crc32c zeros = 0x98F94189 := by
  have h := crcChained_last crcSteps (BitVec.allOnes 32) (by decide +kernel)
  unfold crc32c
  rw [show zeros = List.replicate (128 * crcSteps.length) 0 from rfl, h]
  decide

set_option maxRecDepth 100000 in
theorem witness_FwWrite :
    let c := fed (pkt 0 0 0xFFFF [(8, 8, 4096), (16, 4, 4096), (20, 4, 4096), (24, 4, 0x98F94189)]) zeros
    accepted specFwWrite (badFwWrite c) none [.slots] none c live ∧ crc32c (hostData c) = pField c 24 4 ∧ live.bring.slots.length = 2 :=
  ⟨accepted_of (by decide +kernel), test_crc_zeros, by decide⟩

theorem witness_ControlDescriptors :
    (let d := dsc 0x00 []; issuable 0x00 d busy ∧ fits d.bytes [] = true) ∧
    (let d := dsc 0x00 [(31, 1, 1)]; issuable 0x00 d busy ∧ fits d.bytes [] = false) ∧
    (let d := dsc 0x01 [(4, 4, 2 ^ 32 - 1)]; issuable 0x01 d busy ∧ fits d.bytes [(4, 0xFFFFFFFF)] = true ∧ (thOf d busy).flight = []) ∧
    (let d := dsc 0x01 []
     let m := busyTh { flight := [⟨0, 0, [], 0, 0, [], false⟩] }
     issuable 0x01 d m ∧ fits d.bytes [(4, 0xFFFFFFFF)] = true ∧ (thOf d m).flight ≠ []) ∧
    (let ok (d : Desc) (m : Module) : Prop := issuable 0x02 d m ∧
       fits d.bytes [(1, 0xFF), (2, 0x77), (4, 0xFFFFFFFF), (8, 2 ^ 64 - 1), (16, 2 ^ 64 - 1)] = true ∧ getLe d.bytes 1 1 ≠ 0 ∧
       ¬ (getLe d.bytes 2 1 / 16 % 8 = 0 ∧ getLe d.bytes 16 8 ≠ 0) ∧
       (∀ i < getLe d.bytes 1 1 - 1, getLe (m.peek d.site d.thread (thOf d m).pc (i + 1)) 0 1 ∉ [0x01, 0x04, 0x06])
     (let d := dsc 0x02 [(1, 1, 2)]; ok d busy ∧ getLe d.bytes 4 4 = 0) ∧
     (let d := dsc 0x02 [(1, 1, 2), (4, 4, 1)]
      let m := busyTh { stack := List.replicate 8 (.call 0x2000) }
      ok d m ∧ getLe d.bytes 4 4 ≠ 0 ∧ 8 ≤ (thOf d m).stack.length) ∧
     (let d := dsc 0x02 [(1, 1, 2), (4, 4, 1)]; ok d busy ∧ getLe d.bytes 4 4 ≠ 0 ∧ (thOf d busy).stack.length < 8)) ∧
    (let d := dsc 0x03 [(1, 1, 1), (4, 4, 2 ^ 32 - 1)]
     issuable 0x03 d busy ∧ fits d.bytes [(1, 0xFF), (2, 7), (4, 0xFFFFFFFF), (8, 2 ^ 64 - 1)] = true ∧
       branchTaken (busy.core 0) (thOf d busy) 1 (getLe d.bytes 2 1) (getLe d.bytes 8 8) = true ∧ (busy.core 0).programOk 0 (0x1000 - 32) = true) ∧
    (let d := dsc 0x03 [(1, 1, 6), (2, 1, 15)]
     issuable 0x03 d busy ∧ fits d.bytes [(1, 0xFF), (2, 15), (4, 0xFFFFFFFF), (8, 2 ^ 32 - 1)] = true ∧ (busy.core 0).owns 0 15 = true ∧
       branchTaken (busy.core 0) (thOf d busy) 6 (getLe d.bytes 2 1) (getLe d.bytes 8 8) = false) ∧
    (let d := dsc 0x04 [(8, 8, 0x2000)]
     issuable 0x04 d busy ∧ fits d.bytes [(2, 7), (8, 2 ^ 64 - 1)] = true ∧
       (busy.core 0).programOk 0 (addReg (thOf d busy) (getLe d.bytes 8 8) (getLe d.bytes 2 1 % 8)) = true) ∧
    (let d := dsc 0x05 [(8, 8, 0x2000)]
     issuable 0x05 d busy ∧ fits d.bytes [(2, 7), (8, 2 ^ 64 - 1)] = true ∧ (thOf d busy).stack.length < 8 ∧
       (busy.core 0).programOk 0 (addReg (thOf d busy) (getLe d.bytes 8 8) (getLe d.bytes 2 1 % 8)) = true) ∧
    (let d := dsc 0x06 []
     let m := busyTh { stack := [.call 0x2000] }
     issuable 0x06 d m ∧ fits d.bytes [] = true ∧ popCall (thOf d m).stack = some (0x2000, [])) ∧
    (let d := dsc 0x06 []; issuable 0x06 d busy ∧ popCall (thOf d busy).stack = none) ∧
    (let d := dsc 0x07 [(2, 1, 7), (8, 8, 2 ^ 64 - 1)]
     issuable 0x07 d busy ∧ fits d.bytes [(1, 0xFF), (2, 7), (8, 2 ^ 64 - 1)] = true ∧ getLe d.bytes 1 1 = 0) ∧
    (let d := dsc 0x07 [(1, 1, 3)]
     issuable 0x07 d busy ∧ fits d.bytes [(1, 0xFF), (2, 7), (8, 0)] = true ∧ (getLe d.bytes 1 1 = 1 ∨ getLe d.bytes 1 1 = 3)) ∧
    (let d := dsc 0x07 [(1, 1, 2), (2, 1, 0xF1)]
     issuable 0x07 d busy ∧ fits d.bytes [(1, 0xFF), (2, 0xF7), (8, 0)] = true ∧ getLe d.bytes 1 1 = 2 ∧
       (busy.core d.site).owns d.thread (getLe d.bytes 2 1 / 16) = true) ∧
    (let d := dsc 0x08 [(1, 1, 7), (2, 1, 0x77)]; issuable 0x08 d busy ∧ fits d.bytes [(1, 7), (2, 0x77), (8, 2 ^ 64 - 1)] = true) :=
  ⟨⟨issuable_of (by decide), by decide⟩, ⟨issuable_of (by decide), by decide⟩, ⟨issuable_of (by decide), by decide⟩,
   ⟨issuable_of (by decide), by decide⟩,
   ⟨⟨⟨issuable_of (by decide), by decide⟩, by decide⟩, ⟨⟨issuable_of (by decide), by decide⟩, by decide⟩,
    ⟨⟨issuable_of (by decide), by decide⟩, by decide⟩⟩,
   ⟨issuable_of (by decide), by decide⟩, ⟨issuable_of (by decide), by decide⟩, ⟨issuable_of (by decide), by decide⟩,
   ⟨issuable_of (by decide), by decide⟩, ⟨issuable_of (by decide), by decide⟩, ⟨issuable_of (by decide), by decide⟩,
   ⟨issuable_of (by decide), by decide⟩, ⟨issuable_of (by decide), by decide⟩, ⟨issuable_of (by decide), by decide⟩,
   ⟨issuable_of (by decide), by decide⟩⟩

/-- `busy` with its item's packet in progress. -/
def launched1 : Module := { busy with parts := { parts := [(1, { state := 2, packets := [launch] })] } }

theorem witness_CtPost :
    let d := dsc 0x09 [(4, 4, 7)]
    issuable 0x09 d launched1 ∧ fits d.bytes [(4, 0xFFFFFFFF)] = true ∧ (thOf d launched1).item = some item ∧
      launched1.packet item.part item.seq = some launch := ⟨issuable_of (by decide), by decide⟩

theorem witness_SyncAndBankDescriptors :
    (let d := dsc 0x70 [(4, 1, 15), (8, 4, 1)]
     issuable 0x70 d busy ∧ fits d.bytes [(4, 0x0F), (8, 0xFFFFFFFF)] = true ∧ (busy.core d.site).owns d.thread (getLe d.bytes 4 1) = true) ∧
    (let d := dsc 0x70 [(4, 1, 8)]
     let m : Module := { busy with cores := [(0, { enabled := true, split := true, t0 := { pc := 0x1000, item := some item } })] }
     issuable 0x70 d m ∧ fits d.bytes [(4, 0x0F), (8, 0xFFFFFFFF)] = true ∧ (m.core d.site).owns d.thread (getLe d.bytes 4 1) = false) ∧
    (let d := dsc 0x71 [(1, 1, 1), (4, 1, 15), (8, 4, 2 ^ 32 - 1)]
     issuable 0x71 d busy ∧ fits d.bytes [(1, 3), (4, 0x0F), (6, 0), (8, 0xFFFFFFFF)] = true ∧ bitOf (getLe d.bytes 1 1) 1 = false ∧
       getLe d.bytes 8 4 ≠ 0 ∧ (busy.core d.site).owns d.thread (getLe d.bytes 4 1) = true ∧
       (bitOf (getLe d.bytes 1 1) 0 = true → (thOf d busy).flight = [])) ∧
    (let d := dsc 0x71 [(1, 1, 2), (4, 1, 15), (6, 2, 1), (8, 4, 1)]
     issuable 0x71 d busy ∧ fits d.bytes [(1, 3), (4, 0x0F), (6, 0xFFFF), (8, 0xFFFFFFFF)] = true ∧ bitOf (getLe d.bytes 1 1) 1 = true ∧
       getLe d.bytes 8 4 ≠ 0 ∧ (bitOf (getLe d.bytes 1 1) 0 = true → (thOf d busy).flight = []) ∧ getLe d.bytes 6 2 < Config.sites ∧
       busy.ownerOf (getLe d.bytes 6 2) = busy.ownerOf d.site ∧ (busy.core (getLe d.bytes 6 2)).enabled = true) ∧
    (let d := dsc 0x72 [(1, 1, 0x3F)]; issuable 0x72 d busy ∧ fits d.bytes [(1, 0x3F)] = true) ∧
    (let d := dsc 0x73 [(8, 4, 7)]
     issuable 0x73 d busy ∧ fits d.bytes [(4, 0x0F), (8, 0xFFFFFFFF)] = true ∧ (busy.core d.site).owns d.thread (getLe d.bytes 4 1) = true) ∧
    (let ok (d : Desc) : Prop := recordBad d.bytes = none ∧ (bkRec d.bytes).scope ≠ 3 ∧
       (busy.core d.site).eventBad d.thread d.bytes = none ∧ rowsBad d.bytes = false ∧
       busy.undelivered d.site d.thread < (if (busy.core d.site).split then 1 else 2) ∧
       ((bkRec d.bytes).scope = 0 → (busy.slice d.site).bankSeqs.length < 8 ∧
         busy.behindBroadcast (d.site * 65536 + (match (thOf d busy).item with | some it => it.ctx | none => 0)) d.site = false)
     (let d := dsc 0x50 [(1, 1, 0x31), (8, 8, 1), (16, 2, 4031), (18, 2, 1)]; issuable 0x50 d busy ∧ ok d) ∧
     (let d := dsc 0x51 [(1, 1, 0x10), (8, 8, 3), (18, 2, 1), (21, 1, 1)]; issuable 0x51 d busy ∧ ok d)) ∧
    (let d := dsc 0x7F []
     d.wf = true ∧ opcodeListed (getLe d.bytes 0 1) = false ∧ busy.mayIssue d.site d.thread d.bytes = true) :=
  ⟨⟨issuable_of (by decide), by decide⟩, ⟨issuable_of (by decide), by decide⟩, ⟨issuable_of (by decide), by decide⟩,
   ⟨issuable_of (by decide), by decide⟩, ⟨issuable_of (by decide), by decide⟩, ⟨issuable_of (by decide), by decide⟩,
   ⟨⟨issuable_of (by decide), by decide⟩, ⟨issuable_of (by decide), by decide⟩⟩, by decide⟩

theorem witness_StreamDescriptors :
    (let ok (d : Desc) : Prop := strOk d.bytes = true ∧ (busy.core d.site).eventBad d.thread d.bytes = none ∧
       ((busy.core d.site).split = true → stSlot d.bytes / 8 = d.thread) ∧
       (let base := addReg (thOf d busy) (getLe d.bytes 4 6) (getLe d.bytes 1 1 / 32)
        let off := addReg (thOf d busy) (getLe d.bytes 10 3) (getLe d.bytes 2 1 / 64)
        0 ≤ stLowest d.bytes base ∧ stHighest d.bytes base < 2 ^ 48 ∧
        (stFeed d.bytes = false → (padWin (busy.core d.site).split off (stTotal d.bytes)).isSome = true) ∧
        (stPads d.bytes = true → busy.stTarget d.site (stLoad d.bytes) (stLowest d.bytes base).toNat (stHighest d.bytes base).toNat = true))
     let fs := [(4, 6, 0x2000), (13, 2, 63), (15, 2, 3), (20, 4, 64)]
     (issuable 0x10 (dsc 0x10 fs) busy ∧ ok (dsc 0x10 fs)) ∧ (issuable 0x11 (dsc 0x11 fs) busy ∧ ok (dsc 0x11 fs))) ∧
    (let d := dsc 0x12 [(1, 1, 15)]
     issuable 0x12 d busy ∧ fits d.bytes [(1, 0x0F), (3, 0xFF)] = true ∧ (busy.core d.site).eventBad d.thread d.bytes = none ∧
       ((busy.core d.site).split = true → stSlot d.bytes / 8 = d.thread) ∧ (busy.core d.site).stream (stSlot d.bytes) = none) ∧
    (let d := dsc 0x12 [(1, 1, 15)]
     let q : Stream := { desc := (dsc 0x10 [(1, 1, 15)]).bytes }
     let m : Module := { busy with cores := [(0, { enabled := true, t0 := { pc := 0x1000, item := some item }, streams := [(15, q)] })] }
     issuable 0x12 d m ∧ fits d.bytes [(1, 0x0F), (3, 0xFF)] = true ∧ (m.core d.site).eventBad d.thread d.bytes = none ∧ ((m.core d.site).split = true → stSlot d.bytes / 8 = d.thread) ∧
       (m.core d.site).stream (stSlot d.bytes) = some q) ∧
    (let ok (d : Desc) : Prop := khOk d.bytes = true ∧ (busy.core d.site).eventBad d.thread d.bytes = none ∧
       (let base := addReg (thOf d busy) (getLe d.bytes 4 6) (getLe d.bytes 1 1 % 8)
        let off := addReg (thOf d busy) (getLe d.bytes 10 3) (getLe d.bytes 1 1 / 16 % 8)
        base < 2 ^ 48 ∧ base % 64 = 0 ∧ padOk (busy.core d.site).split off = true ∧ off % 64 = 0 ∧
        (khList d.bytes = true → padOk (busy.core d.site).split (getLe d.bytes 16 3) = true ∧ getLe d.bytes 16 3 % 4 = 0))
     (issuable 0x40 (dsc 0x40 [(13, 1, 32)]) busy ∧ ok (dsc 0x40 [(13, 1, 32)])) ∧
     (issuable 0x41 (dsc 0x41 [(13, 1, 1)]) busy ∧ ok (dsc 0x41 [(13, 1, 1)])) ∧
     (issuable 0x42 (dsc 0x42 [(20, 2, 1), (22, 2, 1024)]) busy ∧ ok (dsc 0x42 [(20, 2, 1), (22, 2, 1024)])) ∧
     (issuable 0x43 (dsc 0x43 [(20, 2, 1), (22, 2, 1)]) busy ∧ ok (dsc 0x43 [(20, 2, 1), (22, 2, 1)]))) :=
  ⟨⟨⟨issuable_of (by decide), by decide⟩, ⟨issuable_of (by decide), by decide⟩⟩, ⟨issuable_of (by decide), by decide⟩,
   ⟨issuable_of (by decide), by decide⟩,
   ⟨⟨issuable_of (by decide), by decide⟩, ⟨issuable_of (by decide), by decide⟩, ⟨issuable_of (by decide), by decide⟩,
    ⟨issuable_of (by decide), by decide⟩⟩⟩

theorem witness_ArrayDescriptors :
    (let d := dsc 0x20 [(2, 1, 1), (8, 1, 32), (9, 1, 32)]
     issuable 0x20 d busy ∧ loadwOk d.bytes = true ∧ (busy.core d.site).eventBad d.thread d.bytes = none ∧
       ((busy.core d.site).split = true → loadwWide d.thread d.bytes = false) ∧
       mxBadOffset (busy.core d.site) (thOf d busy) d.bytes (mxOffs d.bytes) = none ∧ (thOf d busy).splitting = false) ∧
    (let d := dsc 0x21 [(2, 1, 10), (8, 1, 16)]
     issuable 0x21 d busy ∧ mxRunOk d.bytes = true ∧ (busy.core d.site).eventBad d.thread d.bytes = none ∧
       ((busy.core d.site).split = true → mxRunWide d.thread d.bytes = false) ∧
       mxBadOffset (busy.core d.site) (thOf d busy) d.bytes (mxOffs d.bytes) = none ∧ (thOf d busy).splitting = false) ∧
    (let d := dsc 0x22 [(8, 1, 16)]
     issuable 0x22 d busy ∧ mxDrainOk d.bytes = true ∧ (busy.core d.site).eventBad d.thread d.bytes = none ∧
       ((busy.core d.site).split = true → getLe d.bytes 8 1 ≤ 8) ∧ mxBadOffset (busy.core d.site) (thOf d busy) d.bytes [4] = none ∧
       (thOf d busy).splitting = false) ∧
    (let d := dsc 0x24 [(2, 1, 1), (16, 4, 2 ^ 20)]
     issuable 0x24 d busy ∧ mxElemOk d.bytes = true ∧ (busy.core d.site).eventBad d.thread d.bytes = none ∧
       mxBadOffset (busy.core d.site) (thOf d busy) d.bytes [4, 8, 12] = none ∧ (thOf d busy).splitting = false) ∧
    (let d := dsc 0x23 [(1, 1, 1)]
     issuable 0x23 d busy ∧ fits d.bytes [(1, 1), (3, 0xFF)] = true ∧ (busy.core d.site).eventBad d.thread d.bytes = none ∧ d.thread = 0 ∧
       (bitOf (getLe d.bytes 1 1) 0 = false → (busy.core d.site).half0.fenced = false ∧ (busy.core d.site).half1.fenced = false) ∧
       (thOf d busy).splitting = false) :=
  ⟨⟨issuable_of (by decide), by decide⟩, ⟨issuable_of (by decide), by decide⟩, ⟨issuable_of (by decide), by decide⟩,
   ⟨issuable_of (by decide), by decide⟩, ⟨issuable_of (by decide), by decide⟩⟩

theorem witness_VectorDescriptors : ∀ op ∈ (List.range 12).map (0x30 + ·), ∀ d, d = dsc op [(4, 3, 0x1000), (16, 4, 64)] →
    issuable op d busy ∧ vxOk d.bytes = true ∧ vxAligned (thOf d busy) d.bytes = true ∧ (busy.core d.site).eventBad d.thread d.bytes = none ∧
      (∀ o ∈ 4 :: vxSources d.bytes, padOk (busy.core d.site).split (vxAddr (thOf d busy) d.bytes o) = true) := by
  rintro op h d rfl
  exact ⟨issuable_of (by revert op; decide), by revert op; decide⟩

/-- A tree of partition 1 on deck 0, its root site 1. -/
def treed : Module := { busy with net := { busy.net with trees := [(0, 0, ⟨1, 1, [0, 1], false⟩)] } }
/-- The descriptor as NR's own engine reads its source for it. -/
def nrFlight (d : Desc) : InFlight := { id := 0, cls := 5, bytes := d.bytes, pc := 0x1000, next := 0, pieces := [], done := false }
/-- `busy` in a fabric, its bring-up complete; its port 0 leads to module 0x0102. -/
def joined : Module :=
  { busy with bring := { busy.bring with fabricReady := true }, fab := { busy.fab with idValid := true, routes := [(0x0102, 1)] } }
theorem joined_egress : joined.egress 0x0102 = some 0 := by decide
theorem joined_way : joined.noWay 0 (leaveEnd 0 (clusterOf 0)) = false ∧ joined.mayLeave 0 (leaveEnd 0 (clusterOf 0)) = true := by decide


theorem witness_TransferDescriptors :
    (let ok (m : Module) (d : Desc) (here : Bool) : Prop := m.nrBad d.site d.thread d.bytes = none ∧ nrLocal d.bytes = here ∧
       (thOf d m).inClass 5 < (if (m.core d.site).split then 2 else 4) ∧
       nrFlight d = { id := (thOf d m).nextId, cls := 5, bytes := d.bytes, pc := (thOf d m).pc, next := 0, pieces := [], done := false } ∧
       isOk (m.nrRead d.site d.thread (nrFlight d) (addReg (thOf d m) (nrSrc d.bytes) (nrFlags d.bytes % 8)) (nrLength d.bytes / 64)) = true
     let send := dsc 0x60 [(4, 2, 1), (6, 2, 0x8000), (16, 4, 64)]
     let gather := dsc 0x62 [(4, 2, 1), (6, 2, 0x8000), (16, 4, 64), (22, 2, 2), (24, 2, 1)]
     let cast := dsc 0x63 [(6, 2, 0x8000), (16, 4, 64)]
     let add := dsc 0x61 [(4, 2, 1), (6, 2, 0x8000), (16, 4, 64), (22, 2, 2)]
     let far := dsc 0x60 [(4, 2, 1), (6, 2, 0x0102), (16, 4, 64)]
     (issuable 0x60 send busy ∧ ok busy send true) ∧ (issuable 0x62 gather busy ∧ ok busy gather true) ∧
     (issuable 0x63 cast busy ∧ ok busy cast true) ∧ (issuable 0x61 add treed ∧ ok treed add true) ∧
     (issuable 0x60 far joined ∧ ok joined far false ∧
       (∀ p, joined.egress (nrModule far.bytes) = some p → joined.noWay far.site (leaveEnd p (clusterOf far.site)) = false ∧
         joined.mayLeave far.site (leaveEnd p (clusterOf far.site)) = true))) :=
  ⟨⟨issuable_of (by decide), by decide⟩, ⟨issuable_of (by decide), by decide⟩, ⟨issuable_of (by decide), by decide⟩,
   ⟨issuable_of (by decide), by decide⟩, ⟨issuable_of (by decide), by decide, fun _ h => Option.some.inj (joined_egress.symm.trans h) ▸ joined_way⟩⟩

/-- `busy` with every queue of core 0 full: the stream slot 0 taken, four KH and four VX descriptors in flight, the array's queues full. -/
def crowded : Module :=
  let fl (cls n : Nat) : List InFlight := List.replicate n ⟨0, cls, [], 0, 0, [], false⟩
  let half : ArrayHalf := { weights := [(1, []), (2, [])], runs := [(3, []), (4, []), (5, []), (6, [])],
                            drains := [(7, []), (8, []), (9, []), (10, [])] }
  { live with cores := [(0, { enabled := true, t0 := { pc := 0x1000, item := some item, flight := fl 1 4 ++ fl 3 4 },
                              streams := [(0, { desc := [] })], half0 := half, half1 := half })] }

theorem witness_FullQueues :
    (let d := dsc 0x10 [(4, 6, 0x2000), (13, 2, 63), (15, 2, 3), (20, 4, 64)]
     issuable 0x10 d crowded ∧ ((crowded.core d.site).stream (stSlot d.bytes)).isSome = true) ∧
    (let d := dsc 0x40 [(13, 1, 32)]
     issuable 0x40 d crowded ∧ (if (crowded.core d.site).split then 2 else 4) ≤ (thOf d crowded).inClass 1) ∧
    (let d := dsc 0x20 [(2, 1, 1), (8, 1, 32), (9, 1, 32)]
     issuable 0x20 d crowded ∧ 2 ≤ ((crowded.core d.site).half ((crowded.core d.site).mxHalf d.thread)).weights.length) ∧
    (let d := dsc 0x21 [(2, 1, 10), (8, 1, 16)]
     issuable 0x21 d crowded ∧ 4 ≤ ((crowded.core d.site).half ((crowded.core d.site).mxHalf d.thread)).runs.length) ∧
    (let d := dsc 0x22 [(8, 1, 16)]
     issuable 0x22 d crowded ∧ 4 ≤ ((crowded.core d.site).half ((crowded.core d.site).mxHalf d.thread)).drains.length) ∧
    (let d := dsc 0x30 [(4, 3, 0x1000), (16, 4, 64)]
     issuable 0x30 d crowded ∧ decide (4 ≤ (crowded.core d.site).t0.inClass 3 + (crowded.core d.site).t1.inClass 3) = true) :=
  ⟨⟨issuable_of (by decide), by decide⟩, ⟨issuable_of (by decide), by decide⟩, ⟨issuable_of (by decide), by decide⟩,
   ⟨issuable_of (by decide), by decide⟩, ⟨issuable_of (by decide), by decide⟩, ⟨issuable_of (by decide), by decide⟩⟩

/-- A descriptor in flight. -/
def inFlight (cls : Nat) (d : Desc) : InFlight := { id := 0, cls := cls, bytes := d.bytes, pc := 0x1000, next := 0, pieces := [], done := false }
/-- Core 0's thread 0 with it. -/
def flying (f : InFlight) : Module := busyTh { flight := [f] }

/-- The read of a program fetch at 0x1000, answered by slice 1. -/
def rdFetch : MemReq := ⟨1, 0x1000, 0, .fetch 0 0 0x1000, false, false, [], false⟩

theorem witness_SequencerEvents_fetch :
    (let m : Module := busyTh { fetchPos := 2 ^ 47 }
     siteThreadOk 0 0 = true ∧ ((m.core 0).th 0).item.isSome = true ∧ ((m.core 0).th 0).halted = false ∧ (m.core 0).enabled = true ∧
       m.clocked 0 = true ∧ bitOf ((m.core 0).th 0).fetchPos 47 = true ∧ ((m.core 0).th 0).fetchBuf.length < 31 ∧
       ((m.core 0).th 0).failsAhead = 0) ∧
    (let r : Response := ⟨rdFetch, false, List.replicate 64 0, false⟩
     let m : Module := { busy with mem := { busy.mem with responses := [r] } }
     ((m.core 0).th 0).item.isSome = true ∧ ((m.core 0).th 0).halted = false ∧ (m.core 0).enabled = true ∧ m.clocked 0 = true ∧
       bitOf ((m.core 0).th 0).fetchPos 47 = false ∧
       takeFirst (fun (r : Response) => isFetch 0 0 r.req.src) m.mem.responses = some (r, []) ∧ r.req.src = .fetch 0 0 0x1000 ∧
       m.mayArrive r = true) ∧
    (let bs := (dsc 0x70 [(4, 1, 3)]).bytes
     let m : Module := busyTh { wait := some bs }
     m.running 0 0 = true ∧ ((m.core 0).th 0).wait = some bs ∧ getLe bs 0 1 = 0x70 ∧ fits bs [(4, 0x0F), (8, 0xFFFFFFFF)] = true ∧
       (m.core 0).owns 0 (getLe bs 4 1) = true ∧ seqGe (SMap.get 0 (m.core 0).counters (getLe bs 4 1)) (getLe bs 8 4) = true) ∧
    (let m : Module := busyTh { wait := some (dsc 0x70 [(4, 1, 3)]).bytes }
     ((m.core 0).th 0).halted = false ∧ 0 ∉ (m.core 0).switching ∧ ((m.core 0).th 0).watched = some (0x70, 0x1000) ∧
       m.thermal.stop = false ∧ ¬ (m.power.hold ≠ 0 ∧ (m.cl (clusterOf 0)).ladder ≠ 0)) ∧
    (let k (p : Nat) : Module := { busy with cores := [(0, { enabled := true, scratch := { phase := p } })] }
     siteOk 0 = true ∧ ((k 87).core 0).scratch.phase < 88 ∧ ¬ (4 ≤ ((k 87).core 0).scratch.phase ∧ ((k 87).core 0).scratch.phase < 84) ∧
       (k 87).runs (clusterOf 0) = true ∧ (k 83).runs (clusterOf 0) = true ∧ 63 < 64 ∧ 255 < 256 ∧ 4 ≤ ((k 83).core 0).scratch.phase ∧ ((k 83).core 0).scratch.phase < 84) :=
  ⟨by decide, by decide, by decide, by decide, by decide⟩

theorem witness_SequencerEvents_completion :
    (let f := { inFlight 5 (dsc 0x60 []) with done := true }
     let m := flying f
     siteThreadOk 0 0 = true ∧ (m.core 0).enabled = true ∧ m.clocked 0 = true ∧ m.resetting 0 = false ∧
       ((m.core 0).th 0).find 0 = some f ∧ f.cls = 5 ∧ f.done = true) ∧
    (let f := { inFlight 1 (dsc 0x40 [(13, 1, 1)]) with next := 1 }
     let m := flying f
     ((m.core 0).th 0).find 0 = some f ∧ f.cls = 1 ∧ f.next = khTotal f.bytes ∧ f.pieces = []) ∧
    (let f := inFlight 3 (dsc 0x30 [(4, 3, 0x100), (7, 3, 0x200), (10, 3, 0x300), (16, 4, 2)])
     let m := flying f
     m.resetting 0 = false ∧ ((m.core 0).th 0).find 0 = some f ∧ f.cls = 3 ∧
       ((m.core 0).th 0).earlier f.id (fun g => g.cls == 3) = false ∧
       m.vxRead 0 0 f (vxSources f.bytes) = .ok [List.replicate 8 0, List.replicate 8 0] ∧
       isOk (m.padPut 0 0 f 4 (getLe f.bytes 4 3) (vxResult 0 f.bytes [List.replicate 8 0, List.replicate 8 0]) false) = true) :=
  ⟨by decide, by decide, by decide, by decide, by decide, by decide, by rfl, by rfl⟩

/-- `busy`'s thread over the tables of `tabled`. -/
def busyTabled (th : Thread) : Module :=
  { tabled with cores := [(0, { enabled := true, t0 := { th with pc := 0x1000, item := some item } }), (1, { enabled := true })] }

/-- The leaf of `tabled` that maps address 0. -/
def leaf0 : CachedLeaf := ⟨1, 0, 2, 0x110000, 0x3B, []⟩
theorem test_leaf0 : tabled.findLeaf 1 0x40 = .ok leaf0 := by rfl

theorem witness_EngineEvents_walks :
    (let f := inFlight 1 (dsc 0x40 [(4, 6, 0x40), (13, 1, 1)])
     let m := busyTabled { flight := [f] }
     let w : Walk := ⟨1, 0x40, false, .keyhole 0 0 0, false⟩
     w.wf = true ∧ w.src = .keyhole 0 0 0 ∧ m.walkHeld w.part w.va = false ∧ m.walkWanted w = true ∧
       m.coreWalk 0 w.part w.va (accOf w.src w.write) = .ok 0x40) ∧
    (let w : Walk := ⟨1, 0x40, false, .host 1 7, false⟩
     w.wf = true ∧ w.src = .host 1 7 ∧ tabled.walkHeld w.part w.va = false ∧ tabled.cachedLeaf .host w.part w.va = none ∧
       tabled.findLeaf w.part w.va = .ok leaf0) :=
  ⟨⟨by decide, rfl, by decide, by decide, by decide⟩, by decide, rfl, by decide, by decide, test_leaf0⟩

theorem witness_EngineEvents :
    (let f := inFlight 2 (dsc 0x21 [(2, 1, 1), (8, 1, 1), (10, 2, 64)])
     let m : Module := { busy with cores := [(0, { enabled := true, t0 := { item := some item, flight := [f] }, half0 := { runs := [(0, f.bytes)] } })] }
     siteOk 0 = true ∧ 1 < 2 ∧
       (((m.core 0).half ((m.core 0).mxHalf 1)).runs.head?).bind (fun r => ((m.core 0).th ((m.core 0).mxHalf 1)).find r.1) = some f ∧
       m.arrayOn 0 ((m.core 0).mxHalf 1) = true ∧ ((m.core 0).th ((m.core 0).mxHalf 1)).runFree f = true ∧ getLe f.bytes 0 1 = 0x21 ∧
       bitOf (getLe f.bytes 1 1) 0 = false) ∧
    (let f := inFlight 2 (dsc 0x22 [(8, 1, 1), (10, 2, 64)])
     let m : Module := { busy with cores := [(0, { enabled := true, t0 := { item := some item, flight := [f] }, half0 := { drains := [(0, f.bytes)] } })] }
     let x := (m.updCore 0 (fun c => c.updHalf 0 (fun a => { a with drains := a.drains.filter (fun q => q.1 != f.id) }))).updCore 0
       (fun c => c.updHalf 0 (fun a => a.drained c.split f.bytes))
     (m.core 0).mxHalf 0 = 0 ∧ (((m.core 0).half 0).drains.head?).bind (fun r => ((m.core 0).th 0).find r.1) = some f ∧ m.arrayOn 0 0 = true ∧
       ((m.core 0).th 0).earlier f.id (fun g => getLe g.bytes 0 1 == 0x21 && runBank g.bytes == b2n (bitOf (getLe f.bytes 1 1) 0)) = false ∧
       getLe f.bytes 2 1 ≠ 11 ∧ isOk (x.padPuts 0 0 f 3 (((m.core 0).half 0).drainOut 0 0 (m.core 0).split f.bytes)) = true) ∧
    (let q : Stream := { desc := (dsc 0x10 [(1, 1, 15), (13, 2, 63)]).bytes }
     let f := inFlight 0 (dsc 0x10 [(1, 1, 15), (13, 2, 63)])
     let m : Module := { busy with cores := [(0, { enabled := true, t0 := { item := some item, flight := [f] }, streams := [(15, q)] })] }
     let y := m.updCore 0 (fun c => { c with lastSlot := 15 })
     15 < 16 ∧ m.slotTurn 0 = some 15 ∧ m.slotTurn 0 ≠ some 0 ∧ (y.core 0).stream 15 = some q ∧ ((y.core 0).th q.thread).find q.id = some f ∧
       q.cancelled = false ∧ q.pos < stTotal q.desc ∧ y.engineOn 0 q.thread = true) ∧
    (let f := inFlight 1 (dsc 0x40 [(4, 6, 0x40), (13, 1, 1)])
     let m : Module := { busyTabled { flight := [f] } with tlb := { leaves := [(.core 0, leaf0)] } }
     ((m.core 0).th 0).flight.find? (fun f => f.cls == 1 && decide (f.next < khTotal f.bytes)) = some f ∧ m.engineRuns 0 = true ∧
       ((m.core 0).th 0).sectors < (if (m.core 0).split then 4 else 8) ∧ m.khAddr 0 0 f f.next = .ok 0x40 ∧ 0x40 < 2 ^ 48 ∧
       m.demand 0 0x40 (if khReads f.bytes then 3 else 4) = (m, .ok 0x40)) := by
  refine ⟨by decide, by decide, by decide, ⟨by decide, by decide, by decide, by rfl, by decide, by rfl⟩⟩

/-- `live` with slice 0 as given. -/
def sliced (s : Slice) : Module := { live with mem := { live.mem with slices := [(0, s), (1, { state := 0 })] } }
/-- A read of a sector by core 0's program fetch, a read of a row, and a write of eight bytes. -/
def rdSector (site : Nat) : MemReq := ⟨site, 2 ^ 29 - 64, 0, .fetch 0 0 0, false, false, [], false⟩
def rdRow (site : Nat) : MemReq := ⟨site, 2 ^ 29 - 2048, 2, .copy 1 0, false, true, [], false⟩
def wr8 (site : Nat) : MemReq := ⟨site, 2040, 2, .copy 1 0, true, false, List.replicate 8 0xFF, false⟩

theorem witness_SliceEvents_requests :
    ((rdSector 2).wf = true ∧ (rdSector 2).row = false ∧ (rdSector 2).write = false ∧ live.refusedAt 2 (rdSector 2).src = true) ∧
    ((rdRow 0).wf = true ∧ (rdRow 0).row = true ∧ (rdRow 0).write = false ∧ live.refusedAt 0 (rdRow 0).src = false ∧
      (live.wakeSlice (clusterOf 0)).takeHoldSlot 0 ⟨rdRow 0, live.time⟩ = none) ∧
    ((wr8 2).wf = true ∧ (wr8 2).write = true ∧ live.refusedAt 2 (wr8 2).src = true ∧ srcHost (wr8 2).src = false) ∧
    (live.refusedAt 0 (wr8 0).src = false ∧ ((live.wakeSlice (clusterOf 0)).slice 0).selfRefresh = false ∧
      (∀ k ∈ ((live.wakeSlice (clusterOf 0)).slice 0).holdSlots ++ ((live.wakeSlice (clusterOf 0)).slice 0).waiting,
        inOrder k.req (wr8 0) = false) ∧ ((live.wakeSlice (clusterOf 0)).acceptWrite (wr8 0)).isSome = true) := by decide

/-- Row 5 of slice 0 pending in the write-hold queue, whole: it may be written, and it waits while its group is above band 0. -/
def draining (band : Nat) : Module :=
  { sliced { state := 0, holdQueue := [⟨5, SMap.set 0 [] 0 1, false, 2, false, 0⟩] } with
    thermal := { live.thermal with bands := [(groupOf 0 (5 * 2048), band)] } }

theorem witness_SliceEvents_rows :
    (siteOk 0 = true ∧ 2 ^ 18 - 1 < 2 ^ 18 ∧ live.rowHeld 0 (2 ^ 18 - 1) = false ∧ (live.slice 0).state ≠ 2 ∧ (live.slice 0).selfRefresh = false ∧
      63 < 64) ∧
    (let m := sliced { state := 0, owed := [(63, 8)] }; m.bankBusy 0 63 = false ∧ 8 ≤ SMap.get 0 (m.slice 0).owed 63) ∧
    (let m := { sliced { state := 0, owed := [(63, 1)], stepEndAt := 3 } with time := 4 }
     m.bankBusy 0 63 = false ∧ (∀ q ∈ (m.slice 0).bankSeqs, q.inStep = false) ∧ (m.slice 0).stepEndAt + 1 ≤ m.time) ∧
    (∀ e ∈ ((draining 3).slice 0).holdQueue, (draining 3).writable 0 e.row = false) ∧
    ((draining 1).noGrant 0 = false ∧ ((draining 1).slice 0).choose ((draining 1).waitingMask 0 ((draining 1).p3Ready 0)) = some 2 ∧
      (draining 1).nextOf 0 2 = some (.drain 5)) ∧
    (live.mem.scrubHours ≠ 0 ∧ live.bring.ready = true ∧ (live.slice 0).skipped = [] ∧ 0 = (live.slice 0).scrubRow ∧ 0 < 2 ^ 18 - 1 ∧
      live.rowRetired 0 0 = false ∧ live.rowDonated 0 0 = false ∧ live.rowHeld 0 0 = false ∧
      (let y := live.updSlice 0 (fun x => { x with scrubDue := true })
       y.noGrant 0 = false ∧ (y.slice 0).choose (y.waitingMask 0 (y.p3Ready 0)) = some 4 ∧ y.nextOf 0 4 = some (.scrub 0))) ∧
    (let m : Module := { live with thermal := { live.thermal with bands := [(0, 3)] } }
     m.rowRetired 0 0 = false ∧ m.rowDonated 0 0 = false ∧ m.rowHeld 0 0 = true) := by decide

/-- A bank-op sequence over slice 0: BK.ROW ZERO or a row function that reads, as its record says. -/
def seq (record : List Byte) (pending : List Nat) (core : Option (Nat × Nat × Nat)) (cmd : Option Nat) : BankSeq :=
  ⟨7, 1, 0, core, cmd, record, [0], pending, [], false, 0, 0, 0, 0, 0, 0, 10⟩
/-- A module that runs it, its state at slice 0 as given. -/
def banked (b : BankSeq) (q : SliceSeq) : Module :=
  { live with mem := { live.mem with slices := [(0, { state := 0, bankSeqs := [q] }), (1, { state := 0 })], seqs := [b] } }
/-- The sequence at its slice, before its step, and within it. -/
def waits7 : SliceSeq := ⟨7, 0, false, false, [], 0⟩
def steps7 (step : Nat) : SliceSeq := ⟨7, step, true, false, [], 0⟩
/-- The records of BK.ROW ZERO and SCALE, of BK.STAT ADD and COMBINE_SUM, all on banks 0 and 1. -/
def rowZero : List Byte := (dsc 0x50 [(1, 1, 0x31), (8, 8, 3), (18, 2, 2)]).bytes
def rowScale : List Byte := (dsc 0x50 [(1, 1, 0x01), (8, 8, 3), (18, 2, 2)]).bytes
def statAdd : List Byte := (dsc 0x51 [(1, 1, 0x01), (8, 8, 3), (18, 2, 1)]).bytes
def statGroup : List Byte := (dsc 0x51 [(1, 1, 0x10), (8, 8, 3), (18, 2, 1), (21, 1, 1)]).bytes

theorem witness_BankOpEvents_grant :
    (let m := sliced { state := 0, waiting := [⟨rdSector 0, 0⟩] }
     siteOk 0 = true ∧ m.noGrant 0 = false ∧ (m.slice 0).choose (m.waitingMask 0 (m.p3Ready 0)) = some 0 ∧ (0 : Nat) ≠ 3 ∧
       (m.nextOf 0 0).isSome = true ∧ 2 < 3 ∧ 3 ≤ 3) ∧
    (let m := banked (seq rowZero [0] none none) waits7
     m.noGrant 0 = false ∧ m.p3Data 0 = false ∧ m.stepReady 0 = true ∧ (m.slice 0).choose (m.waitingMask 0 (m.p3Ready 0)) = some 3) ∧
    (let m := banked (seq statGroup [0] none none) waits7
     m.noGrant 0 = false ∧ m.p3Data 0 = true ∧ (m.slice 0).choose (m.waitingMask 0 (m.p3Ready 0)) = some 3) ∧
    (let b := seq rowZero [0] none none
     let m : Module := { live with mem := { live.mem with
       slices := [(0, { state := 0, bankSeqs := [waits7], waiting := [⟨rdSector 0, 0⟩] })], seqs := [b] } }
     m.stepReady 0 = true ∧ (m.slice 0).choose (m.waitingMask 0 (m.p3Ready 0)) = some 0) ∧
    (let b := seq statAdd [0] none none
     let m := banked b waits7
     m.startable 0 = some (waits7, b) ∧ ((bkRec b.record).row || bkCombine (bkRec b.record)) = false) := by decide

theorem witness_BankOpEvents_steps :
    (let b := seq rowScale [0] none none
     let m := banked b (steps7 1)
     let y := m.updSlice 0 (fun x => { x with
       bankSeqs := modFirst (fun z => z.id == 7) (fun z => { z with detours := z.detours ++ [(1, 1)] }) x.bankSeqs })
     m.bankStill 0 = false ∧ (m.slice 0).bankSeqs.find? (fun q => q.inStep && q.detours.isEmpty) = some (steps7 1) ∧ m.seqOf 7 = some b ∧
       m.stepIn 0 1 = some (steps7 1, b, 1) ∧ bkReads (bkRec b.record) = true ∧ m.rowSkipped 0 1 ((bkRec b.record).first + 1) = false ∧
       1 ∉ (m.slice 0).failedUnits ∧ y.noGrant 0 = false ∧ (y.slice 0).choose (y.waitingMask 0 (y.p3Ready 0)) = some 3 ∧
       y.p3Data 0 = true) ∧
    (let b := seq rowZero [0, 1] none none
     let m : Module := { live with mem := { live.mem with seqs := [b], transom := [(0, [7, 8])] } }
     0 < Config.decks ∧ SMap.get [] m.mem.transom 0 = 7 :: [8] ∧ m.relocking (.deck 0) = false ∧ m.seqOf 7 = some b ∧
       (∀ k ∈ b.pending, deckOf (clusterOf k) = 0 → (m.slice k).bankSeqs.length < 8)) ∧
    (let b := seq rowZero [0] none none
     let m (held : Nat) : Module :=
       { banked b { waits7 with held := held } with thermal := { live.thermal with bands := [(0, 3)] } }
     (m 0).heldSeqs 0 0 ((m 0).slice 0).bankSeqs = [7] ∧ (m 10000).seqOf 7 = some b ∧ 9999 < b.holdLimit * 1000 ∧
       b.holdLimit * 1000 ≤ 10000) ∧
    (let b := seq rowZero [] none none; (banked b waits7).seqOf 7 = some b ∧ b.pending = [] ∧ b.core = none ∧ b.cmd = none) ∧
    (let b := seq rowZero [] (some (0, 1, 5)) none; (banked b waits7).seqOf 7 = some b ∧ b.core = some (0, 1, 5) ∧ b.cmd = none) ∧
    (let b := seq rowZero [] none (some 3); (banked b waits7).seqOf 7 = some b ∧ b.core = none ∧ b.cmd = some 3) := by decide

/-- A ring of sixteen entries with a completion ring, enabled or not. -/
def ring16 (on : Bool) : RingRegs := { base := 0x10000, size := 16, cplBase := 0x20000, cplSize := 16, enable := on }
/-- `live` with a latched upper half, letterboxes and work rings of functions 0 and 1. -/
def served (on : Bool) : Module :=
  { live with port := { live.port with
      funcs := [(0, { onFn with latch := some (0x10008, 5) }), (1, onFn)],
      letters := [(0, ring16 on), (1, ring16 on)], works := [(0, ring16 on), (1, ring16 on)] } }

theorem serves_of {fn off : Nat} {m : Module} (h : (!m.port.perst && m.port.linkUp && m.port.cfgReady && decide (fn ≤ m.port.numVfs) &&
    (m.func fn).memSpace && !(m.func fn).d3hot && m.bar0Served fn off) = true) : serves fn off m := by
  simp only [Bool.and_eq_true, Bool.not_eq_true', decide_eq_true_eq] at h
  exact ⟨⟨h.1.1.1.1.1.1, h.1.1.1.1.1.2, h.1.1.1.1.2, h.1.1.1.2, h.1.1.2, h.1.2⟩, h.2⟩
theorem quiet_live (fn : Nat) : quietPort fn live := ⟨rfl, rfl, fun _ => rfl⟩
theorem quiet_served (fn : Nat) (on : Bool) : quietPort fn (served on) := ⟨rfl, rfl, fun _ => rfl⟩
theorem open_live (fn : Nat) (h : fn < 2) : barOpen fn live := by
  have : fn = 0 ∨ fn = 1 := by omega
  rcases this with rfl | rfl <;> (unfold barOpen; decide)

/-- The expert window is open. -/
def windowed : Module := { expert with engine := { rights := 1, expertWindow := true } }

theorem witness_HostRegisters :
    (serves 1 (0x1004C / 8 * 8) live ∧ fnOk 1 = true ∧ bar0Aligned 0x1004C 4 = true ∧ 0x1004C + 4 ≤ bar0Size 1) ∧
    (serves 0 0x10008 live ∧ fnOk 0 = true ∧ 0x10008 % 8 = 0 ∧ 0x10008 + 8 ≤ bar0Size 0 ∧ ¬ ((0 : Nat) = 0 ∧ 0x10008 = 0x30100) ∧ quietPort 0 live) ∧
    (serves 0 0x10008 (served false) ∧ ((served false).func 0).latch = some (0x10008, 5) ∧ quietPort 0 (served false)) ∧
    (serves 0 0x30100 live ∧ quietPort 0 live) ∧
    (barOpen 0 live ∧ 0 < 4096 ∧ bar0Aligned 0 4096 = false ∧ bar0Aligned 4 8 = false ∧ bar0Aligned 7 1 = false ∧ 0 + 4096 ≤ bar0Size 0) ∧
    (pfUndecoded (0x3800000 / 8 * 8) = true ∧ 0x3800000 + 8 ≤ bar0Size 0) ∧
    (barOpen 1 live ∧ vfDecoded (0x18 / 8 * 8) = false ∧ 0x18 + 8 ≤ bar0Size 1) ∧
    serves 1 0x38 live ∧
    (serves 0 0x18 expert ∧ bitOf expert.engine.rights 0 = true) ∧
    (serves 0 (coreReg 1 0x10) windowed ∧ siteOk 1 = true ∧ windowed.windowOk (1 / 1024) = true ∧ windowed.engine.expertWindow = true ∧
      (windowed.core 1).enabled = true ∧ windowed.resetting 1 = false) ∧
    (serves 0 (coreReg 1 (0x40 + 8 * 1)) windowed ∧ siteThreadOk 1 1 = true) :=
  ⟨⟨serves_of (by decide), by decide⟩, ⟨serves_of (by decide), by decide, by decide, by decide, by decide, quiet_live 0⟩,
   ⟨serves_of (by decide), rfl, quiet_served 0 false⟩, ⟨serves_of (by decide), quiet_live 0⟩, ⟨open_live 0 (by decide), by decide⟩, by decide,
   ⟨open_live 1 (by decide), by decide⟩, serves_of (by decide), ⟨serves_of (by decide), by decide⟩, ⟨serves_of (by decide), by decide⟩,
   ⟨serves_of (by decide), by decide⟩⟩

/-- A completion that waits for partition 1's work ring. -/
def cplWork : Cpl := ⟨.work 1, List.replicate 64 0, none, false⟩

theorem witness_HostRings :
    (serves 1 0x10010 (served true) ∧ quietPort 1 (served true) ∧ 15 % 4096 < ((served true).ring (.letter 1)).size) ∧
    (serves 0 (ringSeen 0 (.work 0) + 0x10) (served true) ∧ 4111 % 4096 < ((served true).ring (.work 0)).size) ∧
    (serves 1 (ringSeen 1 (.work 1) + 0x10) (served true) ∧ 0 % 4096 < ((served true).ring (.work 1)).size) ∧
    (partOk 1 = true ∧ serves 0 (ringSeen 0 (.work 1) + 0x10) live) ∧
    (Ring.wf (.work 1) = true ∧ ringFn (.work 1) = 1 ∧ serves 1 (ringSeen 1 (.work 1) + 0x30) (served true) ∧
      ((served true).ring (.work 1)).headOk (0 % 4096) = true) ∧
    (serves 1 (ringSeen 1 (.letter 1) + 0x40) (served false) ∧ ((served false).ring (.letter 1)).enable = false ∧
      ((served false).ring (.letter 1)).canEnable = true) ∧
    (serves 0 (ringSeen 0 (.letter 0) + 0x40) (served true) ∧ ((served true).ring (.letter 0)).enable = true) ∧
    (let m : Module := { served true with port := { (served true).port with letters := [(1, { ring16 true with tail := 1 })] } }
     m.nextLetter = some 1 ∧ (List.replicate 64 (0 : Byte)).length = 64 ∧ getLe (List.replicate 64 0) 0 1 ∈ knownOpcodes) ∧
    (let m : Module := { served true with port := { (served true).port with cpls := [cplWork] } }
     m.port.linkUp = true ∧ takeFirst (fun (c : Cpl) => c.ring == .work 1) m.port.cpls = some (cplWork, []) ∧ cplWork.ring = .work 1 ∧
       mayRequest (ringFn (.work 1)) m ∧ (m.ring (.work 1)).cplSize ≠ 0 ∧ (m.ring (.work 1)).mirrorOn = false ∧ cplWork.vector = none) :=
  ⟨⟨serves_of (by decide), quiet_served 1 true, by decide⟩, ⟨serves_of (by decide), by decide⟩, ⟨serves_of (by decide), by decide⟩,
   ⟨by decide, serves_of (by decide)⟩, ⟨by decide, by decide, serves_of (by decide), by decide⟩, ⟨serves_of (by decide), by decide⟩,
   ⟨serves_of (by decide), by decide⟩, by decide,
   ⟨by decide, by decide, by decide, by unfold mayRequest; decide, by decide⟩⟩

/-- The router of a host attachment has just been fenced, its tables still to come; or it is out of every route. -/
def attachCut (loaded : Bool) : Module :=
  { live with clusters := [(0, { owner := some 1 }), (24, { routerFenced := true })],
              net := { live.net with newFences := if loaded then [] else [(24, true)] } }

theorem witness_HostRequests :
    (fnOk 0 = true ∧ barOpen 0 live ∧ 0 + 4096 ≤ live.bar2Size 0 ∧ live.bring.ready = true ∧
      live.badHit 0 false (cuts 2048 (live.bar2Base 0 + 0) 4096) = none ∧ live.hostWalkHeld 0 (cuts 2048 (live.bar2Base 0 + 0) 4096) = false ∧
      (∀ r ∈ (cuts 2048 (live.bar2Base 0 + 0) 4096).flatMap (fun p => readReqs (live.hostPa 0 p.1 false) p.2),
        live.hostWaits (siteOfAddr r.1) r.1 = false)) ∧
    (let m : Module := { live with bring := { live.bring with ready := false } }
     barOpen 0 m ∧ m.bring.ready = false ∧ quietPort 0 m) ∧
    ((live.bar2Base 0 + 64) % 2048 + 8 ≤ 2048 ∧ live.hostHit 0 (live.bar2Base 0 + 64) true = .ok (live.bar2Base 0 + 64) ∧
      live.hostWaits (siteOfAddr (live.bar2Base 0 + 64)) (live.bar2Base 0 + 64) = false ∧
      live.hostLost (siteOfAddr (live.bar2Base 0 + 64)) (live.bar2Base 0 + 64) = false) ∧
    ((attachCut false).hostHit 0 ((attachCut false).bar2Base 0 + 64) true = .ok ((attachCut false).bar2Base 0 + 64) ∧
      (attachCut false).hostWaits (siteOfAddr ((attachCut false).bar2Base 0 + 64)) ((attachCut false).bar2Base 0 + 64) = true ∧
      (attachCut true).hostLost (siteOfAddr ((attachCut true).bar2Base 0 + 64)) ((attachCut true).bar2Base 0 + 64) = true) ∧
    (live.badHit 1 true (cuts 2048 (live.bar2Base 1 + 0) 8) = some (0, .fault 1 none) ∧
      live.hostWalkHeld 1 (cuts 2048 (live.bar2Base 1 + 0) 8) = false ∧ barOpen 1 live) ∧
    (let m : Module := { tabled with mem := { tabled.mem with slices := [(0, { state := 2 }), (1, { state := 0 })] } }
     m.hostWalkHeld 1 (cuts 2048 (m.bar2Base 1 + 0) 8) = true ∧ barOpen 1 m ∧ m.bring.ready = true ∧ 0 + 8 ≤ m.bar2Size 1) ∧
    (8 % 8 = 0 ∧ 8 + 8 ≤ bar4Size ∧ live.padOpen 8 = true ∧ quietPort 0 live ∧ live.hostWaits (8 / 2 ^ 23) 8 = false ∧
      live.hostLost (8 / 2 ^ 23) 8 = false) ∧
    (fnOk 63 = true ∧ live.port.perst = false ∧ live.port.linkUp = true ∧ live.port.cfgReady = true ∧ 1 ≤ live.port.numVfs) ∧
    (let m : Module := { live with port := { live.port with cfgReady := false } }; m.port.linkUp = true ∧ m.port.cfgReady = false ∧ 4095 < 4096) :=
  ⟨⟨by decide, open_live 0 (by decide), by decide⟩, ⟨by unfold barOpen; decide, by decide, ⟨rfl, rfl, fun _ => rfl⟩⟩, by decide, by decide +kernel,
   ⟨by decide, by decide, open_live 1 (by decide)⟩, ⟨by decide, by unfold barOpen; decide, by decide⟩, ⟨by decide, by decide, by decide, quiet_live 0, by decide, by decide⟩, by decide, by decide⟩

/-- A work packet's 128 bytes. -/
def wpOf (fs : List (Nat × Nat × Nat)) : List Byte := packRec 128 (fs.map (fun f => ⟨f.1, f.2.1, f.2.2⟩))
/-- A packet taken from the ring that has not started. -/
def taken (fs : List (Nat × Nat × Nat)) : Packet := { launch with bytes := wpOf fs, started := false, created := 0, running := 0 }
/-- `tabled` with partition 1's work ring, one entry waiting, a length table at 0x200000 and these packets. -/
def queued (ps : List Packet) : Module :=
  { tabled with
    port := { tabled.port with works := [(1, { base := 0x10000, size := 16, tail := 1, cplBase := 0x20000, cplSize := 16, enable := true })] },
    parts := { parts := [(1, { tabled.part 1 with packets := ps }), (2, { state := 5 })] },
    mem := { tabled.mem with bytes := tabled.mem.bytes ++
      [(0x200000, 1), (0x200004, 1), (0x200005, 1), (0x200006, 1), (0x200011, 1), (0x200012, 0x20), (0x200019, 0x10), (0x200044, 1),
       (0x200048, 1), (0x200102, 1)] } }
/-- The table's header, its placement entry, its entry. -/
def header : List Byte := packRec 64 [⟨0, 4, 1⟩, ⟨4, 1, 1⟩, ⟨5, 1, 1⟩, ⟨6, 1, 1⟩, ⟨16, 8, 0x200100⟩, ⟨24, 8, 0x1000⟩]
def entry1 : List Byte := packRec 32 [⟨4, 2, 1⟩, ⟨8, 4, 1⟩]

theorem witness_DispatcherEvents_take :
    (let m := queued []
     let b := wpOf [(8, 8, 0x1000)]
     let m2 := (((m.tookTurn 1).answer (.memRead 1 ((m.ring (.work 1)).base + (m.ring (.work 1)).head * 128) 128)).takeEntry (.work 1)).updRing (.work 1)
       (fun r => { r with seq := (r.seq + 1) % 2 ^ 64 })
     partOk 1 = true ∧ b.length = 128 ∧ m.takeReady 1 = true ∧ m.outranked 1 m.parts.lastTake m.takeReady = false ∧ m2.packetRefusal 1 b = none ∧
       m2.packetRefusal 1 (wpOf [(0, 1, 4)]) = some stBadOpcode ∧ m.ringReadable (.work 1) = true) := by decide

theorem witness_DispatcherEvents_items :
    (let p := taken [(8, 8, 0x1000), (72, 2, 1)]
     let m := queued [p]
     m.packet 1 0 = some p ∧ p.kind = 0 ∧ m.packetMayStart 1 p = true ∧ m.creating 1 = true ∧ m.programSite 1 p.bytes = some 1 ∧
       m.queueRoom 1 = true) ∧
    (let p := { taken [(0, 1, 1), (8, 8, 0x200000)] with chunks := [⟨65, 0, true, 1, item⟩] }
     let m := queued [p]
     m.packet 1 0 = some p ∧ p.chunks.find? (fun k => k.left == 0) = some ⟨65, 0, true, 1, item⟩ ∧ m.creating 1 = true ∧ m.queueRoom 1 = true) ∧
    (let m : Module := { queued [taken []] with cores := [(0, { enabled := true, queue := [item] }), (1, { enabled := true })] }
     siteThreadOk 0 0 = true ∧ m.dispatching = true ∧ m.runs (clusterOf 0) = true ∧ (m.cl (clusterOf 0)).functionView = false ∧ m.resetting 0 = false ∧ (m.core 0).takesWork 0 = true ∧
       ((m.core 0).th 0).halted = false ∧ takeFirst (fun (it : Item) => it.thread == 0) (m.core 0).queue = some (item, []) ∧
       m.modeFits 0 item = true) := by decide +kernel

theorem witness_DispatcherEvents_tables :
    (let p := taken [(0, 1, 1), (8, 8, 0x200000)]
     let m := queued [p]
     let es := (List.range (ltGroups header)).map (fun g => getLe ([0, 0, 1, 0, 0, 0, 0, 0] : List Byte) (8 * g) 8)
     m.packet 1 0 = some p ∧ p.kind = 1 ∧ m.packetMayStart 1 p = true ∧ m.dispatching = true ∧ m.tableRead 1 (wpAddr p.bytes) 64 = .ok header ∧
       headerOk header = true ∧ (m.lookedUp .dispatcher 1 (wpAddr p.bytes)).readPlaces 1 header = .ok [0, 0, 1, 0, 0, 0, 0, 0] ∧ es.all (m.placeOk 1) = true ∧
       (es.map m.placeCores).any (·.isEmpty) = false) ∧
    (let p := taken [(0, 1, 1), (8, 8, 0x200000)]
     let m : Module := { queued [p] with mem := { (queued [p]).mem with meta_ := [(rowKey 0 1024, { poison := true })] } }
     m.tableRead 1 (wpAddr p.bytes) 64 = .poison) ∧
    (let p := { taken [(0, 1, 1), (8, 8, 0x200000)] with started := true, header := header, lists := [[0, 1]], pos := [0, 0, 0, 0] }
     let m := queued [p]
     m.packet 1 0 = some p ∧ p.kind = 1 ∧ p.started = true ∧ p.done = false ∧ m.creating 1 = true ∧
       m.tableRead 1 (wpAddr p.bytes + 64 + 32 * nth 0 p.pos 0) 32 = .ok entry1) := by decide +kernel

theorem witness_DispatcherEvents_copies :
    (let p := taken [(0, 1, 2), (8, 8, 0x300000), (16, 8, 0x8000), (24, 8, 64)]
     let m := queued [p]
     m.packet 1 0 = some p ∧ p.kind = 2 ∧ m.copyGoes 1 p = true ∧ m.walkHeld 1 (wpAddr p.bytes + p.moved) = false ∧
       m.lookup .host 1 (wpAddr p.bytes + p.moved) 4 = .ok 0x300000) ∧
    (let p := taken [(0, 1, 3), (8, 8, 0x300000), (16, 8, 0x8000), (24, 8, 64)]
     let m := queued [p]
     m.packet 1 0 = some p ∧ p.kind = 3 ∧ m.copyGoes 1 p = true ∧ m.walkHeld 1 (wpAddr p.bytes + p.moved) = false ∧
       m.lookup .host 1 (wpAddr p.bytes + p.moved) 3 = .ok 0x300000) ∧
    (let p := { taken [(0, 1, 2), (8, 8, 0x300000), (16, 8, 0x8000), (24, 8, 64)] with started := true, pos := [64, 0x300000] }
     let m := queued [p]
     m.copyWaiting 1 = some p ∧ p.pos = [64, 0x300000] ∧ (List.replicate 64 (0 : Byte)).length = 64) := by decide +kernel

/-- A saved context of thread 0 of core 0. -/
def kept : SavedCtx := ⟨{ item := some item }, [], [], {}, false, []⟩
/-- A stop of a target of partition 1. -/
def stop (t : Target) (abort : Bool) : Stop := ⟨t, 1, abort, 1000, [], false, 0, 0⟩
/-- `busy` with this done to core 0, and partition 1's quantum. -/
def busyCore (f : Core → Core) : Module :=
  { live with cores := [(0, f { enabled := true, t0 := { pc := 0x1000, item := some item } }), (1, { enabled := true })] }
/-- A command that waits. -/
def slot (phase : Phase) (i : Option Instr) (info : List Nat) : CmdSlot :=
  ⟨7, 0, 0x0102, 5, 0, 1, phase, i, [], 0, true, false, info⟩
/-- `live` with this command in hand. -/
def held1 (q : CmdSlot) : Module := { live with engine := { live.engine with cmds := [q] } }
/-- `live` with this stop. -/
def stoppingAt (q : Stop) : Module := { live with parts := { live.parts with stops := [q] } }

theorem witness_ContextAndStopEvents_quantum :
    (let m := busyCore (fun c => { c with saved0 := some kept })
     ((m.core 0).th 0).item = some item ∧ (m.part item.part).quantum ≠ 0xFF ∧ m.running 0 0 = true ∧ m.switchWanted 0 0 = true ∧
       m.switchHeld 0 = false) ∧
    (let m := busyCore (fun c => { c with saved0 := some kept, switching := [0] })
     0 ∈ (m.core 0).switching ∧ (m.core 0).quiet 0 = true ∧ m.clocked 0 = true ∧ m.resetting 0 = false ∧ (m.core 0).savedOf 0 = some kept ∧
       (m.core 0).canResume 0 kept = true) ∧
    (let m := busyCore (fun c => { c with queue := [item], switching := [0] })
     0 ∈ (m.core 0).switching ∧ (m.core 0).quiet 0 = true ∧ m.clocked 0 = true ∧ m.resetting 0 = false ∧ (m.core 0).savedOf 0 = none ∧
       m.nextItem 0 0 = some (item, []) ∧ m.dispatching = true ∧ (m.cl (clusterOf 0)).functionView = false ∧
       (m.core 0).scratch.phase ≠ 100) ∧
    (let m := busyCore (fun c => { c with t0 := { c.t0 with flight := [⟨0, 1, [], 0, 0, [], false⟩] }, switching := [0] })
     (m.core 0).switching = [0] ∧ (m.core 0).quiet 0 = false ∧ ((m.core 0).th 0).item = some item) ∧
    siteThreadOk 0 0 = true ∧ siteOk 0 = true := by
  refine ⟨by decide, by decide, by decide, by decide, by decide, by decide⟩

theorem witness_ContextAndStopEvents_stops :
    (let q := stop (.thread 0 0) false
     Target.wf (.thread 0 0) = true ∧ (stoppingAt q).stopOf (.thread 0 0) = some q ∧ q.abort = false ∧
       (stoppingAt q).targetIdle q.cmds (.thread 0 0) = true) ∧
    (let q := stop (.partition 1) true
     Target.wf (.partition 1) = true ∧ (stoppingAt q).stopOf (.partition 1) = some q ∧ q.abort = true ∧ (stoppingAt q).abortIdle (.partition 1) = true) ∧
    (let q := stop (.partition 1) false
     partOk 1 = true ∧ (stoppingAt q).stopOf (.partition 1) = some q ∧ q.abort = false) ∧
    (let q := stop (.slice 0) false
     let m : Module := { stoppingAt q with
       cores := [], mem := { live.mem with slices := [(0, { state := 0, holdQueue := [⟨0, [], false, 2, false, 0⟩] })] },
       thermal := { live.thermal with bands := [(0, 3)] } }
     m.stopOf (.slice 0) = some q ∧ m.targetIdle q.cmds (.slice 0) = true ∧ m.retireWaits 0 = true) := by
  refine ⟨by decide, by decide, by decide, by decide⟩

theorem witness_ContextAndStopEvents_layouts :
    (let l : LayoutRun := ⟨1, [0], true, 7, 0, 0, []⟩
     let m : Module := { live with parts := { live.parts with layout := some l } }
     m.parts.layout = some l ∧ m.fillHeld l.clusters = false ∧ l.create = true) ∧
    (let l : LayoutRun := ⟨1, [0], false, 7, 0, 0, []⟩
     let m : Module := { live with parts := { live.parts with layout := some l } }
     65535 < 65536 ∧ m.parts.layout = some l ∧ l.create = false) := by decide

theorem witness_ContextAndStopEvents_pool :
    (let m : Module := { live with
       parts := { parts := [(1, { state := 2, root := 0x100000, pool := [(0x100000, 1), (0x20000000, 1)], nodes := [(0x20000000, 256, 4)] })] },
       mem := { live.mem with slices := [(0, { state := 0 }), (1, { state := 1 })] } }
     (m.part 1).pool[1]? = some (0x20000000, 1) ∧ m.extentOk 0x20000000 = false ∧
       (m.part 1).nodes.any (fun n => decide (0x20000000 ≤ n.1 ∧ n.1 < 0x20000000 + 1 * 65536)) = true ∧
       isOk (m.moveNodes 1 (fun a => decide (0x20000000 ≤ a ∧ a < 0x20000000 + 1 * 65536))) = true) := by
  refine ⟨by decide, by decide, by decide, by decide +kernel⟩

theorem witness_ContextAndStopEvents_commands :
    (let q := slot .waiting (some .claimGrant) []
     (held1 q).engine.cmds = [q] ∧ q.phase = .waiting ∧ q.instr = some .claimGrant) ∧
    (let q := slot .fenceWait (some .claimGrant) [1]
     (held1 q).atWorkFence 1 = true ∧ (held1 q).engine.cmds = [q] ∧ q.phase = .fenceWait ∧ q.info = [1] ∧ q.instr = some .claimGrant) := by decide

/-- A response of slice 1 to this requester. -/
def resp (src : Src) (accept : Bool) : Response := ⟨⟨1, 0, 0, src, accept, false, [], false⟩, accept, [1], false⟩
/-- `m` with it on its way. -/
def bringing (r : Response) (m : Module) : Module := { m with mem := { m.mem with responses := [r] } }

theorem witness_ContextAndStopEvents_arrivals :
    (takeFirst (fun (r : Response) => r.req.src == .host 0 3 && r.accept == false) [resp (.host 0 3) false] = some (resp (.host 0 3) false, []) ∧
      (bringing (resp (.host 0 3) false) live).mayArrive (resp (.host 0 3) false) = true) ∧
    (takeFirst (fun (r : Response) => r.req.src == .stream 0 1 2 && r.accept == false) [resp (.stream 0 1 2) false] =
        some (resp (.stream 0 1 2) false, []) ∧ (bringing (resp (.stream 0 1 2) false) live).mayArrive (resp (.stream 0 1 2) false) = true) ∧
    (takeFirst (fun (r : Response) => r.req.src == .stream 0 1 2 && r.accept == true) [resp (.stream 0 1 2) true] =
        some (resp (.stream 0 1 2) true, []) ∧ (bringing (resp (.stream 0 1 2) true) live).mayArrive (resp (.stream 0 1 2) true) = true) ∧
    (takeFirst (fun (r : Response) => r.req.src == .host 0 3 && r.accept == true) [resp (.host 0 3) true] = some (resp (.host 0 3) true, []) ∧
      (bringing (resp (.host 0 3) true) live).mayArrive (resp (.host 0 3) true) = true) ∧
    (bringing (resp (.host 0 3) false) (attachCut false)).mayArrive (resp (.host 0 3) false) = false := by
  refine ⟨by decide, by decide, by decide, by decide, by decide +kernel⟩

theorem witness_ContextAndStopEvents_losses :
    (let r : MemReq := ⟨1, 0, 1, .host 0 3, false, false, [], false⟩
     let m : Module := { attachCut false with mem := { live.mem with slices := [(0, { state := 0 }), (1, { state := 0, waiting := [⟨r, 0⟩] })] } }
     clusterOk 24 = true ∧ endpointOk 0x3F00 = true ∧ m.lostReqs 24 0x3F00 = [r] ∧ m.lostPkts 24 0x3F00 = [] ∧ m.lostXfers 24 0x3F00 = [] ∧
       m.net.lost = []) ∧
    (let p : NetPkt := ⟨pkSend, 0, 0, 0, 1, 0, [1, 0, 0, 0], [], true, 3, true, 0, 1, 1, false⟩
     let m : Module := { live with clusters := [(0, { routerFenced := true })], net := { live.net with pkts := [p], newFences := [(0, true)] } }
     m.lostReqs 0 0 = [] ∧ m.lostPkts 0 0 = [p] ∧ m.lostXfers 0 0 = [] ∧ m.net.lost = []) := by
  refine ⟨by decide +kernel, by decide +kernel⟩

/-- A packet between cores. -/
def npkt (kind src dst : Nat) : NetPkt :=
  ⟨kind, src, 0, 0, dst, 0, [1, 0, 0, 0], [], true, 3, true, 0, 1, 1, false⟩
/-- `live` with these packets under way. -/
def carrying (ps : List NetPkt) : Module := { live with net := { live.net with pkts := ps } }

theorem witness_NetworkPackets_data :
    siteOk 0 = true ∧ siteOk 1 = true ∧ endpointOk 65536 = true ∧
    (carrying [npkt pkSend 0 1]).nextPkt 0 1 (· == pkSend) 0 = some (npkt pkSend 0 1, carrying []) ∧
    (carrying [npkt pkGather 0 1]).nextPkt 0 1 (· == pkGather) 0 = some (npkt pkGather 0 1, carrying []) ∧
    (carrying [npkt pkBcast 65536 1]).nextPkt 65536 1 (· == pkBcast) 0 = some (npkt pkBcast 65536 1, carrying []) :=
  ⟨by decide, by decide, by decide, rfl, rfl, rfl⟩

theorem witness_NetworkPackets_engine :
    (let c : DeckCast := ⟨0, 1, 0, 0, [0], 0⟩
     let m (ps : List NetPkt) : Module := { live with net := { live.net with pkts := ps, casts := [c] } }
     (m [npkt pkBcast 1 65536]).nextPkt 1 (65536 + 0) (· == pkBcast) 0 = some (npkt pkBcast 1 65536, m []) ∧
       (m []).net.casts.find? (fun c => c.is 0 1 0 0) = some c) :=
  ⟨rfl, by decide⟩

theorem witness_NetworkPackets_signals :
    (carrying [npkt pkSignal 0 1]).nextPkt 0 1 (· == pkSignal) 3 = some (npkt pkSignal 0 1, carrying []) ∧
    (carrying []).ownerOf 1 = 1 ∧ (carrying []).unreachable 1 = none ∧
    (let m (ps : List NetPkt) : Module := { carrying ps with cores := [(0, { enabled := true }), (1, {})] }
     (m [npkt pkSignal 0 1]).nextPkt 0 1 (· == pkSignal) 3 = some (npkt pkSignal 0 1, m []) ∧ (m []).ownerOf 1 = 1 ∧ (m []).unreachable 1 = some 1) ∧
    (let f := { inFlight 4 (dsc 0x50 []) with next := 1 }
     let m (ps : List NetPkt) : Module := { flying f with net := { live.net with pkts := ps } }
     (m [npkt pkAck 1 0]).nextPkt 1 0 (· == pkAck) 3 = some (npkt pkAck 1 0, m []) ∧ (m []).transfer? 0 0 0 = some f ∧ f.next ≤ 1) ∧
    (carrying [npkt pkNack 1 0]).nextPkt 1 0 (fun k => k == pkNack || k == pkSigNack) 3 = some (npkt pkNack 1 0, carrying []) :=
  ⟨rfl, by decide, by decide, ⟨rfl, by decide, by decide⟩, ⟨rfl, by decide, by decide⟩, rfl⟩

theorem witness_NetworkPackets_sums :
    (let x : Tree := ⟨1, 0, [0, 1], false⟩
     let r : Reduction := ⟨0, 1, 0, 5, 0, false, [⟨0, 0, 0, List.replicate 64 0, false⟩, ⟨1, 0, 0, List.replicate 64 0, false⟩]⟩
     let i : RootInst := ⟨0, 1, 0, 5, 0, [0], true⟩
     let m : Module := { live with net := { live.net with trees := [(0, 0, x)], reductions := [r], insts := [i] } }
     m.tree 0 0 = some x ∧ clusterOf x.root = 0 * 64 + 0 ∧ m.treeWhole x = true ∧
       takeFirst (fun (r : Reduction) => r.root == x.root && r.tree == 0 && r.got.length == x.members.length && m.net.lanesFree r) m.net.reductions = some (r, []) ∧
       m.net.insts.find? (fun q => q.root == x.root && q.tree == 0 && q.tag == r.tag && decide (r.off ∈ q.left)) = some i ∧
       m.unreachable x.root = none ∧ i.tracked = true) ∧
    (let m : Module := { live with net := { live.net with heldPairs := [(0, 1)], pkts := [{ npkt pkSend 0 1 with held := true }] } }
     (0, 1) ∈ m.net.heldPairs ∧ m.net.heldCmds = [] ∧ m.port.reads = [] ∧ m.port.bells = [] ∧ ∀ p ∈ m.net.pkts, p.src = 0 → p.dst = 1 → p.held = true) ∧
    (let m : Module := { live with net := { live.net with transom := [(0, [4, 5])] } }
     SMap.get [] m.net.transom 0 = 4 :: [5] ∧ m.relocking (.deck 0) = false) ∧
    (let f (typ ctrl : Nat) (poison : Bool) : Flit := ⟨0, 0, typ, 1, 1, 2, 3, 64, 0, ctrl, poison⟩
     (f 0x01 0 true).wf = true ∧ live.routerLive (f 0x01 0 true).cluster = true ∧ typeKnown 0x01 = true ∧ (f 0x01 2 false).wf = true ∧
       (f 0x01 1 false).wf = true ∧ (f 0x20 0 false).wf = true ∧ (f 0x06 0 false).wf = true ∧ typeKnown 0x06 = false) := by
  refine ⟨by decide, by decide, by decide, by decide, by decide⟩

theorem witness_NetworkUnits_clocks :
    (let m : Module := { live with power := { live.power with halfSlowOn := true }, clusters := (List.range 64).map (fun c => (c, { point := 2 })) }
     m.power.halfSlowOn = true ∧ m.halfIdle 0 = true ∧ bitOf m.clocks.halfSlow 0 = false ∧
       SMap.get 0 m.net.halfFreqAt 0 = 0) ∧
    (let m : Module := { live with clocks := { live.clocks with halfSlow := 1 }, clusters := [(0, { point := 2 })] }
     bitOf m.clocks.halfSlow 0 = true ∧ m.halfNeeded 0 = true) ∧
    (let m : Module := { live with net := { live.net with halfFreqAt := [(0, 1)] } }
     ¬ (SMap.get 0 m.net.halfFreqAt 0 = 0 ∨ SMap.get 0 m.net.halfFreqAt 0 - 1 + 1000 ≤ m.time)) ∧
    clusterOk 0 = true ∧ (let m : Module := { live with net := { live.net with newFences := [(0, true)] } }; m.net.heldCmds = [] ∧ m.net.newFences ≠ []) ∧ live.net.newFences = [] := by
  refine ⟨by decide, by decide, by decide, by decide, by decide⟩

theorem witness_NetworkUnits_bridges :
    (groupOk 0 0 0 = true ∧ live.bridgeLost 0 = false ∧ (live.net.group 0 0 0).live = true ∧ (live.net.group 0 0 0).retraining = false ∧
      (live.net.group 0 0 0).nextSeq = 0 ∧ (live.net.group 0 0 0).sparesUsed < 2) ∧
    (let m : Module := { live with net := { live.net with groups := [(0, { replaying := true, sparesUsed := 2 })] } }
     m.bridgeLost 0 = false ∧ (m.net.group 0 0 0).replaying = true ∧ 2 ≤ (m.net.group 0 0 0).sparesUsed) ∧
    (let m : Module := { live with net := { live.net with groups := [(0, { retraining := true })] } }
     (m.net.group 0 0 0).retraining = true ∧ (m.net.group 0 0 0).live = true) ∧
    (let m : Module := { live with net := { live.net with bridges := [(0, { groupFails := [0, 0, 0] })] } }
     bridgeOk 0 = true ∧ m.bridgeLost 0 = false ∧ (m.net.bridge 0).retraining = false ∧
       3 ≤ ((m.net.bridge 0).groupFails.filter (fun t => decide (m.time < t + 1000000))).length) ∧
    (let m : Module := { live with net := { live.net with bridges := [(0, { retraining := true })] } }
     (m.net.bridge 0).retraining = true) := by
  refine ⟨by decide, by decide, by decide, by decide, by decide⟩

/-- A transaction of device 2 to this module, device 1, for partition 1. -/
def tr (typ : Nat) : Trans :=
  { typ := typ, flags := 0, dest := 1, src := 2, partition := 1, tag := 9, epoch := 0, address := 0, aux := 0, step := 0, hops := 3, payload := [] }
/-- A module in a fabric: device 1, ports 0 and 1 up, device 0 its manager. -/
def inFabric : Fabric :=
  { idValid := true, deviceId := 1, admission := 2, ports := [{ state := 2 }, { state := 2 }, {}, {}], routes := [(0, 1), (1, 5), (2, 1), (3, 2)] }
def linked : Module := { tabled with fab := inFabric }
/-- The same in stage S9 of bring-up. -/
def s9 (f : Fabric) : Module := { tabled with bring := { live.bring with active := true, stage := 9 }, fab := f }

/-- What `heard` and `forMe` ask, as computations. -/
def hears (port : Nat) (t : Trans) (typ : Nat) (m : Module) : Bool := decide (port < Config.ports) && t.wf && t.typ == typ && (m.fport port).up
theorem heard_of {port typ : Nat} {t : Trans} {m : Module} (h : hears port t typ m = true) : heard port t typ m := by
  simp only [hears, Bool.and_eq_true, beq_iff_eq, decide_eq_true_eq] at h
  exact ⟨h.1.1.1, h.1.1.2, h.1.2, h.2⟩
theorem forMe_of {port typ : Nat} {t : Trans} {m : Module} (h : (hears port t typ m && m.fab.idValid && t.dest == m.fab.deviceId) = true) :
    forMe port t typ m := by
  simp only [Bool.and_eq_true, beq_iff_eq] at h
  exact ⟨heard_of h.1.1, h.1.2, h.2⟩

theorem leNat_leBytes (n v : Nat) : leNat (leBytes n v) = v % 256 ^ n := by
  induction n generalizing v with
  | zero => simp [leBytes, leNat, Nat.mod_one]
  | succ n ih =>
    rw [show 256 ^ (n + 1) = 256 * 256 ^ n from Nat.pow_succ', Nat.mod_mul]
    simp [leBytes, leNat, ih]
theorem leBytes_length (n v : Nat) : (leBytes n v).length = n := by
  induction n generalizing v with
  | zero => rfl
  | succ n ih => simp [leBytes, ih]
theorem getLe_serial (v : Nat) (h : v < 2 ^ 128) : getLe (leBytes 16 v) 0 16 = v := by
  rw [getLe, List.drop_zero, List.take_of_length_le (Nat.le_of_eq (leBytes_length 16 v)), leNat_leBytes]
  exact Nat.mod_eq_of_lt h

/-- An ID assignment for the module of this serial number. -/
def assignTo (v : Nat) : Trans := { tr 0x23 with payload := leBytes 16 v, flags := 2 }
theorem assignTo_heard (v : Nat) : heard 0 (assignTo v) 0x23 linked := by
  refine ⟨by decide, ?_, rfl, by decide⟩
  simp [Trans.wf, assignTo, tr, leBytes_length]

theorem witness_FabricStart_idAssign :
    (heard 0 (assignTo Config.serial.toNat) 0x23 linked ∧ linked.upward = some 0 ∧ linked.fab.role ≠ 2 ∧
      getLe (assignTo Config.serial.toNat).payload 0 16 = Config.serial.toNat) ∧
    (heard 0 (assignTo ((Config.serial.toNat + 1) % 2 ^ 128)) 0x23 linked ∧
      getLe (assignTo ((Config.serial.toNat + 1) % 2 ^ 128)).payload 0 16 ≠ Config.serial.toNat) := by
  have hs : Config.serial.toNat < 2 ^ 128 := Config.serial.isLt
  refine ⟨⟨assignTo_heard _, by decide, by decide, getLe_serial _ hs⟩, assignTo_heard _, ?_⟩
  show getLe (leBytes 16 _) 0 16 ≠ _
  rw [getLe_serial _ (Nat.mod_lt _ (by decide))]
  omega

theorem witness_FabricStart_links :
    (let f : FabFlit := ⟨0, 0, false, 0, 0, List.replicate 8 0, true, [tr 0x05]⟩
     portOk 0 = true ∧ f.wf = true ∧ (linked.fport 0).up = true ∧ f.good = true ∧ f.seq = (linked.fport 0).rxSeq ∧ f.kind < 2) ∧
    (let f : FabFlit := ⟨1, 0, false, 2, 0, List.replicate 8 0, true, []⟩
     f.wf = true ∧ f.seq ≠ (linked.fport 0).rxSeq ∧ 2 ≤ f.kind) ∧
    (let m (n : Nat) : Module := { tabled with fab := { inFabric with ports := [{ state := 2, sameReplays := n, replayBuf := [(0, tr 0x05)] }, {}, {}, {}] } }
     ((m 0).fport 0).up = true ∧ ((m 0).fport 0).replayBuf ≠ [] ∧ ((m 0).fport 0).sameReplays < 7 ∧ 7 ≤ ((m 7).fport 0).sameReplays) ∧
    ((linked.fport 2).state = 0 ∧ linked.bring.ready = true) ∧
    (let m : Module := { tabled with fab := { inFabric with ports := [{ state := 1 }, {}, {}, {}] } }
     (m.fport 0).state = 1) := by
  refine ⟨by decide, by decide, by decide, by decide, by decide⟩

theorem witness_FabricStart_beacons :
    (heard 0 (tr 0x20) 0x20 linked ∧ linked.fab.leadSerial = none) ∧
    (let m := s9 { inFabric with leadSerial := some 7 }
     heard 0 (tr 0x21) 0x21 m ∧ m.inStage 9 = true ∧ m.fab.leadSerial = some 7 ∧ 7 ≠ getLe (tr 0x21).payload 0 16) ∧
    (let m := s9 inFabric
     heard 0 (tr 0x21) 0x21 m ∧ m.inStage 9 = true ∧ m.fab.leadSerial = none ∧ m.fab.role ≠ 2 ∧ m.fab.parent = 0) ∧
    (let m : Module := { tabled with fab := { inFabric with role := 2 } }
     heard 0 (tr 0x22) 0x22 m ∧ m.fab.role = 2) ∧
    (heard 1 (tr 0x22) 0x22 linked ∧ linked.fab.role ≠ 2 ∧ linked.upward = some 0 ∧ 0 ≠ 1) := by
  refine ⟨⟨heard_of (by decide), by decide⟩, ⟨heard_of (by decide), by decide⟩, ⟨heard_of (by decide), by decide⟩,
    ⟨heard_of (by decide), by decide⟩, ⟨heard_of (by decide), by decide⟩⟩

theorem witness_FabricStart_stage9 :
    (let m : Module := { s9 { inFabric with ports := [{ state := 2 }, {}, {}, {}] } with epochs := { algEpoch := 1 } }
     m.inStage 9 = true ∧ m.fab.ports.all (fun p => !p.up && p.state != 1) = false ∧ m.fab.conflict = false ∧ m.fab.idValid = true ∧
       m.epochs.algEpoch ≠ 0 ∧ m.epochs.staged = [] ∧ m.fab.replan = false) ∧
    (let m := s9 {}
     m.inStage 9 = true ∧ m.fab.ports.all (fun p => !p.up && p.state != 1) = true ∧ m.fab.leadSerial = none ∧ m.fab.role ≠ 2) ∧
    (let t := { tr 0x01 with dest := 3 }
     heard 0 t 0x01 linked ∧ linked.fab.idValid = true ∧ t.dest ≠ linked.fab.deviceId ∧ 2 ≤ t.hops ∧ linked.egress t.dest = some 1 ∧ 1 ≠ opposite 0) := by
  refine ⟨by decide, by decide, heard_of (by decide), by decide, by decide, by decide, by decide, by decide⟩

theorem witness_FabricTransactions_refusals :
    (let m : Module := { linked with fab := { inFabric with admission := 0 } }
     m.admits (tr 1).partition = false ∧ (∀ k ∈ [0x01, 0x02, 0x03, 0x10], m.behindHeld (tr k) = false) ∧ m.enginesStill 1 = false ∧
       forMe 0 (tr 0x01) 0x01 m ∧ forMe 0 (tr 0x02) 0x02 m ∧ forMe 0 (tr 0x03) 0x03 m ∧ forMe 0 (tr 0x10) 0x10 m) := by
  refine ⟨by decide, by decide, by decide, forMe_of (by decide), forMe_of (by decide), forMe_of (by decide), forMe_of (by decide)⟩

theorem witness_FabricTransactions_writes :
    (let t := { tr 0x01 with payload := List.replicate 64 1 }
     forMe 0 t 0x01 linked ∧ linked.behindHeld t = false ∧ linked.admits t.partition = true ∧ 0 = t.address / 2 ^ 22 % 2 ^ 14 ∧ linked.ownerOf 0 = t.partition ∧ t.payload ≠ [] ∧
       oneWindow (t.address % 2 ^ 22) t.payload.length = true ∧ linked.unreachable 0 = none ∧ linked.noWay (enterEnd 0 t.address) 0 = false ∧
       linked.mayLeave (enterEnd 0 t.address) 0 = true ∧ bitOf t.flags 1 = false) ∧
    (let t := { tr 0x02 with address := 0x300000, payload := List.replicate 64 1 }
     let l := [(0, 0x300000, 64)]
     let hot : Module := { linked with thermal := { linked.thermal with bands := [(0, 4)] } }
     forMe 0 t 0x02 linked ∧ (linked.behindHeld t = false ∧ hot.behindHeld t = false ∧ linked.admits t.partition = true ∧
         linked.remoteHeld t.partition (rowParts 3 0 t.address (min t.payload.length 2048)) = false ∧
         hot.remoteHeld t.partition (rowParts 3 0 t.address (min t.payload.length 2048)) = false) ∧
       linked.remoteAddrs t.partition 4 (servedSrc t 0 0) (rowParts 3 0 t.address (min t.payload.length 2048)) = .ok l ∧
       linked.enterLost 0 l = false ∧ linked.enterWaits 0 l = false ∧ hot.enterLost 0 l = false ∧ hot.enterWaits 0 l = false ∧
       l.any (fun x => linked.holdRefuses x.2.1) = false ∧ forMe 0 t 0x02 hot ∧ hot.admits t.partition = true ∧
       hot.remoteAddrs t.partition 4 (servedSrc t 0 0) (rowParts 3 0 t.address (min t.payload.length 2048)) = .ok l ∧
       l.any (fun x => hot.holdRefuses x.2.1) = true) ∧
    (let t := { tr 0x03 with address := 0x300000, aux := 2048 }
     forMe 0 t 0x03 linked ∧ (linked.behindHeld t = false ∧ linked.admits t.partition = true ∧
         linked.remoteHeld t.partition [(0, t.address, 2048)] = false) ∧ t.aux = 2048 ∧ t.address % 2048 = 0 ∧
       linked.remoteAddrs t.partition 3 (servedSrc t 0 0) [(0, t.address, 2048)] = .ok [(0, 0x300000, 2048)] ∧
       linked.enterLost 0 [(0, 0x300000, 2048)] = false ∧ linked.enterWaits 0 [(0, 0x300000, 2048)] = false) := by
  refine ⟨⟨forMe_of (by decide), by decide⟩, ⟨forMe_of (by decide), by decide, rfl, by decide, by decide, by decide, by decide, by decide, forMe_of (by decide), by decide, rfl, by decide⟩,
    forMe_of (by decide), by decide, by decide, by decide, rfl, by decide, by decide⟩

theorem witness_FabricTransactions_answers :
    (forMe 0 (tr 0x04) 0x04 linked ∧ forMe 0 (tr 0x25) 0x25 linked ∧ forMe 0 (tr 0x26) 0x26 linked) ∧
    (let x : FabXfer := ⟨9, 2, 0, 0, 0, []⟩
     let f := inFlight 4 (dsc 0x50 [])
     let m (xs : List FabXfer) : Module := { flying f with fab := inFabric, flight := { xfers := xs } }
     forMe 0 (tr 0x05) 0x05 (m [x]) ∧ (m [x]).collOfWrite (tr 0x05) = none ∧ (m [x]).takeXfer 9 2 = some (x, m []) ∧
       ((m []).portCounts x.dest).transfer? x.site x.thread x.id = some f ∧ forMe 0 (tr 0x06) 0x06 (m [x]) ∧
       (m [x]).flight.xfers.any (FabXfer.is 9 2) = true ∧
       takeFirst (fun (x : FabXfer) => x.tag == 9 && x.held.isEmpty) (m [x]).flight.xfers = some (x, [])) ∧
    (let m (e : Nat) : Module := { linked with epochs := { algEpoch := e } }
     let t := { tr 0x10 with epoch := 5 }
     forMe 0 t 0x10 (m 5) ∧ ((m 5).behindHeld t = false ∧ (m 5).enginesStill t.partition = false) ∧ (m 5).admits t.partition = true ∧ t.epoch = (m 5).epochs.algEpoch ∧ seqNewer t.epoch (m 4).epochs.algEpoch = true ∧
       t.epoch ≠ (m 6).epochs.algEpoch ∧ seqNewer t.epoch (m 6).epochs.algEpoch = false) := by
  refine ⟨⟨forMe_of (by decide), forMe_of (by decide), forMe_of (by decide)⟩,
    ⟨forMe_of (by decide), by decide, rfl, by decide, forMe_of (by decide), by decide, by decide⟩, forMe_of (by decide), by decide⟩

theorem witness_FabricTransactions_order :
    (let m : Module := { linked with net := { linked.net with heldCmds := [(0, .writeSp 0 (tr 0x10))] } }
     forMe 0 (tr 0x10) 0x10 m ∧ m.behindHeld (tr 0x10) = true) ∧
    (let m : Module := { linked with clocks := { linked.clocks with resets := [⟨3, 0, 0, none⟩] } }
     forMe 0 (tr 0x10) 0x10 m ∧ m.enginesStill (tr 0x10).partition = true) :=
  ⟨⟨forMe_of (by decide), by decide⟩, ⟨forMe_of (by decide), by decide⟩⟩

theorem witness_FabricTransactions_holds :
    (let c : Collective := ⟨9, 1, 0, 0, 7, 0, 0, 0, 0, [1, 2], [0, 1], [], [], [], 0, 0, [], false, []⟩
     let m : Module := { linked with engine := { live.engine with cmds := [slot .running none []] }, flight := { colls := [c] } }
     m.coll 9 1 = some c ∧ c.deadline ≤ m.time ∧ c.complete = false) ∧
    linked.anyHeld = false ∧
    (let m : Module := { linked with thermal := { linked.thermal with bands := [(0, 3)], holdSince := some 0 }, time := 60000 }
     m.anyHeld = true ∧ heldFor m.time 50000 m.thermal.holdSince = true ∧
       (m.fab.idValid = true → m.fab.manager ≠ m.fab.deviceId)) := by
  refine ⟨by decide, by decide, by decide⟩

set_option maxRecDepth 100000 in
theorem witness_FabricTransactions_firmware :
    (let t := { tr 0x18 with payload := zeros, aux := 0x98F94189 }
     let m : Module := { linked with flight := { rxFrom := (2, 10) } }
     forMe 0 t 0x18 m ∧ m.isHead = false ∧ m.claimsFree [.slots] = true ∧ t.address < slotChunks ∧ t.payload.length = 4096 ∧
       crc32c t.payload = t.aux ∧ m.flight.rxFrom = (t.src, t.tag + 1) ∧ m.flight.rxState = 0 ∧
       (insertNew t.address m.flight.rxBitmap).length < slotChunks) :=
  ⟨forMe_of (by decide +kernel), by decide, by decide, by decide, by decide +kernel, test_crc_zeros, by decide, by decide, by decide⟩

theorem witness_FabricTransactions_broadcast :
    (let m : Module := { linked with flight := { rxFrom := (2, 1), rxState := 1 } }
     forMe 0 (tr 0x2D) 0x2D m ∧ m.flight.rxFrom = ((tr 0x2D).src, (tr 0x2D).address + 1) ∧ forMe 0 (tr 0x2F) 0x2F m ∧ m.flight.rxState = 1 ∧
       m.bring.slots.length = 2 ∧ (tr 0x2F).step ≠ 1) ∧
    (let b : Broadcast := ⟨0, 1, 2, false, 7, 0, [(2, [0], 3)]⟩
     let m (b : Broadcast) : Module := { linked with flight := { tx := some b } }
     forMe 0 (tr 0x2E) 0x2E (m b) ∧ (m b).flight.tx = some b ∧ (tr 0x2E).address = b.num ∧ (tr 0x2E).address ≠ ({ b with num := 4 }).num) := by
  refine ⟨⟨forMe_of (by decide), by decide, forMe_of (by decide), by decide⟩, forMe_of (by decide), by decide⟩

/-- A staged value of kind 3 of this module or of device 0. -/
def value (mine : Bool) : Staged := ⟨3, 1, [1], 2, mine, false, [2], [], none, [], none, none⟩
/-- `linked` with it staged. -/
def staging (v : Staged) : Module := { linked with epochs := { staged := [v] } }

theorem witness_FabricManagement_modes :
    (forMe 0 (tr 0x24) 0x24 linked ∧ (tr 0x24).src % 256 ≠ 0) ∧
    (let t := { tr 0x27 with address := 3, payload := [1], aux := 1 }
     forMe 0 t 0x27 linked ∧ linked.passOn t = linked ∧ t.step = 0 ∧ t.payload.length = t.aux ∧ linked.claimsFree [.epoch] = true ∧
       (staging (value false)).claimsFree [.epoch] = false) ∧
    (let t := { tr 0x28 with address := 3 }
     let v := value true
     forMe 0 t 0x28 (staging v) ∧ (staging v).stagedOf t.address = some v ∧ v.mine = true ∧ t.src ∈ v.expect ∧ v.pausing = none) ∧
    (let t (k : Nat) := { tr k with address := 3 }
     let v := value false
     (staging v).passOn (t 0x29) = staging v ∧ (staging v).stagedFrom (t 0x29) = some v ∧ (staging v).passOn (t 0x2A) = staging v ∧
       (staging v).stagedFrom (t 0x2A) = some v ∧ forMe 0 (t 0x29) 0x29 (staging v) ∧ forMe 0 (t 0x2A) 0x2A (staging v)) := by
  refine ⟨⟨forMe_of (by decide), by decide⟩, ⟨forMe_of (by decide), rfl, rfl, by decide, by decide, by decide⟩,
    ⟨forMe_of (by decide), by decide, by decide, by decide, by decide⟩, rfl, by decide, rfl, by decide, forMe_of (by decide), forMe_of (by decide)⟩

theorem witness_FabricManagement_polls :
    (forMe 0 (tr 0x2B) 0x2B linked ∧ forMe 0 (tr 0x2C) 0x2C linked ∧ linked.epochs.staged = []) ∧
    (let m : Module := { linked with flight := { heldPkts := [(0, tr 0x10)] } }
     0 < m.flight.heldPkts.length ∧ m.flight.heldPkts[0]? = some (0, tr 0x10)) ∧
    ((staging (value false)).stagedOf 3 = some (value false) ∧ (staging (value true)).stagedOf 3 = some (value true) ∧ (value true).pausing = none ∧
      (value true).cmd = none ∧ (value true).expect.filter (fun d => !(value true).acks.any (fun a => a.1 == d)) ≠ []) := by
  refine ⟨⟨forMe_of (by decide), forMe_of (by decide), by decide⟩, by decide, by decide⟩

theorem witness_FabricManagement_managers :
    (linked.fab.idValid = true ∧ linked.fab.manager ≠ linked.fab.deviceId) ∧
    (let m : Module := { linked with fab := { inFabric with deviceId := 256, lead := 0, manager := 0 } }
     m.isHead = true ∧ m.isLead = false) ∧
    (let m : Module := { linked with flight := { hbMissed := 3 } }
     3 ≤ m.flight.hbMissed ∧ m.fab.managerLost = false) ∧
    (let m : Module := { linked with fab := { inFabric with deviceId := 0, lead := 0, routes := [(256, 1), (257, 1)] } }
     m.isLead = true ∧ m.fab.acting = false ∧ m.groupOthers 1 ≠ []) ∧
    (let m (vs : List Staged) : Module := { linked with fab := { inFabric with paused := true }, epochs := { staged := vs } }
     let v := { value false with pausing := some 0 }
     (m []).fab.paused = true ∧ (m []).fab.drained = false ∧ (m []).portsDrained = true ∧ (∀ v ∈ (m []).epochs.staged, v.pausing = none) ∧
       (m [v]).portsDrained = true ∧ (m [v]).epochs.staged.find? (fun v => v.pausing.isSome) = some v ∧ v.mine = false) := by
  refine ⟨by decide, by decide, by decide, by decide, by decide⟩

/-! ### Bring-up -/

/-- A module in a stage of bring-up. -/
def inBring (n : Nat) (b : Bring) : Module := { bring := { b with active := true, stage := n } }
/-- What S1 finds of the images. -/
def images (ok other : Bool) : FwInfo := ⟨1, 1, ok, other, []⟩

/-- Ten decks in two rows of five, the bridges of both rows and one between them; and a bridge that gives deck 1 another index. -/
def tenDecks : Discovery :=
  ⟨[0], [(0, 1, 1, 3), (1, 1, 2, 3), (2, 1, 3, 3), (3, 1, 4, 3), (0, 2, 5, 0), (5, 1, 6, 3), (6, 1, 7, 3), (7, 1, 8, 3), (8, 1, 9, 3)], 0⟩

theorem test_discovery_finds_every_deck : discWf tenDecks = true ∧ discResult tenDecks = .ok [] := ⟨by decide, by rfl⟩
theorem test_discovery_errors :
    discWf { tenDecks with links := tenDecks.links ++ [(0, 2, 1, 0)] } = true ∧
    discResult { tenDecks with links := tenDecks.links ++ [(0, 2, 1, 0)] } = .error (0x0032, 8, 1) ∧
    discResult { tenDecks with straps := [0, 3] } = .error (0x0031, 0xFF, 0) ∧ discResult { tenDecks with links := [] } = .error (0x0033, 8, 0) ∧
    discResult { tenDecks with links := tenDecks.links.take 4 } = .ok [5, 6, 7, 8, 9] :=
  ⟨by decide, by rfl, by rfl, by rfl, by rfl⟩

theorem witness_BringUpStages_early :
    (inBring 0 {}).inStage 0 = true ∧
    ((inBring 1 {}).inStage 1 = true ∧ (images true true).grade < 2 ∧ (images true true).slotOk = true ∧ (images true true).deadDecks = [] ∧
      (images false false).slotOk = false ∧ (images false false).otherOk = false) ∧
    (inBring 2 {}).inStage 2 = true ∧ (inBring 3 {}).inStage 3 = true ∧ (inBring 4 {}).inStage 4 = true ∧
    ((inBring 5 {}).inStage 5 = true ∧ (inBring 5 {}).bring.warming = false ∧ (inBring 5 {}).bring.fails = [] ∧ (inBring 5 {}).bring.quick = false) ∧
    ([⟨0, 63, 4095, 0⟩, ⟨10239, 0, 0, 0⟩] : List CellFail).all CellFail.wf = true := by decide

theorem witness_BringUpStages_late :
    (let m : Module := { inBring 5 { warming := true } with thermal := { bands := (List.range 160).map (fun g => (g, 1)) } }
     m.inStage 5 = true ∧ m.bring.warming = true ∧ allGroups.any (fun g => m.band g == 0) = false) ∧
    allGroups.any (fun g => (inBring 5 { warming := true }).band g == 0) = true ∧
    (inBring 6 {}).inStage 6 = true ∧ (inBring 7 {}).inStage 7 = true ∧
    ((inBring 8 {}).inStage 8 = true ∧ (inBring 8 {}).bring.shortfall = false ∧
      ((inBring 8 {}).zeroPads ((inBring 8 {}).cores.map (·.1))).short = true) ∧
    (let m : Module := { inBring 5 { suspended := true } with
       time := 600000000, thermal := { bands := (List.range 160).map (fun g => (g, 1)), flowOkSince := some 0 } }
     m.bring.suspended = true ∧ m.resumeOk = true ∧ m.thermal.stopAt + 600000000 ≤ m.time) := by
  refine ⟨by decide, by decide, by decide, by decide, by decide, by decide⟩

theorem set_get {α : Type} [DecidableEq α] {d : α} {m : SMap α} (k : Nat) (h : SMap.wf d m = true) : SMap.set d m k (SMap.get d m k) = m := by
  induction m with
  | nil => simp [SMap.set, SMap.get]
  | cons p rest ih =>
    obtain ⟨k', v⟩ := p
    have hc := (SMap.wf_cons k' v rest).1 h
    by_cases e : k = k'
    · simp [SMap.set, SMap.get, e, hc.1]
    · by_cases l : k < k'
      · have hb : SMap.get d rest k = d := SMap.get_beyond hc.2 (Nat.le_of_lt l)
        simp [SMap.set, SMap.get, e, l, hb, SMap.drop_beyond hc.2 (Nat.le_of_lt l)]
      · simp [SMap.set, SMap.get, e, l, ih (SMap.wf_tail h)]
theorem get_fixed {α : Type} {d : α} {f : α → α} {m : SMap α} (k : Nat) (hd : f d = d) (hm : ∀ p ∈ m, f p.2 = p.2) :
    f (SMap.get d m k) = SMap.get d m k := by
  induction m with
  | nil => exact hd
  | cons p rest ih =>
    obtain ⟨k', v⟩ := p
    by_cases e : k = k'
    · simpa [SMap.get, e] using hm (k', v) (by simp)
    · simpa [SMap.get, e] using ih (fun p hp => hm p (by simp [hp]))
theorem updAll_fixed {α : Type} [DecidableEq α] {d : α} {f : α → α} {m : SMap α} (ks : List Nat) (h : SMap.wf d m = true) (hd : f d = d)
    (hm : ∀ p ∈ m, f p.2 = p.2) : SMap.updAll d m ks f = m := by
  induction ks with
  | nil => rfl
  | cons k ks ih =>
    show SMap.updAll d (SMap.set d m k (f (SMap.get d m k))) ks f = m
    rw [get_fixed k hd hm, set_get k h, ih]

/-- The same value at every number below `n`. -/
def every {α : Type} (n : Nat) (x : α) : SMap α := (List.range' 0 n).map (fun k => (k, x))
theorem beyond_every {α : Type} {d x : α} (hx : x ≠ d) (n : Nat) : ∀ s k, k < s → SMap.beyond d k ((List.range' s n).map (fun k => (k, x))) := by
  induction n with
  | zero => intros; trivial
  | succ n ih => exact fun s k h => ⟨h, hx, ih (s + 1) s (Nat.lt_succ_self s)⟩
theorem every_wf {α : Type} [DecidableEq α] {d x : α} (hx : x ≠ d) (n : Nat) : SMap.wf d (every n x) = true := by
  cases n with
  | zero => rfl
  | succ n => exact (SMap.wf_cons 0 x _).2 ⟨hx, beyond_every hx n 1 0 Nat.one_pos⟩
theorem every_count {α : Type} (n : Nat) (x : α) (p : Nat × α → Bool) (hp : ∀ k, p (k, x) = true) : ((every n x).filter p).length = n := by
  rw [List.filter_eq_self.2]
  · simp [every]
  · intro q hq
    obtain ⟨k, _, rfl⟩ := List.mem_map.1 hq
    exact hp k

/-- Stage S8 with `n` cores in service and `n` slices usable. -/
def complete (n : Nat) : Module := { inBring 8 {} with cores := every n { enabled := true }, mem := { slices := every n { state := 0 } } }
theorem complete_short (n : Nat) (hn : 10176 ≤ n) : ((complete n).zeroPads ((complete n).cores.map (·.1))).short = false := by
  have hc (ks : List Nat) : ((complete n).zeroPads ks).cores = every n { enabled := true } :=
    updAll_fixed ks (every_wf (by decide) n) rfl (fun p hp => by obtain ⟨k, _, rfl⟩ := List.mem_map.1 hp; rfl)
  have hs (ks : List Nat) : ((complete n).zeroPads ks).mem.slices = every n { state := 0 } := rfl
  have hg (ks : List Nat) : ((complete n).zeroPads ks).bring.grade = 0 := rfl
  simp only [Module.short, Module.enabledCores, Module.usableSlices, hc, hs, hg]
  rw [every_count n _ _ (fun _ => rfl), every_count n _ _ (fun _ => rfl)]
  simp [Config.minCores, Config.minSlices]
  omega
theorem witness_BringUpStages_complete :
    (complete 10240).inStage 8 = true ∧ (complete 10240).bring.shortfall = false ∧
      ((complete 10240).zeroPads ((complete 10240).cores.map (·.1))).short = false :=
  ⟨rfl, rfl, complete_short 10240 (by decide)⟩

/-- `live` with feed A so, or with these settings of the power unit. -/
def fedBy (a : Feed) : Module := { live with power := { live.power with feedA := a } }
def powered (p : Power) : Module := { live with power := p }
/-- `live` with cluster 0 so. -/
def housed (k : Cluster) : Module := { live with clusters := [(0, k)] }

theorem witness_PowerSupply_feeds :
    ((fedBy { connected := true }).feed 0).connected = true ∧ ((fedBy { connected := true }).feed 0).opened = false ∧ feedMarginal 390 = true ∧
    ((fedBy { connected := true, opened := true }).feed 0).opened = true ∧ ((fedBy { connected := true, opened := true }).feed 0).held = false ∧
    live.power.standby = true ∧ (powered {}).power.standby = false ∧ live.cellOn 0 0 = true ∧ (live.cl 0).ladder ≠ 2 := by decide

theorem witness_PowerSupply_limits :
    (live.power.brake = false ∧ live.effLimit + 400 < 5000 ∧ 1000 + 1000 ≤ live.effLimit ∧ 2000 ≤ live.effLimit + 400) ∧
    (let m : Module := { powered { live.power with brake := true, brakeLow := some 0, underSince := some 0 } with time := 100000 }
     4000 ≤ m.effLimit ∧ m.power.brake = true ∧ 4000 < m.effLimit ∧ m.power.brakeLow = some 0 ∧ 0 + 1000 ≤ m.time ∧
       heldFor m.time 100000 m.power.underSince = true ∧ (m.clusters.map Prod.fst).Nodup) ∧
    [(0, 1, 2), (1373, 0, 0)].all (fun p : Nat × Nat × Nat => decide (p.1 < currentDomains)) = true := by decide

theorem witness_PowerLadder_wake :
    (let m := housed { waking := true, louvres := 3, ladder := 2 }
     (m.cl 0).waking = true ∧ (m.cl 0).louvres < 8 ∧ (m.cl 0).louvreAt + (m.cl 0).interval ≤ 1) ∧
    (let m := housed { point := 2, functionView := false }; (m.cl 0).ladder ≠ 2 ∧ (m.cl 0).functionView = false) ∧
    (let m := housed { waking := true, ladder := 2 }
     (m.cl 0).waking = true ∧ (m.cl 0).louvres = 8 ∧ m.heldDown = false ∧ (powered { live.power with hold := 2 }).heldDown = true) ∧
    (let m := housed { sliceIsland := true }
     (m.cl 0).sliceIsland = true ∧ (∀ k ∈ sitesOf 0, (m.slice k).waiting = [] ∧ (m.slice k).holdSlots = []) ∧ m.bankQueuesEmpty 0 = true) ∧
    (powered { live.power with moduleState := 3 }).power.moduleState = 3 := by
  decide

theorem witness_PowerLadder_sealed :
    let m := powered { live.power with sealing := true }
    m.power.sealing = true ∧ ∀ c ∈ allClusters, m.bankQueuesEmpty c = true := by decide +kernel

theorem witness_PowerLadder_idle :
    (live.power.autoAjar = true ∧ (live.cl 0).ladder = 0 ∧ live.clusterIdle 0 = true ∧ live.bankQueuesEmpty 0 = true ∧ live.heldDown = false) ∧
    (let m : Module := { housed { ladder := 1 } with power := { live.power with idleShutter := 1 } }
     (m.cl 0).ladder = 1 ∧ m.power.idleShutter ≠ 0 ∧ m.clusterFree 0 = true ∧ m.clusterQuiet 0 = true ∧ m.bankQueuesEmpty 0 = true ∧
       (housed { ladder := 1 }).unneeded 0 = true) ∧
    (let m : Module := { flying (inFlight 1 (dsc 0x40 [])) with power := { live.power with hold := 2 } }
     m.ladderGoal = 2 ∧ (m.cl (clusterOf 0)).ladder ≠ 2 ∧ ((m.core 0).th 0).item.isSome = true ∧ (m.core 0).quiet 0 = false) := by
  refine ⟨by decide, by decide, by decide⟩

/-- `live` with these sensors. -/
def sensing (l : SMap Sensor) : Module := { live with thermal := { live.thermal with sensors := l } }

theorem witness_ThermalEvents_sensors :
    (Reading.wf ⟨3841, some 320, 300⟩ = true ∧ Reading.wf ⟨0, none, 300⟩ = true ∧ ((sensing []).sensor 0).suspect = false) ∧
    (let m : Module := sensing [(0, { reading := 700, valid := true })]
     m.hottestPlace (groupSensors 0) = some 700) ∧
    (let m : Module := { sensing [(5, { suspect := true, calm := some 0 })] with time := 1000000 }
     (m.sensor 5).suspect = true ∧ (m.sensor 5).suspectAt + 1000000 ≤ m.time ∧ heldFor m.time 1000000 (m.sensor 5).calm = true) ∧
    targetTemp 0 < 800 ∧
    (let m : Module := { housed { marginSince := some 0 } with time := 50000 }
     heldFor m.time 50000 (m.cl 0).marginSince = true ∧ m.stackHeld (stackOf 0) = false) ∧
    ((sensing [(2560, { reading := 800, valid := true })]).logicTemp 0 = some 800 ∧
      (sensing [(2560, { reading := 700, valid := true })]).logicTemp 0 = some 700) ∧
    ((sensing []).sensor 3839).disarmed = false := by
  refine ⟨by decide, by decide, by decide, by decide, by decide, by decide, by decide⟩

theorem witness_ThermalEvents_coolant :
    (let m : Module := { live with thermal := { live.thermal with flow := 100 } }
     m.coolantBad 0 = true ∧ m.thermal.degraded = false) ∧
    (live.coolantBad 0 = false ∧ live.coolantBad 1 = false ∧ live.coolantBad 2 = false) ∧
    (let m : Module := { live with thermal := { live.thermal with degraded := true, sensors := [(0, { forecast := 740 })] } }
     m.thermal.degraded = true ∧ m.marginShort = true) ∧
    (let m : Module := { live with thermal := { live.thermal with thermalLimit := 4000, coolSince := some 0 }, time := 1000000 }
     m.thermal.thermalLimit < m.power.limit ∧ heldFor m.time 1000000 m.thermal.coolSince = true) ∧
    (let m := sensing (every 64 { valid := true, risen := some 0 })
     m.thermal.stop = false ∧ 64 ≤ m.fastRises) := by
  refine ⟨by decide, by decide, by decide, by decide, by decide⟩

/-- `live` with these clocks, this host port. -/
def clockedBy (c : Clocks) : Module := { live with clocks := c }
def ported (p : Port) : Module := { live with port := p }

theorem witness_ClockEvents :
    (Pll.wf (.half 19) = true ∧ live.relocking (.half 19) = false) ∧
    ((clockedBy { relocks := [(.deck 9, 1)] }).clocks.relocks.find? (fun x => x.1 == .deck 9) = some (.deck 9, 1) ∧
      (clockedBy { relocks := [(.deck 9, 2)] }).clocks.relocks.find? (fun x => x.1 == .deck 9) = some (.deck 9, 2)) ∧
    (clockedBy { deskewWanted := 2 ^ 39 }).deskewDue 39 = true ∧
    (live.clocks.mgmtRefOk = true ∧ (clockedBy {}).clocks.mgmtRefOk = false) ∧
    (let m := clockedBy { resets := [⟨3, 2, 1, none⟩] }
     m.clocks.resets.find? (fun r => r.scope == 3 && r.target == 2) = some ⟨3, 2, 1, none⟩ ∧ m.bring.ready = true) := by decide

theorem witness_PortEvents :
    fnOk 63 = true ∧ (live.func 1).d3hot = false ∧ live.port.linkUp = true ∧
    (let m := ported { live.port with linkUp := false, linkLost := true }
     m.port.perst = false ∧ m.port.linkUp = false ∧ m.power.vlink = true ∧ m.port.linkLost = true) := by decide

/-- `live` with bank 5 of slice 1 retired. -/
def oneRetired : Module := { live with mem := { live.mem with slices := [(0, { state := 0 }), (1, { state := 0, retiredBank := some 5 })] } }
theorem witness_SecondRetiredBank :
    (let c := pkt 0 0 0xFFFF [(8, 2, 1), (10, 1, 63)]
     accepted specRetireBank (badRetireBank c) none (oneRetired.retireClaims (pField c 8 2)) (oneRetired.cl (clusterOf (pField c 8 2))).owner c
         oneRetired ∧
       (oneRetired.slice (pField c 8 2)).state ≠ 2 ∧ (oneRetired.slice (pField c 8 2)).retiredBank = some 5) :=
  ⟨accepted_of (by decide), by decide, by decide⟩

theorem witness_SliceOffsetFields :
    bankOf (62 * 2048) < 63 ∧ bankOf (63 * 2048) = 63 ∧ 63 * 2048 + 2048 < 2 ^ 29 ∧ bitOf 65536 16 = true ∧ bitOf 0 16 = false := by decide
theorem witness_MemoryBytes : Memory.wf [(0, 1), (2 ^ 42, 7)] = true ∧ Memory.wf [(0, 0)] = false := by decide

theorem witness_LogCounters :
    (bar0Aligned 0x40028 8 = true ∧ bar0Aligned 0x40054 4 = true ∧ live.bring.shutdownPending = false) ∧
    (live.log.counts.length = 4 ∧ entry.cls < 4 ∧ ({ entries := [{ entry with seq := 8 }] } : Log).alike entry = some { entry with seq := 8 }) ∧
    (let m : Module := { live with log := { live.log with entries := List.replicate 4096 entry } }
     m.log.entries = entry :: List.replicate 4095 entry ∧ m.log.entries.length = 4096 ∧ m.log.isUnread entry = true ∧ m.log.entries ≠ []) ∧
    (serves 0 (0x40028 / 8 * 8) live ∧ serves 0 (0x40054 / 8 * 8) live) := by
  refine ⟨by decide, by decide, ⟨rfl, List.length_replicate, rfl, by rw [List.replicate_succ]; exact List.cons_ne_nil _ _⟩, ?_, ?_⟩ <;>
    exact serves_of (by decide)

theorem witness_ConversionSpecials :
    decodeF fp32 0x7F800001 = .nan ∧ isMx 9 = true ∧ getLe (List.replicate 16 0 ++ [0xFF]) (4 * codeBits 9) 1 = 0xFF ∧
    decodeF bf16 0x8000 = .fin true 0 (-133) := by decide

/-! ## The spec's own worked examples -/

/-- One core site's addresses, and a slice offset decoded (chapters 1 and 2). -/
theorem test_site_addresses :
    deckOf (clusterOf 6747) = 6 ∧ clusterOf 6747 = 6 * 64 + 37 ∧ stackOfSite 6747 = 27 ∧ devAddr 6747 0x1234560 = 0x034B61234560 ∧
    siteOfAddr 0x034B61234560 = 6747 ∧ offOfAddr 0x034B61234560 = 0x1234560 ∧ padSite 0x800D2D800000 = 6747 := by decide
theorem test_offset_fields :
    rowOf 0x1234560 = 145 ∧ layerOf 0x1234560 = 10 ∧ bankOf 0x1234560 = 40 ∧ sectorOf 0x1234560 = 21 ∧ 0x1234560 % 64 = 32 ∧
    groupOf 6747 0x1234560 = 27 * 4 + 2 := by decide

/-- The 32 values of "one block in MXFP4 and MXFP6" (chapter 7). -/
def blockValues : List Val :=
  [.fin false 20 0, .fin true 3 0, .fin false 7 0, .fin false 0x666666 (-23), .fin false 25 (-1), .fin true 26 0] ++
    List.replicate 25 (.fin false 0 0) ++ [.fin true 0 0]
theorem test_block_mxfp4 :
    encodeBlock 9 (fun _ => .near) (blockValues.set 3 (.fin false 0xE66666 (-24))) =
      [0xA6, 0x04, 0xF5, 0, 0, 0, 0, 0, 0, 0, 0, 0, 0, 0, 0, 0x80, 0x81] := by decide +kernel
theorem test_block_mxfp6 :
    (encodeBlock 7 (fun _ => .near) (blockValues.set 3 (.fin false 0xE66666 (-24)))).take 3 = [0x9D, 0x7C, 0x2D] ∧
    getLe (encodeBlock 7 (fun _ => .near) (blockValues.set 3 (.fin false 0xE66666 (-24)))) 24 1 = 0x7F := by decide +kernel

/-- "Stochastic rounding in a bank conversion": half of one unit, so u below 0x8000 rounds up. -/
theorem test_stochastic_half :
    roundF bf16 (.stoch 0x7FFF) true (.fin false 257 (-8)) = 0x3F81 ∧ roundF bf16 (.stoch 0x8000) true (.fin false 257 (-8)) = 0x3F80 ∧
    roundF bf16 .near true (.fin false 257 (-8)) = 0x3F80 ∧ 6747 * 2 ^ 28 + 40 * 2 ^ 22 + 145 * 2 ^ 10 + 21 = 0x1A5BA024415 := by decide +kernel

/-- "Walking to sequence 73's cache pages" (chapter 11): the pool's extent, the four nodes, and the entries of the table. -/
def sequence73Part : Part :=
  { state := 2, root := 0x03401D000000, pool := [(0x03401D000000, 1)],
    nodes := [(0x03401D000000, 4096, 3), (0x03401D002000, 8192, 2), (0x03401D004000, 2048, 1), (0x03401D004800, 256, 0)] }
def sequence73Slices : Module :=
  { live with clusters := [(416, { owner := some 12 }), (422, { owner := some 12 })], mem := { live.mem with slices := [(6656, { state := 0 }), (6752, { state := 0 })] } }
def sequence73 : Module :=
  ((({ sequence73Slices with parts := { parts := [(12, sequence73Part)] } }.putBytes
    0x03401D000000 (leBytes 8 0x03401D002001)).putBytes 0x03401D002490 (leBytes 8 0x03401D004001)).putBytes 0x03401D004000
    (leBytes 8 0x03401D004801)).putBytes 0x03401D004800 (leBytes 8 0x034C0080001B ++ leBytes 8 0x034C0081001B)
theorem test_walk_sequence73 :
    sequence73.walk 12 0x001240000000 3 = .ok 0x034C00800000 ∧ sequence73.walk 12 0x001240010004 4 = .ok 0x034C00810004 ∧
    sequence73.walk 12 0x001240020000 3 = .fault 1 none ∧ sequence73.bytesAt 0x03401D004800 8 = [0x1B, 0, 0x80, 0, 0x4C, 0x03, 0, 0] := by decide +kernel

/-- The values the register tables give: the device code and the vendor code, the test port's identification (R616, R639). -/
theorem test_identification :
    live.readDev 0 0x0000 = 0x3A5001040 ∧ (doIdcode State.reset).jtag.out = [0x4B, 0x07, 0x04, 0x01] := by decide

/-! ## Ill-formed terms: each check refuses one -/

theorem test_ill_formed_requests :
    (pkt 64 0 1 []).wf = false ∧ ({ pkt 0 0 1 [] with tag := 65536 } : Cmd).wf = false ∧ ({ pkt 0 0 1 [] with params := [] } : Cmd).wf = false ∧
    Desc.wf ⟨10240, 0, List.replicate 32 0⟩ = false ∧ Desc.wf ⟨0, 2, List.replicate 32 0⟩ = false ∧ Desc.wf ⟨0, 0, List.replicate 31 0⟩ = false ∧
    MemReq.wf ⟨10240, 0, 2, .host 0 0, false, false, [], false⟩ = false ∧ MemReq.wf ⟨0, 32, 2, .host 0 0, false, false, [], false⟩ = false ∧
    MemReq.wf ⟨0, 64, 2, .host 0 0, false, true, [], false⟩ = false ∧ MemReq.wf ⟨0, 0, 5, .host 0 0, false, false, [], false⟩ = false ∧
    MemReq.wf ⟨0, 0, 2, .host 0 0, true, false, [], false⟩ = false := by
  refine ⟨by decide, by decide, by decide, by decide, by decide, by decide, by decide, by decide, by decide, by decide, by decide⟩
theorem test_ill_formed_links :
    Trans.wf { tr 1 with dest := 4096 } = false ∧ FabFlit.wf ⟨4096, 0, false, 0, 0, List.replicate 8 0, true, []⟩ = false ∧
    FabFlit.wf ⟨0, 0, false, 0, 0, [], true, []⟩ = false ∧ Flit.wf ⟨640, 0, 1, 0, 0, 0, 0, 0, 0, 0, false⟩ = false ∧ Flit.wf ⟨0, 5, 1, 0, 0, 0, 0, 0, 0, 0, false⟩ = false ∧
    Flit.wf ⟨0, 0, 1, 0, 0, 0, 0, 0, 0, 3, false⟩ = false ∧ Flit.wf ⟨27, 5, 1, 0, 0, 0, 0, 0, 0, 0, false⟩ = true := by
  refine ⟨by decide, by decide, by decide, by decide, by decide, by decide, by decide⟩
theorem test_ill_formed_units :
    Walk.wf ⟨64, 0, false, .host 0 0, false⟩ = false ∧ Walk.wf ⟨0, 2 ^ 48, false, .host 0 0, false⟩ = false ∧ Ring.wf (.letter 64) = false ∧ Ring.wf (.work 64) = false ∧
    Target.wf (.thread 0 2) = false ∧ Target.wf (.partition 64) = false ∧ Target.wf (.port 4) = false ∧ Target.wf (.slice 10240) = false ∧
    Target.wf (.packet 64 0) = false ∧ Target.wf (.context 64 0) = false ∧ Pll.wf (.cluster 640) = false ∧ Pll.wf (.half 20) = false ∧
    Pll.wf (.stack 40) = false ∧ Pll.wf (.deck 10) = false ∧ CellFail.wf ⟨0, 64, 0, 0⟩ = false ∧ Reading.wf ⟨3842, none, 0⟩ = false ∧
    siteOk 10240 = false ∧ siteThreadOk 0 2 = false ∧ clusterOk 640 = false ∧ partOk 64 = false ∧ fnOk 64 = false ∧ portOk 4 = false := by decide

/-- An ill-formed command ends in the fault that names it. -/
theorem test_ill_formed_faults : exec (.readSector ⟨10240, 0, 2, .host 0 0, false, false, [], false⟩) (st live) = .fault .illFormed := rfl

end Sys2Proof.Tests
end

section
/-! SUPPORT. Slice offsets: what each decoder of R37 reads, as arithmetic on the offset, and how rows follow one another. -/

namespace Sys2Proof.Machine

/-! The number of an offset's 2 KiB row, `off / 2048`, has two digits, base 64: the row index and the bank. -/

theorem bankOf_eq (off : Nat) : bankOf off = off / 2048 % 64 := rfl
theorem rowOf_eq_of_lt {off : Nat} (h : off < 2 ^ 29) : rowOf off = off / 2048 / 64 := by
  unfold rowOf; omega
theorem rowOffset_eq (bank row : Nat) : rowOffset bank row = (row * 64 + bank) * 2048 := by
  unfold rowOffset; omega

theorem bankOf_rowOffset_add {bank i : Nat} (row : Nat) (hb : bank < 64) (hi : i < 2048) : bankOf (rowOffset bank row + i) = bank := by
  rw [bankOf_eq, rowOffset_eq]; omega
theorem rowOf_rowOffset_add {bank row i : Nat} (hr : row < 4096) (hb : bank < 64) (hi : i < 2048) :
    rowOf (rowOffset bank row + i) = row := by
  rw [rowOf_eq_of_lt] <;> rw [rowOffset_eq] <;> omega

/-- All 64 banks' rows of one index lie in one aligned 128 KiB block. -/
theorem rowOffset_add_mem_block {bank i : Nat} (row : Nat) (hb : bank < 64) (hi : i < 2048) :
    row * 131072 ≤ rowOffset bank row + i ∧ rowOffset bank row + i < (row + 1) * 131072 := by
  rw [rowOffset_eq]; omega
/-- And nothing else lies in it: each offset of the block is in the row of its bank. -/
theorem eq_rowOffset_of_mem_block {row off : Nat} (hlo : row * 131072 ≤ off) (hhi : off < (row + 1) * 131072) :
    off = rowOffset (bankOf off) row + off % 2048 := by
  rw [rowOffset_eq, bankOf_eq]; omega

theorem bankOf_next_row {off : Nat} (h : bankOf off < 63) : bankOf (off + 2048) = bankOf off + 1 := by
  simp only [bankOf_eq] at h ⊢; omega
theorem rowOf_next_row {off : Nat} (hoff : off + 2048 < 2 ^ 29) (h : bankOf off < 63) : rowOf (off + 2048) = rowOf off := by
  rw [rowOf_eq_of_lt hoff, rowOf_eq_of_lt (by omega)]; rw [bankOf_eq] at h; omega
/-- After bank 63 comes bank 0, one row index on. -/
theorem bankOf_next_row_wrap {off : Nat} (h : bankOf off = 63) : bankOf (off + 2048) = 0 := by
  simp only [bankOf_eq] at h ⊢; omega
theorem rowOf_next_row_wrap {off : Nat} (hoff : off + 2048 < 2 ^ 29) (h : bankOf off = 63) : rowOf (off + 2048) = rowOf off + 1 := by
  rw [rowOf_eq_of_lt hoff, rowOf_eq_of_lt (by omega)]; rw [bankOf_eq] at h; omega

/-- A bank is numbered layer × 4 + bank in its layer. -/
theorem bankOf_eq_layerOf (off : Nat) : bankOf off = layerOf off * 4 + bankOf off % 4 := by
  unfold bankOf layerOf; omega

theorem rowAddr_eq_devAddr (site bank row : Nat) : rowAddr site (row * 64 + bank) = devAddr site (rowOffset bank row) := by
  rw [rowAddr, rowOff, rowOffset_eq]

/-- Bit [16] of an offset is the top bit of its bank. -/
theorem bitOf_16_eq (off : Nat) : bitOf off 16 = decide (32 ≤ bankOf off) := by
  rw [Bool.eq_iff_iff, decide_eq_true_iff, bitOf, beq_iff_eq, bankOf_eq]; omega
theorem layerOf_lt_8_iff (off : Nat) : layerOf off < 8 ↔ bankOf off < 32 := by
  have := bankOf_eq_layerOf off; omega

/-- The fields of an offset as its bits. -/
theorem offset_fields_eq_bits (off : BitVec 29) :
    off.toNat % 64 = (off.extractLsb 5 0).toNat ∧ sectorOf off.toNat = (off.extractLsb 10 6).toNat ∧
    bankOf off.toNat % 4 = (off.extractLsb 12 11).toNat ∧ layerOf off.toNat = (off.extractLsb 16 13).toNat ∧
    rowOf off.toNat = (off.extractLsb 28 17).toNat := by
  simp only [BitVec.extractLsb_toNat, Nat.shiftRight_eq_div_pow, sectorOf, bankOf, layerOf, rowOf, true_and, and_true]
  omega

/-- Settles O56: the fields are digits of the offset (`offset_fields_eq_bits`), and row index and bank are the two digits, base 64, of its
number of 2 KiB rows. -/
theorem sliceOffsetFields : Obligations.SliceOffsetFields := by
  refine ⟨fun off => ?fields, fun off hoff => ⟨fun hb => ?step, fun hb => ?wrap⟩, fun row bank i hr hb hi => ?inBlock,
    fun _ _ => eq_rowOffset_of_mem_block, fun site row bank => rowAddr_eq_devAddr site bank row,
    fun off hoff => ⟨?row, fun hbit => ?low, fun hbit => ?high⟩⟩
  case fields =>
    obtain ⟨hbyte, hsector, hbank, hlayer, hrow⟩ := offset_fields_eq_bits off
    exact ⟨hbyte, hsector, hbank, hlayer, hrow, bankOf_eq_layerOf _⟩
  case step => exact ⟨bankOf_next_row hb, rowOf_next_row hoff hb⟩
  case wrap => exact ⟨bankOf_next_row_wrap hb, rowOf_next_row_wrap hoff hb⟩
  case inBlock => exact ⟨rowOf_rowOffset_add hr hb hi, bankOf_rowOffset_add row hb hi, rowOffset_add_mem_block row hb hi⟩
  case row => rw [rowOf_eq_of_lt hoff]; omega
  case low =>
    have hlow : bankOf off < 32 := by simpa [bitOf_16_eq] using hbit
    exact ⟨hlow, (layerOf_lt_8_iff off).2 hlow⟩
  case high =>
    have hhigh : 32 ≤ bankOf off := by simpa [bitOf_16_eq] using hbit
    exact ⟨hhigh, Nat.not_lt.1 (mt (layerOf_lt_8_iff off).1 (Nat.not_lt.2 hhigh))⟩

end Sys2Proof.Machine
end

section
/-! SUPPORT. A command whose body refuses, and MEM.RETIRE_BANK for a slice with a retired bank (R75). -/

namespace Sys2Proof.Machine

open Sys2Proof.Safety

/-- A refused command is answered with the refusal's status and first detail word, as R506 lays them out. -/
theorem refuse_answered {m m' : Module} {op id st : Nat} {claims : List Claim} {i : Option Instr} {c : Cmd} {q : CmdSlot} (first : Nat)
    (hq : actingSlot op id claims i c q) (hc : m'.engine.cmds = [q]) (hp : m.port.cpls <+: m'.port.cpls) :
    answered op st (d4 first) c m (m'.finishCmd id (.refuse st first)) := by
  have hid : q.id = id := hq.1
  have hcmd : m'.cmd id = some q := by simp [Module.cmd, hc, hid]
  have hlogged : m'.finishCmd id (.refuse st first) =
      (m'.hostEvent 0xA2 0xFF q.fn q.opcode st q.tag 0 first).finishCmd id (.done st (d4 first)) := by
    simp only [Module.finishCmd, Module.refuseCmd, hcmd]
  rw [hlogged]
  exact complete_answered (d4 first) hq (by simpa using hc) (by simpa using hp)

theorem bodyRetireBank_of_retired {c : Cmd} {m : Module} {bank : Nat} (errs : List (Nat × Nat)) (id : Nat)
    (hs : (m.slice (pField c 8 2)).state ≠ 2) (hb : (m.slice (pField c 8 2)).retiredBank = some bank) :
    bodyRetireBank c errs id m = (m, .refuse stLimit 0) := by
  simp [bodyRetireBank, hs, hb]

/-- The slices are part of the memory: what keeps the memory keeps each of them. -/
theorem slice_congr {m n : Module} (h : n.mem = m.mem) (k : Nat) : n.slice k = m.slice k := by
  rw [Module.slice, Module.slice, h]

/-- An accepted command whose body refuses, whatever the command engine holds, is answered with the refusal, and the memory is kept. -/
theorem runCmd_of_refusing {sp : CmdSpec} {bad need : Option Nat} {claims : List Claim} {fence : Option Nat} {c : Cmd} {m : Module}
    {st first : Nat} {body : Nat → Module → Module × Answer} (i : Instr) (hacc : accepted sp bad need claims fence c m)
    (hbody : ∀ id, anyEngine m (fun x => body id x = (x, .refuse st first))) :
    answered sp.op st (d4 first) c m (runCmd sp bad need claims fence i c body m) ∧
      (runCmd sp bad need claims fence i c body m).mem = m.mem := by
  obtain ⟨id, k, q, hq, hrun⟩ := runCmd_accepted (i := i) body hacc
  rw [hrun, hbody id]
  exact ⟨refuse_answered first hq rfl (List.prefix_refl _), Module.finishCmd_mem _ _ _⟩

/-- Settles O58: the body refuses before it changes anything, and a refusal keeps the memory. -/
theorem secondRetiredBank : Obligations.SecondRetiredBank := by
  intro s c errs bank hacc hs hb
  have hexec : exec (.memRetireBank c errs) s = .next { s with m := doMemRetireBank c errs s.m } := by
    rw [exec_memRetireBank, onCmd, onModule, if_pos hacc.1]
  obtain ⟨hans, hmem⟩ := runCmd_of_refusing (.memRetireBank c errs) hacc
    (fun id _ => bodyRetireBank_of_retired errs id hs hb)
  exact ⟨_, hexec, hans, slice_congr hmem, hmem⟩

end Sys2Proof.Machine
end

section
/-! SUPPORT. The error log's counters (R607): how they read, what keeps them, and what an entry adds to them. -/

namespace Sys2Proof.Machine

open Sys2Proof.Safety

/-- The entry at `k` after the entry at `i`, which is there, was changed. -/
theorem nth_modNth {α : Type} (d : α) (f : α → α) : ∀ (l : List α) {i : Nat} (k : Nat), i < l.length →
    nth d (modNth l i f) k = if k = i then f (nth d l k) else nth d l k
  | a :: l, 0, 0, _ => rfl
  | a :: l, 0, k + 1, _ => rfl
  | a :: l, i + 1, 0, _ => rfl
  | a :: l, i + 1, k + 1, h => by
    simpa [nth, modNth] using nth_modNth d f l k (Nat.lt_of_succ_lt_succ h)

/-! ## An entry is written (R606): cause bits aside, the ring gets the entry and the counter of its class grows -/

/-- The log without its cause bits, to say that an operation sets cause bits and changes nothing else of the log. -/
def Log.withoutCauses (l : Log) : Log := { l with intStatus := 0 }

@[simp] theorem Module.putStatus_log_withoutCauses (m : Module) (b : Blk) (v : Nat) :
    (m.putStatus b v).log.withoutCauses = m.log.withoutCauses := by cases b <;> rfl

@[simp] theorem Module.setCause_log_withoutCauses (m : Module) (b : Blk) (i : Nat) :
    (m.setCause b i).log.withoutCauses = m.log.withoutCauses := by
  unfold Module.setCause; dsimp only; split <;> simp

@[simp] theorem Module.entryCauses_log_withoutCauses (m : Module) (e : Entry) :
    (m.entryCauses e).log.withoutCauses = m.log.withoutCauses := by
  unfold Module.entryCauses
  extract_lets m1 m2 m3 m4
  have hfamily : m2.log.withoutCauses = m1.log.withoutCauses := by dsimp only [m2]; split <;> simp
  have hthreshold : m3.log.withoutCauses = m2.log.withoutCauses := by dsimp only [m3]; split <;> simp
  have hmessage : m4.log = m3.log := by dsimp only [m4]; split <;> simp
  calc (if 2 ≤ e.cls then m4.ibi 2 else m4).log.withoutCauses
      _ = m4.log.withoutCauses := by split <;> simp
      _ = m1.log.withoutCauses := by rw [hmessage, hthreshold, hfamily]
      _ = m.log.withoutCauses := m.setCause_log_withoutCauses .err e.cls

/-- The log with `e` at its newest end and counted; the cause bits are still as they were. -/
def Log.written (l : Log) (e : Entry) : Log :=
  let r := l.dropOldest
  let s := nextSeqNo r.1.newest
  { r.1 with
    entries := r.1.entries ++ [{ e with seq := s, flags := if r.2 then setBit e.flags 2 true else e.flags }], newest := s,
    logged := r.1.logged + 1, counts := modNth r.1.counts e.cls (fun c => sat64 c 1) }

theorem Module.writeEntry_log_withoutCauses (m : Module) (e : Entry) :
    (m.writeEntry e).log.withoutCauses = (m.log.written e).withoutCauses := by
  unfold Module.writeEntry
  extract_lets r s e1 kept m1 m2
  have hlost : m2.log.withoutCauses = m1.log.withoutCauses := by dsimp only [m2]; split <;> simp
  exact (m2.entryCauses_log_withoutCauses e1).trans hlost

theorem Log.dropOldest_counts (l : Log) : l.dropOldest.1.counts = l.counts := by
  unfold Log.dropOldest
  split
  · rfl
  · split
    · rfl
    · split <;> rfl

/-- A full ring that loses an unread entry counts it (R606). -/
theorem Log.dropOldest_lost {l : Log} {o : Entry} {rest : List Entry} (he : l.entries = o :: rest)
    (hfull : l.entries.length = logCapacity) (hunread : l.isUnread o = true) : l.dropOldest.1.lost = sat64 l.lost 1 := by
  have hroom : ¬ (o :: rest).length < logCapacity := by rw [← he, hfull]; exact Nat.lt_irrefl _
  simp only [Log.dropOldest, he, if_neg hroom, if_pos hunread]

theorem Module.writeEntry_counts (m : Module) (e : Entry) :
    (m.writeEntry e).log.counts = modNth m.log.counts e.cls (fun c => sat64 c 1) := by
  have hkept : (m.writeEntry e).log.counts = (m.log.written e).counts :=
    (congrArg Log.counts (m.writeEntry_log_withoutCauses e) :)
  rw [hkept, Log.written, m.log.dropOldest_counts]

theorem Module.writeEntry_lost (m : Module) (e : Entry) : (m.writeEntry e).log.lost = m.log.dropOldest.1.lost :=
  (congrArg Log.lost (m.writeEntry_log_withoutCauses e) :)

theorem Log.foldInto_suppressed {l : Log} {e n : Entry} (h : l.alike e = some n) :
    (l.foldInto e).suppressed = sat64 l.suppressed 1 := by
  simp only [Log.foldInto, h]

/-! ## How the counters read, and that a write leaves them (R9, R610) -/

theorem Module.readErr_count (m : Module) {k : Nat} (hk : k < 4) :
    m.readErr (0x28 + 8 * k) = BitVec.ofNat 64 (nth 0 m.log.counts k) := by
  have hindex : (0x28 + 8 * k - 0x28) / 8 = k := by omega
  unfold Module.readErr
  dsimp only
  rw [if_neg (by omega), if_neg (by omega), if_neg (by omega), if_neg (by omega), if_neg (by omega), if_pos (by omega), hindex]

/-- A request that BAR0 takes reaches what stands behind the checks of the port. -/
theorem Module.onBar_of_barOpen {fn : Nat} {m : Module} (h : barOpen fn m) (f : Module → Module) : m.onBar fn f = f m := by
  obtain ⟨hperst, hlink, hcfg, hfn, hmem, hd3⟩ := h
  simp [Module.onBar, hperst, hlink, hcfg, hmem, hd3, Nat.not_lt.2 hfn]

/-- An aligned write that is served reaches the registers (R8, R9). -/
theorem Module.writeBar0_of_serves {fn off size : Nat} {m : Module} (v : Nat) (hserves : serves fn (off / 8 * 8) m)
    (haligned : bar0Aligned off size = true) (hend : off + size ≤ bar0Size fn) :
    m.writeBar0 fn off size v = (m.unlatch fn).writeServed fn (off / 8 * 8) ((2 ^ (8 * size) - 1) * 2 ^ (8 * (off % 8)))
      (v % 2 ^ (8 * size) * 2 ^ (8 * (off % 8))) off size := by
  have hserved : (m.unlatch fn).bar0Served fn (off / 8 * 8) = true := hserves.2
  rw [Module.writeBar0, Module.onBar_of_barOpen hserves.1]
  dsimp only
  rw [if_neg (by omega), if_neg (by simp [haligned, hserved])]

theorem bar0Aligned_size {off size : Nat} (h : bar0Aligned off size = true) : size = 4 ∨ size = 8 := by
  simp only [bar0Aligned, Bool.and_eq_true, decide_eq_true_eq] at h
  exact h.1

theorem exec_registerWrite_of_serves {fn off size : Nat} (s : State) (v : Nat) (hfn : fnOk fn = true)
    (hserves : serves fn (off / 8 * 8) s.m) (haligned : bar0Aligned off size = true) (hend : off + size ≤ bar0Size fn) :
    exec (.registerWrite fn off size v) s = .next { s with
      m := (s.m.unlatch fn).writeServed fn (off / 8 * 8) ((2 ^ (8 * size) - 1) * 2 ^ (8 * (off % 8)))
        (v % 2 ^ (8 * size) * 2 ^ (8 * (off % 8))) off size } := by
  have hsize : 0 < size ∧ size ≤ 512 := by have := bar0Aligned_size haligned; omega
  rw [exec_registerWrite, onModule, if_pos (by simp [hfn, hsize]), doRegisterWrite,
    Module.writeBar0_of_serves v hserves haligned hend]

/-- From ERR_COUNT[0] on the ERR block, which is block 4 of the physical function, takes no write. -/
theorem Module.writeServed_err_readOnly (m : Module) {w : Nat} (mask v off size : Nat) (hlo : 0x40028 ≤ w) (hhi : w < 0x50000) :
    m.writeServed 0 w mask v off size = m := by
  have hblock : w / 65536 = 4 := by omega
  have hoff : 0x28 ≤ w % 65536 := by omega
  rw [Module.writeServed, if_pos rfl, if_pos (by omega), hblock, Module.writeBlock, if_neg (by decide), if_neg (by decide),
    if_neg (by decide), if_neg (by decide), if_pos rfl, if_neg (by omega), if_neg (by omega), if_neg (by omega)]

/-! ## Starts and resets (R446, R596) -/

theorem Module.relog_of_not_pending {m : Module} (h : m.bring.shutdownPending = false) : m.relog = m := by
  rw [Module.relog, if_neg (by simp [h])]

/-- A cold start that takes nothing over begins with counters at 0: what flash keeps has no log, and event 0x83 only waits. -/
theorem Module.coldStart_counters {m : Module} (quick asked : Bool) (cause : Nat) (h : m.bring.shutdownPending = false) :
    (m.coldStart quick asked cause).log.counts = [0, 0, 0, 0] ∧ (m.coldStart quick asked cause).log.lost = 0 ∧
      (m.coldStart quick asked cause).log.suppressed = 0 := by
  unfold Module.coldStart
  extract_lets q m1 flashBring flashThermal m2 m3
  have hlog : m3.log = {} := congrArg Module.log (Module.relog_of_not_pending (m := m2) h)
  split
  · simp only [Module.bringEvent, Module.detect, hlog, and_self]
  · simp only [hlog, and_self]

/-- A module reset keeps them. -/
theorem Module.moduleReset_counters (m : Module) (quick : Bool) (cause : Nat) :
    (m.moduleReset quick cause).log.counts = m.log.counts ∧ (m.moduleReset quick cause).log.lost = m.log.lost ∧
      (m.moduleReset quick cause).log.suppressed = m.log.suppressed := by
  unfold Module.moduleReset
  dsimp only
  split <;> exact ⟨rfl, rfl, rfl⟩

/-- Settles O59: the counters read as they stand and lie where the ERR block takes no write; a start from flash has a new log and a module
reset the old one; of the log, writing an entry changes the cause bits and `Log.written`. -/
theorem logCounters : Obligations.LogCounters := by
  refine ⟨fun m => ⟨fun k hk => m.readErr_count hk, rfl, rfl⟩, fun s off size v hlo hhi haligned hserves => ?write, ⟨rfl, rfl, rfl⟩,
    fun m quick asked cause h => Module.coldStart_counters quick asked cause h, Module.moduleReset_counters,
    fun m e k hlen hcls hk => ?count, fun m e o rest he hfull hunread => ?lost, fun l e n h => Log.foldInto_suppressed h⟩
  case write =>
    have hend : off + size ≤ bar0Size 0 := Nat.le_trans hhi (by decide)
    have hsize := bar0Aligned_size haligned
    refine ⟨_, exec_registerWrite_of_serves s v rfl hserves haligned hend, ?_⟩
    rw [Module.writeServed_err_readOnly _ _ _ _ _ (by omega) (by omega), Module.unlatch, Module.updFunc_log]
  case count => rw [m.writeEntry_counts, nth_modNth 0 _ _ _ (by omega)]; rfl
  case lost => exact (m.writeEntry_lost e).trans (Log.dropOldest_lost he hfull hunread)

end Sys2Proof.Machine
end

section
/-! SUPPORT. The shape of every command's meaning, and what keeps the two service ports in order (chapters 19, 22). -/

namespace Sys2Proof.Machine

open Sys2Proof.Safety

/-! ## The shape of a command -/

/-- Every command's meaning is its effect where it is well formed, and the one fault where it is not. -/
theorem exec_eq_onState (i : Instr) : ∃ f : State → State, ∀ s, exec i s = onState (wellFormed i) f s := by
  cases i <;> exact ⟨_, fun _ => rfl⟩

/-- Settles O6: what `onState` does depends on `wellFormed` alone. -/
theorem noCommandRefused : Obligations.NoCommandRefused := by
  intro i s
  obtain ⟨f, hf⟩ := exec_eq_onState i
  exact ⟨fun hwf => ⟨f s, by rw [hf, onState, if_pos hwf]⟩, fun hwf => by rw [hf, onState, if_neg (by simp [hwf])]⟩

theorem onState_next {ok : Bool} {f : State → State} {s t : State} (h : onState ok f s = .next t) : t = f s := by
  unfold onState at h
  split at h
  · exact (Host.Outcome.next.inj h).symm
  · cases h

/-! ## Steps of the management port keep the queue and the port's order -/

/-- From `s` to `t` the queue stays and the management port, where it was in order, is in order. -/
def OrderKept (s t : State) : Prop := t.pending = s.pending ∧ (mgmtOk s.mgmt → mgmtOk t.mgmt)

theorem OrderKept.refl (s : State) : OrderKept s s := ⟨rfl, id⟩
theorem OrderKept.trans {s t u : State} (h : OrderKept s t) (k : OrderKept t u) : OrderKept s u :=
  ⟨k.1.trans h.1, k.2 ∘ h.2⟩

/-- What `mgmtOk` speaks of is the same in both. -/
theorem OrderKept.of_eq {s t : State} (hp : t.pending = s.pending) (hw : t.mgmt.maxWrite = s.mgmt.maxWrite)
    (hr : t.mgmt.maxRead = s.mgmt.maxRead) (he : t.mgmt.enumOut = s.mgmt.enumOut) (ha : t.mgmt.dynAddr = s.mgmt.dynAddr)
    (hb : t.mgmt.fwBuf = s.mgmt.fwBuf) : OrderKept s t :=
  ⟨hp, fun h => by unfold mgmtOk; rw [hw, hr, he, ha, hb]; exact h⟩

theorem State.finishReq_orderKept (s : State) (st detail : Nat) : OrderKept s (s.finishReq st detail) := .of_eq rfl rfl rfl rfl rfl rfl
theorem State.refuseReq_orderKept (s : State) (st : Nat) : OrderKept s (s.refuseReq st) := .of_eq rfl rfl rfl rfl rfl rfl
theorem State.nack_orderKept (s : State) : OrderKept s s.nack := .of_eq rfl rfl rfl rfl rfl rfl

theorem State.startReq_orderKept (s : State) (v : Nat) : OrderKept s (s.startReq v) := by
  unfold State.startReq
  split
  · exact .of_eq rfl rfl rfl rfl rfl rfl
  · dsimp only
    split <;> exact .of_eq rfl rfl rfl rfl rfl rfl

theorem State.mgWrite_orderKept (s : State) (off v : Nat) : OrderKept s (s.mgWrite off v) := by
  unfold State.mgWrite
  dsimp only
  split; · exact .refl s
  split; · exact s.startReq_orderKept v
  split; · exact .of_eq rfl rfl rfl rfl rfl rfl
  split; · exact .of_eq rfl rfl rfl rfl rfl rfl
  split; · exact .of_eq rfl rfl rfl rfl rfl rfl
  split
  · split
    · exact .of_eq rfl rfl rfl rfl rfl rfl
    · refine ⟨rfl, ?_⟩
      rintro ⟨hw, hw', hr, hr', he, hb⟩
      exact ⟨hw, hw', hr, hr', he, SMap.foldl_set_wf (d := (0 : Byte)) _ _ _ hb⟩
  · exact .refl s

theorem foldl_orderKept {β : Type} (f : State → β → State) (hf : ∀ s x, OrderKept s (f s x)) (l : List β) (s : State) :
    OrderKept s (l.foldl f s) := by
  induction l generalizing s with
  | nil => exact .refl s
  | cons x l ih => exact (hf s x).trans (ih _)

theorem State.putRegs_orderKept (s : State) (off : Nat) (bs : List Byte) : OrderKept s (s.putRegs off bs) := by
  refine foldl_orderKept _ (fun s r => ?_) _ s
  split
  · exact s.mgWrite_orderKept ..
  · split
    · exact .of_eq rfl rfl rfl rfl rfl rfl
    · exact .refl s

theorem State.transferIn_orderKept (s : State) (bytes : List Byte) : OrderKept s (s.transferIn bytes) := by
  unfold State.transferIn
  split
  · exact .of_eq rfl rfl rfl rfl rfl rfl
  · exact OrderKept.trans (.of_eq rfl rfl rfl rfl rfl rfl) (State.putRegs_orderKept ..)

theorem State.transferOut_orderKept (s : State) (len : Nat) : OrderKept s (s.transferOut len) := by
  unfold State.transferOut
  dsimp only
  split <;> exact .of_eq rfl rfl rfl rfl rfl rfl

theorem State.sdr_orderKept (s : State) (f : State → State) (hf : OrderKept s (f s)) : OrderKept s (s.sdr f) := by
  unfold State.sdr
  split
  · exact hf
  · exact s.nack_orderKept

theorem State.ccc_orderKept (s : State) (f : State → List Byte) : OrderKept s (s.ccc f) :=
  s.sdr_orderKept _ (.of_eq rfl rfl rfl rfl rfl rfl)

/-- What a request leaves of the state it worked on. -/
def Req.keeps (s : State) : Req → Prop
  | .ok t _ => OrderKept s t
  | .answer t _ => OrderKept s t
  | .refuse _ => True

theorem State.request_orderKept (s : State) (op mask : Nat) (f : State → Nat → Req) (hf : (f s s.mgmt.reqArg).keeps s) :
    OrderKept s (s.request op mask f) := by
  unfold State.request
  dsimp only
  split; · exact .refl s
  split; · exact s.refuseReq_orderKept _
  revert hf
  cases f s s.mgmt.reqArg with
  | ok t d => exact fun hf => OrderKept.trans hf (t.finishReq_orderKept ..)
  | answer t st => exact fun hf => OrderKept.trans hf (t.finishReq_orderKept ..)
  | refuse st => exact fun _ => s.refuseReq_orderKept st

theorem State.inSession_keeps (s : State) (r : Req) (hr : r.keeps s) : (s.inSession r).keeps s := by
  unfold State.inSession
  split
  · exact hr
  · trivial

/-! ## The commands that act on the service ports -/

/-- The commands of the management port and of the test port, S0 and the loss of both feeds. -/
def portCommand : Instr → Bool
  | .mgPrivateWrite _ | .mgPrivateRead _ | .i2cTransfer _ _ _ _ | .entdaa _ _ | .rstdaa | .enec | .disec | .getpid | .getbcr
  | .getdcr | .getstatus | .getmwl | .getmrl | .setmwl _ | .setmrl _ | .mgmtResetN _ | .mgLogSeqWrite _ | .mgFwBufWrite _ _
  | .coldStart | .moduleReset | .wake | .board | .unboard | .feed | .limit | .role | .resume | .fwBegin | .mgFwChunk
  | .mgFwVerify _ | .mgFwActivate | .fwEnd | .inBandInterrupt | .bypass | .idcode | .sample _ | .extest | .clamp
  | .peepUnlock _ _ _ | .peepRead _ _ | .bothFeedsLost | .s0Standby _ _ _ => true
  | _ => false

/-- The end of a firmware session looks at the port and acts on the module. -/
theorem doFwSessionTimeout_eq (s : State) : doFwSessionTimeout s = { s with m := (doFwSessionTimeout s).m } := by
  unfold doFwSessionTimeout
  split <;> rfl

/-- Every other command acts on the module alone. -/
theorem exec_eq_onModule_of_not_portCommand {i : Instr} (hi : portCommand i = false) :
    ∃ f : State → Module, ∀ s, exec i s = onState (wellFormed i) (fun s => { s with m := f s }) s := by
  cases i with
  | fwSessionTimeout => exact ⟨fun s => (doFwSessionTimeout s).m, fun s => congrArg Host.Outcome.next (doFwSessionTimeout_eq s)⟩
  | mgPrivateWrite _ | mgPrivateRead _ | i2cTransfer _ _ _ _ | entdaa _ _ | rstdaa | enec | disec | getpid | getbcr
  | getdcr | getstatus | getmwl | getmrl | setmwl _ | setmrl _ | mgmtResetN _ | mgLogSeqWrite _ | mgFwBufWrite _ _
  | coldStart | moduleReset | wake | board | unboard | feed | limit | role | resume | fwBegin | mgFwChunk
  | mgFwVerify _ | mgFwActivate | fwEnd | inBandInterrupt | bypass | idcode | sample _ | extest | clamp
  | peepUnlock _ _ _ | peepRead _ _ | bothFeedsLost | s0Standby _ _ _ => cases hi
  | _ => exact ⟨_, fun _ => rfl⟩

theorem exec_ports {i : Instr} {s t : State} (hi : portCommand i = false) (h : exec i s = .next t) :
    t.mgmt = s.mgmt ∧ t.jtag = s.jtag ∧ t.pending = s.pending := by
  obtain ⟨f, hf⟩ := exec_eq_onModule_of_not_portCommand hi
  rw [onState_next ((hf s).symm.trans h)]
  exact ⟨rfl, rfl, rfl⟩

theorem doMgPrivateWrite_orderKept (bytes : List Byte) (s : State) : OrderKept s (doMgPrivateWrite bytes s) :=
  s.sdr_orderKept _ (s.transferIn_orderKept bytes)
theorem doMgPrivateRead_orderKept (len : Nat) (s : State) : OrderKept s (doMgPrivateRead len s) :=
  s.sdr_orderKept _ (s.transferOut_orderKept len)
theorem doI2cTransfer_orderKept (addr : Nat) (write : Bool) (bytes : List Byte) (len : Nat) (s : State) :
    OrderKept s (doI2cTransfer addr write bytes len s) := by
  unfold doI2cTransfer
  split
  · split
    · exact s.transferIn_orderKept bytes
    · exact s.transferOut_orderKept len
  · exact s.nack_orderKept

/-- An address comes with ENUM_OUT (R574). -/
theorem doEntdaa_orderKept (addr : Nat) (enumIn : Bool) (s : State) : OrderKept s (doEntdaa addr enumIn s) := by
  unfold doEntdaa
  split
  · exact ⟨rfl, fun ⟨hw, hw', hr, hr', _, hb⟩ => ⟨hw, hw', hr, hr', rfl, hb⟩⟩
  · exact s.nack_orderKept
/-- And goes with it (R575). -/
theorem doRstdaa_orderKept (s : State) : OrderKept s (doRstdaa s) := by
  unfold doRstdaa
  split
  · exact ⟨rfl, fun ⟨hw, hw', hr, hr', _, hb⟩ => ⟨hw, hw', hr, hr', rfl, hb⟩⟩
  · exact s.nack_orderKept

theorem lenOk_iff (n : Nat) : lenOk n = true ↔ 16 ≤ n ∧ n ≤ 256 := by simp [lenOk]
theorem doSetmwl_orderKept (len : Nat) (s : State) : OrderKept s (doSetmwl len s) := by
  refine s.sdr_orderKept _ ?_
  split
  case isTrue hlen =>
    obtain ⟨hlo, hhi⟩ := (lenOk_iff len).1 hlen
    exact ⟨rfl, fun ⟨_, _, hr, hr', he, hb⟩ => ⟨hlo, hhi, hr, hr', he, hb⟩⟩
  case isFalse => exact s.nack_orderKept
theorem doSetmrl_orderKept (len : Nat) (s : State) : OrderKept s (doSetmrl len s) := by
  refine s.sdr_orderKept _ ?_
  split
  case isTrue hlen =>
    obtain ⟨hlo, hhi⟩ := (lenOk_iff len).1 hlen
    exact ⟨rfl, fun ⟨hw, hw', _, _, he, hb⟩ => ⟨hw, hw', hlo, hhi, he, hb⟩⟩
  case isFalse => exact s.nack_orderKept

theorem doMgmtResetN_orderKept (us : Nat) (s : State) : OrderKept s (doMgmtResetN us s) := by
  unfold doMgmtResetN
  split
  · exact .refl s
  · exact ⟨rfl, fun ⟨_, _, _, _, _, hb⟩ => ⟨by simp, by simp, by simp, by simp, rfl, hb⟩⟩

theorem doMgLogSeqWrite_orderKept (value : Nat) (s : State) : OrderKept s (doMgLogSeqWrite value s) := by
  unfold doMgLogSeqWrite
  split
  · exact s.mgWrite_orderKept ..
  · exact .refl s
theorem doMgFwBufWrite_orderKept (off : Nat) (bytes : List Byte) (s : State) : OrderKept s (doMgFwBufWrite off bytes s) := by
  unfold doMgFwBufWrite
  split
  · exact s.putRegs_orderKept ..
  · exact .refl s

theorem doInBandInterrupt_orderKept (s : State) : OrderKept s (doInBandInterrupt s) := by
  unfold doInBandInterrupt
  split
  · exact .refl s
  · split
    · exact .of_eq rfl rfl rfl rfl rfl rfl
    · exact .refl s
theorem doIdcode_orderKept (s : State) : OrderKept s (doIdcode s) := by
  unfold doIdcode
  split <;> exact .of_eq rfl rfl rfl rfl rfl rfl

/-! A request's effect leaves alone what `mgmtOk` speaks of. -/

theorem doColdStart_orderKept (s : State) : OrderKept s (doColdStart s) := by
  refine s.request_orderKept _ _ _ ?_
  dsimp only
  split
  · trivial
  · exact .of_eq rfl rfl rfl rfl rfl rfl
theorem doModuleReset_orderKept (s : State) : OrderKept s (doModuleReset s) := by
  refine s.request_orderKept _ _ _ ?_
  dsimp only
  split
  · trivial
  · exact .of_eq rfl rfl rfl rfl rfl rfl
theorem doWake_orderKept (s : State) : OrderKept s (doWake s) := by
  refine s.request_orderKept _ _ _ ?_
  split
  · exact .of_eq rfl rfl rfl rfl rfl rfl
  · trivial
theorem doBoard_orderKept (s : State) : OrderKept s (doBoard s) := by
  refine s.request_orderKept _ _ _ ?_
  dsimp only
  split
  · trivial
  · exact .of_eq rfl rfl rfl rfl rfl rfl
theorem doUnboard_orderKept (s : State) : OrderKept s (doUnboard s) := by
  refine s.request_orderKept _ _ _ ?_
  split
  · exact .of_eq rfl rfl rfl rfl rfl rfl
  · trivial
theorem doFeed_orderKept (s : State) : OrderKept s (doFeed s) := by
  refine s.request_orderKept _ _ _ ?_
  dsimp only
  split
  · trivial
  · split
    · trivial
    · exact .of_eq rfl rfl rfl rfl rfl rfl
theorem doLimit_orderKept (s : State) : OrderKept s (doLimit s) := by
  refine s.request_orderKept _ _ _ ?_
  dsimp only
  split; · trivial
  split; · trivial
  split; · trivial
  exact .of_eq rfl rfl rfl rfl rfl rfl
theorem doRole_orderKept (s : State) : OrderKept s (doRole s) := by
  refine s.request_orderKept _ _ _ ?_
  dsimp only
  split
  · trivial
  · exact .of_eq rfl rfl rfl rfl rfl rfl
theorem doResume_orderKept (s : State) : OrderKept s (doResume s) := by
  refine s.request_orderKept _ _ _ ?_
  dsimp only
  split
  · exact .refl s
  · split
    · exact .of_eq rfl rfl rfl rfl rfl rfl
    · trivial
theorem doFwBegin_orderKept (s : State) : OrderKept s (doFwBegin s) := by
  refine s.request_orderKept _ _ _ ?_
  dsimp only
  split
  · trivial
  · exact .of_eq rfl rfl rfl rfl rfl rfl
theorem doMgFwChunk_orderKept (s : State) : OrderKept s (doMgFwChunk s) := by
  refine s.request_orderKept _ _ _ (s.inSession_keeps _ ?_)
  split
  · exact .refl s
  · exact .of_eq rfl rfl rfl rfl rfl rfl
theorem doMgFwVerify_orderKept (sigOk : Bool) (s : State) : OrderKept s (doMgFwVerify sigOk s) := by
  refine s.request_orderKept _ _ _ (s.inSession_keeps _ ?_)
  split
  · exact .refl s
  · exact .of_eq rfl rfl rfl rfl rfl rfl
theorem doMgFwActivate_orderKept (s : State) : OrderKept s (doMgFwActivate s) := by
  refine s.request_orderKept _ _ _ (s.inSession_keeps _ ?_)
  dsimp only
  split
  · exact .refl s
  · split <;> exact .of_eq rfl rfl rfl rfl rfl rfl
theorem doFwEnd_orderKept (s : State) : OrderKept s (doFwEnd s) :=
  s.request_orderKept _ _ _ (s.inSession_keeps _ (.of_eq rfl rfl rfl rfl rfl rfl))

/-! S0 and the loss of both feeds. -/

theorem mgmtOk_default : mgmtOk {} := ⟨by decide, by decide, by decide, by decide, rfl, rfl⟩

theorem Mgmt.started_ok {g : Mgmt} (h : mgmtOk g) : mgmtOk g.started := h

/-- Whatever the command, the queue stays, and a port in order is in order after it. -/
theorem exec_orderKept {i : Instr} {s t : State} (h : exec i s = .next t) : OrderKept s t := by
  by_cases hi : portCommand i = false
  · obtain ⟨hmgmt, -, hpending⟩ := exec_ports hi h
    exact ⟨hpending, fun hok => hmgmt ▸ hok⟩
  · have heffect (f : State → State) (hf : exec i s = onState (wellFormed i) f s) (hkept : OrderKept s (f s)) : OrderKept s t :=
      onState_next (hf.symm.trans h) ▸ hkept
    cases i with
    | mgPrivateWrite bytes => exact heffect (doMgPrivateWrite bytes) rfl (doMgPrivateWrite_orderKept bytes s)
    | mgPrivateRead len => exact heffect (doMgPrivateRead len) rfl (doMgPrivateRead_orderKept len s)
    | i2cTransfer addr write bytes len => exact heffect (doI2cTransfer addr write bytes len) rfl (doI2cTransfer_orderKept addr write bytes len s)
    | entdaa addr enumIn => exact heffect (doEntdaa addr enumIn) rfl (doEntdaa_orderKept addr enumIn s)
    | rstdaa => exact heffect doRstdaa rfl (doRstdaa_orderKept s)
    | enec => exact heffect doEnec rfl (s.sdr_orderKept _ (.of_eq rfl rfl rfl rfl rfl rfl))
    | disec => exact heffect doDisec rfl (s.sdr_orderKept _ (.of_eq rfl rfl rfl rfl rfl rfl))
    | getpid => exact heffect doGetpid rfl (s.ccc_orderKept _)
    | getbcr => exact heffect doGetbcr rfl (s.ccc_orderKept _)
    | getdcr => exact heffect doGetdcr rfl (s.ccc_orderKept _)
    | getstatus => exact heffect doGetstatus rfl (s.ccc_orderKept _)
    | getmwl => exact heffect doGetmwl rfl (s.ccc_orderKept _)
    | getmrl => exact heffect doGetmrl rfl (s.ccc_orderKept _)
    | setmwl len => exact heffect (doSetmwl len) rfl (doSetmwl_orderKept len s)
    | setmrl len => exact heffect (doSetmrl len) rfl (doSetmrl_orderKept len s)
    | mgmtResetN us => exact heffect (doMgmtResetN us) rfl (doMgmtResetN_orderKept us s)
    | mgLogSeqWrite value => exact heffect (doMgLogSeqWrite value) rfl (doMgLogSeqWrite_orderKept value s)
    | mgFwBufWrite off bytes => exact heffect (doMgFwBufWrite off bytes) rfl (doMgFwBufWrite_orderKept off bytes s)
    | coldStart => exact heffect doColdStart rfl (doColdStart_orderKept s)
    | moduleReset => exact heffect doModuleReset rfl (doModuleReset_orderKept s)
    | wake => exact heffect doWake rfl (doWake_orderKept s)
    | board => exact heffect doBoard rfl (doBoard_orderKept s)
    | unboard => exact heffect doUnboard rfl (doUnboard_orderKept s)
    | feed => exact heffect doFeed rfl (doFeed_orderKept s)
    | limit => exact heffect doLimit rfl (doLimit_orderKept s)
    | role => exact heffect doRole rfl (doRole_orderKept s)
    | resume => exact heffect doResume rfl (doResume_orderKept s)
    | fwBegin => exact heffect doFwBegin rfl (doFwBegin_orderKept s)
    | mgFwChunk => exact heffect doMgFwChunk rfl (doMgFwChunk_orderKept s)
    | mgFwVerify sigOk => exact heffect (doMgFwVerify sigOk) rfl (doMgFwVerify_orderKept sigOk s)
    | mgFwActivate => exact heffect doMgFwActivate rfl (doMgFwActivate_orderKept s)
    | fwEnd => exact heffect doFwEnd rfl (doFwEnd_orderKept s)
    | inBandInterrupt => exact heffect doInBandInterrupt rfl (doInBandInterrupt_orderKept s)
    | bypass => exact heffect doBypass rfl (.of_eq rfl rfl rfl rfl rfl rfl)
    | extest => exact heffect doExtest rfl (.of_eq rfl rfl rfl rfl rfl rfl)
    | clamp => exact heffect doClamp rfl (.of_eq rfl rfl rfl rfl rfl rfl)
    | idcode => exact heffect doIdcode rfl (doIdcode_orderKept s)
    | sample pins => exact heffect (doSample pins) rfl (.of_eq rfl rfl rfl rfl rfl rfl)
    | peepUnlock serial challenge sigOk => exact heffect (doPeepUnlock serial challenge sigOk) rfl (.of_eq rfl rfl rfl rfl rfl rfl)
    | peepRead off len => exact heffect (doPeepRead off len) rfl (.of_eq rfl rfl rfl rfl rfl rfl)
    | bothFeedsLost =>
      rw [onState_next ((exec_bothFeedsLost s).symm.trans h)]
      exact ⟨rfl, fun _ => mgmtOk_default⟩
    | s0Standby romOk rev dur =>
      rw [onState_next ((exec_s0Standby romOk rev dur s).symm.trans h)]
      refine ⟨rfl, fun hok => ?_⟩
      dsimp only
      split
      · exact Mgmt.started_ok hok
      · exact hok
    | _ => exact absurd rfl hi

/-- Settles O5: a step is a command of `exec_orderKept` on the queue's rest, or the idle step, which leaves the port alone. -/
theorem portOrderKept : Obligations.PortOrderKept := by
  intro s t hok hstep
  unfold step at hstep
  split at hstep
  · obtain rfl := Host.Outcome.next.inj hstep
    exact hok
  · exact (exec_orderKept hstep).2 hok

/-- Settles O4: a command that is none of the port commands acts on the module alone, and no command touches the queue. -/
theorem portsKept : Obligations.PortsKept := by
  intro i s t h
  refine ⟨?_, (exec_orderKept h).1⟩
  have hports (hi : portCommand i = false) : t.mgmt = s.mgmt ∧ t.jtag = s.jtag :=
    have ⟨hmgmt, hjtag, _⟩ := exec_ports hi h
    ⟨hmgmt, hjtag⟩
  cases i with
  | mgPrivateWrite _ | mgPrivateRead _ | i2cTransfer _ _ _ _ | entdaa _ _ | rstdaa | enec | disec | getpid | getbcr
  | getdcr | getstatus | getmwl | getmrl | setmwl _ | setmrl _ | mgmtResetN _ | mgLogSeqWrite _ | mgFwBufWrite _ _
  | coldStart | moduleReset | wake | board | unboard | feed | limit | role | resume | fwBegin | mgFwChunk
  | mgFwVerify _ | mgFwActivate | fwEnd | inBandInterrupt | bypass | idcode | sample _ | extest | clamp
  | peepUnlock _ _ _ | peepRead _ _ | bothFeedsLost | s0Standby _ _ _ => trivial
  | _ => exact hports rfl

end Sys2Proof.Machine
end

section
/-! SUPPORT. Byte lists as numbers; stored bytes (R35, R37); the special values of a conversion (R211, R213, R221). -/

namespace Sys2Proof.Machine

/-! ## Bytes and numbers (R7) -/

@[simp] theorem leBytes_length (n v : Nat) : (leBytes n v).length = n := by
  induction n generalizing v with
  | zero => rfl
  | succ n ih => simp [leBytes, ih]

/-- What was packed reads back, as far as its bytes hold it. -/
@[simp] theorem leNat_leBytes (n v : Nat) : leNat (leBytes n v) = v % 256 ^ n := by
  induction n generalizing v with
  | zero => simp [leBytes, leNat, Nat.mod_one]
  | succ n ih =>
    rw [Nat.pow_succ', Nat.mod_mul]
    simp [leBytes, leNat, ih]

/-- A field that begins a list. -/
theorem getLe_append_left (as bs : List Byte) : getLe (as ++ bs) 0 as.length = leNat as := by
  simp [getLe]
/-- A field behind `as.length` bytes. -/
theorem getLe_append_right (as bs : List Byte) {off len : Nat} (h : off = as.length) : getLe (as ++ bs) off len = leNat (bs.take len) := by
  simp [getLe, h]

/-! ## Stored bytes -/

theorem putRange_get (bs : List Byte) (b : SMap Byte) (a k : Nat) :
    SMap.get 0 (putRange b a bs) k = if a ≤ k ∧ k < a + bs.length then bs.getD (k - a) 0 else SMap.get 0 b k := by
  induction bs generalizing b a with
  | nil => rw [putRange, if_neg (by simp)]
  | cons x xs ih =>
    rw [putRange, ih, List.length_cons]
    by_cases hk : k = a
    · subst hk
      rw [if_neg (by omega), if_pos (by omega), SMap.get_set_self]
      simp
    · rw [SMap.get_set_other _ hk]
      by_cases hin : a + 1 ≤ k ∧ k < a + 1 + xs.length
      · have hsub : k - a = (k - (a + 1)) + 1 := by omega
        rw [if_pos hin, if_pos (by omega), hsub, List.getD_cons_succ]
      · rw [if_neg hin, if_neg (by omega)]

/-- What was written reads back. -/
theorem Module.bytesAt_putBytes (m : Module) (a : Nat) (bs : List Byte) : (m.putBytes a bs).bytesAt a bs.length = bs := by
  refine List.ext_getElem (by simp [Module.bytesAt]) fun i hi hi' => ?_
  simp only [Module.bytesAt, Module.putBytes, List.getElem_map, List.getElem_range]
  rw [putRange_get, if_pos (by omega)]
  simp [hi']

/-- Every other address reads as before. -/
theorem Module.putBytes_get_outside (m : Module) {a k : Nat} (bs : List Byte) (h : k < a ∨ a + bs.length ≤ k) :
    SMap.get 0 (m.putBytes a bs).mem.bytes k = SMap.get 0 m.mem.bytes k := by
  rw [Module.putBytes, putRange_get, if_neg (by omega)]

section
variable {α : Type} [DecidableEq α] {d : α}

omit [DecidableEq α] in
/-- What reads as more than the default stands at the head's key or behind it. -/
theorem SMap.head_le_of_get_ne {n : SMap α} {k k' : Nat} {v : α} (hn : SMap.beyond d k' n) (h : SMap.get d ((k', v) :: n) k ≠ d) :
    k' ≤ k := by
  refine Nat.le_of_not_lt fun hlt => ?_
  exact h (by rw [SMap.get, if_neg (by omega), SMap.get_beyond hn (by omega)])

/-- Lists in canonical form that read alike are equal: their heads stand at one key, and behind it they read alike. -/
theorem SMap.ext_of_wf {m : SMap α} : ∀ {n : SMap α}, SMap.wf d m = true → SMap.wf d n = true →
    (∀ k, SMap.get d m k = SMap.get d n k) → m = n := by
  induction m with
  | nil =>
    rintro (_ | ⟨⟨k', v'⟩, n⟩) - hn h
    · rfl
    · exact absurd (by simpa [SMap.get] using (h k').symm) ((SMap.wf_cons k' v' n).1 hn).1
  | cons p m ih =>
    obtain ⟨k, v⟩ := p
    rintro (_ | ⟨⟨k', v'⟩, n⟩) hm hn h
    · exact absurd (by simpa [SMap.get] using h k) ((SMap.wf_cons k v m).1 hm).1
    obtain ⟨hv, hbm⟩ := (SMap.wf_cons k v m).1 hm
    obtain ⟨hv', hbn⟩ := (SMap.wf_cons k' v' n).1 hn
    have hk : SMap.get d ((k', v') :: n) k = v := by rw [← h k, SMap.get, if_pos rfl]
    have hk' : SMap.get d ((k, v) :: m) k' = v' := by rw [h k', SMap.get, if_pos rfl]
    obtain rfl : k = k' := Nat.le_antisymm (SMap.head_le_of_get_ne hbm (hk' ▸ hv')) (SMap.head_le_of_get_ne hbn (hk ▸ hv))
    have htail : m = n := by
      refine ih (SMap.wf_tail hm) (SMap.wf_tail hn) fun j => ?_
      by_cases hj : j ≤ k
      · rw [SMap.get_beyond hbm hj, SMap.get_beyond hbn hj]
      · have hne : j ≠ k := by omega
        simpa [SMap.get, hne] using h j
    obtain rfl : v' = v := by simpa [SMap.get] using hk
    rw [htail]

end

/-- Settles O57: a byte of the range reads as its place in the list, and canonical lists are told apart by what they read. -/
theorem memoryBytes : Obligations.MemoryBytes :=
  ⟨fun m a bs => ⟨m.bytesAt_putBytes a bs, fun _ hk => m.putBytes_get_outside bs hk, m.putBytes_memory_wf a bs⟩,
    fun _ _ hm hn h => SMap.ext_of_wf hm hn h⟩

/-! ## Code words of a format (R210, R211, R219) -/

/-- A code word's sign, exponent and mantissa: the sign stands above the magnitude. -/
theorem signed_fields (f : Fmt) (neg : Bool) {n : Nat} (h : n < 2 ^ (f.eb + f.mb)) :
    bitOf (signed f neg n) (f.eb + f.mb) = neg ∧ signed f neg n / 2 ^ f.mb % 2 ^ f.eb = n / 2 ^ f.mb ∧
      signed f neg n % 2 ^ f.mb = n % 2 ^ f.mb := by
  have hexp : n / 2 ^ f.mb < 2 ^ f.eb := by
    rw [Nat.div_lt_iff_lt_mul (Nat.two_pow_pos _), ← Nat.pow_add]; exact h
  cases neg with
  | false => simp [signed, bitOf, Nat.div_eq_of_lt h, Nat.mod_eq_of_lt hexp]
  | true =>
    have hadd : (n + 2 ^ (f.eb + f.mb)) / 2 ^ (f.eb + f.mb) = 1 := by
      rw [Nat.add_div_right _ (Nat.two_pow_pos _), Nat.div_eq_of_lt h]
    refine ⟨(congrArg (fun x => x % 2 == 1) hadd : _), ?_, ?_⟩
    · simp only [signed, if_true]
      rw [Nat.pow_add, Nat.add_mul_div_right _ _ (Nat.two_pow_pos _), Nat.add_mod_right, Nat.mod_eq_of_lt hexp]
    · simp only [signed, if_true]
      rw [Nat.pow_add, Nat.add_mul_mod_self_right]

theorem decodeF_signed (f : Fmt) (neg : Bool) {n : Nat} (h : n < 2 ^ (f.eb + f.mb)) : decodeF f (signed f neg n) =
    if f.top = 0 ∧ n / 2 ^ f.mb = 2 ^ f.eb - 1 then (if n % 2 ^ f.mb = 0 then .inf neg else .nan)
    else if f.top = 1 ∧ n / 2 ^ f.mb = 2 ^ f.eb - 1 ∧ n % 2 ^ f.mb = 2 ^ f.mb - 1 then .nan
    else if n / 2 ^ f.mb = 0 then .fin neg (n % 2 ^ f.mb) (1 - (f.bias : Int) - f.mb)
    else .fin neg (2 ^ f.mb + n % 2 ^ f.mb) (((n / 2 ^ f.mb : Nat) : Int) - f.bias - f.mb) := by
  obtain ⟨hsign, hexp, hman⟩ := signed_fields f neg h
  unfold decodeF
  simp only [hsign, hexp, hman]

/-- A value of a format that is one rounding's finite result, or its infinity, is no NaN: the infinity's mantissa is 0, and every
finite code word is below it, or below the one NaN code of E4M3. -/
theorem decodeF_signed_ne_nan {f : Fmt} (hf : f ∈ [fp32, bf16, fp16, e4m3, e5m2]) (neg : Bool) {n : Nat}
    (h : n ≤ maxWord f ∨ f.top = 0 ∧ n = (2 ^ f.eb - 1) * 2 ^ f.mb) : decodeF f (signed f neg n) ≠ .nan := by
  have hlt : n < 2 ^ (f.eb + f.mb) := by
    simp only [List.mem_cons, List.not_mem_nil, or_false] at hf
    rcases hf with rfl | rfl | rfl | rfl | rfl <;> simp [maxWord, fp32, bf16, fp16, e4m3, e5m2] at h ⊢ <;> omega
  rw [decodeF_signed f neg hlt]
  simp only [List.mem_cons, List.not_mem_nil, or_false] at hf
  rcases hf with rfl | rfl | rfl | rfl | rfl <;> simp [maxWord, fp32, bf16, fp16, e4m3, e5m2] at h ⊢ <;> grind

/-- A NaN that a rounding gives is the format's canonical one. -/
theorem roundF_eq_nan {f : Fmt} (hf : f ∈ [fp32, bf16, fp16, e4m3, e5m2]) {sat : Bool} (hsat : f = e4m3 → sat = true) (r : Rnd) {v : Val}
    (h : decodeF f (roundF f r sat v) = .nan) : roundF f r sat v = f.nan := by
  have htop : sat = false → f.top = 0 := by
    intro hs
    simp only [List.mem_cons, List.not_mem_nil, or_false] at hf
    rcases hf with rfl | rfl | rfl | rfl | rfl
    case inr.inr.inr.inl => exact absurd (hsat rfl) (by simp [hs])
    all_goals rfl
  cases v with
  | nan => rfl
  | inf neg =>
    rw [roundF] at h ⊢
    split at h
    case isTrue hinf => exact absurd h (decodeF_signed_ne_nan hf neg (.inr ⟨hinf, rfl⟩))
    case isFalse hinf => rw [if_neg hinf]
  | fin neg man exp =>
    simp only [roundF] at h
    split at h
    · split at h
      · exact absurd h (decodeF_signed_ne_nan hf neg (.inl (Nat.le_refl _)))
      next hs => exact absurd h (decodeF_signed_ne_nan hf neg (.inr ⟨htop (by simpa using hs), rfl⟩))
    · exact absurd h (decodeF_signed_ne_nan hf neg (.inl (Nat.min_le_right _ _)))

/-- A zero keeps its sign. -/
theorem decodeF_roundF_zero (f : Fmt) (r : Rnd) (sat neg : Bool) (e : Int) (hmb : 0 < f.eb) :
    decodeF f (roundF f r sat (.fin neg 0 e)) = .fin neg 0 (1 - (f.bias : Int) - f.mb) := by
  have hround : roundF f r sat (.fin neg 0 e) = signed f neg 0 := by simp [roundF, roundMag]
  have htop : (0 : Nat) ≠ 2 ^ f.eb - 1 := by
    have := Nat.one_lt_two_pow (Nat.pos_iff_ne_zero.1 hmb)
    omega
  rw [hround, decodeF_signed f neg (Nat.two_pow_pos _)]
  simp [htop]

/-- A format whose top exponent holds numbers only has no NaN. -/
theorem decodeF_ne_nan_of_top {f : Fmt} (h : f.top = 2) (w : Nat) : decodeF f w ≠ .nan := by
  have h0 : f.top ≠ 0 := by omega
  have h1 : f.top ≠ 1 := by omega
  rw [decodeF, if_neg (fun hx => h0 hx.1), if_neg (fun hx => h1 hx.1)]
  split
  · exact nofun
  · exact nofun

/-- A block with a NaN among its values has no shared exponent. -/
theorem blockExp_of_nan_mem {code : Nat} {vs : List Val} (h : Val.nan ∈ vs) : blockExp code vs = none := by
  unfold blockExp
  generalize (some (-127) : Option Int) = acc
  induction vs generalizing acc with
  | nil => cases h
  | cons v vs ih =>
    rw [List.foldl_cons]
    rcases List.mem_cons.1 h with rfl | h
    · have hnone : ∀ l : List Val, l.foldl (fun (acc : Option Int) (v : Val) => match acc, v with
          | some e, .fin _ man exp => some (if man = 0 then e else Max.max e ((Nat.log2 man : Nat) + exp - emaxOf code))
          | _, _ => none) none = none := fun l => by
        induction l with
        | nil => rfl
        | cons v l ihl => exact ihl
      cases acc <;> exact hnone vs
    · exact ih h _

/-- Settles O60: a rounding's result is a signed magnitude at or below the largest finite one, an infinity, or the canonical NaN; a block
with a NaN takes the scale 0xFF, and one with that scale decodes to NaNs. -/
theorem conversionSpecials : Obligations.ConversionSpecials := by
  refine ⟨⟨rfl, rfl, rfl, rfl, rfl⟩, fun f r sat v hf hsat => ⟨?nan, roundF_eq_nan hf hsat r⟩, fun f r sat neg e hf => ⟨1 - (f.bias : Int) - f.mb, ?zero⟩,
    fun f w hf => decodeF_ne_nan_of_top ?top w, fun code rnd vs _ hnan => ?encode, fun code b hx => ?decode⟩
  case nan => rintro rfl; rfl
  case zero =>
    refine decodeF_roundF_zero f r sat neg e ?_
    simp only [List.mem_cons, List.not_mem_nil, or_false] at hf
    rcases hf with rfl | rfl | rfl | rfl | rfl | rfl | rfl | rfl <;> decide
  case top =>
    simp only [List.mem_cons, List.not_mem_nil, or_false] at hf
    rcases hf with rfl | rfl | rfl <;> rfl
  case encode =>
    rw [encodeBlock, blockExp_of_nan_mem hnan]
    exact getLe_append_right _ _ (by simp)
  case decode =>
    simp only [decodeBlock, hx, if_true, List.map_const', List.length_range]

end Sys2Proof.Machine
end

section
/-! SUPPORT. The management port (chapter 19): its transfers, its registers, its common commands and its requests. -/

namespace Sys2Proof.Machine

open Sys2Proof.Safety

theorem onState_of {ok : Bool} (f : State → State) (s : State) (h : ok = true) : onState ok f s = .next (f s) := if_pos h
theorem onModule_of {ok : Bool} (f : Module → Module) (s : State) (h : ok = true) : onModule ok f s = .next { s with m := f s.m } :=
  if_pos h

/-- Settles O1: it is the second equation of `step`. -/
theorem stepRunsFront : Obligations.StepRunsFront := by
  intro c rest s h
  simp only [step, h]

/-- Settles O3: `State.reset` is the state of the fields' first values. -/
theorem resetState : Obligations.ResetState :=
  ⟨rfl, rfl, rfl, rfl, rfl, rfl, rfl, rfl, rfl, rfl, rfl, rfl, mgmtOk_default⟩

/-! ## Registers written and read (R577 to R582, R586, R587) -/

theorem State.sdr_of_portAnswers {s : State} (h : portAnswers s.mgmt) (f : State → State) : s.sdr f = f s := by
  obtain ⟨hup, haddr⟩ := h
  rw [State.sdr, if_pos ⟨hup, haddr⟩]

theorem getLe_leBytes_append {n v : Nat} (data : List Byte) (h : v < 256 ^ n) : getLe (leBytes n v ++ data) 0 n = v := by
  have := getLe_append_left (leBytes n v) data
  rwa [leBytes_length, leNat_leBytes, Nat.mod_eq_of_lt h] at this

theorem byteAt_leNat (bs : List Byte) (i : Nat) : byteAt (leNat bs) i = bs.getD i 0 := by
  induction bs generalizing i with
  | nil => simp [byteAt, leNat]
  | cons b bs ih =>
    have hb : b.toNat < 256 := b.isLt
    cases i with
    | zero =>
      refine BitVec.eq_of_toNat_eq ?_
      simp only [byteAt, leNat, BitVec.toNat_ofNat, List.getD_cons_zero]
      omega
    | succ i =>
      have hshift : 2 ^ (8 * (i + 1)) = 256 * 2 ^ (8 * i) := by rw [Nat.mul_succ, Nat.pow_add, Nat.mul_comm]
      rw [List.getD_cons_succ, ← ih, byteAt, byteAt, hshift, ← Nat.div_div_eq_div_mul, leNat]
      have hrest : (b.toNat + 256 * leNat bs) / 256 = leNat bs := by omega
      rw [hrest]

/-- One aligned register of eight bytes is written. -/
theorem State.putRegs_register (s : State) {off : Nat} {bs : List Byte} (hoff : off % 8 = 0) (hlen : bs.length = 8) :
    s.putRegs off bs = s.mgWrite off (leNat bs) := by
  have hregs : mgRegs off 8 = [off] := by
    have h1 : (off + 8 - 1) / 8 + 1 - off / 8 = 1 := by omega
    rw [mgRegs, if_neg (by decide), h1, List.range_one, List.map_singleton, Nat.add_zero, Nat.div_mul_cancel (Nat.dvd_of_mod_eq_zero hoff)]
  simp [State.putRegs, hlen, hregs, List.take_of_length_le (Nat.le_of_eq hlen)]

theorem State.transferIn_register (s : State) {off : Nat} {data : List Byte} (hoff : off < 65536) (halign : off % 8 = 0)
    (hlen : data.length = 8) (hmax : 8 ≤ s.mgmt.maxWrite) : s.transferIn (leBytes 2 off ++ data) =
      ({ s with mgmt := { s.mgmt with offset := off, acked := true, answer := [] } }).mgWrite off (leNat data) := by
  have hfield : getLe (leBytes 2 off ++ data) 0 2 = off := getLe_leBytes_append data hoff
  have hdata : ((leBytes 2 off ++ data).drop 2).take s.mgmt.maxWrite = data := by
    rw [List.drop_left' (leBytes_length 2 off), List.take_of_length_le (by omega)]
  have hlong : ¬ (leBytes 2 off ++ data).length < 2 := by rw [List.length_append, leBytes_length]; omega
  rw [State.transferIn, if_neg hlong, hfield, hdata]
  exact State.putRegs_register _ halign hlen

/-- A read within the 50 µs after a write of MG_LOG_SEQ is not acknowledged. -/
theorem State.transferOut_of_seeking {s : State} (len : Nat) (hset : s.mgmt.seqAt ≠ 0) (hsoon : s.m.time + 1 < s.mgmt.seqAt + 50) :
    s.transferOut len = s.nack := by
  rw [State.transferOut, if_pos ⟨hsoon, hset⟩, State.nack]

theorem State.transferOut_answers {s : State} (len : Nat) (h : s.mgmt.seqAt = 0 ∨ s.mgmt.seqAt + 50 ≤ s.m.time + 1) :
    (s.transferOut len).mgmt.acked = true ∧ (s.transferOut len).mgmt.answer.length = min len s.mgmt.maxRead ∧
      (s.transferOut len).mgmt.offset = (s.mgmt.offset + min len s.mgmt.maxRead) % 65536 ∧ (s.transferOut len).m = s.m ∧
      (s.transferOut len).jtag = s.jtag := by
  rw [State.transferOut, if_neg (by omega)]
  simp

theorem foldl_set_get {α : Type} [DecidableEq α] {d : α} (f : Nat → α) (b : SMap α) (a n k : Nat) :
    SMap.get d ((List.range n).foldl (fun (b : SMap α) i => SMap.set d b (a + i) (f i)) b) k =
      if a ≤ k ∧ k < a + n then f (k - a) else SMap.get d b k := by
  induction n with
  | zero => rw [if_neg (by omega)]; rfl
  | succ n ih =>
    rw [List.range_succ, List.foldl_append, List.foldl_cons, List.foldl_nil]
    by_cases hk : k = a + n
    · subst hk
      rw [SMap.get_set_self, if_pos (by omega), Nat.add_sub_cancel_left]
    · rw [SMap.get_set_other _ hk, ih]
      by_cases hin : a ≤ k ∧ k < a + n
      · rw [if_pos hin, if_pos (by omega)]
      · rw [if_neg hin, if_neg (by omega)]

/-- A register of MG_FW_BUF takes its eight bytes, unless a chunk is being taken from it (R587). -/
theorem State.mgWrite_fwBuf {s : State} {off : Nat} (bs : List Byte) (hrom : s.m.romFailed = false)
    (hidle : ¬ (s.mgmt.reqBusy = true ∧ s.mgmt.reqOp = 0x11)) (hend : off + 8 ≤ 4096) :
    s.mgWrite (0x1000 + off) (leNat bs) = { s with mgmt := { s.mgmt with
      fwBuf := (List.range 8).foldl (fun (b : SMap Byte) i => SMap.set 0 b (off + i) (byteAt (leNat bs) i)) s.mgmt.fwBuf } } := by
  have hoff : 0x1000 + off - 0x1000 = off := by omega
  simp only [State.mgWrite, hrom, hoff]
  rw [if_neg (by simp), if_neg (by omega), if_neg (by omega), if_neg (by omega), if_neg (by omega), if_pos (by omega), if_neg hidle]

/-- Settles O7. -/
theorem managementTransfers : Obligations.ManagementTransfers := by
  refine ⟨fun s off data hport hoff halign hlen hmax => ?privateWrite, fun s addr off data hup hdyn haddr hlt hoff halign hlen hmax => ?i2c,
    fun s len hport hseq => ?read, fun s len hset hsoon => ?seeking, fun s value hup hrom hlt => ?logSeq,
    fun s off bytes hup hrom hidle halign hend hlen => ?fwBuf⟩
  case privateWrite =>
    rw [exec_mgPrivateWrite, onState_of _ _ rfl, doMgPrivateWrite, State.sdr_of_portAnswers hport,
      s.transferIn_register hoff halign hlen hmax]
  case i2c =>
    rw [exec_i2cTransfer, onState_of _ _ (by simpa using hlt), doI2cTransfer, if_pos ⟨hup, by simp [hdyn], haddr⟩, if_pos rfl,
      s.transferIn_register hoff halign hlen hmax]
  case read =>
    refine ⟨s.transferOut len, ?_, State.transferOut_answers len hseq⟩
    rw [exec_mgPrivateRead, onState_of _ _ rfl, doMgPrivateRead, State.sdr_of_portAnswers hport]
  case seeking =>
    rw [exec_mgPrivateRead, onState_of _ _ rfl, doMgPrivateRead, State.sdr, State.transferOut_of_seeking len hset hsoon, ite_self]
    rfl
  case logSeq =>
    rw [exec_mgLogSeqWrite, onState_of _ _ (by simpa using hlt), doMgLogSeqWrite, if_pos hup]
    simp [State.mgWrite, hrom]
  case fwBuf =>
    refine ⟨s.mgWrite (0x1000 + off) (leNat bytes), ?_, ?_⟩
    · rw [exec_mgFwBufWrite, onState_of _ _ (by simp; omega), doMgFwBufWrite, if_pos hup, s.putRegs_register (by omega) hlen]
    rw [State.mgWrite_fwBuf bytes hrom hidle hend]
    refine ⟨rfl, rfl, fun i hi => ?written, fun k hk => ?kept⟩
    case written =>
      rw [foldl_set_get (byteAt (leNat bytes)), if_pos (by omega), Nat.add_sub_cancel_left, byteAt_leNat]
    case kept => rw [foldl_set_get (byteAt (leNat bytes)), if_neg (by omega)]

/-- Settles O8. -/
theorem requestRegisters : Obligations.RequestRegisters := by
  intro s v hrom
  refine ⟨?arg, fun hidle hop => ?starts, fun hbusy => ?overrun, fun hidle hop => ?unlisted, fun hbit => ?clears⟩
  case arg => simp [State.mgWrite, hrom]
  case starts => simp [State.mgWrite, hrom, State.startReq, hidle, hop]
  case overrun => simp [State.mgWrite, hrom, State.startReq, hbusy, Mgmt.countError]
  case unlisted => simp [State.mgWrite, hrom, State.startReq, hidle, hop, State.refuseReq, State.finishReq, Mgmt.countError,
    Module.hostEvent, Module.detect]
  case clears => simp [State.mgWrite, hrom, hbit]

/-- A common command is answered at the dynamic address. -/
theorem State.ccc_of_portAnswers {s : State} (h : portAnswers s.mgmt) (f : State → List Byte) :
    s.ccc f = { s with mgmt := { s.mgmt with acked := true, answer := f s } } := by
  rw [State.ccc, State.sdr_of_portAnswers h]

/-- Settles O9. -/
theorem commonCommands : Obligations.CommonCommands := by
  refine ⟨fun s addr hup hdyn hlt => ⟨?entdaa, ?low⟩, fun s hup => ?rstdaa, fun s hport => ⟨?enec, ?disec, ?pid, ?bcr, ?dcr, ?status, ?mwl, ?mrl⟩,
    fun s len hport hlo hhi => ⟨?setmwl, ?setmrl⟩, fun s len hport hout => ⟨?badmwl, ?badmrl⟩⟩
  case entdaa => rw [exec_entdaa, onState_of _ _ (by simpa using hlt), doEntdaa, if_pos ⟨hup, by simp [hdyn], rfl⟩]; rfl
  case low => rw [exec_entdaa, onState_of _ _ (by simpa using hlt), doEntdaa, if_neg (by simp)]; rfl
  case rstdaa => rw [exec_rstdaa, onState_of _ _ rfl, doRstdaa, if_pos hup]
  case enec => rw [exec_enec, onState_of _ _ rfl, doEnec, State.sdr_of_portAnswers hport]
  case disec => rw [exec_disec, onState_of _ _ rfl, doDisec, State.sdr_of_portAnswers hport]
  case pid => rw [exec_getpid, onState_of _ _ rfl, doGetpid, State.ccc_of_portAnswers hport]
  case bcr => rw [exec_getbcr, onState_of _ _ rfl, doGetbcr, State.ccc_of_portAnswers hport]; rfl
  case dcr => rw [exec_getdcr, onState_of _ _ rfl, doGetdcr, State.ccc_of_portAnswers hport]; rfl
  case status => rw [exec_getstatus, onState_of _ _ rfl, doGetstatus, State.ccc_of_portAnswers hport]
  case mwl => rw [exec_getmwl, onState_of _ _ rfl, doGetmwl, State.ccc_of_portAnswers hport]
  case mrl => rw [exec_getmrl, onState_of _ _ rfl, doGetmrl, State.ccc_of_portAnswers hport]
  case setmwl => rw [exec_setmwl, onState_of _ _ rfl, doSetmwl, State.sdr_of_portAnswers hport, if_pos ((lenOk_iff len).2 ⟨hlo, hhi⟩)]
  case setmrl => rw [exec_setmrl, onState_of _ _ rfl, doSetmrl, State.sdr_of_portAnswers hport, if_pos ((lenOk_iff len).2 ⟨hlo, hhi⟩)]
  case badmwl =>
    rw [exec_setmwl, onState_of _ _ rfl, doSetmwl, State.sdr_of_portAnswers hport, if_neg (by rw [lenOk_iff]; omega), State.nack]
  case badmrl =>
    rw [exec_setmrl, onState_of _ _ rfl, doSetmrl, State.sdr_of_portAnswers hport, if_neg (by rw [lenOk_iff]; omega), State.nack]

/-- Settles O10. -/
theorem portResetAndInterrupt : Obligations.PortResetAndInterrupt := by
  refine ⟨fun s us hus => ?reset, fun s hidle hlate => ?session, fun s c rest ⟨hup, haddr⟩ hon hcauses => ?interrupt⟩
  case reset => rw [exec_mgmtResetN, onState_of _ _ rfl, doMgmtResetN, if_neg (by omega)]
  case session => rw [exec_fwSessionTimeout, onState_of _ _ rfl, doFwSessionTimeout, if_pos ⟨by simp [hidle], hlate⟩]
  case interrupt =>
    rw [exec_inBandInterrupt, onState_of _ _ rfl]
    simp [doInBandInterrupt, hcauses, hup, hon, haddr]

end Sys2Proof.Machine
end

section
/-! SUPPORT. What a module holds apart from its log, its host port, its command engine and its interrupts: events, messages,
completions and causes leave it as it was. -/

namespace Sys2Proof.Machine

/-- The module without its log, its host port, its command engine, and the interrupt status of its blocks. -/
def Module.inner (m : Module) : Module :=
  { m with
    log := {}, port := {}, engine := {}, telStatus := 0, ibiCauses := [],
    mem := { m.mem with intStatus := 0 }, parts := { m.parts with intStatus := 0 }, thermal := { m.thermal with intStatus := 0 },
    power := { m.power with intStatus := 0 }, clocks := { m.clocks with intStatus := 0 }, fab := { m.fab with intStatus := 0 } }

@[simp] theorem Module.putStatus_inner (m : Module) (b : Blk) (v : Nat) : (m.putStatus b v).inner = m.inner := by cases b <;> rfl
@[simp] theorem Module.answer_inner (m : Module) (t : HostTx) : (m.answer t).inner = m.inner := rfl
@[simp] theorem Module.updFunc_inner (m : Module) (fn : Nat) (f : Func → Func) : (m.updFunc fn f).inner = m.inner := rfl
@[simp] theorem Module.updRing_inner (m : Module) (r : Ring) (f : RingRegs → RingRegs) : (m.updRing r f).inner = m.inner := by
  cases r <;> rfl
@[simp] theorem Module.updCmd_inner (m : Module) (id : Nat) (f : CmdSlot → CmdSlot) : (m.updCmd id f).inner = m.inner := rfl
@[simp] theorem Module.detect_inner (m : Module) (cls event part : Nat) (key : List Nat) (fs : List Field) :
    (m.detect cls event part key fs).inner = m.inner := rfl
@[simp] theorem Module.hostEvent_inner (m : Module) (event bar fn opcode status id addr detail : Nat) :
    (m.hostEvent event bar fn opcode status id addr detail).inner = m.inner := rfl
@[simp] theorem Module.powerEvent_inner (m : Module) (event feed cluster cause volts before after durUs : Nat) :
    (m.powerEvent event feed cluster cause volts before after durUs).inner = m.inner := rfl
@[simp] theorem Module.bringEvent_inner (m : Module) (event cause kind source unit detail : Nat) :
    (m.bringEvent event cause kind source unit detail).inner = m.inner := rfl

@[simp] theorem Module.emit_inner (m : Module) (fn : Nat) (t : HostTx) : (m.emit fn t).inner = m.inner := by
  unfold Module.emit; split <;> simp
@[simp] theorem Module.sendMsix_inner (m : Module) (fn v : Nat) : (m.sendMsix fn v).inner = m.inner := by
  unfold Module.sendMsix
  dsimp only
  split
  · rfl
  · split <;> simp
@[simp] theorem Module.setCause_inner (m : Module) (b : Blk) (i : Nat) : (m.setCause b i).inner = m.inner := by
  unfold Module.setCause; dsimp only; split <;> simp
@[simp] theorem Module.ibi_inner (m : Module) (c : Nat) : (m.ibi c).inner = m.inner := by
  unfold Module.ibi; split <;> rfl
@[simp] theorem Module.complete_inner (m : Module) (id st : Nat) (d : List Byte) : (m.complete id st d).inner = m.inner := by
  unfold Module.complete; split <;> rfl
@[simp] theorem Module.refuseCmd_inner (m : Module) (id st first : Nat) : (m.refuseCmd id st first).inner = m.inner := by
  unfold Module.refuseCmd; split <;> simp
@[simp] theorem Module.finishCmd_inner (m : Module) (id : Nat) (a : Answer) : (m.finishCmd id a).inner = m.inner := by
  cases a <;> simp [Module.finishCmd]

@[simp] theorem Module.entryCauses_inner (m : Module) (e : Entry) : (m.entryCauses e).inner = m.inner := by
  unfold Module.entryCauses
  extract_lets m1 m2 m3 m4
  have hfamily : m2.inner = m1.inner := by dsimp only [m2]; split <;> simp
  have hthreshold : m3.inner = m2.inner := by dsimp only [m3]; split <;> simp
  have hmessage : m4.inner = m3.inner := by dsimp only [m4]; split <;> simp
  calc (if 2 ≤ e.cls then m4.ibi 2 else m4).inner
      _ = m4.inner := by split <;> simp
      _ = m.inner := by rw [hmessage, hthreshold, hfamily]; exact m.setCause_inner .err e.cls
@[simp] theorem Module.writeEntry_inner (m : Module) (e : Entry) : (m.writeEntry e).inner = m.inner := by
  unfold Module.writeEntry
  extract_lets r s e1 kept m1 m2
  have hlost : m2.inner = m1.inner := by dsimp only [m2]; split <;> simp
  exact (m2.entryCauses_inner e1).trans hlost

/-- Operations in a row that each leave it leave it. -/
theorem foldl_inner {β : Type} (f : Module → β → Module) (hf : ∀ m x, (f m x).inner = m.inner) (l : List β) (m : Module) :
    (l.foldl f m).inner = m.inner := by
  induction l generalizing m with
  | nil => rfl
  | cons x l ih => exact (ih _).trans (hf m x)

@[simp] theorem Module.placeCpl_inner (m : Module) (c : Cpl) : (m.placeCpl c).inner = m.inner := by
  unfold Module.placeCpl
  extract_lets q fn m1 tail m2 m3
  have hmirror : m2.inner = m1.inner := by dsimp only [m2]; split <;> simp
  have hplaced : m3.inner = m.inner := by rw [Module.updRing_inner, hmirror, Module.emit_inner]
  split
  · exact m.updRing_inner ..
  · split
    · exact (m3.sendMsix_inner ..).trans hplaced
    · exact hplaced
@[simp] theorem Module.writeCpl_inner (m : Module) (r : Ring) : (m.writeCpl r).inner = m.inner := by
  unfold Module.writeCpl
  split
  · rfl
  · exact Module.placeCpl_inner ..
@[simp] theorem Module.flushRing_inner (m : Module) (r : Ring) : (m.flushRing r).inner = m.inner :=
  foldl_inner _ (fun m _ => m.writeCpl_inner r) _ m
@[simp] theorem Module.cancelCmds_inner (m : Module) (p : CmdSlot → Bool) : (m.cancelCmds p).inner = m.inner :=
  foldl_inner _ (fun m _ => by simp) _ m
@[simp] theorem Module.cancelForReset_inner (m : Module) (r : ResetRun) (self : Nat) : (m.cancelForReset r self).inner = m.inner :=
  m.cancelCmds_inner _
@[simp] theorem Module.cancelAll_inner (m : Module) (self : Nat) : (m.cancelAll self).inner = m.inner := by
  unfold Module.cancelAll
  extract_lets m0 m1
  have hresets : m0.inner = m.inner := foldl_inner _ (fun m _ => m.complete_inner ..) _ m
  have hcancelled : m1.inner = m0.inner := m0.cancelForReset_inner ..
  rw [foldl_inner _ (fun m fn => m.flushRing_inner (.letter fn)), hcancelled, hresets]

@[simp] theorem Module.watchLadder_inner (m : Module) (f : Module → Module) : (m.watchLadder f).inner = (f m).inner := by
  unfold Module.watchLadder; dsimp only; split <;> simp
@[simp] theorem Module.watchFeeds_inner (m : Module) (f : Module → Module) : (m.watchFeeds f).inner = (f m).inner := by
  unfold Module.watchFeeds; dsimp only; split <;> simp

theorem Module.mem_ibi (m : Module) (c : Nat) : c ∈ (m.ibi c).ibiCauses := by
  unfold Module.ibi
  split
  · assumption
  · simp

end Sys2Proof.Machine
end

section
/-! SUPPORT. The requests of the management port (R583 to R587), the test access port (R639, R640), the log's ring (R596, R606). -/

namespace Sys2Proof.Machine

open Sys2Proof.Safety

/-! ## How a request runs and ends -/

/-- How a request that runs ends (R581, R585). -/
def State.endReq (s : State) : Req → State
  | .ok t detail => t.finishReq stOk detail
  | .answer t st => t.finishReq st 0
  | .refuse st => s.refuseReq st

theorem State.request_of_requested {s : State} {op mask : Nat} (h : requested s.mgmt op mask) (f : State → Nat → Req) :
    s.request op mask f = s.endReq (f s s.mgmt.reqArg) := by
  obtain ⟨hup, hbusy, hop, hmask⟩ := h
  unfold State.request
  dsimp only
  rw [if_neg (by simp [hup, hbusy, hop]), if_neg (by simp [hmask])]
  cases f s s.mgmt.reqArg <;> rfl

/-- A request that left the port's registers alone ends with its tag, status and detail, and interrupts the controller. -/
theorem State.finishReq_requestEnds {s u : State} (h : u.mgmt = s.mgmt) (st detail : Nat) :
    requestEnds s (u.finishReq st detail) st detail := by
  refine ⟨?_, u.m.mem_ibi 1⟩
  simp only [State.finishReq, h]

theorem State.finishReq_m (s : State) (st detail : Nat) : (s.finishReq st detail).m = s.m.ibi 1 := rfl

theorem Module.relog_inner (m : Module) : m.relog.inner = { m.inner with bring := { m.bring with shutdownPending := false } } := by
  unfold Module.relog
  split
  case isTrue hpending =>
    have hkept := foldl_inner (fun (acc : Module) e => acc.writeEntry { e with flags := setBit e.flags 1 true })
      (fun m e => m.writeEntry_inner _) m.bring.shutdown m
    exact congrArg (fun x : Module => { x with bring := { x.bring with shutdownPending := false } }) hkept
  case isFalse hpending =>
    have hfalse : m.bring.shutdownPending = false := by simpa using hpending
    show m.inner = _
    rw [← hfalse]; rfl

/-- A cold start begins bring-up at S0 with memory and cores as at power-up (R446, R454). -/
theorem Module.coldStart_starts (m : Module) (quick asked : Bool) (cause : Nat) :
    (m.coldStart quick asked cause).bring.active = true ∧ (m.coldStart quick asked cause).bring.stage = 0 ∧
      (m.coldStart quick asked cause).mem.bytes = [] ∧ (m.coldStart quick asked cause).cores = [] := by
  unfold Module.coldStart
  extract_lets q m1 flashBring flashThermal m2 m3
  have hstart : ∀ x : Module, x.inner = m3.inner → x.bring.active = true ∧ x.bring.stage = 0 ∧ x.mem.bytes = [] ∧ x.cores = [] := by
    intro x hx
    have hx' := hx.trans m2.relog_inner
    exact ⟨(congrArg (fun y : Module => y.bring.active) hx' :), (congrArg (fun y : Module => y.bring.stage) hx' :),
      (congrArg (fun y : Module => y.mem.bytes) hx' :), (congrArg (fun y : Module => y.cores) hx' :)⟩
  split
  · exact hstart _ (m3.bringEvent_inner ..)
  · exact hstart _ rfl

/-- A module reset begins bring-up at S3 with memory and partitions cleared; time goes on (R447). -/
theorem Module.moduleReset_starts (m : Module) (quick : Bool) (cause : Nat) :
    (m.moduleReset quick cause).bring.active = true ∧ (m.moduleReset quick cause).bring.stage = 3 ∧
      (m.moduleReset quick cause).mem = {} ∧ (m.moduleReset quick cause).parts = {} ∧ (m.moduleReset quick cause).cores = [] ∧
      (m.moduleReset quick cause).time = m.time ∧ (m.moduleReset quick cause).power.limit = 4400 ∧
      (m.moduleReset quick cause).engine = {} := by
  unfold Module.moduleReset
  extract_lets q b dead log power bring m1
  have hreset : m1.bring.active = true ∧ m1.bring.stage = 3 ∧ m1.mem = {} ∧ m1.parts = {} ∧ m1.cores = [] ∧ m1.time = m.time ∧
      m1.power.limit = 4400 ∧ m1.engine = {} := ⟨rfl, rfl, rfl, rfl, rfl, rfl, rfl, rfl⟩
  split
  · simpa only [Module.bringEvent, Module.detect_bring, Module.detect_mem, Module.detect_parts, Module.detect_cores, Module.detect_time,
      Module.detect_power, Module.detect_engine] using hreset
  · exact hreset

theorem doSealedExit_of_not_sealed {m : Module} (h : m.power.moduleState ≠ 3) : doSealedExit m = m := by
  unfold doSealedExit
  rw [if_neg h]

/-- The module leaves Sealed: ladder state Open, the two rails back (R428). -/
theorem doSealedExit_opens {m : Module} (h : m.power.moduleState = 3) :
    (doSealedExit m).power.moduleState = 0 ∧ (doSealedExit m).power.vib = true ∧ (doSealedExit m).power.vlink = true := by
  unfold doSealedExit
  rw [if_pos h]
  extract_lets on m1 live
  have hopen : m1.inner = _ := m.watchLadder_inner _
  clear_value m1
  have hpower : m1.power.moduleState = 0 ∧ m1.power.vib = true ∧ m1.power.vlink = true :=
    ⟨(congrArg (fun x : Module => x.power.moduleState) hopen :), (congrArg (fun x : Module => x.power.vib) hopen :),
      (congrArg (fun x : Module => x.power.vlink) hopen :)⟩
  simpa only [Module.updCores_power, Module.zeroPads, Module.updSlices_power] using hpower

theorem Module.enterBoarded_boards (m : Module) : m.enterBoarded.power.moduleState = 4 ∧ m.enterBoarded.time = m.time := by
  have hboard : m.enterBoarded.inner = _ := m.watchLadder_inner _
  exact ⟨(congrArg (fun x : Module => x.power.moduleState) hboard :), (congrArg (fun x : Module => x.time) hboard :)⟩

/-- The module leaves Boarded for a bring-up from S0 (R429). -/
theorem Module.leaveBoarded_starts (m : Module) (quick : Bool) : (m.leaveBoarded quick).power.moduleState = 0 ∧
    (m.leaveBoarded quick).bring.active = true ∧ (m.leaveBoarded quick).bring.stage = 0 := by
  unfold Module.leaveBoarded
  extract_lets q m1
  have hstart : ∀ x : Module, x.inner = m1.inner → x.power.moduleState = 0 ∧ x.bring.active = true ∧ x.bring.stage = 0 := by
    intro x hx
    have hx' := hx.trans (m.watchLadder_inner _)
    exact ⟨(congrArg (fun y : Module => y.power.moduleState) hx' :), (congrArg (fun y : Module => y.bring.active) hx' :),
      (congrArg (fun y : Module => y.bring.stage) hx' :)⟩
  split
  · exact hstart _ (m1.bringEvent_inner ..)
  · exact hstart _ rfl

theorem Module.refreshAlert_stop (m : Module) : m.refreshAlert.thermal.stop = m.thermal.stop := by
  unfold Module.refreshAlert
  split
  · rfl
  · extract_lets thermal m1
    have halert : m1.inner = _ := Module.ibi_inner ..
    split
    · exact (congrArg (fun x : Module => x.thermal.stop) ((m1.setCause_inner .thm 6).trans halert) :)
    · exact (congrArg (fun x : Module => x.thermal.stop) halert :)
theorem Module.leaveAjar_stop (m : Module) (cs : List Nat) : (m.leaveAjar cs).thermal.stop = m.thermal.stop :=
  (congrArg (fun x : Module => x.thermal.stop) (m.watchLadder_inner _) :)
theorem Module.wake_stop (m : Module) (c : Nat) : (m.wake c).thermal.stop = m.thermal.stop := by
  unfold Module.wake
  split; · rfl
  split; · exact m.leaveAjar_stop [c]
  split <;> rfl

/-- Operations in a row that each leave a field leave it. -/
theorem foldl_field {β γ : Type} (g : Module → γ) (f : Module → β → Module) (hf : ∀ m x, g (f m x) = g m) (l : List β) (m : Module) :
    g (l.foldl f m) = g m := by
  induction l generalizing m with
  | nil => rfl
  | cons x l ih => exact (ih _).trans (hf m x)

/-- The stop is over (R391). -/
theorem Module.resume_stop (m : Module) : m.resume.thermal.stop = false := by
  unfold Module.resume
  extract_lets thermal m1 m2
  have hresumed : m1.thermal.stop = false := Module.refreshAlert_stop _
  split
  · exact hresumed
  · rw [foldl_field (fun x : Module => x.thermal.stop) _ (fun m c => m.wake_stop c)]
    exact (Module.leaveAjar_stop ..).trans hresumed

/-- The feed that PWR.FEED closes, or whose sense it no longer holds (R397). -/
theorem Module.commandFeed_close (m : Module) (f : Nat) : ∃ m' : Module, m.commandFeed f false = some m' ∧
    (m'.feed f).held = false ∧ (m'.feed f).opened = false := by
  refine ⟨_, rfl, ?_⟩
  by_cases hf : f = 0 <;> split <;> simp [Module.feed, Module.updFeed, hf, Module.powerEvent]

theorem Module.watchFeeds_power (m : Module) (f : Module → Module) : (m.watchFeeds f).power = (f m).power := by
  unfold Module.watchFeeds; dsimp only; split <;> simp

theorem Module.pwrFeed_congr {m n : Module} (h : n.power = m.power) : n.pwrFeed = m.pwrFeed := by
  unfold Module.pwrFeed; rw [h]

theorem exec_of_requested {i : Instr} {s : State} {op mask : Nat} {f : State → Nat → Req} {r : Req}
    (hexec : exec i s = .next (s.request op mask f)) (hreq : requested s.mgmt op mask) (hr : f s s.mgmt.reqArg = r) :
    exec i s = .next (s.endReq r) := by
  rw [hexec, State.request_of_requested hreq, hr]

/-- Settles O11: each request's effect runs, and `finishReq` ends it. -/
theorem powerRequests : Obligations.PowerRequests := by
  refine ⟨fun s hreq hopen => ?cold, fun s hreq hstage hpwr hsealed => ?reset, fun s hreq hsealed => ?wake, fun s hreq harg hlive => ?board,
    fun s hreq hboarded => ?unboard, fun s hreq hfree hclose => ?feed, fun s hreq hlo hhi hready hfree => ?limit,
    fun s hreq harg => ?role, fun s hreq hstop hok => ?resume, fun s hreq hstop => ?resumeIdle⟩
  case cold =>
    refine ⟨_, exec_of_requested rfl hreq (if_neg (by simp [hopen])), rfl, rfl, rfl, ?_⟩
    generalize Module.cancelAll _ _ = m
    obtain ⟨hactive, hstage, hmem, hcores⟩ := m.coldStart_starts (s.mgmt.reqArg == 1) true
      (if s.m.bring.lastTrip ∨ s.m.bring.lastRail then 5 else 2)
    simp only [State.endReq, State.finishReq_m, Module.ibi_bring, Module.ibi_mem, Module.ibi_cores]
    exact ⟨hactive, hstage, hmem, hcores, rfl, Module.mem_ibi _ 1⟩
  case reset =>
    have hkept := s.m.cancelAll_inner s.m.engine.nextId
    have hstate : (s.m.cancelAll s.m.engine.nextId).power.moduleState = s.m.power.moduleState :=
      (congrArg (fun x : Module => x.power.moduleState) hkept :)
    have htime : (s.m.cancelAll s.m.engine.nextId).time = s.m.time := (congrArg (fun x : Module => x.time) hkept :)
    refine ⟨_, exec_of_requested rfl hreq (if_neg (by simp [hpwr]; omega)), State.finishReq_requestEnds rfl _ _, ?_⟩
    obtain ⟨hactive, hstage, hmem, hparts, -, htime', hlimit, -⟩ := (s.m.cancelAll s.m.engine.nextId).moduleReset_starts (s.mgmt.reqArg == 1) 2
    simp only [State.endReq, State.finishReq_m, Module.ibi_bring, Module.ibi_mem, Module.ibi_parts, Module.ibi_time, Module.ibi_power,
      doSealedExit_of_not_sealed (hstate ▸ hsealed : (s.m.cancelAll s.m.engine.nextId).power.moduleState ≠ 3)]
    exact ⟨hactive, hstage, hmem, hparts, htime'.trans htime, hlimit⟩
  case wake =>
    refine ⟨_, exec_of_requested rfl hreq (if_pos hsealed), State.finishReq_requestEnds rfl _ _, ?_⟩
    simpa only [State.endReq, State.finishReq_m, Module.ibi_power] using doSealedExit_opens hsealed
  case board =>
    have hidle : (List.range 64).any (fun n => (s.m.part n).state == 2) = false := by
      simpa using hlive
    refine ⟨_, exec_of_requested rfl hreq (if_neg (by simp [hidle])), State.finishReq_requestEnds rfl _ _, ?_⟩
    have hforce : ¬ s.mgmt.reqArg = 1 := by omega
    simpa only [State.endReq, State.finishReq_m, Module.ibi_power, Module.ibi_time, if_neg hforce] using s.m.enterBoarded_boards
  case unboard =>
    refine ⟨_, exec_of_requested rfl hreq (if_pos hboarded), State.finishReq_requestEnds rfl _ _, ?_⟩
    simpa only [State.endReq, State.finishReq_m, Module.ibi_power, Module.ibi_bring] using s.m.leaveBoarded_starts (s.mgmt.reqArg == 1)
  case feed =>
    obtain ⟨m', hm', hheld, hopened⟩ := s.m.commandFeed_close (s.mgmt.reqArg % 2)
    have hends := State.finishReq_requestEnds (s := s) (u := { s with m := s.m.watchFeeds (fun _ => m') }) rfl stOk
      (s.m.watchFeeds (fun _ => m')).pwrFeed.toNat
    refine ⟨_, exec_of_requested rfl hreq (r := .ok { s with m := s.m.watchFeeds (fun _ => m') } _)
      (by rw [if_neg (by simp [hfree]), hclose, hm']), ?_, ?_⟩
    · simpa only [State.endReq, State.finishReq_m, Module.pwrFeed_congr (Module.ibi_power _ 1)] using hends
    · simp only [Module.feed, State.endReq, State.finishReq_m, Module.ibi_power, Module.watchFeeds_power]
      exact ⟨hheld, hopened⟩
  case limit =>
    refine ⟨_, exec_of_requested rfl hreq (by
      rw [if_neg (by omega), if_neg (by simp [hready]), if_neg (by simp [hfree])]), State.finishReq_requestEnds rfl _ _, ?_⟩
    exact Module.ibi_power _ 1
  case role =>
    refine ⟨_, exec_of_requested rfl hreq (if_neg (by omega)), State.finishReq_requestEnds rfl _ _, ?_⟩
    exact Module.ibi_fab _ 1
  case resume =>
    refine ⟨_, exec_of_requested rfl hreq (r := .ok { s with m := s.m.freeWord.2.resume } s.m.freeWord.1.toNat)
      (by rw [if_neg (by simp [hstop]), if_pos hok]), rfl, rfl, ?_, Module.mem_ibi _ 1⟩
    simpa only [State.endReq, State.finishReq_m, Module.ibi_thermal] using Module.resume_stop _
  case resumeIdle =>
    exact ⟨_, exec_of_requested rfl hreq (if_pos (by simp [hstop])), State.finishReq_requestEnds rfl _ _⟩

/-! ## The test access port -/

theorem Module.testOpen_iff (m : Module) : m.testOpen = true ↔ m.power.moduleState = 4 ∨ m.bring.stageFailed = true := by
  simp [Module.testOpen]

theorem leBytes_mod (n v : Nat) : leBytes n (v % 256 ^ n) = leBytes n v := by
  induction n generalizing v with
  | zero => rfl
  | succ n ih =>
    have hlow : v % 256 ^ (n + 1) % 256 = v % 256 := by rw [Nat.pow_succ, Nat.mod_mul_left_mod]
    have hhigh : v % 256 ^ (n + 1) / 256 = v / 256 % 256 ^ n := by rw [Nat.pow_succ, Nat.mod_mul_left_div_self]
    rw [leBytes, leBytes, hhigh, ih]
    congr 1
    exact BitVec.eq_of_toNat_eq (by simpa using hlow)

/-- Each ring of the trace begins with its deck index (R640). -/
theorem Module.peepByte_header (m : Module) {k : Nat} (hk : k ≤ 10) : m.peepByte (k * 65552) = BitVec.ofNat 8 k := by
  rw [Module.peepByte, peepRings, peepRing, if_neg (by omega), if_pos (by omega), Nat.mul_div_cancel _ (by decide)]

/-- Settles O13. -/
theorem testAccessPort : Obligations.TestAccessPort := by
  refine ⟨fun s => ⟨rfl, fun hinstr => ?idcode, fun pins hpins => ?sample, fun hopen => ?drives, fun hstate hstage => ?bypass⟩,
    fun s hinstr => ?challenge, fun s ch hch => ?unlocks, fun s serial ch ok hbad => ?refused, fun s off len hlocked hlen => ?zeros,
    fun s k len hopen hpos hlen hk => ?trace⟩
  case idcode => rw [exec_idcode, onState_of _ _ rfl, doIdcode, if_neg hinstr]; rfl
  case sample => rw [exec_sample, onState_of _ _ (by simpa using hpins)]; rfl
  case drives =>
    have htest := s.m.testOpen_iff.2 hopen
    rw [exec_extest, onState_of _ _ rfl, exec_clamp, onState_of _ _ rfl, doExtest, doClamp, if_pos htest, if_pos htest]
    exact ⟨rfl, rfl⟩
  case bypass =>
    have htest : ¬ s.m.testOpen = true := by rw [s.m.testOpen_iff]; simp [hstate, hstage]
    rw [exec_extest, onState_of _ _ rfl, exec_clamp, onState_of _ _ rfl, doExtest, doClamp, if_neg htest, if_neg htest]
    exact ⟨rfl, rfl⟩
  case challenge =>
    refine ⟨doIdcode s, onState_of doIdcode s rfl, ?_⟩
    rw [doIdcode, if_pos hinstr]
    exact ⟨rfl, Nat.succ_pos _, (leBytes_mod 4 _).symm, rfl⟩
  case unlocks =>
    rw [exec_peepUnlock, onState_of _ _ rfl, doPeepUnlock]
    simp [State.jtagSelect, hch]
  case refused =>
    have hbad' : ¬ (ok = true ∧ serial = Config.serial.toNat ∧ ch + 1 = s.jtag.challenge) := by
      rintro ⟨hok, hserial, hch⟩
      rcases hbad with h | h | h
      · simp [h] at hok
      · exact h hserial
      · exact h hch.symm
    rw [exec_peepUnlock, onState_of _ _ rfl, doPeepUnlock]
    dsimp only
    rw [if_neg hbad']
    rfl
  case zeros =>
    rw [exec_peepRead, onState_of _ _ (by simpa using hlen), doPeepRead]
    simp [hlocked, State.jtagSelect, b2n]
  case trace =>
    refine ⟨doPeepRead (k * 65552) len s, onState_of _ s (by simpa using hlen), ?_⟩
    have hdeck := s.m.peepByte_header hk
    obtain ⟨n, rfl⟩ : ∃ n, len = n + 1 := ⟨len - 1, by omega⟩
    simp [doPeepRead, State.jtagSelect, hopen, b2n, List.range_succ_eq_map, hdeck]

/-! ## The log's ring -/

theorem nextSeqNo_of_lt {n : Nat} (h : n < 0xFFFFFFFF) : nextSeqNo n = n + 1 := by rw [nextSeqNo, if_neg (by omega)]
theorem nextSeqNo_range {n : Nat} (h : n < 2 ^ 32) : nextSeqNo n ≠ 0 ∧ nextSeqNo n < 2 ^ 32 := by unfold nextSeqNo; split <;> omega
theorem seqGe_iff (a b : Nat) : seqGe a b = true ↔ (a + 2 ^ 32 - b % 2 ^ 32) % 2 ^ 32 < 2 ^ 31 := by simp [seqGe]

theorem Log.dropOldest_full {l : Log} {o : Entry} {rest : List Entry} (he : l.entries = o :: rest) (hfull : l.entries.length = logCapacity) :
    l.dropOldest = ({ l with entries := rest, lost := if l.isUnread o then sat64 l.lost 1 else l.lost }, l.isUnread o) := by
  have hroom : ¬ (o :: rest).length < logCapacity := by rw [← he, hfull]; exact Nat.lt_irrefl _
  simp only [Log.dropOldest, he, if_neg hroom]
  split <;> rename_i hunread <;> simp [hunread]

/-- Settles O15: of the log, an entry that is written changes the cause bits and `Log.written`. -/
theorem logRing : Obligations.LogRing := by
  refine ⟨fun m e o rest he hfull => ?full, fun n hn => nextSeqNo_range hn, fun n hn => nextSeqNo_of_lt hn, fun a d ha hd => ?newer,
    fun a d ha hd hd' => ?older⟩
  case full =>
    have hwritten := m.writeEntry_log_withoutCauses e
    have hentries : (m.writeEntry e).log.entries = (m.log.written e).entries := (congrArg Log.entries hwritten :)
    rw [hentries, m.writeEntry_lost, Log.written, Log.dropOldest_full he hfull]
    exact ⟨rfl, rfl⟩
  case newer => rw [seqGe_iff]; omega
  case older => rw [← Bool.not_eq_true, seqGe_iff]; omega

end Sys2Proof.Machine
end

section
/-! SUPPORT. The frame of a letterbox command (R507, R511, R513): a command with nothing else in progress. -/

namespace Sys2Proof.Machine

open Sys2Proof.Safety

@[simp] theorem packRec_length (n : Nat) (fs : List Field) : (packRec n fs).length = n := by simp [packRec]

/-- The slot that a command without an entry of its own gets. -/
def Module.newSlot (m : Module) (op : Nat) (c : Cmd) (i : Instr) : CmdSlot :=
  { id := m.engine.nextId, fn := c.fn, opcode := op, tag := c.tag, flags := c.flags, partition := c.partition, phase := .taken,
    instr := some i, claims := [], cplFlags := 0, reserved := false, effect := false, info := [] }

/-- The module whose one command in progress is `q`. -/
def Module.onlyCmd (m : Module) (q : CmdSlot) : Module :=
  { m with engine := { m.engine with nextId := m.engine.nextId + 1, cmds := [q] } }

theorem Module.openSlot_of_idle {m : Module} (h : m.engine.cmds = []) (op : Nat) (c : Cmd) (i : Instr) :
    m.openSlot op c i = (m.onlyCmd (m.newSlot op c i), m.engine.nextId, false) := by
  simp [Module.openSlot, h, Module.onlyCmd, Module.newSlot]

theorem Module.onlyCmd_startOpen (m : Module) (q : CmdSlot) (fn : Nat) : (m.onlyCmd q).startOpen fn q.id = true := by
  simp [Module.startOpen, Module.earlier, Module.onlyCmd]
theorem Module.onlyCmd_fenceOpen (m : Module) (q : CmdSlot) (fn flags : Nat) : (m.onlyCmd q).fenceOpen fn q.id flags = true := by
  simp [Module.fenceOpen, Module.earlier, Module.onlyCmd]
theorem Module.onlyCmd_updCmd (m : Module) (q : CmdSlot) (f : CmdSlot → CmdSlot) : (m.onlyCmd q).updCmd q.id f = m.onlyCmd (f q) := by
  simp [Module.updCmd, Module.onlyCmd, modFirst]
/-- A command that does not act holds no claims. -/
theorem Module.onlyCmd_claimsFree {m : Module} (h : m.engine.cmds = []) {q : CmdSlot} (hq : q.phase = .taken) (claims : List Claim) :
    (m.onlyCmd q).claimsFree claims = m.claimsFree claims := by
  have hheld : (m.onlyCmd q).heldClaims = m.heldClaims := by
    simp only [Module.heldClaims, Module.onlyCmd, h, List.filter_cons, hq, List.filter_nil]; rfl
  rw [Module.claimsFree, hheld, Module.claimsFree]

/-- A refused command is logged with event 0xA2 and answered with its status. -/
theorem Module.onlyCmd_refuse (m : Module) (q : CmdSlot) (st first : Nat) : (m.onlyCmd q).refuseCmd q.id st first =
    { (m.hostEvent 0xA2 0xFF q.fn q.opcode st q.tag 0 first) with
      engine := { m.engine with nextId := m.engine.nextId + 1, cmds := [] },
      port := { m.port with cpls := m.port.cpls ++ [⟨.letter q.fn,
        packRec 8 [⟨0, 2, q.tag⟩, ⟨2, 2, st⟩, ⟨4, 1, q.opcode⟩, ⟨5, 1, q.cplFlags⟩, ⟨6, 2, q.partition⟩] ++ (d4 first ++ packRec 24 []).take 24,
        if bitOf q.flags 2 then some 0 else none, q.reserved⟩] } } := by
  simp [Module.refuseCmd, Module.complete, Module.cmd, Module.onlyCmd, Module.hostEvent, Module.detect]

/-- The status of a completion (R504). -/
theorem getLe_completion_status (tag st op flags part : Nat) (bs : List Byte) :
    getLe (packRec 8 [⟨0, 2, tag⟩, ⟨2, 2, st⟩, ⟨4, 1, op⟩, ⟨5, 1, flags⟩, ⟨6, 2, part⟩] ++ bs) 2 2 = st % 65536 := by
  have hlow : (byteAt st 0).toNat = st % 256 := by simp [byteAt]
  have hhigh : (byteAt st 1).toNat = st / 256 % 256 := by simp [byteAt]
  simp [getLe, packRec, List.range_succ_eq_map, fieldByte, leNat, hlow, hhigh]
  omega

@[simp] theorem bitOf_setBit_true (v i : Nat) : bitOf (setBit v i true) i = true := by
  unfold setBit
  split
  case isTrue hset => exact hset
  case isFalse hclear =>
    have hbit : v / 2 ^ i % 2 ≠ 1 := by simpa [bitOf] using hclear
    have hadd : (v + 2 ^ i) / 2 ^ i = v / 2 ^ i + 1 := Nat.add_div_right _ (Nat.two_pow_pos i)
    simp only [if_true, bitOf, hadd, beq_iff_eq]
    omega

/-- The slot of a command that passed its checks: an honoured expert flag shows in its completion (R504). -/
def CmdSlot.checked (q : CmdSlot) (c : Cmd) : CmdSlot :=
  { q with cplFlags := if isExpert c then setBit q.cplFlags 0 true else q.cplFlags }

section
variable {m : Module} {sp : CmdSpec} {bad need : Option Nat} {c : Cmd}

theorem runCmd_of_check_fails (hidle : m.engine.cmds = []) {st first : Nat} (hcheck : sp.check c m bad need = some (st, first))
    (claims : List Claim) (fence : Option Nat) (i : Instr) (body : Nat → Module → Module × Answer) :
    runCmd sp bad need claims fence i c body m = (m.onlyCmd (m.newSlot sp.op c i)).refuseCmd (m.newSlot sp.op c i).id st first := by
  have hid : m.engine.nextId = (m.newSlot sp.op c i).id := rfl
  unfold runCmd
  simp only [Module.openSlot_of_idle hidle, hcheck, Bool.false_eq_true, if_false]
  rw [hid, Module.onlyCmd_startOpen, if_neg (by simp)]

theorem runCmd_of_claims_held (hidle : m.engine.cmds = []) (hcheck : sp.check c m bad need = none) {claims : List Claim}
    (hheld : m.claimsFree claims = false) {fence : Option Nat} (hfence : ∀ n, fence = some n → m.atWorkFence n = true ∨ isQueued c = true)
    (i : Instr) (body : Nat → Module → Module × Answer) :
    runCmd sp bad need claims fence i c body m = m.onlyCmd { (m.newSlot sp.op c i).checked c with
      phase := .waiting, claims := claims, cplFlags := setBit ((m.newSlot sp.op c i).checked c).cplFlags 2 true } := by
  have hid : m.engine.nextId = (m.newSlot sp.op c i).id := rfl
  have hchecked : (m.newSlot sp.op c i).id = ((m.newSlot sp.op c i).checked c).id := rfl
  have hopen : ¬ (((m.onlyCmd ((m.newSlot sp.op c i).checked c)).fenceMissing fence).isSome && !isQueued c) = true := by
    cases hf : fence with
    | none => simp [Module.fenceMissing]
    | some n =>
      rcases hfence n hf with hreached | hqueued
      · have : (m.onlyCmd ((m.newSlot sp.op c i).checked c)).atWorkFence n = true := hreached
        simp [Module.fenceMissing, this]
      · simp [hqueued]
  have hwaits : (!(m.onlyCmd ((m.newSlot sp.op c i).checked c)).mayClaim ((m.newSlot sp.op c i).checked c).id claims) = true := by
    rw [Module.mayClaim, Module.onlyCmd_claimsFree hidle rfl, hheld]; rfl
  unfold runCmd
  simp only [Module.openSlot_of_idle hidle, Bool.false_eq_true, if_false]
  rw [hid]
  generalize m.newSlot sp.op c i = q at hopen hwaits hchecked ⊢
  rw [Module.onlyCmd_startOpen, if_neg (by simp), hcheck]
  dsimp only
  rw [Module.onlyCmd_updCmd, show { q with cplFlags := if isExpert c then setBit q.cplFlags 0 true else q.cplFlags } = q.checked c from rfl,
    hchecked, Module.onlyCmd_fenceOpen, if_neg (by simp), if_neg hopen, if_pos hwaits, Module.onlyCmd_updCmd]

end

/-- Settles O16: a failed check refuses the command, and claims that are held make it wait with them listed. -/
theorem commandFrame : Obligations.CommandFrame := by
  refine ⟨fun sp bad need claims fence i c body m st d hidle hcheck => ?refused,
    fun sp bad need claims fence i c body m hidle hcheck hfence hheld => ?waits⟩
  case refused =>
    dsimp only
    rw [runCmd_of_check_fails hidle hcheck, Module.onlyCmd_refuse]
    refine ⟨rfl, by simp [Module.hostEvent, Module.detect], rfl, rfl, rfl, rfl, rfl, rfl, rfl, _, rfl, rfl, getLe_completion_status .., ?_⟩
    exact List.drop_left' (packRec_length 8 _)
  case waits =>
    dsimp only
    rw [runCmd_of_claims_held hidle hcheck hheld hfence]
    exact ⟨rfl, rfl, rfl, rfl, _, rfl, rfl, rfl, rfl, bitOf_setBit_true _ 2⟩

end Sys2Proof.Machine
end

section
/-! SUPPORT. An accepted letterbox command whose body ends it, or leaves it running; the engine and the completions that events and
log entries leave as they are; the DEV, TEL and ERR commands (R328, R446 to R449, R510, R512, R517, R528, R529, R606). -/

namespace Sys2Proof.Machine

open Sys2Proof.Safety

/-- The module in which `q` is the one command in progress. -/
def Module.during (m : Module) (k : Nat) (q : CmdSlot) : Module := { m with engine := { m.engine with nextId := k, cmds := [q] } }

/-- The command engine and the completions that wait for their rings. -/
def Module.cmdSide (m : Module) : Engine × List Cpl := (m.engine, m.port.cpls)

section
variable (m : Module)

@[simp] theorem Module.putStatus_cmdSide (b : Blk) (v : Nat) : (m.putStatus b v).cmdSide = m.cmdSide := by cases b <;> rfl
@[simp] theorem Module.answer_cmdSide (t : HostTx) : (m.answer t).cmdSide = m.cmdSide := rfl
@[simp] theorem Module.updFunc_cmdSide (fn : Nat) (f : Func → Func) : (m.updFunc fn f).cmdSide = m.cmdSide := rfl
@[simp] theorem Module.emit_cmdSide (fn : Nat) (t : HostTx) : (m.emit fn t).cmdSide = m.cmdSide := by
  unfold Module.emit; split <;> rfl
@[simp] theorem Module.sendMsix_cmdSide (fn v : Nat) : (m.sendMsix fn v).cmdSide = m.cmdSide := by
  unfold Module.sendMsix
  dsimp only
  split
  · rfl
  · split <;> simp
@[simp] theorem Module.setCause_cmdSide (b : Blk) (i : Nat) : (m.setCause b i).cmdSide = m.cmdSide := by
  unfold Module.setCause; dsimp only; split <;> simp
@[simp] theorem Module.ibi_cmdSide (c : Nat) : (m.ibi c).cmdSide = m.cmdSide := by unfold Module.ibi; split <;> rfl
@[simp] theorem Module.detect_cmdSide (cls event part : Nat) (key : List Nat) (fs : List Field) :
    (m.detect cls event part key fs).cmdSide = m.cmdSide := rfl
@[simp] theorem Module.memEvent_cmdSide (event site off bits cls flags : Nat) :
    (m.memEvent event site off bits cls flags).cmdSide = m.cmdSide := rfl
@[simp] theorem Module.padEvent_cmdSide (event cls site off mask requester thread flags source : Nat) :
    (m.padEvent event cls site off mask requester thread flags source).cmdSide = m.cmdSide := rfl
@[simp] theorem Module.netEvent_cmdSide (event deck cluster port bridge group lane vc tree live count tag addr src dest : Nat) :
    (m.netEvent event deck cluster port bridge group lane vc tree live count tag addr src dest).cmdSide = m.cmdSide := rfl
@[simp] theorem Module.prtEvent_cmdSide (event part cause fn site va pa ctx count : Nat) :
    (m.prtEvent event part cause fn site va pa ctx count).cmdSide = m.cmdSide := rfl
@[simp] theorem Module.sensorEvent_cmdSide (event s durMs : Nat) : (m.sensorEvent event s durMs).cmdSide = m.cmdSide := by
  unfold Module.sensorEvent Module.thermEvent
  dsimp only
  split
  · rfl
  · split <;> rfl
@[simp] theorem Module.powerEvent_cmdSide (event feed cluster cause volts before after durUs : Nat) :
    (m.powerEvent event feed cluster cause volts before after durUs).cmdSide = m.cmdSide := rfl
@[simp] theorem Module.clockEvent_cmdSide (event kind deck unit attempts scope durUs : Nat) :
    (m.clockEvent event kind deck unit attempts scope durUs).cmdSide = m.cmdSide := rfl
@[simp] theorem Module.bringEvent_cmdSide (event cause kind source unit detail : Nat) :
    (m.bringEvent event cause kind source unit detail).cmdSide = m.cmdSide := rfl
@[simp] theorem Module.fabEvent_cmdSide (event part port peer reason typ tag epoch addr count durMs : Nat) :
    (m.fabEvent event part port peer reason typ tag epoch addr count durMs).cmdSide = m.cmdSide := rfl
@[simp] theorem Module.hostEvent_cmdSide (event bar fn opcode status id addr detail : Nat) :
    (m.hostEvent event bar fn opcode status id addr detail).cmdSide = m.cmdSide := rfl

@[simp] theorem Module.entryCauses_cmdSide (e : Entry) : (m.entryCauses e).cmdSide = m.cmdSide := by
  unfold Module.entryCauses
  extract_lets m1 m2 m3 m4
  have hfamily : m2.cmdSide = m1.cmdSide := by dsimp only [m2]; split <;> simp
  have hthreshold : m3.cmdSide = m2.cmdSide := by dsimp only [m3]; split <;> simp
  have hmessage : m4.cmdSide = m3.cmdSide := by dsimp only [m4]; split <;> simp
  calc (if 2 ≤ e.cls then m4.ibi 2 else m4).cmdSide
      _ = m4.cmdSide := by split <;> simp
      _ = m.cmdSide := by rw [hmessage, hthreshold, hfamily]; exact m.setCause_cmdSide .err e.cls
theorem Log.dropOldest_pend (l : Log) : l.dropOldest.1.pend = l.pend := by
  unfold Log.dropOldest
  split
  · rfl
  · split
    · rfl
    · split <;> rfl
theorem Log.foldInto_pend (l : Log) (e : Entry) : (l.foldInto e).pend = l.pend := by
  unfold Log.foldInto; split <;> rfl

@[simp] theorem Module.writeEntry_cmdSide (e : Entry) : (m.writeEntry e).cmdSide = m.cmdSide := by
  unfold Module.writeEntry
  extract_lets r s e1 kept m1 m2
  have hoverrun : m2.cmdSide = m1.cmdSide := by dsimp only [m2]; split <;> simp
  exact (m2.entryCauses_cmdSide e1).trans hoverrun
@[simp] theorem Module.logOne_cmdSide (e : Entry) : (m.logOne e).cmdSide = m.cmdSide := by
  unfold Module.logOne
  extract_lets recent l m1
  split
  · rfl
  · exact m1.writeEntry_cmdSide e
@[simp] theorem Module.logAll_cmdSide : m.logAll.cmdSide = m.cmdSide :=
  foldl_field Module.cmdSide Module.logOne Module.logOne_cmdSide m.log.pend { m with log := { m.log with pend := [] } }

theorem Module.writeEntry_pend (e : Entry) : (m.writeEntry e).log.pend = m.log.pend := by
  have hkept : (m.writeEntry e).log.pend = (m.log.written e).pend := (congrArg Log.pend (m.writeEntry_log_withoutCauses e) :)
  rw [hkept, Log.written]
  exact m.log.dropOldest_pend
theorem Module.logOne_pend (e : Entry) : (m.logOne e).log.pend = m.log.pend := by
  unfold Module.logOne
  extract_lets recent l m1
  have hrecent : l.pend = m.log.pend := by dsimp only [l]; split <;> rfl
  split
  · exact (l.foldInto_pend e).trans hrecent
  · exact (m1.writeEntry_pend e).trans hrecent
/-- Nothing waits for the log's writer once all is written (R599). -/
theorem Module.logAll_pend : m.logAll.log.pend = [] :=
  foldl_field (fun x => x.log.pend) Module.logOne Module.logOne_pend m.log.pend { m with log := { m.log with pend := [] } }

theorem Module.injected_cmdSide (e u : Nat) : (m.injected e u).cmdSide = m.cmdSide := by
  unfold Module.injected
  simp only [apply_ite Module.cmdSide, Module.memEvent_cmdSide, Module.padEvent_cmdSide, Module.netEvent_cmdSide, Module.prtEvent_cmdSide,
    Module.sensorEvent_cmdSide, Module.powerEvent_cmdSide, Module.clockEvent_cmdSide, Module.bringEvent_cmdSide, Module.fabEvent_cmdSide,
    Module.detect_cmdSide, Module.hostEvent_cmdSide, ite_self]

@[simp] theorem Module.complete_port_out (id st : Nat) (d : List Byte) : (m.complete id st d).port.out = m.port.out := by
  unfold Module.complete; split <;> rfl
@[simp] theorem Module.complete_rights (id st : Nat) (d : List Byte) : (m.complete id st d).engine.rights = m.engine.rights := by
  unfold Module.complete; split <;> rfl

end

section
variable {sp : CmdSpec} {bad need : Option Nat} {claims : List Claim} {fence : Option Nat} {c : Cmd} {s : State} {m : Module}

/-- A command that is accepted is well formed. -/
theorem onCmd_of_accepted (hacc : accepted sp bad need claims fence c s.m) (f : Module → Module) :
    onCmd c f s = .next { s with m := f s.m } := if_pos hacc.1

/-- The body of an accepted command runs on a module where its slot is the only one. -/
theorem runCmd_runs (i : Instr) (body : Nat → Module → Module × Answer) (hacc : accepted sp bad need claims fence c m) :
    ∃ (k : Nat) (q : CmdSlot), actingSlot sp.op q.id claims (some i) c q ∧
      runCmd sp bad need claims fence i c body m = (body q.id (m.during k q)).1.finishCmd q.id (body q.id (m.during k q)).2 := by
  obtain ⟨id, k, q, hq, hrun⟩ := runCmd_accepted (i := i) body hacc
  obtain rfl : q.id = id := hq.1
  exact ⟨k, q, hq, hrun⟩

/-- A command whose body ends it and keeps the engine and the completions that wait is answered. -/
theorem runCmd_done (i : Instr) {body : Nat → Module → Module × Answer} {effect : Module → Module} {st : Nat} {detail : List Byte}
    (hacc : accepted sp bad need claims fence c m)
    (hbody : ∀ k q, body q.id (m.during k q) = (effect (m.during k q), .done st detail))
    (hside : ∀ k q, (effect (m.during k q)).cmdSide.1.cmds = [q] ∧ m.port.cpls <+: (effect (m.during k q)).cmdSide.2) :
    answered sp.op st detail c m (runCmd sp bad need claims fence i c body m) ∧
      ∃ (k : Nat) (q : CmdSlot),
        runCmd sp bad need claims fence i c body m = (effect (m.during k q)).complete q.id st detail := by
  obtain ⟨k, q, hq, hrun⟩ := runCmd_runs i body hacc
  rw [hbody] at hrun
  rw [hrun]
  exact ⟨complete_answered detail hq (hside k q).1 (hside k q).2, k, q, rfl⟩

/-- A command whose body ends it and does no more is answered. -/
theorem runCmd_done_id (i : Instr) {body : Nat → Module → Module × Answer} {st : Nat} {detail : List Byte}
    (hacc : accepted sp bad need claims fence c m) (hbody : ∀ k q, body q.id (m.during k q) = (m.during k q, .done st detail)) :
    answered sp.op st detail c m (runCmd sp bad need claims fence i c body m) :=
  (runCmd_done (effect := id) i hacc hbody (fun _ _ => ⟨rfl, List.prefix_refl _⟩)).1

/-- The body of an accepted command acts on the module with its slot alone. -/
theorem runCmd_acting (i : Instr) (body : Nat → Module → Module × Answer) (hacc : accepted sp bad need claims fence c m) :
    ∃ (k : Nat) (q : CmdSlot), acting sp.op q.id claims i c m (m.during k q) ∧
      runCmd sp bad need claims fence i c body m = (body q.id (m.during k q)).1.finishCmd q.id (body q.id (m.during k q)).2 := by
  obtain ⟨k, q, ⟨-, hfn, hop, htag, -, -, hphase, hclaims, -, hinstr⟩, hrun⟩ := runCmd_runs i body hacc
  exact ⟨k, q, ⟨k, q, rfl, hfn, hop, htag, hphase, hclaims, hinstr, rfl⟩, hrun⟩

/-- A record for a function that may request leaves as one write. -/
theorem Module.toHost_out (h : mayRequest c.fn m) (bytes : List Byte) :
    (m.toHost c bytes).port.out = m.port.out ++ [.memWrite c.fn (pField c 8 8) bytes false] := by
  obtain ⟨hmaster, hpower⟩ := h
  simp [Module.toHost, Module.emit, hmaster, hpower, Module.answer]

/-- A command that writes one record to its host buffer. -/
theorem runCmd_writes (i : Instr) {body : Nat → Module → Module × Answer} {record detail : List Byte} {st : Nat}
    (hacc : accepted sp bad need claims fence c m) (hreq : mayRequest c.fn m)
    (hbody : ∀ k q, body q.id (m.during k q) = ((m.during k q).toHost c record, .done st detail)) :
    answered sp.op st detail c m (runCmd sp bad need claims fence i c body m) ∧
      writesBuffer c record m (runCmd sp bad need claims fence i c body m) ∧
      (runCmd sp bad need claims fence i c body m).log = m.log := by
  have hside : ∀ k q, ((m.during k q).toHost c record).cmdSide = (m.during k q).cmdSide :=
    fun k q => Module.emit_cmdSide _ c.fn _
  obtain ⟨hans, k, q, hrun⟩ := runCmd_done (effect := fun x => x.toHost c record) i hacc hbody
    (fun k q => by rw [hside]; exact ⟨rfl, List.prefix_refl _⟩)
  refine ⟨hans, ?_, ?_⟩
  · rw [hrun, writesBuffer, Module.complete_port_out]; exact Module.toHost_out (m := m.during k q) hreq record
  · rw [hrun, Module.complete_log, Module.toHost, Module.emit_log]; rfl

end

/-- The network status record takes 128 bytes (R328). -/
theorem Module.netRecord_length (m : Module) : m.netRecord.length = 128 := by
  simp [Module.netRecord, leBytes_length, Config.bridges, Config.decks, List.range_succ]

theorem Module.becomeReady_cmdSide (m : Module) : m.becomeReady.cmdSide = m.cmdSide := by
  unfold Module.becomeReady Module.setReady
  extract_lets m1
  split
  · rfl
  · exact Module.ibi_cmdSide _ 5
theorem Module.becomeReady_ready (m : Module) : m.becomeReady.bring.ready = true := by
  unfold Module.becomeReady Module.setReady
  extract_lets m1
  split
  case isTrue hready => exact hready
  case isFalse => exact (congrArg Bring.ready (Module.ibi_bring _ 5) :)

/-- Settles O17: each body ends its command, and the records leave as writes to the host buffer. -/
theorem devCommands : Obligations.DevCommands := by
  refine ⟨fun s c hacc => ?nop, fun s c hacc hreq => ?identify, fun s c hacc => ?expert, fun s c hacc hreq => ?netQuery,
    fun s c hacc hreq => ?snapshot, fun s c hacc hshort hready hcores hslices => ?shortfall⟩
  case nop => exact ⟨_, onCmd_of_accepted hacc (doDevNop c), runCmd_done_id (.devNop c) hacc fun k q => rfl⟩
  case identify =>
    obtain ⟨hans, hbuf, -⟩ := runCmd_writes (.devIdentify c) (body := bodyDevIdentify c) (record := s.m.identRecord)
      (detail := d4 128) (st := stOk) hacc hreq fun k q => rfl
    exact ⟨_, onCmd_of_accepted hacc (doDevIdentify c), hans, hbuf⟩
  case expert =>
    obtain ⟨hans, k, q, hrun⟩ := runCmd_done (.devExpert c) (body := bodyDevExpert c) (st := stOk) (detail := d8 s.m.engine.rights)
      (effect := fun x => x.setRights (if pField c 16 1 = 0 then s.m.engine.rights ||| pField c 8 8
        else w1c s.m.engine.rights (pField c 8 8)))
      hacc (fun k q => rfl)
      (fun k q => ⟨rfl, List.prefix_refl _⟩)
    refine ⟨_, onCmd_of_accepted hacc (doDevExpert c), hans, ?_⟩
    exact (congrArg (fun x : Module => x.engine.rights) hrun).trans (Module.complete_rights _ _ _ _)
  case netQuery =>
    obtain ⟨hans, hbuf, -⟩ := runCmd_writes (.devNetQuery c) (body := bodyDevNetQuery c) (record := s.m.netRecord)
      (detail := []) (st := stOk) hacc hreq fun k q => rfl
    exact ⟨_, onCmd_of_accepted hacc (doDevNetQuery c), hans, hbuf, s.m.netRecord_length⟩
  case snapshot =>
    obtain ⟨hans, hbuf, -⟩ := runCmd_writes (.telSnapshot c) (body := bodyTelSnapshot c) (record := s.m.snapshot)
      (detail := d4 64) (st := stOk) hacc hreq fun k q => rfl
    exact ⟨_, onCmd_of_accepted hacc (doTelSnapshot c), hans, hbuf⟩
  case shortfall =>
    have hbody : ∀ k q, bodyAckShortfall c q.id (s.m.during k q) =
        (((s.m.during k q).updReport 8 (fun r => { r with result := 2 })).becomeReady, .done stOk (d4 0)) := by
      intro k q
      unfold bodyAckShortfall
      exact (if_neg (by simp [Module.during, hshort, hready])).trans ((if_neg (not_not_intro hcores)).trans (if_neg (not_not_intro hslices)))
    obtain ⟨hans, k, q, hrun⟩ := runCmd_done (.devAckShortfall c)
      (effect := fun x => (x.updReport 8 (fun r => { r with result := 2 })).becomeReady) hacc hbody
      (fun k q => by rw [Module.becomeReady_cmdSide]; exact ⟨rfl, List.prefix_refl _⟩)
    refine ⟨_, onCmd_of_accepted hacc (doDevAckShortfall c), hans, ?_⟩
    have hkept := congrArg (fun x : Module => x.bring.ready) hrun
    exact hkept.trans ((congrArg Bring.ready (Module.complete_bring _ _ _ _)).trans (Module.becomeReady_ready _))

/-- Settles O18: the module scope completes first and then clears the module; a narrower one cancels and begins. -/
theorem devReset : Obligations.DevReset := by
  refine ⟨fun s c hacc hscope hstop => ?module, fun s c hacc hscope hfenced hstop => ?narrower⟩
  case module =>
    obtain ⟨k, q, -, hrun⟩ := runCmd_runs (.devReset c) (bodyDevReset c) hacc
    have hbody : bodyDevReset c q.id (s.m.during k q) =
        ((((s.m.during k q).complete q.id stOk []).cancelAll q.id).moduleReset (pField c 9 1 == 1) 1, .later) := by
      unfold bodyDevReset
      exact (if_neg (by simp [hscope, Module.resetFenced])).trans ((if_neg (by simp [Module.during, hstop])).trans (if_pos hscope))
    rw [hbody] at hrun
    have hrun' : doDevReset c s.m =
      (((s.m.during k q).complete q.id stOk []).cancelAll q.id).moduleReset (pField c 9 1 == 1) 1 := hrun
    refine ⟨_, onCmd_of_accepted hacc (doDevReset c), ?_⟩
    simp only [hrun']
    obtain ⟨hactive, hstage, hmem, hparts, hcores, htime, -, hengine⟩ :=
      (((s.m.during k q).complete q.id stOk []).cancelAll q.id).moduleReset_starts (pField c 9 1 == 1) 1
    have hkept : (((s.m.during k q).complete q.id stOk []).cancelAll q.id).inner = (s.m.during k q).inner := by
      rw [Module.cancelAll_inner, Module.complete_inner]
    exact ⟨hstage, hactive, hmem, hparts, hcores, htime.trans (congrArg (fun x : Module => x.time) hkept :), by rw [hengine]⟩
  case narrower =>
    obtain ⟨k, q, hact, hrun⟩ := runCmd_acting (.devReset c) (bodyDevReset c) hacc
    refine ⟨_, _, _, onCmd_of_accepted hacc (doDevReset c), hact, hrun.trans ?_⟩
    have hcold : ¬ ((s.m.during k q).thermal.stop ∧ 5 ≤ pField c 8 1) := fun ⟨hcooling, hwide⟩ =>
      Bool.false_ne_true ((hstop (by omega)).symm.trans hcooling)
    have hbody : bodyDevReset c q.id (s.m.during k q) =
        ((((s.m.during k q).cancelForReset ⟨scopeCode (pField c 8 1), pField c 10 2, 1, some q.id⟩ q.id).startReset
          ⟨scopeCode (pField c 8 1), pField c 10 2, 1, some q.id⟩).updCmd q.id (fun q => { q with effect := true }), .later) :=
      (if_neg (Bool.eq_false_iff.mp hfenced)).trans ((if_neg hcold).trans (if_neg (by omega)))
    rw [hbody]
    rfl

/-- Settles O19: a read writes what the ring holds from the number on; an acknowledgement moves the mark; an injection writes the log. -/
theorem errCommands : Obligations.ErrCommands := by
  refine ⟨fun s c e es hacc hreq hread => ?read, fun s c hacc hread => ?nothing, fun s c hacc hmoves => ?ack, fun s c hacc => ?inject⟩
  case read =>
    have hbody : ∀ k q, bodyErrRead c q.id (s.m.during k q) = ((s.m.during k q).toHost c ((es ++ [e]).flatMap Entry.bytes),
        .done stOk (d4 (es.length + 1) ++ d4 (nextSeqNo e.seq) ++ d4 s.m.log.oldest)) := by
      intro k q
      have hread' : ((s.m.during k q).log.from_ c.fn (pField c 20 4)).take (pField c 16 4 / 64) = es ++ [e] := hread
      simp [bodyErrRead, hread']
      rfl
    obtain ⟨hans, hbuf, hlog⟩ := runCmd_writes (.errRead c) hacc hreq hbody
    exact ⟨_, onCmd_of_accepted hacc (doErrRead c), hans, hbuf, hlog⟩
  case nothing =>
    refine ⟨_, onCmd_of_accepted hacc (doErrRead c), runCmd_done_id (.errRead c) hacc fun k q => ?_⟩
    have hread' : ((s.m.during k q).log.from_ c.fn (pField c 20 4)).take (pField c 16 4 / 64) = [] := hread
    simp [bodyErrRead, hread']
    rfl
  case ack =>
    have hbody : ∀ k q, bodyErrAck c q.id (s.m.during k q) =
        ({ s.m.during k q with log := { s.m.log with acked := pField c 8 4, ackedOnce := true } }, .done stOk (d4 s.m.log.acked)) := by
      intro k q
      have hmoves' : (s.m.during k q).log.moves (pField c 8 4) = true := hmoves
      simp only [bodyErrAck, hmoves', if_true]
      rfl
    obtain ⟨hans, k, q, hrun⟩ := runCmd_done (.errAck c)
      (effect := fun x => { x with log := { s.m.log with acked := pField c 8 4, ackedOnce := true } }) hacc hbody
      (fun k q => ⟨rfl, List.prefix_refl _⟩)
    exact ⟨_, onCmd_of_accepted hacc (doErrAck c), hans, (congrArg (fun x : Module => x.log) hrun).trans (Module.complete_log _ _ _ _)⟩
  case inject =>
    obtain ⟨k, q, hq, hrun⟩ := runCmd_runs (.errInject c) (bodyErrInject c) hacc
    obtain ⟨marked, hmarked⟩ : ∃ x, x = (s.m.during k q).logAll.injected (pField c 8 1) (pField c 10 2) := ⟨_, rfl⟩
    obtain ⟨logged, hlogged⟩ : ∃ x, x = ({ marked with log := marked.log.markInjected } : Module).logAll := ⟨_, rfl⟩
    have hrun' : doErrInject c s.m = logged.finishCmd q.id (.done stOk (d4 logged.log.newest)) := by
      rw [hlogged, hmarked]; exact hrun
    have hside : logged.cmdSide = (s.m.during k q).cmdSide := by
      rw [hlogged, Module.logAll_cmdSide]
      refine Eq.trans (b := marked.cmdSide) rfl ?_
      rw [hmarked]
      exact (Module.injected_cmdSide _ _ _).trans (Module.logAll_cmdSide _)
    have hsame : logged.port.cpls = s.m.port.cpls := congrArg (fun x => x.2) hside
    have hcpls : s.m.port.cpls <+: logged.port.cpls := hsame ▸ List.prefix_refl _
    have hlog : (doErrInject c s.m).log = logged.log := by rw [hrun']; exact Module.complete_log _ _ _ _
    refine ⟨_, onCmd_of_accepted hacc (doErrInject c), ?_, ?_⟩
    · dsimp only
      rw [hlog, hrun']
      exact complete_answered _ hq (congrArg (fun x => x.1.cmds) hside) hcpls
    · dsimp only
      rw [hlog, hlogged, Module.logAll_pend]

end Sys2Proof.Machine
end

section
/-! SUPPORT. PART.UNMAP drops what the caches hold (R352); the life cycle of a partition (R334 to R342). -/

namespace Sys2Proof.Machine

open Sys2Proof.Safety

/-- An accepted command's next state holds the module its meaning gives. -/
theorem onCmd_next {sp : CmdSpec} {bad need : Option Nat} {claims : List Claim} {fence : Option Nat} {c : Cmd} {s t : State}
    (hacc : accepted sp bad need claims fence c s.m) (f : Module → Module) (h : onCmd c f s = .next t) : t.m = f s.m :=
  (congrArg State.m (Host.Outcome.next.inj ((onCmd_of_accepted hacc f).symm.trans h))).symm

/-- Partition 1 is live and has no tables; the walk cache of core 0 still holds one of its nodes. -/
def cachedModule : Module :=
  { bring := { ready := true }, parts := { parts := [(1, { state := 2 })] }, tlb := { nodes := [(0, ⟨1, 0, 2, 0x100000⟩)] } }
/-- PART.UNMAP by the physical function of 64 KiB at address 0 of partition 1. -/
def unmapFirst : Cmd :=
  { fn := 0, flags := 0, tag := 0, partition := 1, length := 56, params := packRec 56 [⟨8, 8, 65536⟩], hostIn := none, hostOut := true }

theorem unmapFirst_accepted : accepted specPartUnmap (badPartUnmap unmapFirst cachedModule) none [.tables 1] none unmapFirst cachedModule :=
  ⟨by decide, .inl rfl, by decide, by decide, fun _ h => nomatch h⟩

set_option maxRecDepth 4000 in
/-- With no tables the edit of the tables succeeds and leaves the caches as they were. -/
theorem cachedModule_unmapped (e : Engine) :
    (Module.unmapped { cachedModule with engine := e } unmapFirst).map (fun x => x.tlb) = .ok cachedModule.tlb := by
  cbv

set_option maxRecDepth 4000 in
/-- After the command no cache holds a node of the partition. -/
theorem doPartUnmap_nodes : (doPartUnmap unmapFirst cachedModule).tlb.nodes = [] := by cbv

/-- Refutes O22: the tables were edited and no cache was touched in the statement, while PART.UNMAP drops what the caches hold of the
partition's nodes (R352). -/
theorem not_partitionSettings : ¬ Obligations.PartitionSettings := by
  rintro ⟨-, -, -, -, hunmap, -⟩
  have hedit : anyEngine cachedModule (fun m => ∃ x, m.unmapped unmapFirst = .ok x) := by
    intro e
    have hok := cachedModule_unmapped e
    revert hok
    rcases Module.unmapped { cachedModule with engine := e } unmapFirst with err | x
    · exact fun herr => nomatch herr
    · exact fun _ => ⟨x, rfl⟩
  obtain ⟨t, m', x, id, hexec, ⟨k, q, -, -, -, -, -, -, -, rfl⟩, hx, ht⟩ :=
    hunmap { m := cachedModule } unmapFirst unmapFirst_accepted rfl hedit
  have hkept : x.tlb = cachedModule.tlb := by
    have hok := cachedModule_unmapped { cachedModule.engine with nextId := k, cmds := [q] }
    rw [hx] at hok
    exact Except.ok.inj hok
  have hstated : t.m.tlb = cachedModule.tlb := by
    rw [ht, Module.finishCmd_tlb, Module.checkPool]
    split
    · exact (Module.setCause_tlb _ _ _).trans hkept
    · exact hkept
  have hnext : t.m = doPartUnmap unmapFirst cachedModule :=
    onCmd_next (s := { m := cachedModule }) unmapFirst_accepted (doPartUnmap unmapFirst) hexec
  have hnone : cachedModule.tlb.nodes = [] :=
    (congrArg Tlbs.nodes ((congrArg Module.tlb hnext).symm.trans hstated)).symm.trans doPartUnmap_nodes
  exact List.cons_ne_nil _ _ hnone

/-! ## What a stop that drains leaves as it is -/

/-- A stop without its counts. -/
def Stop.uncounted (q : Stop) : Stop := { q with cancelled := 0, completed := 0 }
/-- The command engine, the stops without their counts, and the state of a partition. -/
def Module.stopSide (m : Module) (n : Nat) : Engine × List Stop × Nat := (m.engine, m.parts.stops.map Stop.uncounted, (m.part n).state)

section
variable (m : Module) (n : Nat)

theorem Module.updPart_state {k : Nat} {f : Part → Part} (hf : ∀ p, (f p).state = p.state) :
    ((m.updPart k f).part n).state = (m.part n).state := by
  by_cases h : n = k
  · rw [h, Module.updPart_part, hf]
  · rw [Module.updPart_part_ne m f h]
theorem Module.updPart_stopSide {k : Nat} {f : Part → Part} (hf : ∀ p, (f p).state = p.state) :
    (m.updPart k f).stopSide n = m.stopSide n :=
  congrArg (fun x => (m.engine, m.parts.stops.map Stop.uncounted, x)) (m.updPart_state n hf)
theorem Module.countStop_stopSide (site thread : Nat) (it : Item) (st : Nat) : (m.countStop site thread it st).stopSide n = m.stopSide n := by
  have hcounts : (m.countStop site thread it st).parts.stops.map Stop.uncounted = m.parts.stops.map Stop.uncounted := by
    simp only [Module.countStop, List.map_map]
    refine List.map_congr_left fun q _ => ?_
    simp only [Function.comp]
    (repeat' split) <;> rfl
  exact congrArg (fun x => (m.engine, x, (m.part n).state)) hcounts
theorem Module.settle_stopSide (part seq : Nat) : (m.settle part seq).stopSide n = m.stopSide n := by
  unfold Module.settle
  split
  · rfl
  · split
    · exact m.updPart_stopSide n (f := fun q => { q with packets := _ }) fun _ => rfl
    · rfl
theorem Module.itemDone_stopSide (site thread : Nat) (it : Item) (st result : Nat) (fault : List Byte) :
    (m.itemDone site thread it st result fault).stopSide n = m.stopSide n := by
  unfold Module.itemDone Module.updPacket
  rw [Module.settle_stopSide, Module.updPart_stopSide, Module.updPart_stopSide, Module.countStop_stopSide]
  · exact fun _ => rfl
  · exact fun _ => rfl
theorem Module.updCore_stopSide (site : Nat) (f : Core → Core) : (m.updCore site f).stopSide n = m.stopSide n := rfl
theorem Module.cancelQueued_stopSide (sel : Nat → Item → Bool) (site st : Nat) :
    (m.cancelQueued sel site st).stopSide n = m.stopSide n := by
  unfold Module.cancelQueued
  extract_lets gone m1
  have hqueue : m1.stopSide n = m.stopSide n := m.updCore_stopSide n site _
  rw [← hqueue]
  exact foldl_field (fun x => x.stopSide n) _ (fun acc (it : Item) => acc.itemDone_stopSide n site it.thread it st 0 []) gone m1
theorem Module.stopPackets_stopSide (part : Nat) (sel : Packet → Bool) (st : Nat) :
    (m.stopPackets part sel st).stopSide n = m.stopSide n := by
  unfold Module.stopPackets
  exact (foldl_field (fun x => x.stopSide n) (fun acc s => acc.settle part s) (fun acc s => acc.settle_stopSide n part s) _ _).trans
    (m.updPart_stopSide n fun _ => rfl)
/-- Draining a partition takes queued work away and changes no stop and no state (R340). -/
theorem Module.drainPartition_stopSide (part p : Nat) : (m.drainTarget part (.partition p)).stopSide n = m.stopSide n := by
  unfold Module.drainTarget
  exact (Module.stopPackets_stopSide _ n _ _ _).trans
    (foldl_field (fun x => x.stopSide n) _ (fun acc s => acc.cancelQueued_stopSide n _ _ _) _ _)

end

/-- A stop of a partition that drains: the stop is listed, the partition is Draining, the command goes on (R340). -/
theorem Module.beginStop_drains {m : Module} {n timeout id : Nat} (h : m.joins n (.partition n) = none) :
    (m.beginStop n (.partition n) 0 timeout id false).stopSide n =
      (m.engine, m.parts.stops.map Stop.uncounted ++
        [(⟨.partition n, n, false, if timeout = 0 then 100 else timeout, [id], false, 0, 0⟩ : Stop)], 3) := by
  unfold Module.beginStop
  simp only [h, Nat.zero_ne_one, if_false, Module.drainPartition_stopSide]
  simp only [Module.stopSide, Module.updPart_part]
  exact congrArg (fun x => (m.engine, x, 3)) List.map_append

section
variable {op : Nat} {claims : List Claim} {c : Cmd} {i : Option Instr} {q : CmdSlot} {t : Module}

/-- A slot that is still there with its claims is a command that runs. -/
theorem stillRuns_of_slot (hq : actingSlot op q.id claims i c q) (h : t.engine.cmds = [q]) : stillRuns op claims c t := by
  obtain ⟨-, hfn, hop, htag, -, -, hphase, hclaims, -, -⟩ := hq
  exact ⟨q, h ▸ List.mem_singleton_self q, hfn, htag, hop, hphase, hclaims⟩

/-- The same slot, as the statements name it. -/
theorem acting_of_slot {m : Module} {i : Instr} (k : Nat) (hq : actingSlot op q.id claims (some i) c q) :
    acting op q.id claims i c m (m.during k q) := by
  obtain ⟨-, hfn, hop, htag, -, -, hphase, hclaims, -, hinstr⟩ := hq
  exact ⟨k, q, rfl, hfn, hop, htag, hphase, hclaims, hinstr, rfl⟩

end

@[simp] theorem Module.setCause_part (m : Module) (b : Blk) (i n : Nat) : (m.setCause b i).part n = m.part n :=
  (congrArg (fun x : Module => x.part n) (m.setCause_inner b i) :)
@[simp] theorem Module.complete_part (m : Module) (id st : Nat) (d : List Byte) (n : Nat) : (m.complete id st d).part n = m.part n :=
  (congrArg (fun x : Module => x.part n) (m.complete_inner id st d) :)

/-- Settles O21: each command's body in the state the partition is in. -/
theorem partitionLifecycle : Obligations.PartitionLifecycle := by
  refine ⟨fun s c root hacc hempty hunowned husable hroot => ?create, fun s c hacc hstate => ?enable, fun s c hacc hstate => ?disabled,
    fun s c hacc hstate hjoins hmode => ?drain, fun s c hacc hstate => ?join, fun s c hacc hstate => ?stopFirst, fun s c hacc hstate => ?teardown⟩
  case create =>
    obtain ⟨k, q, hq, hrun⟩ := runCmd_runs (.partCreate c) (bodyPartCreate c) hacc
    have hfree : (bitmapClusters (hostData c)).any (fun k => (s.m.cl k).owner.isSome) = false := by
      simpa using hunowned
    have hroot' : (s.m.during k q).rootPlace c = some root := hroot
    have hbody : bodyPartCreate c q.id (s.m.during k q) = ({ (s.m.during k q).updPart c.partition (newPart c root) with
        parts := { ((s.m.during k q).updPart c.partition (newPart c root)).parts with
          layout := some ⟨c.partition, bitmapClusters (hostData c), true, q.id, 0, 0, []⟩ } }, .later) := by
      unfold bodyPartCreate
      refine (if_neg ?_).trans ((if_neg ?_).trans ?_)
      · rintro (hstate | hany)
        · exact hstate hempty
        · exact Bool.false_ne_true (hfree.symm.trans hany)
      · exact fun hnone => by
          have hany : (!(bitmapClusters (hostData c)).any (fun k => (sitesOf k).any (fun x => (s.m.slice x).state != 2))) = true := hnone
          rw [husable] at hany
          exact Bool.false_ne_true hany
      · rw [hroot']
    rw [hbody] at hrun
    have hrun' : doPartCreate c s.m = { (s.m.during k q).updPart c.partition (newPart c root) with
        parts := { ((s.m.during k q).updPart c.partition (newPart c root)).parts with
          layout := some ⟨c.partition, bitmapClusters (hostData c), true, q.id, 0, 0, []⟩ } } := hrun
    refine ⟨_, q.id, onCmd_of_accepted hacc (doPartCreate c), ?_⟩
    simp only [hrun']
    exact ⟨stillRuns_of_slot hq rfl, Module.updPart_part _ _ _, trivial⟩
  case enable =>
    have hbody : ∀ k q, bodyPartEnable c q.id (s.m.during k q) =
        (((s.m.during k q).updPart c.partition (fun p => { p with state := 2 })).setCause .prt 0, .done stOk []) := fun k q => if_pos hstate
    obtain ⟨hans, k, q, hrun⟩ := runCmd_done (.partEnable c)
      (effect := fun x => (x.updPart c.partition (fun p => { p with state := 2 })).setCause .prt 0) hacc hbody
      (fun k q => by rw [Module.setCause_cmdSide]; exact ⟨rfl, List.prefix_refl _⟩)
    have hmeans : doPartEnable c s.m = runCmd specPartEnable none none [.partition c.partition, .tables c.partition] none (.partEnable c) c
        (bodyPartEnable c) s.m := by rw [doPartEnable, if_neg (by omega)]
    refine ⟨_, onCmd_of_accepted hacc (doPartEnable c), hmeans ▸ hans, ?_⟩
    dsimp only
    rw [hmeans, hrun, Module.complete_part, Module.setCause_part, Module.updPart_part]
  case disabled =>
    have hbody : ∀ k q, bodyPartDisable c q.id (s.m.during k q) = ((s.m.during k q).setCause .prt 0, .done stOk (d4 0 ++ d4 0)) :=
      fun k q => (if_neg (by show ¬ ((s.m.part _).state = _ ∨ (s.m.part _).state = _ ∨ (s.m.part _).state = _); omega)).trans (if_pos hstate)
    obtain ⟨hans, k, q, hrun⟩ := runCmd_done (.partDisable c) (effect := fun x => x.setCause .prt 0) hacc hbody
      (fun k q => by rw [Module.setCause_cmdSide]; exact ⟨rfl, List.prefix_refl _⟩)
    have hmeans : doPartDisable c s.m = runCmd specPartDisable (badDisable c) none [.partition c.partition, .tables c.partition] none
        (.partDisable c) c (bodyPartDisable c) s.m := by rw [doPartDisable, if_neg (by omega)]
    refine ⟨_, onCmd_of_accepted hacc (doPartDisable c), hmeans ▸ hans, ?_⟩
    dsimp only
    rw [hmeans, hrun, Module.complete_part, Module.setCause_part]
    rfl
  case drain =>
    obtain ⟨k, q, hq, hrun⟩ := runCmd_runs (.partDisable c) (bodyPartDisable c) hacc
    have hbody : bodyPartDisable c q.id (s.m.during k q) =
        ((s.m.during k q).beginStop c.partition (.partition c.partition) 0 (pField c 10 2) q.id false, .later) := by
      rw [← hmode]
      exact if_pos (.inl hstate)
    have hmeans : doPartDisable c s.m = runCmd specPartDisable (badDisable c) none [.partition c.partition, .tables c.partition] none
        (.partDisable c) c (bodyPartDisable c) s.m := by rw [doPartDisable, if_neg (by omega)]
    have hstops := Module.beginStop_drains (m := s.m.during k q) (timeout := pField c 10 2) (id := q.id) hjoins
    rw [hbody] at hrun
    generalize hx : (s.m.during k q).beginStop c.partition (.partition c.partition) 0 (pField c 10 2) q.id false = x at hrun hstops
    refine ⟨_, _, _, onCmd_of_accepted hacc (doPartDisable c), acting_of_slot k hq, ?_⟩
    dsimp only
    rw [hmeans, hrun]
    refine ⟨hx.symm, stillRuns_of_slot hq (congrArg (fun y => y.1.cmds) hstops), congrArg (fun y => y.2.2) hstops, ?_⟩
    have hlisted : x.parts.stops.map Stop.uncounted = s.m.parts.stops.map Stop.uncounted ++ [_] := congrArg (fun y => y.2.1) hstops
    have hmem := List.mem_append_right (s.m.parts.stops.map Stop.uncounted) (List.mem_singleton_self
      (⟨.partition c.partition, c.partition, false, if pField c 10 2 = 0 then 100 else pField c 10 2, [q.id], false, 0, 0⟩ : Stop))
    rw [← hlisted] at hmem
    obtain ⟨stop, hstop, hfields⟩ := List.mem_map.mp hmem
    exact ⟨stop, hstop, congrArg Stop.target hfields, congrArg Stop.part hfields, congrArg Stop.abort hfields, congrArg Stop.cmds hfields,
      congrArg Stop.timeoutMs hfields⟩
  case join =>
    obtain ⟨k, q, hact, hrun⟩ := runCmd_acting (.partDisable c) (bodyPartDisable c) hacc
    have hbody : bodyPartDisable c q.id (s.m.during k q) =
        ((s.m.during k q).beginStop c.partition (.partition c.partition) (pField c 9 1) (pField c 10 2) q.id false, .later) :=
      if_pos (.inr hstate)
    have hmeans : doPartDisable c s.m = runCmd specPartDisable (badDisable c) none [] none (.partDisable c) c (bodyPartDisable c) s.m := by
      rw [doPartDisable, if_pos hstate]
    refine ⟨_, _, _, onCmd_of_accepted hacc (doPartDisable c), hact, ?_⟩
    dsimp only
    rw [hmeans, hrun, hbody]
    rfl
  case stopFirst =>
    obtain ⟨k, q, hact, hrun⟩ := runCmd_acting (.partDestroy c) (bodyPartDestroy c) hacc
    have hbody : bodyPartDestroy c q.id (s.m.during k q) =
        ((s.m.during k q).beginStop c.partition (.partition c.partition) (pField c 9 1) (pField c 10 2) q.id true, .later) :=
      if_pos (.inl hstate)
    have hmeans : doPartDestroy c s.m = runCmd specPartDestroy (badDisable c) none [.partition c.partition, .tables c.partition, .epoch] none
        (.partDestroy c) c (bodyPartDestroy c) s.m := by rw [doPartDestroy, if_neg (by omega)]
    refine ⟨_, _, _, onCmd_of_accepted hacc (doPartDestroy c), hact, ?_⟩
    dsimp only
    rw [hmeans, hrun, hbody]
    rfl
  case teardown =>
    obtain ⟨k, q, hq, hrun⟩ := runCmd_runs (.partDestroy c) (bodyPartDestroy c) hacc
    have hbody : bodyPartDestroy c q.id (s.m.during k q) = ((s.m.during k q).tearDown c.partition q.id 0 0 [], .later) :=
      (if_neg (by show ¬ ((s.m.part _).state = _ ∨ (s.m.part _).state = _ ∨ (s.m.part _).state = _); omega)).trans (if_pos hstate)
    have hmeans : doPartDestroy c s.m = runCmd specPartDestroy (badDisable c) none [.partition c.partition, .tables c.partition, .epoch] none
        (.partDestroy c) c (bodyPartDestroy c) s.m := by rw [doPartDestroy, if_neg (by omega)]
    have htorn : ((s.m.during k q).tearDown c.partition q.id 0 0 []).part c.partition =
        { s.m.part c.partition with state := 6, contexts := [] } :=
      Module.updPart_part (s.m.during k q) c.partition (fun p => { p with state := 6, contexts := [] })
    refine ⟨_, q.id, onCmd_of_accepted hacc (doPartDestroy c), ?_⟩
    dsimp only
    rw [hmeans, hrun, hbody, Module.finishCmd]
    exact ⟨stillRuns_of_slot hq rfl, by rw [htorn], by rw [htorn], rfl⟩

end Sys2Proof.Machine
end

section
/-! SUPPORT. The MEM and THM commands: what rows, slices and bytes hold after them (R45, R69 to R86, R391). -/

namespace Sys2Proof.Machine

open Sys2Proof.Safety

section
variable (m : Module)

@[simp] theorem Module.setCause_slice (b : Blk) (i k : Nat) : (m.setCause b i).slice k = m.slice k :=
  (congrArg (fun x : Module => x.slice k) (m.setCause_inner b i) :)
@[simp] theorem Module.complete_slice (id st : Nat) (d : List Byte) (k : Nat) : (m.complete id st d).slice k = m.slice k :=
  (congrArg (fun x : Module => x.slice k) (m.complete_inner id st d) :)
@[simp] theorem Module.recordUnit_slice (kind : UnitKind) (unit detail event k : Nat) :
    (m.recordUnit kind unit detail event).slice k = m.slice k := by
  unfold Module.recordUnit Module.addRecord; split <;> rfl
@[simp] theorem Module.recordUnit_cmdSide (kind : UnitKind) (unit detail event : Nat) :
    (m.recordUnit kind unit detail event).cmdSide = m.cmdSide := by
  unfold Module.recordUnit Module.addRecord; split <;> rfl

/-! ## Writing zeros to rows (R69) -/

/-- A row is written, and what waited for it is gone. -/
def Module.putRow (data : List Byte) (r : Nat × Nat) : Module :=
  (m.updSlice r.1 (fun s => s.forget r.2)).writeRow r.1 r.2 data false 0

theorem Module.putRow_rowHeld (data : List Byte) (r : Nat × Nat) (site row : Nat) :
    (m.putRow data r).rowHeld site row = m.rowHeld site row := by
  have hbank : ((m.putRow data r).slice site).retiredBank = (m.slice site).retiredBank := by
    show ((m.updSlice r.1 (fun s => s.forget r.2)).slice site).retiredBank = _
    by_cases h : site = r.1
    · rw [h, Module.updSlice_slice]; rfl
    · rw [Module.updSlice_slice_ne m _ h]
  unfold Module.rowHeld Module.rowGroup
  rw [hbank]
  rfl
theorem Module.putRow_cmdSide (data : List Byte) (r : Nat × Nat) : (m.putRow data r).cmdSide = m.cmdSide := rfl
theorem Module.putRow_get {data : List Byte} (hlen : data.length = 2048) (r : Nat × Nat) (a : Nat) : SMap.get 0 (m.putRow data r).mem.bytes a =
    if rowAddr r.1 r.2 ≤ a ∧ a < rowAddr r.1 r.2 + 2048 then data.getD (a - rowAddr r.1 r.2) 0 else SMap.get 0 m.mem.bytes a :=
  (putRange_get data m.mem.bytes (rowAddr r.1 r.2) a).trans (by rw [hlen])

/-- Rows that are not held are written one after the other. -/
theorem Module.fwFullRows_of_free (data : List Byte) {rows : List (Nat × Nat)} (h : ∀ r ∈ rows, m.rowHeld r.1 r.2 = false) :
    rows.foldl (fun acc r => acc.bind (fun x => x.fwFullRow r.1 r.2 data)) (some m) = some (rows.foldl (fun x => x.putRow data) m) := by
  induction rows generalizing m with
  | nil => rfl
  | cons r rows ih =>
    have hfirst : m.fwFullRow r.1 r.2 data = some (m.putRow data r) := by
      rw [Module.fwFullRow, h r List.mem_cons_self]; rfl
    rw [List.foldl_cons, Option.bind_some, hfirst, List.foldl_cons]
    exact ih _ fun r' hr' => (m.putRow_rowHeld data r _ _).trans (h r' (List.mem_cons_of_mem _ hr'))

/-- A byte of a row written with zeros is 0, another byte is as before. -/
theorem Module.zeroRows_get {data : List Byte} (hlen : data.length = 2048) (hzero : ∀ i, data.getD i 0 = 0) (rows : List (Nat × Nat)) (a : Nat) :
    ((∃ r ∈ rows, rowAddr r.1 r.2 ≤ a ∧ a < rowAddr r.1 r.2 + 2048) →
      SMap.get 0 (rows.foldl (fun x => x.putRow data) m).mem.bytes a = 0) ∧
    ((∀ r ∈ rows, a < rowAddr r.1 r.2 ∨ rowAddr r.1 r.2 + 2048 ≤ a) →
      SMap.get 0 (rows.foldl (fun x => x.putRow data) m).mem.bytes a = SMap.get 0 m.mem.bytes a) := by
  induction rows generalizing m with
  | nil => exact ⟨fun ⟨_, h, _⟩ => (List.not_mem_nil h).elim, fun _ => rfl⟩
  | cons r rows ih =>
    obtain ⟨hwritten, hkept⟩ := ih (m.putRow data r)
    rw [List.foldl_cons]
    refine ⟨fun ⟨r', hr', hin⟩ => ?_, fun hout => ?_⟩
    · by_cases hlater : ∃ r ∈ rows, rowAddr r.1 r.2 ≤ a ∧ a < rowAddr r.1 r.2 + 2048
      · exact hwritten hlater
      · obtain rfl : r' = r := (List.mem_cons.mp hr').resolve_right fun hmem => hlater ⟨r', hmem, hin⟩
        rw [hkept fun r hr => Classical.byContradiction fun hcon => hlater ⟨r, hr, by omega⟩, Module.putRow_get m hlen, if_pos hin, hzero]
    · have hfirst := hout r List.mem_cons_self
      rw [hkept fun r' hr' => hout r' (List.mem_cons_of_mem _ hr'), Module.putRow_get m hlen, if_neg (by omega)]

end

theorem mem_insertNew {α : Type} [DecidableEq α] {x y : α} {l : List α} : y ∈ insertNew x l ↔ y ∈ l ∨ y = x := by
  unfold insertNew
  split
  case isTrue hin => exact ⟨.inl, fun h => h.elim id fun heq => heq ▸ hin⟩
  case isFalse => simp
/-- The slices of a list of rows are those of its rows. -/
theorem any_rowSites {rows : List (Nat × Nat)} {p : Nat → Bool} (h : ∀ r ∈ rows, p r.1 = false) : (rowSites rows).any p = false := by
  have hmem : ∀ (acc : List Nat) (s : Nat), s ∈ rows.foldl (fun acc r => insertNew r.1 acc) acc → s ∈ acc ∨ ∃ r ∈ rows, r.1 = s := by
    clear h
    induction rows with
    | nil => exact fun _ _ h => .inl h
    | cons r rows ih =>
      intro acc s h
      rcases ih _ s h with hacc | ⟨r', hr', heq⟩
      · rcases mem_insertNew.mp hacc with hold | hnew
        · exact .inl hold
        · exact .inr ⟨r, List.mem_cons_self, hnew.symm⟩
      · exact .inr ⟨r', List.mem_cons_of_mem _ hr', heq⟩
  refine List.any_eq_false.mpr fun s hs => ?_
  rcases hmem [] s hs with hnil | ⟨r, hr, rfl⟩
  · exact (List.not_mem_nil hnil).elim
  · simp [h r hr]

theorem Module.updSlices_slice (m : Module) {ss : List Nat} (f : Slice → Slice) {k : Nat} (hf : ∀ x, f (f x) = f x) (h : k ∈ ss) :
    (m.updSlices ss f).slice k = f (m.slice k) := SMap.get_updAll_mem f hf ss _ h
theorem Module.updSlices_slice_ne (m : Module) {ss : List Nat} (f : Slice → Slice) {k : Nat} (h : k ∉ ss) :
    (m.updSlices ss f).slice k = m.slice k := SMap.get_updAll_not_mem f ss _ h

theorem Module.frameFrom_during (m : Module) (k : Nat) (q : CmdSlot) (va l node : Nat) :
    (m.during k q).frameFrom va l node = m.frameFrom va l node := by
  induction l generalizing node with
  | zero => rfl
  | succ l ih => simp only [Module.frameFrom, ih]; rfl
theorem Module.rowAtFor_during (m : Module) (k : Nat) (q : CmdSlot) (fn a : Nat) : (m.during k q).rowAtFor fn a = m.rowAtFor fn a := by
  have hframe : (m.during k q).frameOf fn a = m.frameOf fn a := by
    rw [Module.frameOf, Module.frameOf, Module.frameFrom_during]; rfl
  rw [Module.rowAtFor, Module.rowAtFor, hframe]
  rfl
/-- The rows a command names depend on no command in progress. -/
theorem Module.cmdRows_during (m : Module) (k : Nat) (q : CmdSlot) (c : Cmd) : (m.during k q).cmdRows c = m.cmdRows c := by
  have hrows : ∀ n a, (m.during k q).rowsFor c.fn a n = m.rowsFor c.fn a n := by
    intro n
    induction n with
    | zero => intro a; rfl
    | succ n ih => intro a; rw [Module.rowsFor, Module.rowsFor, ih, Module.rowAtFor_during]
  rw [Module.cmdRows, Module.cmdRows, hrows]

/-- Settles O24: each body in the state the statement asks for. -/
theorem memoryCommands : Obligations.MemoryCommands := by
  refine ⟨fun s c hacc hown => ?query, fun s c hacc => ?scrub, fun s c hacc hsite hstate => ?one, fun s c hacc hsite => ?all,
    fun s c hacc hreq => ?list, fun s c rows hacc hrows hfree => ?clear,
    fun s c errs rows live hacc hrows husable hlive => ⟨fun hnone => ?empty, fun hsome => ?range⟩⟩
  case query =>
    refine ⟨_, onCmd_of_accepted hacc (doMemQuery c), runCmd_done_id (.memQuery c) hacc fun k q => ?_⟩
    exact if_neg fun ⟨hfn, howner⟩ => howner (hown hfn)
  case scrub =>
    obtain ⟨hans, k, q, hrun⟩ := runCmd_done (.memScrubConfig c) (body := bodyScrubConfig c) (st := stOk) (detail := d8 s.m.mem.scrubHours)
      (effect := fun x => { x with mem := { x.mem with scrubHours := pField c 8 2 } }) hacc (fun k q => rfl)
      (fun k q => ⟨rfl, List.prefix_refl _⟩)
    exact ⟨_, onCmd_of_accepted hacc (doMemScrubConfig c), hans,
      (congrArg (fun x : Module => x.mem.scrubHours) hrun).trans (congrArg Mem.scrubHours (Module.complete_mem _ _ _ _))⟩
  case one =>
    have hbody : ∀ k q, bodyArbConfig c q.id (s.m.during k q) =
        ((s.m.during k q).updSlices [pField c 8 2] (fun x => { x with mins := arbMins c }),
          .done stOk ((s.m.slice (pField c 8 2)).mins.flatMap d4)) := by
      intro k q
      unfold bodyArbConfig
      simp only [if_neg hsite]
      exact if_neg fun ⟨_, hfenced⟩ => hstate hfenced
    obtain ⟨hans, k, q, hrun⟩ := runCmd_done (.memArbConfig c)
      (effect := fun x => x.updSlices [pField c 8 2] (fun x => { x with mins := arbMins c })) hacc hbody (fun k q => ⟨rfl, List.prefix_refl _⟩)
    refine ⟨_, onCmd_of_accepted hacc (doMemArbConfig c), hans, ?_, fun k hk => ?_⟩
    · rw [doMemArbConfig, hrun, Module.complete_slice]
      exact congrArg Slice.mins (Module.updSlices_slice _ (fun x => { x with mins := arbMins c }) (fun _ => rfl) (List.mem_singleton_self _))
    · rw [doMemArbConfig, hrun, Module.complete_slice, Module.updSlices_slice_ne _ _ (by simpa using hk)]
      rfl
  case all =>
    have hbody : ∀ k q, bodyArbConfig c q.id (s.m.during k q) =
        ((s.m.during k q).updSlices allSites (fun x => { x with mins := arbMins c }), .done stOk ((s.m.slice 0).mins.flatMap d4)) := by
      intro k q
      unfold bodyArbConfig
      simp only [if_pos hsite]
      exact if_neg fun ⟨hone, _⟩ => hone hsite
    obtain ⟨hans, k, q, hrun⟩ := runCmd_done (.memArbConfig c)
      (effect := fun x => x.updSlices allSites (fun x => { x with mins := arbMins c })) hacc hbody (fun k q => ⟨rfl, List.prefix_refl _⟩)
    refine ⟨_, onCmd_of_accepted hacc (doMemArbConfig c), hans, fun k hk => ?_⟩
    rw [doMemArbConfig, hrun, Module.complete_slice]
    exact congrArg Slice.mins (Module.updSlices_slice _ (fun x => { x with mins := arbMins c }) (fun _ => rfl) (List.mem_range.mpr hk))
  case list =>
    by_cases hnone : (s.m.retiredList.drop (pField c 20 4)).take (pField c 16 4 / 16) = []
    · refine ⟨_, onCmd_of_accepted hacc (doMemListRetired c), runCmd_done_id (.memListRetired c) hacc fun k q => ?_, fun h => (h hnone).elim⟩
      have hnone' : ((s.m.during k q).retiredList.drop (pField c 20 4)).take (pField c 16 4 / 16) = [] := hnone
      simp only [bodyListRetired, hnone', hnone, List.isEmpty_nil, if_true]
    · obtain ⟨hans, hbuf, -⟩ := runCmd_writes (.memListRetired c) (body := bodyListRetired c) (st := stOk)
        (record := ((s.m.retiredList.drop (pField c 20 4)).take (pField c 16 4 / 16)).flatMap RecEntry.bytes)
        (detail := d4 ((s.m.retiredList.drop (pField c 20 4)).take (pField c 16 4 / 16)).length) hacc hreq fun k q => by
          have hlist : (s.m.during k q).retiredList = s.m.retiredList := rfl
          simp only [bodyListRetired, hlist, List.isEmpty_iff, if_neg hnone]
      exact ⟨_, onCmd_of_accepted hacc (doMemListRetired c), hans, fun _ => hbuf⟩
  case clear =>
    obtain ⟨data, hdata⟩ : ∃ x : List Byte, x = List.replicate 2048 0 := ⟨_, rfl⟩
    have hlen : data.length = 2048 := by rw [hdata, List.length_replicate]
    have hzero : ∀ i, data.getD i 0 = 0 := fun i => by
      rw [hdata, List.getD_eq_getElem?_getD, List.getElem?_replicate]; split <;> rfl
    have hbody : ∀ k q, bodyClearPoison c q.id (s.m.during k q) =
        (rows.foldl (fun x => x.putRow data) (s.m.during k q), .done stOk (d4 rows.length)) := by
      intro k q
      have hrows' : (s.m.during k q).cmdRows c = some rows := (s.m.cmdRows_during k q c).trans hrows
      unfold bodyClearPoison
      rw [hrows', Option.getD_some]
      refine (if_neg ?_).trans ((if_neg ?_).trans ?_)
      · exact Bool.eq_false_iff.mp (any_rowSites fun r hr => beq_eq_false_iff_ne.mpr (hfree r hr).1)
      · exact Bool.eq_false_iff.mp (any_rowSites fun r hr => (hfree r hr).2.1)
      · rw [← hdata, Module.fwFullRows_of_free (s.m.during k q) data fun r hr => (hfree r hr).2.2]
    obtain ⟨hans, k, q, hrun⟩ := runCmd_done (.memClearPoison c) (effect := fun x => rows.foldl (fun x => x.putRow data) x) hacc hbody
      (fun k q => by
        rw [foldl_field Module.cmdSide _ (fun x r => x.putRow_cmdSide data r) rows (s.m.during k q)]
        exact ⟨rfl, List.prefix_refl _⟩)
    have hbytes : ∀ a, SMap.get 0 (doMemClearPoison c s.m).mem.bytes a =
        SMap.get 0 (rows.foldl (fun x => x.putRow data) (s.m.during k q)).mem.bytes a := fun a => by
      rw [doMemClearPoison, hrun, Module.complete_mem]
    refine ⟨_, onCmd_of_accepted hacc (doMemClearPoison c), hans, fun r hr i hi => ?_, fun a hout => ?_⟩
    · exact (hbytes _).trans ((Module.zeroRows_get _ hlen hzero rows _).1 ⟨r, hr, by omega, by omega⟩)
    · exact (hbytes a).trans ((Module.zeroRows_get _ hlen hzero rows a).2 hout)
  case empty =>
    have hbody : ∀ k q, bodyScrubRange c errs q.id (s.m.during k q) = (s.m.during k q, .done stOk (d4 0 ++ d4 0)) := by
      intro k q
      have hrows' : (s.m.during k q).cmdRows c = some rows := (s.m.cmdRows_during k q c).trans hrows
      unfold bodyScrubRange
      rw [hrows', Option.getD_some]
      refine (if_neg ?_).trans (if_pos ?_)
      · exact Bool.eq_false_iff.mp (any_rowSites fun r hr => beq_eq_false_iff_ne.mpr (husable r hr))
      · exact List.isEmpty_iff.mpr (hlive.symm.trans hnone)
    exact ⟨_, onCmd_of_accepted hacc (doMemScrubRange c errs), runCmd_done_id (.memScrubRange c errs) hacc hbody⟩
  case range =>
    obtain ⟨k, q, hact, hrun⟩ := runCmd_acting (.memScrubRange c errs) (bodyScrubRange c errs) hacc
    refine ⟨_, _, _, onCmd_of_accepted hacc (doMemScrubRange c errs), hact, hrun.trans ?_⟩
    have hrows' : (s.m.during k q).cmdRows c = some rows := (s.m.cmdRows_during k q c).trans hrows
    subst hlive
    unfold bodyScrubRange
    rw [hrows', Option.getD_some]
    dsimp only
    rw [if_neg, if_neg]
    · rfl
    · exact fun h => hsome (List.isEmpty_iff.mp h)
    · exact Bool.eq_false_iff.mp (any_rowSites fun r hr => beq_eq_false_iff_ne.mpr (husable r hr))

/-- Settles O27: each body in the state the statement asks for. -/
theorem thermalCommands : Obligations.ThermalCommands := by
  refine ⟨fun s c hacc hreq => ?sensors, fun s c hacc => ?config, fun s c hacc hstop => ?idle, fun s c hacc hstop hok => ?resume⟩
  case sensors =>
    obtain ⟨hans, hbuf, -⟩ := runCmd_writes (.thmSensors c) (body := bodyThmSensors c) (st := stOk)
      (record := (List.range (min 3843 (pField c 16 4 / 8))).flatMap s.m.sensorEntry) (detail := d4 (min 3843 (pField c 16 4 / 8)))
      hacc hreq fun k q => rfl
    exact ⟨_, onCmd_of_accepted hacc (doThmSensors c), hans, hbuf⟩
  case config =>
    obtain ⟨hans, k, q, hrun⟩ := runCmd_done (.thmConfig c) (body := bodyThmConfig c) (st := stOk)
      (detail := d4 s.m.thermal.flowMin ++ d4 s.m.thermal.riseMargin ++ d4 s.m.thermal.pulsesPerLitre)
      (effect := fun x => (bodyThmConfig c 0 x).1) hacc (fun k q => rfl) (fun k q => ⟨rfl, List.prefix_refl _⟩)
    have hthermal : (doThmConfig c s.m).thermal = (bodyThmConfig c 0 (s.m.during k q)).1.thermal :=
      (congrArg (fun x : Module => x.thermal) hrun).trans (Module.complete_thermal _ _ _ _)
    exact ⟨_, onCmd_of_accepted hacc (doThmConfig c), hans, congrArg Thermal.flowMin hthermal, congrArg Thermal.riseMargin hthermal,
      congrArg Thermal.pulsesPerLitre hthermal⟩
  case idle =>
    refine ⟨_, onCmd_of_accepted hacc (doThmResume c), runCmd_done_id (.thmResume c) hacc fun k q => if_pos ?_⟩
    exact congrArg (! ·) hstop
  case resume =>
    obtain ⟨k, q, hact, hrun⟩ := runCmd_acting (.thmResume c) (bodyThmResume c) hacc
    refine ⟨_, _, _, onCmd_of_accepted hacc (doThmResume c), hact, hrun.trans ?_⟩
    have hrunning : ¬ (!(s.m.during k q).thermal.stop) = true := fun h => Bool.false_ne_true ((congrArg (! ·) hstop).symm.trans h)
    have hbody : bodyThmResume c q.id (s.m.during k q) =
        ((s.m.during k q).freeWord.2.resume, .done stOk (d8 (s.m.during k q).freeWord.1.toNat)) := (if_neg hrunning).trans (if_pos hok)
    rw [hbody]

/-- The module once a page has left service: the event, the record, the cause, and the check of the owner's pool (R72, R80, R345). -/
def Module.pageGone (x : Module) (a : Nat) (owner : Option Nat) : Module :=
  let y := ((x.memEvent 0x0B (siteOfAddr a) (offOfAddr a) 0 0 0).recordUnit .page (siteOfAddr a) a 0x0B).setCause .mem 9
  match owner with | some n => y.checkPool n | none => y

theorem bodyRetirePage_of_ok {c : Cmd} {m x : Module} (id : Nat) (hstate : (m.slice (siteOfAddr (pField c 8 8))).state ≠ 2)
    (hheld : m.offRetired (siteOfAddr (pField c 8 8)) (offOfAddr (pField c 8 8)) = false) (hroom : m.recordRoom 3 = true)
    (hx : m.takePageOut (pField c 8 8) = .ok x) :
    bodyRetirePage c id m = (x.pageGone (pField c 8 8) (m.cl (clusterOf (siteOfAddr (pField c 8 8)))).owner, .done stOk
      (d4 ((x.pageGone (pField c 8 8) (m.cl (clusterOf (siteOfAddr (pField c 8 8)))).owner).slice (siteOfAddr (pField c 8 8))).retiredPages.length)) := by
  unfold bodyRetirePage
  dsimp only
  rw [if_neg (by simp [hstate, hheld]), if_neg (by simp [hroom]), hx]
  rfl

/-- A page of a slice that no partition owns leaves service. -/
theorem Module.takePageOut_unowned {m : Module} {a : Nat} (hown : (m.cl (clusterOf (siteOfAddr a))).owner = none) :
    m.takePageOut a = .ok (m.updSlice (siteOfAddr a) (fun s => { s with retiredPages := s.retiredPages ++ [offOfAddr a / 65536] })) := by
  unfold Module.takePageOut
  simp only [hown]
  rfl

theorem Module.copyUndefined_slices (m old : Module) (site bank : Nat) : (m.copyUndefined old site bank).mem.slices = m.mem.slices := by
  unfold Module.copyUndefined
  split
  · rfl
  · generalize List.range 4095 = rows
    refine foldl_field (fun x => x.mem.slices) _ ?_ rows m
    exact fun _ _ => rfl
/-- The bank is the slice's retired one (R73). -/
theorem Module.bankRetired_retiredBank (m : Module) (site bank : Nat) : ((m.bankRetired site bank).slice site).retiredBank = some bank := by
  unfold Module.bankRetired
  extract_lets was m1
  have hslice : (m1.slice site).retiredBank = some bank := by
    dsimp only [m1]
    rw [Module.updSlice_slice]
  rw [Module.slice, Module.copyUndefined_slices]
  exact hslice
theorem bodyRetireBank_of_ok {c : Cmd} {m x : Module} (errs : List (Nat × Nat)) (id : Nat) (hstate : (m.slice (pField c 8 2)).state ≠ 2)
    (hbank : (m.slice (pField c 8 2)).retiredBank = none) (hroom : m.recordRoom 4 = true)
    (hx : ((m.decodeBank (pField c 8 2) (pField c 10 1) errs).bankRetired (pField c 8 2) (pField c 10 1)).tablesFollow
      (m.cl (clusterOf (pField c 8 2))).owner = .ok x) :
    bodyRetireBank c errs id m = (((x.memEvent 0x0C (pField c 8 2) (rowOffset (pField c 10 1) 0) 0 0 0).recordUnit .bank
      (pField c 10 1 * 65536 + pField c 8 2) 4032 0x0C).setCause .mem 9,
      .done stOk (d4 4032 ++ d4 ((m.decodeBank (pField c 8 2) (pField c 10 1) errs).poisonedRows (pField c 8 2) (pField c 10 1)))) := by
  unfold bodyRetireBank
  dsimp only
  rw [if_neg hstate, if_neg (by simp [hbank, hroom]), hx]

/-- Settles O25: what each body does once the slice is usable and the record has room. -/
theorem retirement : Obligations.Retirement := by
  refine ⟨fun s c hacc hstate hheld hroom hown => ?unowned, fun s c hacc hstate hheld hroom hedit => ?page,
    fun s c errs hacc hstate hbank hroom hedit => ?bank, fun s c hacc hstate hroom => ?slice⟩
  case unowned =>
    obtain ⟨site, hsite⟩ : ∃ x, siteOfAddr (pField c 8 8) = x := ⟨_, rfl⟩
    obtain ⟨off, hoff⟩ : ∃ x, offOfAddr (pField c 8 8) = x := ⟨_, rfl⟩
    have hpages : ∀ k q, (((s.m.during k q).updSlice site (fun x => { x with retiredPages := x.retiredPages ++ [off / 65536] })).pageGone
        (pField c 8 8) none).slice site = { s.m.slice site with retiredPages := (s.m.slice site).retiredPages ++ [off / 65536] } := by
      intro k q
      simp only [Module.pageGone, Module.setCause_slice, Module.recordUnit_slice]
      exact Module.updSlice_slice (s.m.during k q) site (fun x => { x with retiredPages := x.retiredPages ++ [off / 65536] })
    have hbody : ∀ k q, bodyRetirePage c q.id (s.m.during k q) =
        (((s.m.during k q).updSlice site (fun x => { x with retiredPages := x.retiredPages ++ [off / 65536] })).pageGone (pField c 8 8) none,
          .done stOk (d4 ((s.m.slice site).retiredPages.length + 1))) := by
      intro k q
      have hown' : ((s.m.during k q).cl (clusterOf (siteOfAddr (pField c 8 8)))).owner = none := hown
      rw [bodyRetirePage_of_ok (m := s.m.during k q) q.id hstate hheld hroom (Module.takePageOut_unowned hown'), hown',
        hsite, hoff, hpages, List.length_append]
      rfl
    obtain ⟨hans, k, q, hrun⟩ := runCmd_done (.memRetirePage c)
      (effect := fun x => (x.updSlice site (fun x => { x with retiredPages := x.retiredPages ++ [off / 65536] })).pageGone (pField c 8 8) none)
      hacc hbody (fun k q => by
        simp only [Module.pageGone, Module.setCause_cmdSide, Module.recordUnit_cmdSide]
        exact ⟨rfl, List.prefix_refl _⟩)
    refine ⟨_, onCmd_of_accepted hacc (doMemRetirePage c), hsite ▸ hans, ?_⟩
    rw [doMemRetirePage, hrun, Module.complete_slice, hsite, hoff, hpages]
  case page =>
    obtain ⟨k, q, hact, hrun⟩ := runCmd_acting (.memRetirePage c) (bodyRetirePage c) hacc
    obtain ⟨x, hx⟩ := hedit { s.m.engine with nextId := k, cmds := [q] }
    refine ⟨_, _, x, _, _, onCmd_of_accepted hacc (doMemRetirePage c), hact, hx, rfl, hrun.trans ?_⟩
    rw [bodyRetirePage_of_ok (m := s.m.during k q) q.id hstate hheld hroom hx]
    rfl
  case bank =>
    obtain ⟨k, q, hact, hrun⟩ := runCmd_acting (.memRetireBank c errs) (bodyRetireBank c errs) hacc
    obtain ⟨x, hx⟩ := hedit { s.m.engine with nextId := k, cmds := [q] }
    refine ⟨_, _, (s.m.during k q).decodeBank (pField c 8 2) (pField c 10 1) errs, x, _, onCmd_of_accepted hacc (doMemRetireBank c errs), hact,
      rfl, hx, Module.bankRetired_retiredBank _ _ _, hrun.trans ?_⟩
    rw [bodyRetireBank_of_ok (m := s.m.during k q) errs q.id hstate hbank hroom hx]
  case slice =>
    obtain ⟨k, q, hact, hrun⟩ := runCmd_acting (.memRetireSlice c) (bodyRetireSlice c) hacc
    refine ⟨_, _, _, onCmd_of_accepted hacc (doMemRetireSlice c), hact, hrun.trans ?_⟩
    have hroom' : ¬ (!(s.m.during k q).recordRoom 2) = true := fun h => Bool.false_ne_true ((congrArg (! ·) hroom).symm.trans h)
    have hstate' : ¬ ((s.m.during k q).slice (pField c 8 2)).state = 2 := hstate
    unfold bodyRetireSlice
    dsimp only
    rw [if_neg hstate', if_neg hroom']
    rfl

end Sys2Proof.Machine
end

section
/-! SUPPORT. The FAB and MODE commands (R525 to R527, R548, R552 to R555, R565): ports that were changed, values staged for this module alone. -/

namespace Sys2Proof.Machine

open Sys2Proof.Safety

/-- The parameters of an accepted command are in order (R507, check 4). -/
theorem accepted_bad {sp : CmdSpec} {bad need : Option Nat} {claims : List Claim} {fence : Option Nat} {c : Cmd} {m : Module}
    (h : accepted sp bad need claims fence c m) : bad = none := by
  obtain ⟨-, -, hcheck, -⟩ := h
  unfold CmdSpec.check at hcheck
  cases bad with
  | none => rfl
  | some o =>
    split at hcheck
    · cases hcheck
    · split at hcheck
      · cases hcheck
      · cases hbytes : sp.malformed c with
        | some o => rw [hbytes] at hcheck; cases hcheck
        | none => rw [hbytes] at hcheck; cases hcheck

/-- A claim of an accepted command is held by nothing. -/
theorem accepted_free {sp : CmdSpec} {bad need : Option Nat} {claims : List Claim} {fence : Option Nat} {c : Cmd} {m : Module}
    (h : accepted sp bad need claims fence c m) {x : Claim} (hx : x ∈ claims) : x ∉ m.heldClaims := by
  obtain ⟨-, -, -, hfree, -⟩ := h
  intro hheld
  simp only [Module.claimsFree, Bool.not_eq_true', List.any_eq_false, decide_eq_true_eq] at hfree
  exact hfree x hx hheld

theorem badFabPort_lt {c : Cmd} (h : badFabPort c = none) : pField c 8 1 < 4 := by
  refine Nat.lt_of_not_le fun hbig => ?_
  rw [badFabPort, if_pos (by omega)] at h
  cases h

section
variable (m : Module)

theorem Module.updFport_fport (p : Nat) (f : FabPort → FabPort) (h : p < m.fab.ports.length) : (m.updFport p f).fport p = f (m.fport p) := by
  rw [Module.fport, Module.updFport, nth_modNth {} f _ p h, if_pos rfl]; rfl

@[simp] theorem Module.complete_fport (id st : Nat) (d : List Byte) (p : Nat) : (m.complete id st d).fport p = m.fport p :=
  (congrArg (fun x : Module => x.fport p) (m.complete_inner id st d) :)

/-- Nothing goes out for a value that this module stages for itself. -/
theorem Module.sendEach_none (t : Trans) : m.sendEach [] t = m := rfl
theorem Module.modeSend_self {v : Staged} (h : v.scope = 0) (typ step epoch : Nat) : m.modeSend v typ step epoch = m := by
  simp [Module.modeSend, h, Module.sendsTo, Module.inScope, Module.sendEach]
theorem Module.sendPrep_self {v : Staged} (h : v.scope = 0) : m.sendPrep v = m := by
  unfold Module.sendPrep
  have hnone : m.sendsTo v.scope = [] := by simp [h, Module.sendsTo, Module.inScope]
  simp only [hnone, Module.sendEach_none]
  exact foldl_field id (fun a _ => a) (fun _ _ => rfl) _ m

/-- A value for this module alone, of a command, is staged at once and its command ends. -/
theorem Module.prepare_self {kind id : Nat} {value : List Byte} (h : m.epochs.staged = []) :
    m.prepare kind 0 value false (some id) =
      ({ m with epochs := { m.epochs with
        staged := [⟨kind, 0, value, m.fab.deviceId, true, false, [], [], none, [], none, none⟩] } }).complete id stOk [] := by
  unfold Module.prepare
  dsimp only
  rw [Module.sendPrep_self _ rfl]
  simp [Module.ackCheck, Module.stagedOf, h, Module.inScope, Module.updStaged, modFirst]

/-- No value is staged where the epoch's claim is free (R511, R526). -/
theorem Module.staged_nil (h : Claim.epoch ∉ m.heldClaims) : m.epochs.staged = [] := by
  refine Classical.byContradiction fun hstaged => h (by simp [Module.heldClaims, List.isEmpty_iff, hstaged])

theorem Module.takeProfile_side (v : List Byte) (e : Nat) : (m.takeProfile v e).cmdSide = m.cmdSide ∧
    (m.takeProfile v e).epochs = { m.epochs with powerEpoch := e } ∧ (m.takeProfile v e).power = { m.power with limit := getLe v 0 2 } ∧
    (m.takeProfile v e).flight = m.flight := by
  unfold Module.takeProfile
  extract_lets set power epochs m1
  have hset : ∀ {γ : Type} (g : Module → γ), (∀ a n p, g (a.setTarget n p) = g a) → g ((List.range 64).foldl set m1) = g m1 := by
    intro γ g hg
    refine foldl_field g set (fun a n => ?_) _ m1
    dsimp only [set]
    split
    · rfl
    · exact hg a n _
  have hside : ∀ (a : Module) (n p : Nat), (a.setTarget n p).cmdSide = a.cmdSide := fun a n p => by
    rw [Module.cmdSide, Module.setTarget, Module.updCls_engine, Module.updCls_port, Module.cmdSide]
  exact ⟨hset Module.cmdSide hside, hset (fun x => x.epochs) fun a n p => a.updCls_epochs _ _, hset (fun x => x.power) fun a n p => a.updCls_power _ _,
    hset (fun x => x.flight) fun a n p => a.updCls_flight _ _⟩

end

/-- Settles O29: each body in the state the port is in. -/
theorem fabricCommands : Obligations.FabricCommands := by
  refine ⟨fun s c hacc hreq hhead => ?member, fun s c hacc hreq hhead => ?head, fun s c hacc => ?role, fun s c hacc hop hstate => ?off,
    fun s c hacc hop hstate => ?disable, fun s c hacc hop hlen => ?enable, fun s c hacc hop hlen hstate => ?retrain⟩
  case member =>
    obtain ⟨hans, hbuf, -⟩ := runCmd_writes (.fabQuery c) (body := bodyFabQuery c) (st := stOk) (record := s.m.fabRecord)
      (detail := d4 s.m.fabRecord.length) hacc hreq fun k q => by
        have hhead' : (s.m.during k q).isHead = false := hhead
        have hrecord : (s.m.during k q).fabRecord = s.m.fabRecord := rfl
        simp [bodyFabQuery, hhead', hrecord]
    exact ⟨_, onCmd_of_accepted hacc (doFabQuery c), hans, hbuf⟩
  case head =>
    extract_lets beats r
    obtain ⟨hans, hbuf, -⟩ := runCmd_writes (.fabQuery c) (body := bodyFabQuery c) (st := stOk) (record := r)
      (detail := d4 r.length) hacc hreq fun k q => by
        have hhead' : (s.m.during k q).isHead = true := hhead
        unfold bodyFabQuery
        simp only [hhead', if_true]
        rfl
    exact ⟨_, onCmd_of_accepted hacc (doFabQuery c), hans, hbuf⟩
  case role =>
    obtain ⟨hans, k, q, hrun⟩ := runCmd_done (.fabRole c) (body := bodyFabRole c) (st := stOk) (detail := d4 s.m.fab.roleConfig)
      (effect := fun x => { x with fab := { x.fab with roleConfig := pField c 8 1 } }) hacc (fun k q => rfl) (fun k q => ⟨rfl, List.prefix_refl _⟩)
    have hfab : (doFabRole c s.m).fab = { s.m.fab with roleConfig := pField c 8 1 } :=
      (congrArg (fun x : Module => x.fab) hrun).trans (Module.complete_fab _ _ _ _)
    exact ⟨_, onCmd_of_accepted hacc (doFabRole c), hans, congrArg Fabric.roleConfig hfab, (congrArg Fabric.role hfab :)⟩
  case off =>
    refine ⟨_, onCmd_of_accepted hacc (doFabPort c), runCmd_done_id (.fabPort c) hacc fun k q => ?_⟩
    exact (if_pos hop).trans (if_pos hstate)
  case disable =>
    obtain ⟨k, q, hact, hrun⟩ := runCmd_acting (.fabPort c) (bodyFabPort c) hacc
    refine ⟨_, _, _, onCmd_of_accepted hacc (doFabPort c), hact, hrun.trans ?_⟩
    have hbody : bodyFabPort c q.id (s.m.during k q) =
        (((s.m.during k q).beginStop 0x100 (.port (pField c 8 1)) (pField c 9 1) (pField c 10 2) q.id false).topoChanged, .later) :=
      (if_pos hop).trans (if_neg hstate)
    rw [hbody]
    rfl
  case enable =>
    have hport : pField c 8 1 < s.m.fab.ports.length := hlen ▸ badFabPort_lt (accepted_bad hacc)
    by_cases hstate : (s.m.fport (pField c 8 1)).state = 4
    · have hbody : ∀ k q, bodyFabPort c q.id (s.m.during k q) =
          ((s.m.during k q).updFport (pField c 8 1) (fun q => { q with state := 1, attempts := 0 }), .done stOk (d4 0 ++ d4 0)) := fun k q =>
        (if_neg (by omega)).trans ((if_pos hop).trans (congrArg (·, Answer.done stOk (d4 0 ++ d4 0)) (if_pos hstate)))
      obtain ⟨hans, k, q, hrun⟩ := runCmd_done (.fabPort c)
        (effect := fun x => x.updFport (pField c 8 1) (fun q => { q with state := 1, attempts := 0 })) hacc hbody (fun k q => ⟨rfl, List.prefix_refl _⟩)
      refine ⟨_, onCmd_of_accepted hacc (doFabPort c), hans, ?_⟩
      rw [if_pos hstate, doFabPort, hrun, Module.complete_fport, Module.updFport_fport (s.m.during k q) _ _ hport]
    · have hbody : ∀ k q, bodyFabPort c q.id (s.m.during k q) = (id (s.m.during k q), .done stOk (d4 0 ++ d4 0)) := fun k q =>
        (if_neg (by omega)).trans ((if_pos hop).trans (congrArg (·, Answer.done stOk (d4 0 ++ d4 0)) (if_neg hstate)))
      obtain ⟨hans, k, q, hrun⟩ := runCmd_done (.fabPort c) (effect := id) hacc hbody (fun k q => ⟨rfl, List.prefix_refl _⟩)
      refine ⟨_, onCmd_of_accepted hacc (doFabPort c), hans, ?_⟩
      rw [if_neg hstate, doFabPort, hrun, Module.complete_fport]
      rfl
  case retrain =>
    have hport : pField c 8 1 < s.m.fab.ports.length := hlen ▸ badFabPort_lt (accepted_bad hacc)
    obtain ⟨n, hn⟩ : ∃ n, n = if (s.m.fport (pField c 8 1)).up then min ((s.m.fport (pField c 8 1)).retrains + 1) 0xFFFF
      else (s.m.fport (pField c 8 1)).retrains := ⟨_, rfl⟩
    have hbody : ∀ k q, bodyFabPort c q.id (s.m.during k q) = ((s.m.during k q).updFport (pField c 8 1) (fun q =>
        { q with state := 1, attempts := 0, retrains := n, sameReplays := 0 }), .done stOk (d4 0 ++ d4 0)) := by
      subst hn
      exact fun k q => (if_neg (by omega)).trans ((if_neg (by omega)).trans (if_neg hstate))
    obtain ⟨hans, k, q, hrun⟩ := runCmd_done (.fabPort c) (effect := fun x => x.updFport (pField c 8 1) (fun q =>
      { q with state := 1, attempts := 0, retrains := n, sameReplays := 0 })) hacc hbody (fun k q => ⟨rfl, List.prefix_refl _⟩)
    have hfport : (doFabPort c s.m).fport (pField c 8 1) =
        { s.m.fport (pField c 8 1) with state := 1, attempts := 0, retrains := n, sameReplays := 0 } := by
      rw [doFabPort, hrun, Module.complete_fport, Module.updFport_fport (s.m.during k q) _ _ hport]; rfl
    exact ⟨_, onCmd_of_accepted hacc (doFabPort c), hans, congrArg FabPort.state hfport, (congrArg FabPort.replayBuf hfport :)⟩

/-! ## Values staged for this module alone (R526, R527, R554) -/

theorem Module.unstage_plain {m : Module} {kind : Nat} (h : routing kind = false) :
    m.unstage kind = { m with epochs := { m.epochs with staged := m.epochs.staged.filter (fun v => v.kind != kind) } } := by
  unfold Module.unstage
  exact if_neg (by simp [h])
theorem find_filter_ne {l : List Staged} (kind : Nat) : (l.filter (fun v => v.kind != kind)).find? (fun v => v.kind == kind) = none := by
  simp [List.find?_eq_none]

/-- The module after a power-cap profile took effect at an epoch, with no STEP held. -/
def Module.profiled (m : Module) (v : Staged) (e : Nat) : Module :=
  let x := m.takeProfile v.value e
  { x with epochs := { x.epochs with epoch := e, staged := x.epochs.staged.filter (fun x => x.kind != v.kind) },
           flight := { x.flight with heldPkts := [] } }
theorem Module.releaseHeldSteps_of_none {m : Module} (h : m.flight.heldPkts = []) :
    m.releaseHeldSteps = { m with flight := { m.flight with heldPkts := [] } } := by
  rw [Module.releaseHeldSteps, h]; rfl
theorem Module.applyStaged_profile {m : Module} {v : Staged} {e : Nat} (hkind : v.kind = 2) (hheld : m.flight.heldPkts = []) :
    m.applyStaged v e = m.profiled v e := by
  have hflight := (m.takeProfile_side v.value e).2.2.2
  unfold Module.applyStaged
  rw [if_neg (by omega), if_neg (by omega), if_pos hkind]
  exact Module.releaseHeldSteps_of_none ((congrArg FabFlight.heldPkts hflight).trans hheld)
theorem Module.commitNow_profile {m : Module} {v : Staged} {e id : Nat} (hkind : v.kind = 2) (hscope : v.scope = 0)
    (hheld : m.flight.heldPkts = []) : m.commitNow { v with commit := some id } e = (m.profiled v e).complete id stOk (d4 e) := by
  unfold Module.commitNow
  rw [m.modeSend_self (v := { v with commit := some id }) hscope, Module.applyStaged_profile (v := { v with commit := some id }) hkind hheld]
  rfl

theorem bodyModePrepare_of_ready {c : Cmd} {m : Module} (id : Nat) (htier : m.tierOk (pField c 9 1) = true)
    (hopen : pField c 9 1 ≠ 0 → m.fabricOpen = true) (hepoch : pField c 12 4 = m.epochs.epoch) (hplan : pField c 8 1 = 1 → m.isLead = false) :
    bodyModePrepare c id m = (m.prepare (pField c 8 1) (pField c 9 1) (hostData c) false (some id), .later) := by
  unfold bodyModePrepare
  dsimp only
  rw [if_neg (by simp [htier]), if_neg (fun ⟨hwide, hclosed⟩ => by simp [hopen hwide] at hclosed), if_neg (not_not_intro hepoch),
    if_neg (fun ⟨hkind, hlead⟩ => Bool.false_ne_true ((hplan hkind).symm.trans hlead))]
theorem bodyModeCommit_of_acked {c : Cmd} {m : Module} {v : Staged} (id : Nat) (hv : m.stagedOf (pField c 8 1) = some v) (hmine : v.mine = true)
    (hcmd : v.cmd = none) (hpausing : v.pausing = none) (hack : seqNewer (pField c 12 4) (m.newestAck v) = true)
    (hnew : seqNewer (pField c 12 4) m.epochs.epoch = true) :
    bodyModeCommit c id m = (m.beginCommit v (pField c 12 4) (some id), .later) := by
  unfold bodyModeCommit
  dsimp only
  rw [hv]
  dsimp only
  rw [if_neg (by simp [hmine, hcmd, hpausing]), if_neg (by simp [hack, hnew])]

/-- Settles O30: each body in the state the statement asks for. -/
theorem modeCommands : Obligations.ModeCommands := by
  refine ⟨fun s c hacc => ?query, fun s c hacc hscope hepoch hplan => ?prepare, fun s c hacc hscope hopen htier hepoch hplan => ?wider,
    fun s c v hacc hv hmine hcmd hpausing hack hnew => ?commit, fun s c v hacc hv hmine hcmd hpausing hscope hkind hheld hack hnew => ?profile,
    fun s c hacc hnone => ?nothing, fun s c v hacc hv hroute hnine hmine => ?abort⟩
  case query => exact ⟨_, onCmd_of_accepted hacc (doModeQuery c), runCmd_done_id (.modeQuery c) hacc fun k q => rfl⟩
  case prepare =>
    have hempty : s.m.epochs.staged = [] := s.m.staged_nil (accepted_free hacc (by simp))
    obtain ⟨k, q, hq, hrun⟩ := runCmd_runs (.modePrepare c) (bodyModePrepare c) hacc
    have hbody := bodyModePrepare_of_ready (m := s.m.during k q) q.id (by simp [hscope, Module.tierOk]) (fun h => (h hscope).elim) hepoch hplan
    obtain ⟨x, hx⟩ : ∃ x : Module, x = { s.m.during k q with epochs := { s.m.epochs with
      staged := [⟨pField c 8 1, 0, hostData c, s.m.fab.deviceId, true, false, [], [], none, [], none, none⟩] } } := ⟨_, rfl⟩
    have hstaged : (s.m.during k q).prepare (pField c 8 1) (pField c 9 1) (hostData c) false (some q.id) = x.finishCmd q.id (.done stOk []) := by
      rw [hscope, hx]; exact (s.m.during k q).prepare_self hempty
    have hrun' : doModePrepare c s.m = x.finishCmd q.id (.done stOk []) := hrun.trans (by rw [hbody, ← hstaged]; rfl)
    refine ⟨_, onCmd_of_accepted hacc (doModePrepare c), ?_⟩
    dsimp only
    rw [hrun']
    refine ⟨complete_answered [] hq (hx ▸ rfl) (hx ▸ List.prefix_refl _), ?_⟩
    rw [Module.finishCmd_epochs, hx]
  case wider =>
    obtain ⟨k, q, hact, hrun⟩ := runCmd_acting (.modePrepare c) (bodyModePrepare c) hacc
    refine ⟨_, _, _, onCmd_of_accepted hacc (doModePrepare c), hact, hrun.trans ?_⟩
    rw [bodyModePrepare_of_ready (m := s.m.during k q) q.id htier (fun _ => hopen) hepoch hplan]
    rfl
  case commit =>
    obtain ⟨k, q, hact, hrun⟩ := runCmd_acting (.modeCommit c) (bodyModeCommit c) hacc
    refine ⟨_, _, _, onCmd_of_accepted hacc (doModeCommit c), hact, hrun.trans ?_⟩
    rw [bodyModeCommit_of_acked (m := s.m.during k q) q.id hv hmine hcmd hpausing hack hnew]
    rfl
  case profile =>
    obtain ⟨k, q, hq, hrun⟩ := runCmd_runs (.modeCommit c) (bodyModeCommit c) hacc
    have hbody := bodyModeCommit_of_acked (m := s.m.during k q) q.id hv hmine hcmd hpausing hack hnew
    have hplain : (s.m.during k q).beginCommit v (pField c 12 4) (some q.id) =
        ((s.m.during k q).profiled v (pField c 12 4)).finishCmd q.id (.done stOk (d4 (pField c 12 4))) := by
      rw [Module.beginCommit, if_neg (by simp [routing, hkind])]
      exact Module.commitNow_profile hkind hscope hheld
    have hrun' : doModeCommit c s.m = ((s.m.during k q).profiled v (pField c 12 4)).finishCmd q.id (.done stOk (d4 (pField c 12 4))) :=
      hrun.trans (by rw [hbody, ← hplain]; rfl)
    obtain ⟨hside, hepochs, hpower, -⟩ := (s.m.during k q).takeProfile_side v.value (pField c 12 4)
    refine ⟨_, onCmd_of_accepted hacc (doModeCommit c), ?_⟩
    dsimp only
    rw [hrun']
    refine ⟨complete_answered _ hq (congrArg (fun x => x.1.cmds) hside) ?_, ?_, ?_, ?_, ?_⟩
    · have hsame : ((s.m.during k q).profiled v (pField c 12 4)).port.cpls = s.m.port.cpls := congrArg (fun x => x.2) hside
      exact hsame ▸ List.prefix_refl _
    · rw [Module.finishCmd_epochs]; rfl
    · rw [Module.finishCmd_epochs]; exact congrArg Epochs.powerEpoch hepochs
    · rw [Module.finishCmd_power]; exact congrArg Power.limit hpower
    · rw [Module.stagedOf, Module.finishCmd_epochs, ← hkind]; exact find_filter_ne v.kind
  case nothing =>
    refine ⟨_, onCmd_of_accepted hacc (doModeAbort c), runCmd_done_id (.modeAbort c) hacc fun k q => ?_⟩
    have hnone' : (s.m.during k q).stagedOf (pField c 8 1) = none := hnone
    rw [bodyModeAbort, hnone']
  case abort =>
    have hplain : routing v.kind = false := by simp [routing, hroute, hnine]
    have hbody : ∀ k q, bodyModeAbort c q.id (s.m.during k q) = ((s.m.during k q).unstage v.kind, .done stOk (d4 0)) := by
      intro k q
      have hv' : (s.m.during k q).stagedOf (pField c 8 1) = some v := hv
      rw [bodyModeAbort, hv']
      by_cases h : v.mine = true
      · obtain ⟨hscope, hauto, hcmd, hcommit⟩ := hmine h
        simp only [h, if_true, Module.dropPrepare, hcmd, hcommit, hauto, Bool.false_eq_true, if_false, Module.modeSend_self _ hscope]
      · simp only [h, Bool.false_eq_true, if_false]
    obtain ⟨hans, k, q, hrun⟩ := runCmd_done (.modeAbort c) (effect := fun x => x.unstage v.kind) hacc hbody
      (fun k q => by rw [Module.unstage_plain hplain]; exact ⟨rfl, List.prefix_refl _⟩)
    refine ⟨_, onCmd_of_accepted hacc (doModeAbort c), hans, ?_⟩
    rw [doModeAbort, hrun, Module.stagedOf, Module.complete_epochs, Module.unstage_plain hplain]
    exact find_filter_ne v.kind

end Sys2Proof.Machine
end

section
/-! SUPPORT. WORK.CANCEL, TREE, COLLECTIVE and MEM.BANKOP (R106, R128, R307, R308, R325, R327, R364). -/

namespace Sys2Proof.Machine

open Sys2Proof.Safety

section
variable (m : Module)

/-- A translation changes a cache, a count of walks and the free choices, nothing else (R348, R367). -/
theorem Module.lookedUp_eq (k : CacheOf) (part va : Nat) : ∃ f t p, m.lookedUp k part va = { m with free := f, tlb := t, parts := p } := by
  unfold Module.lookedUp
  split
  · exact ⟨m.free, m.tlb, m.parts, rfl⟩
  · split
    · exact ⟨_, _, _, rfl⟩
    · exact ⟨m.free, m.tlb, _, rfl⟩
theorem Module.engineLooked_eq (part : Nat) (vas : List Nat) :
    ∃ f t p, m.engineLooked part vas = { m with free := f, tlb := t, parts := p } := by
  unfold Module.engineLooked
  generalize m.engineCache part = k
  induction vas generalizing m with
  | nil => exact ⟨m.free, m.tlb, m.parts, rfl⟩
  | cons va vas ih =>
    obtain ⟨f, t, p, hfirst⟩ := m.lookedUp_eq k part va
    obtain ⟨f', t', p', hrest⟩ := ih { m with free := f, tlb := t, parts := p }
    rw [List.foldl_cons, hfirst]
    exact ⟨f', t', p', hrest⟩

end

/-! ## Trees (R307, R308) -/

/-- The members a map names are cores of its units. -/
theorem Module.mem_units_of_treeMembers {m : Module} {sh : Shard} {x : Nat} (h : x ∈ m.treeMembers sh) :
    x ∈ sh.units.flatMap (fun u => unitSites sh.kind u.1) :=
  (List.mem_filter.mp (List.mem_eraseDups.mp h)).1

/-- The trees of a number on every deck that a tree of these members needs. -/
def Module.newTrees (m : Module) (part t root : Nat) (members : List Nat) : List (Nat × Nat × Tree) :=
  (m.treeDecks root members).map (fun d => (d, t, ⟨part, root, members, false⟩))

/-- A tree whose root is a member, of a map of cores or clusters, is set on every deck it needs. -/
theorem Module.setTree_of_free {m : Module} {part t root : Nat} {sh : Shard} (hkind : sh.kind ≤ 1) (hroot : root ∈ m.treeMembers sh)
    (hfree : (m.treeDecks root (m.treeMembers sh)).all (fun d => (m.tree d t).isNone) = true) :
    m.setTree part t root sh =
      ({ m with net := { m.net with trees := m.net.trees ++ m.newTrees part t root (m.treeMembers sh) } }, .done stOk (d4 (m.treeMembers sh).length)) := by
  have hset : ¬ ((m.treeDecks root (m.treeMembers sh)).any (fun d => (m.tree d t).isSome)) = true := by
    simpa using hfree
  unfold Module.setTree
  dsimp only
  rw [if_neg (by omega), if_neg (by simp only [Module.mem_units_of_treeMembers hroot, hroot]; simp), if_neg hset]
  rfl

theorem whenLive_of_live {n : Nat} {m : Module} (h : m.partLive n = true) (r : Module × Answer) : whenLive n m r = r := if_pos h

/-- What setting a tree reads of the module is not what the translations change. -/
theorem Module.setTree_engineLooked {m : Module} (vas : List Nat) {part t root : Nat} {sh : Shard} (hkind : sh.kind ≤ 1)
    (hroot : root ∈ m.treeMembers sh) (hfree : (m.treeDecks root (m.treeMembers sh)).all (fun d => (m.tree d t).isNone) = true) :
    ∃ x, (m.engineLooked part vas).setTree part t root sh = (x, .done stOk (d4 (m.treeMembers sh).length)) ∧ x.cmdSide = m.cmdSide ∧
      x.net.trees = m.net.trees ++ m.newTrees part t root (m.treeMembers sh) := by
  obtain ⟨f, tl, p, hlooked⟩ := m.engineLooked_eq part vas
  rw [hlooked]
  exact ⟨_, Module.setTree_of_free (m := { m with free := f, tlb := tl, parts := p }) hkind hroot hfree, rfl, rfl⟩

/-- The trees of one partition with one identifier taken away at every deck, each discarded at its root (R328). -/
def Module.treesFreed (m : Module) (part id : Nat) : Module := { m with net :=
  { (m.treesOf part id).foldl (fun a y => a.discard y.2.2.root id) m.net with
    trees := ((m.treesOf part id).foldl (fun a y => a.discard y.2.2.root id) m.net).trees.filter
      (fun y => !(y.2.1 == id && y.2.2.part == part)) } }

/-- Settles O23: each body in the state the statement asks for. -/
theorem workCommands : Obligations.WorkCommands := by
  refine ⟨fun s c hacc hlive hnone => ?ended, fun s c hacc hlive hsome => ?cancel, fun s c sh hacc hlive hstill hop hshard hkind hroot hfree => ?tree,
    fun s c hacc hlive hop hidle => ?free, fun s c i o hacc hlive hstill hshards hcoll hfree => ?collective, fun s c hacc hrows hscope hlive hown => ?bankop⟩
  case ended =>
    refine ⟨_, onCmd_of_accepted hacc (doWorkCancel c), runCmd_done_id (.workCancel c) hacc fun k q => ?_⟩
    have hnone' : (s.m.during k q).cancelTargets c = [] := hnone _
    unfold bodyWorkCancel
    dsimp only
    rw [hnone', whenLive_of_live (m := s.m.during k q) hlive]
  case cancel =>
    obtain ⟨k, q, hact, hrun⟩ := runCmd_acting (.workCancel c) (bodyWorkCancel c) hacc
    refine ⟨_, _, _, onCmd_of_accepted hacc (doWorkCancel c), hact, hrun.trans ?_⟩
    obtain ⟨t, ts, htargets⟩ := List.exists_cons_of_ne_nil (hsome { s.m.engine with nextId := k, cmds := [q] })
    have htargets' : (s.m.during k q).cancelTargets c = t :: ts := htargets
    unfold bodyWorkCancel
    dsimp only
    rw [htargets', whenLive_of_live (m := s.m.during k q) hlive]
    rfl
  case tree =>
    obtain ⟨k, q, hq, hrun⟩ := runCmd_runs (.workTree c) (bodyWorkTree c) hacc
    have hshard' : (s.m.during k q).shard (cmdPart c) (pField c 16 8) 16 = .ok sh := hshard _
    obtain ⟨x, hset, hside, htrees⟩ := Module.setTree_engineLooked (m := s.m.during k q) (part := cmdPart c) [pField c 16 8, sh.list] hkind hroot hfree
    have hmoving : ¬ (s.m.during k q).poolMoving (cmdPart c) = true := Bool.eq_false_iff.mp hstill
    have hbody : bodyWorkTree c q.id (s.m.during k q) = (x, .done stOk (d4 (s.m.treeMembers sh).length)) := by
      unfold bodyWorkTree
      dsimp only
      rw [whenLive_of_live (m := s.m.during k q) hlive, if_pos hop, if_neg hmoving, hshard']
      exact hset
    have hrun' : doWorkTree c s.m = x.finishCmd q.id (.done stOk (d4 (s.m.treeMembers sh).length)) := hrun.trans (by rw [hbody])
    refine ⟨_, onCmd_of_accepted hacc (doWorkTree c), ?_, ?_⟩
    · dsimp only
      rw [hrun']
      refine complete_answered _ hq (congrArg (fun y => y.1.cmds) hside) ?_
      exact (show x.port.cpls = s.m.port.cpls from congrArg (fun y => y.2) hside) ▸ List.prefix_refl _
    · dsimp only
      rw [hrun', Module.finishCmd_net, htrees]
      rfl
  case free =>
    have hbusy : ∀ k q, ¬ (pField c 9 1 = 1 ∧ (s.m.during k q).treeBusy (cmdPart c) (pField c 8 1) = true) := fun k q ⟨hone, h⟩ =>
      Bool.false_ne_true ((hidle hone).symm.trans h)
    have hbody : ∀ k q, bodyWorkTree c q.id (s.m.during k q) =
        ((s.m.during k q).treesFreed (cmdPart c) (pField c 8 1), .done stOk (d4 0)) := by
      intro k q
      unfold bodyWorkTree
      dsimp only
      rw [whenLive_of_live (m := s.m.during k q) hlive, if_neg hop, if_neg (hbusy k q), Module.treesFreed]
    obtain ⟨hans, k, q, hrun⟩ := runCmd_done (.workTree c) (effect := fun x => x.treesFreed (cmdPart c) (pField c 8 1)) hacc hbody (fun k q => ⟨rfl, List.prefix_refl _⟩)
    refine ⟨_, onCmd_of_accepted hacc (doWorkTree c), hans, fun x hx hboth => ?_⟩
    dsimp only at hx
    rw [doWorkTree, hrun, Module.complete_net] at hx
    have hkept := (List.mem_filter.mp hx).2
    simp [hboth.1, hboth.2] at hkept
  case collective =>
    obtain ⟨k, q, hact, hrun⟩ := runCmd_acting (.workCollective c) (bodyWorkCollective c) hacc
    obtain ⟨hi, ho, hnew⟩ := hshards { s.m.engine with nextId := k, cmds := [q] }
    obtain ⟨coll, hcoll', hroutes⟩ := hnew q.id
    have hi' : (s.m.during k q).shard (cmdPart c) (pField c 16 8) 16 = .ok i := hi
    have ho' : (s.m.during k q).shard (cmdPart c) (pField c 24 8) 24 = .ok o := ho
    have hcoll'' : (s.m.during k q).newColl c q.id i o = .ok coll := hcoll'
    have hmoving : ¬ (s.m.during k q).poolMoving (cmdPart c) = true := Bool.eq_false_iff.mp hstill
    have hlane : ¬ ((s.m.during k q).decksOf (cmdPart c)).any (fun d => ((s.m.during k q).tree d (pField c 9 1)).isSome) = true := by
      have hnone : (s.m.decksOf (cmdPart c)).any (fun d => (s.m.tree d (pField c 9 1)).isSome) = false := by simpa using hfree
      exact Bool.eq_false_iff.mp hnone
    have hreached : coll.partners.find? (fun d => ((s.m.during k q).egress d).isNone) = none := by
      refine List.find?_eq_none.mpr fun d hd => ?_
      have hegress : ((s.m.during k q).egress d).isSome = true := List.all_eq_true.mp hroutes d hd
      simp [Option.isSome_iff_ne_none.mp hegress]
    refine ⟨_, _, (s.m.during k q).collLooked c i o, _, coll, onCmd_of_accepted hacc (doWorkCollective c), hact, hcoll'', rfl, hrun.trans ?_⟩
    unfold bodyWorkCollective
    dsimp only
    rw [whenLive_of_live (m := s.m.during k q) hlive, if_neg hmoving, hi']
    dsimp only
    rw [ho']
    dsimp only
    rw [hcoll]
    dsimp only
    rw [if_neg hlane, hcoll'']
    dsimp only
    rw [hreached]
    rfl
  case bankop =>
    obtain ⟨k, q, hact, hrun⟩ := runCmd_acting (.memBankop c) (bodyBankop c) hacc
    refine ⟨_, _, _, onCmd_of_accepted hacc (doMemBankop c), hact, hrun.trans ?_⟩
    have hlive' : ¬ (!(s.m.during k q).partLive (cmdPart c)) = true := fun h => Bool.false_ne_true ((congrArg (! ·) hlive).symm.trans h)
    unfold bodyBankop
    dsimp only
    rw [if_neg (fun ⟨h3, hfn⟩ => hfn (hscope h3)), if_neg (fun ⟨h1, howner⟩ => howner (hown h1)), if_neg (by simp [hrows]), if_neg hlive']
    rfl

end Sys2Proof.Machine
end

section
/-! SUPPORT. How the issue of a descriptor ends (R133), once for all of them; the CT and SY descriptors, bank-ops of a core, and an opcode
that does not exist (R106, R126, R138 to R151, R165). -/

namespace Sys2Proof.Machine

open Sys2Proof.Safety

theorem not_bnot {b : Bool} (h : b = true) : ¬ (!b) = true := by simp [h]

/-! ## The thread that issues -/

theorem Core.updTh_th (c : Core) (t : Nat) (f : Thread → Thread) : (c.updTh t f).th t = f (c.th t) := by
  unfold Core.updTh Core.th
  split <;> simp [*]

section
variable (d : Desc) (m : Module)

/-- A change of the issuing thread. -/
theorem thOf_updTh (f : Thread → Thread) : thOf d (m.updCore d.site (fun c => c.updTh d.thread f)) = f (thOf d m) := by
  rw [thOf, Module.updCore_core, Core.updTh_th, thOf]
/-- What leaves the cores leaves the issuing thread. -/
theorem thOf_congr {x : Module} (h : x.cores = m.cores) : thOf d x = thOf d m := by
  rw [thOf, thOf, Module.core, Module.core, h]
theorem thOf_launched (cls : Nat) (bytes : List Byte) (done : Bool) : (thOf d (launched d cls bytes done m)).pc = (thOf d m).pc := by
  rw [launched, Module.launch, thOf_updTh]
theorem setReg_pc (t : Thread) (x : Nat) (v : Word) : (t.setReg x v).pc = t.pc := by
  unfold Thread.setReg; split <;> rfl
theorem thOf_setX (x : Nat) (v : Word) : (thOf d (m.setX d.site d.thread x v)).pc = (thOf d m).pc := by
  rw [Module.setX, thOf_updTh, setReg_pc]

end

/-! ## The ends of an issue (R133) -/

section
variable {d : Desc} {s : State} {op : Nat} {f : Body}

theorem onDesc_of_issuable (h : issuable op d s.m) : onDesc d op f s = .next { s with m := s.m.issue d.site d.thread d.bytes f } := by
  obtain ⟨hwf, hop, hmay⟩ := h
  rw [onDesc, onModule_of _ _ (by simp [hwf, hop]), doIssue, if_pos hmay]

theorem issues_next {x : Module} (h : issuable op d s.m) (hbody : f s.m d.site d.thread d.bytes = .next x)
    (hpc : (thOf d x).pc = (thOf d s.m).pc) : ∃ t, onDesc d op f s = .next t ∧ goesOn d x t := by
  refine ⟨_, onDesc_of_issuable h, ?_⟩
  rw [goesOn, hpc]
  simp only [Module.issue, hbody]
  rw [show ((x.core d.site).th d.thread).pc = (thOf d s.m).pc from hpc]
  rfl
theorem issues_goto {x : Module} {a : Nat} (h : issuable op d s.m) (hbody : f s.m d.site d.thread d.bytes = .goto x a) :
    ∃ t, onDesc d op f s = .next t ∧ jumps d x a t :=
  ⟨_, onDesc_of_issuable h, by simp only [jumps, Module.issue, hbody]⟩
theorem issues_waits (h : issuable op d s.m) (hbody : f s.m d.site d.thread d.bytes = .waits s.m) :
    ∃ t, onDesc d op f s = .next t ∧ waitsAtIssue d s.m t.m :=
  ⟨_, onDesc_of_issuable h, by simp only [waitsAtIssue, Module.issue, hbody]⟩
theorem issues_fault {code cause addr : Nat} (h : issuable op d s.m) (hbody : f s.m d.site d.thread d.bytes = .fault code cause addr) :
    ∃ t, onDesc d op f s = .next t ∧ faultsWith d code cause addr s.m t.m :=
  ⟨_, onDesc_of_issuable h, by simp only [faultsWith, Module.issue, hbody]; rfl⟩
theorem issues_over {x : Module} (h : issuable op d s.m) (hbody : f s.m d.site d.thread d.bytes = .over x) :
    ∃ t, onDesc d op f s = .next t ∧ t.m = x :=
  ⟨_, onDesc_of_issuable h, by simp only [Module.issue, hbody]⟩
theorem issues_stall (h : issuable op d s.m) (hbody : f s.m d.site d.thread d.bytes = .stall) : onDesc d op f s = .next s := by
  rw [onDesc_of_issuable h]
  simp only [Module.issue, hbody]

end

/-- A transfer of control to a program address (R141). -/
theorem Module.transfer_of_ok {m : Module} {site t a : Nat} (h : (m.core site).programOk site a = true) :
    m.transfer site t a = .goto (m.updCore site (fun c => c.updTh t (fun x => { x with stack := leaveLoops a x.stack }))) a :=
  if_neg (by simp [h])

/-- The entry a CT.LOOP at `pc` pushes (R142). -/
def loopFrame (d : Desc) (pc : Nat) : Frame :=
  .loop (pc + 32) (pc + 32 + 32 * getLe d.bytes 1 1) (getLe d.bytes 4 4)
    [(getLe d.bytes 2 1 % 8, getLe d.bytes 8 8), (getLe d.bytes 2 1 / 16 % 8, getLe d.bytes 16 8)]
/-- A loop whose fields and body are in order (R139, R141, R142). -/
theorem bodyCtLoop_of_wellFormed {m : Module} {d : Desc}
    (hfits : fits d.bytes [(1, 0xFF), (2, 0x77), (4, 0xFFFFFFFF), (8, 2 ^ 64 - 1), (16, 2 ^ 64 - 1)] = true) (hbody : getLe d.bytes 1 1 ≠ 0)
    (hinc : ¬ (getLe d.bytes 2 1 / 16 % 8 = 0 ∧ getLe d.bytes 16 8 ≠ 0))
    (hstops : ∀ i < getLe d.bytes 1 1 - 1, getLe (m.peek d.site d.thread (thOf d m).pc (i + 1)) 0 1 ∉ [0x01, 0x04, 0x06]) :
    bodyCtLoop m d.site d.thread d.bytes =
      if getLe d.bytes 4 4 = 0 then
        .next (m.updCore d.site (fun c => c.updTh d.thread (fun x => { x with pc := x.pc + 32 * getLe d.bytes 1 1 })))
      else if 8 ≤ (thOf d m).stack.length then .fault 0x06 0 0
      else .next (m.updCore d.site (fun c => c.updTh d.thread (fun x => { x with stack := loopFrame d (thOf d m).pc :: x.stack }))) := by
  unfold bodyCtLoop
  refine (if_neg ?fields).trans (if_neg ?inside)
  case fields => exact fun hbad => hbad.elim (not_bnot hfits) fun h => h.elim hbody hinc
  case inside =>
    intro hany
    obtain ⟨i, hi, hstop⟩ := List.any_eq_true.mp hany
    have hclean := hstops i (List.mem_range.mp hi)
    simp only [List.mem_cons, List.not_mem_nil, or_false, not_or, thOf] at hclean
    obtain ⟨h1, h4, h6⟩ := hclean
    simp [h1, h4, h6] at hstop

/-- A branch whose fields are in order takes its transfer or goes on (R140). -/
theorem bodyCtBranch_of_wellFormed {m : Module} {d : Desc} (hcond : getLe d.bytes 1 1 ≤ 7)
    (hfits : fits d.bytes [(1, 0xFF),
      (2, if 1 ≤ getLe d.bytes 1 1 ∧ getLe d.bytes 1 1 ≤ 4 then 7 else if getLe d.bytes 1 1 = 5 ∨ getLe d.bytes 1 1 = 6 then 15 else 0),
      (4, 0xFFFFFFFF), (8, if 1 ≤ getLe d.bytes 1 1 ∧ getLe d.bytes 1 1 ≤ 4 then 2 ^ 64 - 1
        else if getLe d.bytes 1 1 = 5 ∨ getLe d.bytes 1 1 = 6 then 2 ^ 32 - 1 else 0)] = true)
    (howns : getLe d.bytes 1 1 = 5 ∨ getLe d.bytes 1 1 = 6 → (m.core d.site).owns d.thread (getLe d.bytes 2 1 % 16) = true) :
    bodyCtBranch m d.site d.thread d.bytes =
      if branchTaken (m.core d.site) (thOf d m) (getLe d.bytes 1 1) (getLe d.bytes 2 1) (getLe d.bytes 8 8) then
        m.transfer d.site d.thread (((thOf d m).pc + 2 ^ 64 + 32 * getLe d.bytes 4 4 -
          (if 2 ^ 31 ≤ getLe d.bytes 4 4 then 32 * 2 ^ 32 else 0)) % 2 ^ 64)
      else .next m := by
  unfold bodyCtBranch
  refine (if_neg ?fields).trans (if_neg ?counter)
  case fields => exact fun hbad => hbad.elim (Nat.not_lt.mpr hcond) (not_bnot hfits)
  case counter => exact fun ⟨hkind, hother⟩ => not_bnot (howns hkind) hother

/-- Settles O31: each body under the conditions the statement names, and the way its issue ends. -/
theorem controlDescriptors : Obligations.ControlDescriptors := by
  refine ⟨fun s d h hfits => ?nop, fun s d h hfits => ?nopBad, fun s d h hfits hflight => ?finish, fun s d h hfits hflight => ?endWaits,
    fun s d h hfits hbody hinc hstops => ⟨fun hcount => ?loopSkips, fun hcount hdeep => ?loopDeep, fun hcount hroom => ?loop⟩,
    fun s d h hcond hfits howns => ⟨fun htaken hok => ?taken, fun hnot => ?notTaken⟩,
    fun s d h hfits hok => ?jump, fun s d h hfits hroom hok => ?call, fun s d ret rest h hfits hpop => ?ret, fun s d h hfits hpop => ?retEmpty,
    fun s d h hfits hsrc => ?setImmediate, fun s d h hfits hsrc => ?setInfo, fun s d h hfits hsrc howns => ?setCounter,
    fun s d h hfits => ?addreg, fun s d it p h hfits hitem hpacket => ?post⟩
  case nop => exact issues_next h (if_pos hfits) rfl
  case nopBad => exact issues_fault h (if_neg (Bool.eq_false_iff.mp hfits))
  case finish => exact issues_over h ((if_neg (not_bnot hfits)).trans (if_neg (not_bnot (List.isEmpty_iff.mpr hflight))))
  case endWaits =>
    have hbusy : (!(thOf d s.m).flight.isEmpty) = true := by simp [hflight]
    exact issues_waits h ((if_neg (not_bnot hfits)).trans (if_pos hbusy))
  case loopSkips =>
    refine ⟨_, onDesc_of_issuable h, ?_⟩
    simp only [Module.issue, bodyCtLoop_of_wellFormed hfits hbody hinc hstops, if_pos hcount]
    have hpc := thOf_updTh d s.m (fun x => { x with pc := x.pc + 32 * getLe d.bytes 1 1 })
    rw [thOf] at hpc
    rw [hpc]
    rfl
  case loopDeep => exact issues_fault h ((bodyCtLoop_of_wellFormed hfits hbody hinc hstops).trans ((if_neg hcount).trans (if_pos hdeep)))
  case loop =>
    exact issues_next h ((bodyCtLoop_of_wellFormed hfits hbody hinc hstops).trans ((if_neg hcount).trans (if_neg (Nat.not_le.mpr hroom))))
      (congrArg Thread.pc (thOf_updTh d s.m fun x => { x with stack := loopFrame d (thOf d s.m).pc :: x.stack }) :)
  case taken => exact issues_goto h ((bodyCtBranch_of_wellFormed hcond hfits howns).trans ((if_pos htaken).trans (Module.transfer_of_ok hok)))
  case notTaken => exact issues_next h ((bodyCtBranch_of_wellFormed hcond hfits howns).trans (if_neg (Bool.eq_false_iff.mp hnot))) rfl
  case jump => exact issues_goto h ((if_neg (not_bnot hfits)).trans (Module.transfer_of_ok hok))
  case call => exact issues_goto h ((if_neg (not_bnot hfits)).trans ((if_neg (not_bnot hok)).trans (if_neg (Nat.not_le.mpr hroom))))
  case ret =>
    refine issues_goto h ((if_neg (not_bnot hfits)).trans ?_)
    rw [show popCall ((s.m.core d.site).th d.thread).stack = some (ret, rest) from hpop]
    rfl
  case retEmpty =>
    refine issues_fault h ((if_neg (not_bnot hfits)).trans ?_)
    rw [show popCall ((s.m.core d.site).th d.thread).stack = none from hpop]
  case setImmediate =>
    refine issues_next h ?_ (thOf_setX d s.m _ _)
    unfold bodyCtSetreg
    dsimp only
    rw [hsrc, if_neg (fun hbad => hbad.elim (by omega) (not_bnot hfits)), if_neg (fun hbad => by omega)]
    rfl
  case setInfo =>
    refine issues_next h ?_ (thOf_setX d s.m _ _)
    unfold bodyCtSetreg
    dsimp only
    rcases hsrc with hsrc | hsrc
    · rw [hsrc, if_neg (fun hbad => hbad.elim (by omega) (not_bnot hfits)), if_neg (fun hbad => by omega)]
      rfl
    · rw [hsrc, if_neg (fun hbad => hbad.elim (by omega) (not_bnot hfits)), if_neg (fun hbad => by omega)]
      rfl
  case setCounter =>
    refine issues_next h ?_ (thOf_setX d s.m _ _)
    unfold bodyCtSetreg
    dsimp only
    rw [hsrc, if_neg (fun hbad => hbad.elim (by omega) (not_bnot hfits)), if_neg (fun ⟨_, hother⟩ => not_bnot howns hother)]
    rfl
  case addreg => exact issues_next h (if_neg (not_bnot hfits)) (thOf_setX d s.m _ _)
  case post =>
    refine issues_next h ((if_neg (not_bnot hfits)).trans ?_) ?_
    · rw [show ((s.m.core d.site).th d.thread).item = some it from hitem]
      dsimp only
      rw [hpacket]
      dsimp only
      split <;> rfl
    · refine congrArg Thread.pc (thOf_congr d s.m ?_)
      split <;> rfl

/-! ## SY and BK (R106, R126, R144 to R150) -/

/-- A signal to an enabled core of the partition leaves as a packet (R150). -/
theorem Module.signalTo_of_own {m : Module} {site t target n inc : Nat} (hsite : target < Config.sites) (hown : m.ownerOf target = m.ownerOf site)
    (hcore : (m.core target).enabled = true) :
    ∃ p : NetPkt, m.signalTo site t target n inc = .next (m.inject p) ∧ p.kind = pkSignal ∧ p.src = site ∧ p.dst = target ∧ p.counter = n ∧
      p.data = leBytes 4 inc := by
  refine ⟨_, (if_neg ?_).trans (if_neg (not_bnot hcore)), rfl, rfl, rfl, rfl, rfl⟩
  exact fun hbad => hbad.elim (Nat.not_le.mpr hsite) fun h => h hown

theorem Module.wakeSlice_cores (m : Module) (c : Nat) : (m.wakeSlice c).cores = m.cores := by
  unfold Module.wakeSlice; split <;> rfl
theorem Module.enqueue_cores (m : Module) (id : Nat) (ts : List Nat) : (m.enqueue id ts).cores = m.cores := by
  unfold Module.enqueue
  refine foldl_field (fun x => x.cores) _ ?_ ts m
  intro acc s
  exact Module.wakeSlice_cores _ (clusterOf s)
/-- Issuing a bank-op leaves the cores as they are (R106). -/
theorem Module.issueBank_cores (m : Module) (part issuer : Nat) (core : Option (Nat × Nat × Nat)) (cmd : Option Nat) (record : List Byte)
    (target holdLimit : Nat) : (m.issueBank part issuer core cmd record target holdLimit).cores = m.cores := by
  unfold Module.issueBank
  extract_lets scope ts id halt decks b mem m1 home behind direct put
  split
  · rfl
  · split
    · exact m1.enqueue_cores id ts
    · rfl

/-- A bank-op of a core that finds a place in its queue (R106, R126). -/
theorem bodyBank_of_room {m : Module} {d : Desc} (hrecord : recordBad d.bytes = none) (hscope : (bkRec d.bytes).scope ≠ 3)
    (hevent : (m.core d.site).eventBad d.thread d.bytes = none) (hrows : rowsBad d.bytes = false)
    (hroom : m.undelivered d.site d.thread < (if (m.core d.site).split then 1 else 2))
    (hown : (bkRec d.bytes).scope = 0 → (m.slice d.site).bankSeqs.length < 8 ∧
      m.behindBroadcast (d.site * 65536 + (match (thOf d m).item with | some it => it.ctx | none => 0)) d.site = false) :
    bodyBank m d.site d.thread d.bytes = .next ((launched d 4 d.bytes false m).issueBank (m.ownerOf d.site)
      (d.site * 65536 + (match (thOf d m).item with | some it => it.ctx | none => 0)) (some (d.site, d.thread, (thOf d m).nextId))
      none d.bytes (if (bkRec d.bytes).scope = 0 then d.site else clusterOf d.site) 10) := by
  unfold bodyBank
  dsimp only
  rw [hrecord]
  dsimp only
  rw [if_neg hscope, hevent]
  dsimp only
  rw [if_neg (by simp [hrows]), if_neg]
  · rfl
  · rintro (hfull | ⟨hslice, hlong | hbehind⟩)
    · exact absurd hroom (Nat.not_lt.mpr hfull)
    · exact absurd (hown hslice).1 (Nat.not_lt.mpr hlong)
    · exact Bool.false_ne_true ((hown hslice).2.symm.trans hbehind)

/-- Settles O32: each body under the conditions the statement names, and the way its issue ends. -/
theorem syncAndBankDescriptors : Obligations.SyncAndBankDescriptors := by
  refine ⟨fun s d h hfits howns => ?wait, fun s d h hfits howns => ?waitAlien, fun s d h hfits hlocal hinc howns hdrained => ?signal,
    fun s d h hfits hremote hinc hdrained hsite hown hcore => ?remote, fun s d h hfits => ?fence, fun s d h hfits howns => ?set,
    fun s d op i hop h hrecord hscope hevent hrows hroom hown => ?bank, fun s d hwf hlisted hmay => ?unlisted⟩
  case wait =>
    have hbody : bodySyWait s.m d.site d.thread d.bytes =
        if seqGe (SMap.get 0 (s.m.core d.site).counters (getLe d.bytes 4 1)) (getLe d.bytes 8 4) then .next s.m else .waits s.m :=
      (if_neg (not_bnot hfits)).trans (if_neg (not_bnot howns))
    split
    case isTrue hreached => exact issues_next h (hbody.trans (if_pos hreached)) rfl
    case isFalse hbehind => exact issues_waits h (hbody.trans (if_neg hbehind))
  case waitAlien =>
    have halien : (!(s.m.core d.site).owns d.thread (getLe d.bytes 4 1)) = true := by simp [howns]
    exact issues_fault h ((if_neg (not_bnot hfits)).trans (if_pos halien))
  case signal =>
    refine issues_next h ?_ ?_
    · unfold bodySySignal
      dsimp only
      rw [hlocal, if_neg (fun hbad => hbad.elim (not_bnot hfits) hinc), if_neg (fun hbad => not_bnot howns hbad.2),
        if_neg (fun ⟨hlate, hbusy⟩ => not_bnot (List.isEmpty_iff.mpr (hdrained hlate)) hbusy)]
      rfl
    · rw [thOf, Module.updCore_core]; rfl
  case remote =>
    obtain ⟨p, hsent, hkind, hsrc, hdst, hcounter, hdata⟩ := Module.signalTo_of_own (t := d.thread) (n := getLe d.bytes 4 1)
      (inc := getLe d.bytes 8 4) hsite hown hcore
    have hbody : bodySySignal s.m d.site d.thread d.bytes = .next (s.m.inject p) := by
      unfold bodySySignal
      dsimp only
      rw [hremote, if_neg (fun hbad => hbad.elim (not_bnot hfits) hinc), if_neg (fun hbad => by simp at hbad),
        if_neg (fun ⟨hlate, hbusy⟩ => not_bnot (List.isEmpty_iff.mpr (hdrained hlate)) hbusy)]
      exact hsent
    obtain ⟨t, hexec, hgoes⟩ := issues_next h hbody rfl
    exact ⟨t, p, hexec, hgoes, hkind, hsrc, hdst, hcounter, hdata⟩
  case fence =>
    split
    case isTrue hbusy => exact issues_waits h ((if_neg (not_bnot hfits)).trans (if_pos hbusy))
    case isFalse hidle => exact issues_next h ((if_neg (not_bnot hfits)).trans (if_neg hidle)) rfl
  case set =>
    refine issues_next h ((if_neg (not_bnot hfits)).trans (if_neg (not_bnot howns))) ?_
    rw [thOf, Module.updCore_core]
    rfl
  case bank =>
    have hissues : ∃ t, onDesc d op bodyBank s = .next t ∧
        goesOn d ((launched d 4 d.bytes false s.m).issueBank (s.m.ownerOf d.site)
          (d.site * 65536 + (match (thOf d s.m).item with | some it => it.ctx | none => 0)) (some (d.site, d.thread, (thOf d s.m).nextId))
          none d.bytes (if (bkRec d.bytes).scope = 0 then d.site else clusterOf d.site) 10) t := by
      refine issues_next h (bodyBank_of_room hrecord hscope hevent hrows hroom hown) ?_
      exact (congrArg Thread.pc (thOf_congr d _ (Module.issueBank_cores _ _ _ _ _ _ _ _))).trans (thOf_launched d s.m 4 d.bytes false)
    simp only [List.mem_cons, Prod.mk.injEq, List.not_mem_nil, or_false] at hop
    rcases hop with ⟨rfl, rfl⟩ | ⟨rfl, rfl⟩
    · exact hissues
    · exact hissues
  case unlisted =>
    refine ⟨_, onModule_of _ _ (by simp [hwf, hlisted]), ?_⟩
    rw [doInvalidOpcode, doIssue, if_pos hmay]
    rfl

end Sys2Proof.Machine
end

section
/-! SUPPORT. Descriptors of the engines (R133, R152 to R158, R208, R240, R241, R310): STR, KH, MX, VX and NR. -/

namespace Sys2Proof.Machine

open Sys2Proof.Safety

/-! ## What the engines' queues leave of the issuing thread -/

theorem engine_of_ok {ok : Bool} {c : Core} {t : Nat} {bs : List Byte} {f : Issued} (hok : ok = true) (hevent : c.eventBad t bs = none) :
    engine ok c t bs f = f := by
  rw [engine, if_neg (not_bnot hok), hevent]

/-- A change of the issuing core that leaves its threads. -/
theorem thOf_updCore (d : Desc) (m : Module) {f : Core → Core} (hf : ∀ c : Core, (f c).th d.thread = c.th d.thread) :
    thOf d (m.updCore d.site f) = thOf d m := by
  rw [thOf, Module.updCore_core, hf, thOf]
theorem Core.updHalf_th (c : Core) (h t : Nat) (f : ArrayHalf → ArrayHalf) : (c.updHalf h f).th t = c.th t := by
  unfold Core.updHalf; split <;> rfl
theorem thOf_updFlight (d : Desc) (m : Module) (id : Nat) (f : InFlight → InFlight) :
    (thOf d (m.updFlight d.site d.thread id f)).pc = (thOf d m).pc := by
  rw [Module.updFlight, thOf_updTh]

/-- What one change of a thread does to the threads of its core. -/
theorem Core.updTh_pc (c : Core) (t k : Nat) (f : Thread → Thread) (hf : ∀ x : Thread, (f x).pc = x.pc) :
    ((c.updTh t f).th k).pc = (c.th k).pc := by
  unfold Core.updTh Core.th
  split <;> split <;> simp [hf]
theorem thOf_dropStream (d : Desc) (m : Module) (slot : Nat) : (thOf d (m.dropStream d.site slot)).pc = (thOf d m).pc := by
  unfold Module.dropStream
  split
  · rfl
  · rw [thOf, Module.updCore_core]
    exact Core.updTh_pc _ _ _ _ fun _ => rfl

/-! ## STR and KH -/

/-- The stream a LOAD or STORE begins (R247). -/
def newStream (d : Desc) (m : Module) : Stream :=
  { desc := d.bytes, thread := d.thread, id := (thOf d m).nextId, base := addReg (thOf d m) (getLe d.bytes 4 6) (getLe d.bytes 1 1 / 32),
    off := addReg (thOf d m) (getLe d.bytes 10 3) (getLe d.bytes 2 1 / 64) }
/-- A LOAD or STORE whose fields, slot and addresses are in order (R152, R247). -/
theorem bodyStr_of_wellFormed {m : Module} {d : Desc} (hok : strOk d.bytes = true) (hevent : (m.core d.site).eventBad d.thread d.bytes = none)
    (hslot : (m.core d.site).split = true → stSlot d.bytes / 8 = d.thread)
    (hlow : 0 ≤ stLowest d.bytes (addReg (thOf d m) (getLe d.bytes 4 6) (getLe d.bytes 1 1 / 32)))
    (hhigh : stHighest d.bytes (addReg (thOf d m) (getLe d.bytes 4 6) (getLe d.bytes 1 1 / 32)) < 2 ^ 48)
    (hpad : stFeed d.bytes = false →
      (padWin (m.core d.site).split (addReg (thOf d m) (getLe d.bytes 10 3) (getLe d.bytes 2 1 / 64)) (stTotal d.bytes)).isSome = true)
    (htarget : stPads d.bytes = true → m.stTarget d.site (stLoad d.bytes)
      (stLowest d.bytes (addReg (thOf d m) (getLe d.bytes 4 6) (getLe d.bytes 1 1 / 32))).toNat
      (stHighest d.bytes (addReg (thOf d m) (getLe d.bytes 4 6) (getLe d.bytes 1 1 / 32))).toNat = true) :
    bodyStr m d.site d.thread d.bytes =
      if ((m.core d.site).stream (stSlot d.bytes)).isSome then .stall
      else .next ((launched d 0 d.bytes false m).updCore d.site (fun c =>
        { c with streams := SMap.set {} c.streams (stSlot d.bytes) (newStream d m) })) := by
  refine (engine_of_ok hok hevent).trans ((if_neg ?slot).trans ((if_neg ?reach).trans ((if_neg ?pad).trans (if_neg ?target))))
  case slot => exact fun ⟨hsplit, hother⟩ => hother (hslot hsplit)
  case reach => exact fun hbad => hbad.elim (Int.not_lt.mpr hlow) (Int.not_le.mpr hhigh)
  case pad =>
    rintro ⟨hfeed, hnone⟩
    have hsome := hpad (by simpa using hfeed)
    rw [Option.isNone_iff_eq_none] at hnone
    exact Bool.false_ne_true ((congrArg Option.isSome hnone).symm.trans hsome)
  case target => exact fun ⟨hpads, hbad⟩ => not_bnot (htarget hpads) hbad

/-- The state in which a CANCEL has marked the stream `q` of its slot (R152). -/
def cancelled (d : Desc) (q : Stream) (m : Module) : Module :=
  ((launched d 0 d.bytes false m).updFlight d.site d.thread (thOf d m).nextId (fun f => { f with next := q.id + 1 })).updCore d.site
    (fun c => { c with streams := SMap.upd {} c.streams (stSlot d.bytes) (fun q => { q with
      cancelled := true, feed := [], pieces := q.pieces.filter (fun p => p.data.isNone) }) })
theorem thOf_cancelled (d : Desc) (q : Stream) (m : Module) : (thOf d (cancelled d q m)).pc = (thOf d m).pc := by
  rw [cancelled, thOf_updCore d _ (by intro c; rfl), thOf_updFlight, thOf_launched]

/-- A KH descriptor whose fields and addresses are in order (R153, R240, R241). -/
theorem bodyKh_of_wellFormed {m : Module} {d : Desc} (hok : khOk d.bytes = true) (hevent : (m.core d.site).eventBad d.thread d.bytes = none)
    (hbase : addReg (thOf d m) (getLe d.bytes 4 6) (getLe d.bytes 1 1 % 8) < 2 ^ 48 ∧
      addReg (thOf d m) (getLe d.bytes 4 6) (getLe d.bytes 1 1 % 8) % 64 = 0)
    (hoff : padOk (m.core d.site).split (addReg (thOf d m) (getLe d.bytes 10 3) (getLe d.bytes 1 1 / 16 % 8)) = true ∧
      addReg (thOf d m) (getLe d.bytes 10 3) (getLe d.bytes 1 1 / 16 % 8) % 64 = 0)
    (hlist : khList d.bytes = true → padOk (m.core d.site).split (getLe d.bytes 16 3) = true ∧ getLe d.bytes 16 3 % 4 = 0) :
    bodyKh m d.site d.thread d.bytes =
      if (if (m.core d.site).split then 2 else 4) ≤ (thOf d m).inClass 1 then .stall
      else .next (launched d 1 (putField (putField (putField d.bytes 4 6 (addReg (thOf d m) (getLe d.bytes 4 6) (getLe d.bytes 1 1 % 8)))
        10 3 (addReg (thOf d m) (getLe d.bytes 10 3) (getLe d.bytes 1 1 / 16 % 8))) 1 1 0) false m) := by
  refine (engine_of_ok hok hevent).trans ((if_neg ?base).trans ((if_neg ?off).trans (if_neg ?list)))
  case base => exact fun hbad => hbad.elim (Nat.not_le.mpr hbase.1) fun h => h hbase.2
  case off => exact fun hbad => hbad.elim (not_bnot hoff.1) fun h => h hoff.2
  case list =>
    rintro ⟨hlisted, hbad⟩
    exact hbad.elim (not_bnot (hlist hlisted).1) fun h => h (hlist hlisted).2

/-- Settles O33: the bodies of STR and KH under the statement's conditions, one for each pair of opcodes or four. -/
theorem streamDescriptors : Obligations.StreamDescriptors := by
  refine ⟨fun s d op i hop h hok hevent hslot hlow hhigh hpad htarget => ?str, fun s d h hfits hevent hslot hidle => ?cancelIdle,
    fun s d q h hfits hevent hslot hbusy => ?cancelBusy, fun s d op i hop h hok hevent hlt hal hin hoffal hlist => ?kh⟩
  case str =>
    have hbody := bodyStr_of_wellFormed hok hevent hslot hlow hhigh hpad htarget
    have hissues : exec i s = onDesc d op bodyStr s := by
      simp only [List.mem_cons, Prod.mk.injEq, List.not_mem_nil, or_false] at hop
      rcases hop with ⟨rfl, rfl⟩ | ⟨rfl, rfl⟩ <;> rfl
    rw [hissues]
    refine ⟨fun hfree => ?free, fun hbusy => issues_stall h (hbody.trans (if_pos hbusy))⟩
    case free =>
      refine issues_next h (hbody.trans (if_neg (by rw [hfree]; exact Bool.false_ne_true))) ?_
      rw [thOf_updCore d _ (by intro c; rfl), thOf_launched]
  case cancelIdle =>
    refine issues_next h ((engine_of_ok hfits hevent).trans ((if_neg fun ⟨hsplit, hother⟩ => hother (hslot hsplit)).trans ?_))
      (thOf_launched d s.m 0 d.bytes false)
    rw [hidle]
    rfl
  case cancelBusy =>
    suffices hissue : ∃ t, exec (.strCancel d) s = .next t ∧ goesOn d (if q.pieces.all (fun p => p.data.isSome) then
        (cancelled d q s.m).dropStream d.site (stSlot d.bytes) else cancelled d q s.m) t by
      obtain ⟨t, hexec, hgoes⟩ := hissue
      exact ⟨t, _, hexec, rfl, hgoes⟩
    refine issues_next h ((engine_of_ok hfits hevent).trans ((if_neg fun ⟨hsplit, hother⟩ => hother (hslot hsplit)).trans ?_)) ?pc
    · rw [hbusy]
      rfl
    case pc =>
      split
      · exact (thOf_dropStream d _ _).trans (thOf_cancelled d q s.m)
      · exact thOf_cancelled d q s.m
  case kh =>
    have hbody := bodyKh_of_wellFormed hok hevent ⟨hlt, hal⟩ ⟨hin, hoffal⟩ hlist
    have hissues : exec i s = onDesc d op bodyKh s := by
      simp only [List.mem_cons, Prod.mk.injEq, List.not_mem_nil, or_false] at hop
      rcases hop with ⟨rfl, rfl⟩ | ⟨rfl, rfl⟩ | ⟨rfl, rfl⟩ | ⟨rfl, rfl⟩ <;> rfl
    rw [hissues]
    exact ⟨fun hroom => issues_next h (hbody.trans (if_neg (Nat.not_le.mpr hroom))) (thOf_launched d s.m _ _ _),
      fun hfull => issues_stall h (hbody.trans (if_pos hfull))⟩

/-! ## MX and VX -/

/-- An MX descriptor that joins a queue of its half, or stalls (R133, R154). -/
theorem issues_enqueueMx {d : Desc} {s : State} {op : Nat} {f : Body} {bs : List Byte} {depth : Nat}
    {queue : ArrayHalf → List (Nat × List Byte)} {put : ArrayHalf → List (Nat × List Byte) → ArrayHalf} (h : issuable op d s.m)
    (hbody : f s.m d.site d.thread d.bytes = s.m.enqueueMx d.site d.thread bs depth queue put) (hsplit : (thOf d s.m).splitting = false) :
    ((queue ((s.m.core d.site).half ((s.m.core d.site).mxHalf d.thread))).length < depth →
      ∃ t, onDesc d op f s = .next t ∧ goesOn d ((launched d 2 bs false s.m).updCore d.site (fun c =>
        c.updHalf ((s.m.core d.site).mxHalf d.thread) (fun a => put a (queue a ++ [((thOf d s.m).nextId, bs)])))) t) ∧
    (depth ≤ (queue ((s.m.core d.site).half ((s.m.core d.site).mxHalf d.thread))).length → onDesc d op f s = .next s) := by
  have hsplit' : ¬ ((s.m.core d.site).th d.thread).splitting = true := Bool.eq_false_iff.mp hsplit
  refine ⟨fun hroom => ?room, fun hfull => issues_stall h (hbody.trans (if_pos (.inr hfull)))⟩
  refine issues_next h (hbody.trans (if_neg fun hbad => hbad.elim hsplit' (Nat.not_le.mpr hroom))) ?_
  rw [thOf_updCore d _ fun c => Core.updHalf_th c _ _ _, thOf_launched]

/-- The sources of a VX descriptor whose addresses are in order (R208). -/
theorem bodyVx_of_wellFormed {m : Module} {d : Desc} (hok : vxOk d.bytes = true) (hal : vxAligned (thOf d m) d.bytes = true)
    (hevent : (m.core d.site).eventBad d.thread d.bytes = none)
    (hin : ∀ o ∈ 4 :: vxSources d.bytes, padOk (m.core d.site).split (vxAddr (thOf d m) d.bytes o) = true) :
    bodyVx m d.site d.thread d.bytes =
      if 4 ≤ (m.core d.site).t0.inClass 3 + (m.core d.site).t1.inClass 3 ∨ ((m.core d.site).split ∧ 2 ≤ (thOf d m).inClass 3) then .stall
      else .next (launched d 3 (putField ((4 :: vxSources d.bytes).foldl (fun acc o => putField acc o 3 (vxAddr (thOf d m) d.bytes o))
        d.bytes) 29 1 0) false m) := by
  have hnone : ((4 :: vxSources d.bytes).map (vxAddr (thOf d m) d.bytes)).find? (fun a => !padOk (m.core d.site).split a) = none := by
    refine List.find?_eq_none.mpr fun a ha => ?_
    obtain ⟨o, ho, rfl⟩ := List.mem_map.mp ha
    exact not_bnot (hin o ho)
  refine (engine_of_ok ?_ hevent).trans ?_
  · rw [show vxAligned ((m.core d.site).th d.thread) d.bytes = true from hal, hok]; rfl
  · rw [show ((4 :: vxSources d.bytes).map (vxAddr ((m.core d.site).th d.thread) d.bytes)).find? (fun a => !padOk (m.core d.site).split a) =
      none from hnone]
    rfl

/-- Settles O34: every MX opcode that queues ends in `enqueueMx`; SPLIT and the VX opcodes have their own bodies. -/
theorem arrayAndVectorDescriptors : Obligations.ArrayAndVectorDescriptors := by
  refine ⟨fun s d h hok hevent hwide hoff hsplit => ?loadw, fun s d h hok hevent hwide hoff hsplit => ?run,
    fun s d h hok hevent hwide hoff hsplit => ?drain, fun s d h hok hevent hoff hsplit => ?elem, fun s d h hfits hevent hfirst hwhole hsplit => ?split,
    fun s d op i hop h hok hal hevent hin => ?vx⟩
  case loadw =>
    refine issues_enqueueMx (f := bodyMxLoadw) (queue := (·.weights)) (put := fun a q => { a with weights := q }) h ?_ hsplit
    refine (engine_of_ok hok hevent).trans ((if_neg fun ⟨hs, hw⟩ => Bool.false_ne_true ((hwide hs).symm.trans hw)).trans ?_)
    rw [show mxBadOffset (s.m.core d.site) ((s.m.core d.site).th d.thread) d.bytes (mxOffs d.bytes) = none from hoff]
    rfl
  case run =>
    refine issues_enqueueMx (f := bodyMxRun) (queue := (·.runs)) (put := fun a q => { a with runs := q }) h ?_ hsplit
    refine (engine_of_ok hok hevent).trans ((if_neg fun ⟨hs, hw⟩ => Bool.false_ne_true ((hwide hs).symm.trans hw)).trans ?_)
    rw [show mxBadOffset (s.m.core d.site) ((s.m.core d.site).th d.thread) d.bytes (mxOffs d.bytes) = none from hoff]
    rfl
  case drain =>
    refine issues_enqueueMx (f := bodyMxDrain) (queue := (·.drains)) (put := fun a q => { a with drains := q }) h ?_ hsplit
    refine (engine_of_ok hok hevent).trans ((if_neg fun ⟨hs, hw⟩ => Nat.not_le.mpr hw (hwide hs)).trans ?_)
    rw [show mxBadOffset (s.m.core d.site) ((s.m.core d.site).th d.thread) d.bytes [4] = none from hoff]
    rfl
  case elem =>
    refine issues_enqueueMx (f := bodyMxElem) (queue := (·.runs)) (put := fun a q => { a with runs := q }) h ?_ hsplit
    refine (engine_of_ok hok hevent).trans ?_
    rw [show mxBadOffset (s.m.core d.site) ((s.m.core d.site).th d.thread) d.bytes [4, 8, 12] = none from hoff]
    rfl
  case split =>
    refine issues_next h ((engine_of_ok hfits hevent).trans ((if_neg ?able).trans (if_neg (Bool.eq_false_iff.mp hsplit)))) ?pc
    case able =>
      rintro (hsecond | ⟨hjoin, hfenced⟩)
      · exact absurd (hfirst.symm.trans hsecond) (by decide)
      · obtain ⟨h0, h1⟩ := hwhole (by simpa using hjoin)
        exact hfenced.elim (Bool.eq_false_iff.mp h0) (Bool.eq_false_iff.mp h1)
    case pc => rw [thOf_updCore d _ (by intro c; rfl), thOf_launched]
  case vx =>
    have hbody := bodyVx_of_wellFormed hok hal hevent hin
    have hissues : exec i s = onDesc d op bodyVx s := by
      simp only [List.mem_cons, Prod.mk.injEq, List.not_mem_nil, or_false] at hop
      rcases hop with ⟨rfl, rfl⟩ | ⟨rfl, rfl⟩ | ⟨rfl, rfl⟩ | ⟨rfl, rfl⟩ | ⟨rfl, rfl⟩ | ⟨rfl, rfl⟩ | ⟨rfl, rfl⟩ | ⟨rfl, rfl⟩ | ⟨rfl, rfl⟩ |
        ⟨rfl, rfl⟩ | ⟨rfl, rfl⟩ | ⟨rfl, rfl⟩ <;> rfl
    rw [hissues]
    refine ⟨fun hroom => issues_next h (hbody.trans (if_neg ?_)) (thOf_launched d s.m _ _ _), fun hfull => issues_stall h (hbody.trans (if_pos ?_))⟩
    · exact fun hfull => Bool.false_ne_true (hroom.symm.trans (by simpa using hfull))
    · simpa using hfull

/-! ## The program counter across the end of an item (R163)

A transfer without a route faults its thread at issue: the fault stops the thread and leaves its program counter. -/

/-- The program counter of a thread. -/
def Module.pcOf (m : Module) (site t : Nat) : Nat := ((m.core site).th t).pc

section
variable (m : Module) (k u : Nat)

theorem Module.pcOf_congr {x : Module} (h : x.cores = m.cores) : x.pcOf k u = m.pcOf k u := by
  rw [Module.pcOf, Module.pcOf, Module.core, Module.core, h]
theorem Module.updCore_pcOf (site : Nat) (f : Core → Core) (hf : ∀ c : Core, ((f c).th u).pc = (c.th u).pc) :
    (m.updCore site f).pcOf k u = m.pcOf k u := by
  rw [Module.pcOf, Module.pcOf]
  by_cases h : k = site
  · rw [h, Module.updCore_core, hf]
  · rw [Module.updCore_core_ne _ _ h]
theorem Core.abandon_pc (c : Core) (t : Nat) : ((c.abandon t).th u).pc = (c.th u).pc := by
  have hclear : ((c.clearFetch t).th u).pc = (c.th u).pc := Core.updTh_pc c t u _ fun _ => rfl
  calc ((c.abandon t).th u).pc
      = ((((c.clearFetch t).updTh t (fun th => { th with flight := [], wait := none })).updHalf t
          (fun h => { h with weights := [], runs := [], drains := [], feeder := [] })).th u).pc := rfl
    _ = ((c.clearFetch t).th u).pc := by rw [Core.updHalf_th, Core.updTh_pc]; exact fun _ => rfl
    _ = (c.th u).pc := hclear
theorem Module.settle_pcOf (part seq : Nat) : (m.settle part seq).pcOf k u = m.pcOf k u := by
  refine m.pcOf_congr k u ?_
  unfold Module.settle Module.finishPacket
  split
  · rfl
  · split <;> simp
theorem Module.itemDone_pcOf (site thread : Nat) (it : Item) (st result : Nat) (fault : List Byte) :
    (m.itemDone site thread it st result fault).pcOf k u = m.pcOf k u := by
  rw [Module.itemDone, Module.settle_pcOf]
  rfl
theorem Module.endItem_pcOf (site t st result : Nat) (fault : List Byte) : (m.endItem site t st result fault).pcOf k u = m.pcOf k u := by
  unfold Module.endItem
  split
  · rfl
  · rw [Module.itemDone_pcOf]
    exact m.updCore_pcOf k u site _ fun c => Core.updTh_pc c t u _ fun _ => rfl
theorem Module.cancelQueued_pcOf (sel : Nat → Item → Bool) (site st : Nat) : (m.cancelQueued sel site st).pcOf k u = m.pcOf k u := by
  unfold Module.cancelQueued
  extract_lets gone m1
  refine (foldl_field (fun x : Module => x.pcOf k u) _ ?_ gone m1).trans (m.updCore_pcOf k u site _ fun _ => rfl)
  exact fun acc it => acc.itemDone_pcOf k u site it.thread it st 0 []
theorem Module.cancelAt_pcOf (sel : Nat → Item → Bool) (site st : Nat) : (m.cancelAt sel site st).pcOf k u = m.pcOf k u := by
  unfold Module.cancelAt
  extract_lets step m3 drop
  have hstep : ∀ (x : Module) (t : Nat), (step x t).pcOf k u = x.pcOf k u := by
    intro x t
    unfold step
    split
    · rfl
    · split
      · rw [Module.endItem_pcOf]
        exact x.updCore_pcOf k u site _ fun c => Core.abandon_pc u c t
      · rfl
  have hdrop : ∀ (x : Module) (t : Nat), (drop x t).pcOf k u = x.pcOf k u := by
    intro x t
    unfold drop
    split
    · split
      · rw [Module.itemDone_pcOf]
        refine x.updCore_pcOf k u site _ fun c => ?_
        unfold Core.putSaved
        split <;> rfl
      · rfl
    · rfl
  rw [hdrop, hdrop, Module.cancelQueued_pcOf, hstep, hstep]
theorem Module.fenceCore_pcOf (site st : Nat) : (m.fenceCore site st).pcOf k u = m.pcOf k u := by
  unfold Module.fenceCore
  extract_lets m1 off orphan m2
  have hoff : (m1.updCore site off).pcOf k u = m1.pcOf k u := by
    refine m1.updCore_pcOf k u site off fun c => ?_
    exact (Core.abandon_pc u (c.abandon 0) 1).trans (Core.abandon_pc u c 0)
  have hcancelled : m1.pcOf k u = m.pcOf k u := m.cancelAt_pcOf k u _ site st
  clear_value m1
  exact hoff.trans hcancelled
theorem Module.fenceMarked_pcOf (site : Nat) : (m.fenceMarked site).pcOf k u = m.pcOf k u := by
  unfold Module.fenceMarked Module.recordUnit Module.addRecord
  dsimp only
  split
  · split <;> exact m.fenceCore_pcOf k u site stFenced
  · rfl
theorem Module.threadFault_pcOf (site t code cause pc op addr fenced : Nat) :
    (m.threadFault site t code cause pc op addr fenced).pcOf k u = m.pcOf k u := by
  unfold Module.threadFault
  dsimp only
  cases ((m.core site).th t).item with
  | none => rfl
  | some it =>
    dsimp only
    rw [Module.fenceMarked_pcOf, Module.endItem_pcOf]
    refine (Module.updCore_pcOf _ k u site _ fun c => ?_).trans rfl
    rw [Core.updTh_pc _ _ _ _ (fun x => by simp only [Thread.latchFault]; split <;> rfl), Core.abandon_pc]

end

/-! ## NR -/

theorem Module.nrInject_cores (m : Module) (site t id dst : Nat) (b : List Byte) (ps : List (Nat × List Byte × List Nat)) :
    (m.nrInject site t id dst b ps).cores = m.cores := by
  unfold Module.nrInject
  refine foldl_field (fun x : Module => x.cores) _ ?_ ps m
  exact fun _ _ => rfl
theorem Module.nrCast_cores (m : Module) (site t id : Nat) (b : List Byte) (ps : List (Nat × List Byte × List Nat)) :
    (m.nrCast site t id b ps).cores = m.cores := by
  unfold Module.nrCast
  refine foldl_field (fun x : Module => x.cores) _ ?_ _ m
  intro acc deck
  dsimp only
  split
  · rfl
  · exact Module.nrInject_cores _ _ _ _ _ _ _
theorem Module.sendTo_cores (m : Module) (t : Trans) : (m.sendTo t).cores = m.cores := by
  unfold Module.sendTo Module.push Module.pump
  split
  · dsimp only
    split <;> rfl
  · rfl
theorem thOf_nrLeave (d : Desc) (m : Module) (b : List Byte) (ps : List (Nat × List Byte × List Nat)) :
    (thOf d (m.nrLeave d.site d.thread b ps)).pc = (thOf d m).pc := by
  refine Eq.trans ?_ (thOf_launched d m 5 b false)
  unfold Module.nrLeave
  extract_lets tag ts l
  split
  · split
    · exact Module.threadFault_pcOf _ d.site d.thread _ _ _ _ _ _ _ _
    · rfl
  · refine congrArg Thread.pc (thOf_congr d _ ?_)
    exact foldl_field (fun x : Module => x.cores) _ Module.sendTo_cores ts _

section
variable {m : Module} {d : Desc} {fs : List (List Byte × Bool)}

/-- The transfer in flight whose source an NR descriptor reads (R158). -/
def nrFlight (d : Desc) (m : Module) : InFlight :=
  { id := (thOf d m).nextId, cls := 5, bytes := d.bytes, pc := (thOf d m).pc, next := 0, pieces := [], done := false }

/-- An NR descriptor whose fields are in order and whose source has been read, with room in its thread (R133, R158). -/
def nrReady (d : Desc) (m : Module) (fs : List (List Byte × Bool)) : Prop :=
  m.nrBad d.site d.thread d.bytes = none ∧ (thOf d m).inClass 5 < (if (m.core d.site).split then 2 else 4) ∧
  m.nrRead d.site d.thread (nrFlight d m) (addReg (thOf d m) (nrSrc d.bytes) (nrFlags d.bytes % 8)) (nrLength d.bytes / 64) = .ok fs

theorem bodyNr_of_ready (h : nrReady d m fs) : bodyNr m d.site d.thread d.bytes =
    if !nrLocal d.bytes then
      (match m.egress (nrModule d.bytes) with
       | some p =>
         if m.noWay d.site (leaveEnd p (clusterOf d.site)) then .fault 0x0D 2 0
         else if m.mayLeave d.site (leaveEnd p (clusterOf d.site)) then
           .next (m.nrLeave d.site d.thread d.bytes (packets (nrLength d.bytes / 64) 0 fs))
         else .stall
       | none => .next (m.nrLeave d.site d.thread d.bytes (packets (nrLength d.bytes / 64) 0 fs)))
    else if nrOp d.bytes = 1 then .next ((launched d 5 d.bytes (nrOp d.bytes == 1) m).nrReduce d.site d.bytes fs)
    else if nrOp d.bytes = 3 then
      .next (((launched d 5 d.bytes (nrOp d.bytes == 1) m).updFlight d.site d.thread (thOf d m).nextId
        (fun q => { q with next := (m.castCores d.site d.bytes).length })).nrCast d.site d.thread (thOf d m).nextId d.bytes
        (packets (nrLength d.bytes / 64) 0 fs))
    else
      .next (((launched d 5 d.bytes (nrOp d.bytes == 1) m).updFlight d.site d.thread (thOf d m).nextId
        (fun q => { q with next := 1 })).nrInject d.site d.thread (thOf d m).nextId (nrSite d.bytes) d.bytes
        (packets (nrLength d.bytes / 64) 0 fs)) := by
  obtain ⟨hbad, hroom, hread⟩ := h
  unfold bodyNr
  dsimp only
  rw [hbad]
  dsimp only
  rw [if_neg (show ¬ (if (m.core d.site).split = true then 2 else 4) ≤ ((m.core d.site).th d.thread).inClass 5 from Nat.not_le.mpr hroom)]
  rw [nrFlight, thOf] at hread
  rw [hread]
  dsimp only
  split
  · rfl
  · split
    · rfl
    · split <;> rfl

end

section
variable {s : State} {d : Desc} {op : Nat} {fs : List (List Byte × Bool)}

theorem nrOp_of_issuable (h : issuable op d s.m) : nrOp d.bytes = op - 0x60 := by
  obtain ⟨_, hop, _⟩ := h
  rw [nrOp, hop]

/-- A SEND or GATHER inside the module sends its packets to its endpoint (R310). -/
theorem issues_nrInject (hop : op = 0x60 ∨ op = 0x62) (h : issuable op d s.m) (hready : nrReady d s.m fs) (hlocal : nrLocal d.bytes = true) :
    ∃ t, onDesc d op bodyNr s = .next t ∧
      goesOn d (((launched d 5 d.bytes false s.m).updFlight d.site d.thread (thOf d s.m).nextId (fun q => { q with next := 1 })).nrInject
        d.site d.thread (thOf d s.m).nextId (nrSite d.bytes) d.bytes (packets (nrLength d.bytes / 64) 0 fs)) t := by
  have hcode : nrOp d.bytes = 0 ∨ nrOp d.bytes = 2 := by
    rw [nrOp_of_issuable h]
    omega
  refine issues_next h ((bodyNr_of_ready hready).trans ((if_neg (not_bnot hlocal)).trans ?_)) ?_
  · rw [if_neg (by omega), if_neg (by omega)]
    rcases hcode with hcode | hcode <;> rw [hcode] <;> rfl
  · rw [thOf_congr d _ (Module.nrInject_cores _ _ _ _ _ _ _), thOf_updFlight, thOf_launched]

/-- A SEND or GATHER to another module leaves through its attachment, or ends for lack of a route (R540, R543). -/
theorem issues_nrLeave (h : issuable op d s.m) (hready : nrReady d s.m fs) (hlocal : nrLocal d.bytes = false)
    (hway : ∀ p, s.m.egress (nrModule d.bytes) = some p → s.m.noWay d.site (leaveEnd p (clusterOf d.site)) = false ∧
      s.m.mayLeave d.site (leaveEnd p (clusterOf d.site)) = true) :
    ∃ t, onDesc d op bodyNr s = .next t ∧ goesOn d (s.m.nrLeave d.site d.thread d.bytes (packets (nrLength d.bytes / 64) 0 fs)) t := by
  refine issues_next h ((bodyNr_of_ready hready).trans ((if_pos (by simp [hlocal])).trans ?_)) (thOf_nrLeave d s.m _ _)
  cases hport : s.m.egress (nrModule d.bytes) with
  | none => rfl
  | some p =>
    obtain ⟨hnear, hleaves⟩ := hway p hport
    dsimp only
    rw [if_neg (Bool.eq_false_iff.mp hnear), if_pos hleaves]

/-- The fields of a REDUCE in order name a core of this module (R158). -/
theorem nrLocal_of_reduce {m : Module} (hbad : m.nrBad d.site d.thread d.bytes = none) (hcode : nrOp d.bytes = 1) : nrLocal d.bytes = true := by
  refine Classical.byContradiction fun hremote => ?_
  have hfields : nrOk d.bytes = true := by
    refine Classical.byContradiction fun hwrong => ?_
    rw [Module.nrBad, if_pos (by simpa using hwrong)] at hbad
    cases hbad
  simp [nrOk, hremote, hcode] at hfields

end

/-- Settles O35: the three ends of a ready NR descriptor, by opcode and by whether its target is in the module. -/
theorem transferDescriptors : Obligations.TransferDescriptors := by
  refine ⟨fun s d op i f fs hop h hbad hlocal hroom hf hread => ?send, fun s d f fs h hbad hlocal hroom hf hread => ?cast,
    fun s d f fs h hbad hroom hf hread => ?reduce, fun s d op i f fs hop h hbad hlocal hroom hf hread hway => ?leave⟩
  case send =>
    have hready : nrReady d s.m fs := ⟨hbad, hroom, (congrArg (s.m.nrRead d.site d.thread · _ _) hf).symm.trans hread⟩
    simp only [List.mem_cons, Prod.mk.injEq, List.not_mem_nil, or_false] at hop
    rcases hop with ⟨rfl, rfl⟩ | ⟨rfl, rfl⟩
    · exact issues_nrInject (.inl rfl) h hready hlocal
    · exact issues_nrInject (.inr rfl) h hready hlocal
  case cast =>
    have hready : nrReady d s.m fs := ⟨hbad, hroom, (congrArg (s.m.nrRead d.site d.thread · _ _) hf).symm.trans hread⟩
    have hcode := nrOp_of_issuable h
    refine issues_next h ((bodyNr_of_ready hready).trans ((if_neg (not_bnot hlocal)).trans ?_)) ?_
    · rw [hcode]
      rfl
    · rw [thOf_congr d _ (Module.nrCast_cores _ _ _ _ _ _), thOf_updFlight, thOf_launched]
  case reduce =>
    have hready : nrReady d s.m fs := ⟨hbad, hroom, (congrArg (s.m.nrRead d.site d.thread · _ _) hf).symm.trans hread⟩
    have hcode := nrOp_of_issuable h
    refine issues_next h ((bodyNr_of_ready hready).trans ((if_neg (not_bnot (nrLocal_of_reduce hbad hcode))).trans ?_)) ?_
    · rw [hcode]
      rfl
    · exact (congrArg Thread.pc (thOf_congr d (launched d 5 d.bytes true s.m) rfl)).trans (thOf_launched d s.m 5 d.bytes true)
  case leave =>
    have hready : nrReady d s.m fs := ⟨hbad, hroom, (congrArg (s.m.nrRead d.site d.thread · _ _) hf).symm.trans hread⟩
    simp only [List.mem_cons, Prod.mk.injEq, List.not_mem_nil, or_false] at hop
    rcases hop with ⟨rfl, rfl⟩ | ⟨rfl, rfl⟩
    · exact issues_nrLeave h hready hlocal hway
    · exact issues_nrLeave h hready hlocal hway

end Sys2Proof.Machine
end

section
/-! SUPPORT. What happens at a core (chapters 4, 5, 7): the sequencer's events and those of its engines. -/

namespace Sys2Proof.Machine

open Sys2Proof.Safety

/-! ## The fetch unit (R132) -/

section
variable {m : Module} {site t : Nat}

/-- A thread whose fetch unit works: it holds work, its core is enabled and its clock runs (R132). -/
def fetches (m : Module) (site t : Nat) : Prop :=
  ((m.core site).th t).item.isSome = true ∧ ((m.core site).th t).halted = false ∧ (m.core site).enabled = true ∧ m.clocked site = true

/-- What a working fetch unit does with a return. -/
theorem doFetchReturn_of_fetches (check : Bool) (h : fetches m site t) : doFetchReturn site t check m =
    if check then m.coreCheck site 0x0E
    else if bitOf ((m.core site).th t).fetchPos 47 then
      if 31 ≤ ((m.core site).th t).fetchBuf.length ∨ 0 < ((m.core site).th t).failsAhead then m
      else (m.updCore site (fun c => c.updTh t (fun x =>
        { x with fetchBuf := x.fetchBuf ++ (m.core site).padFetch site t ((m.core site).th t).fetchPos,
                 fetchPos := x.fetchPos / 64 * 64 + 64 }.fill))).checkFetch site t
    else
      match takeFirst (fun (r : Response) => isFetch site t r.req.src) m.mem.responses with
      | some (r, rest) => match r.req.src with
        | .fetch _ _ a =>
          if m.mayArrive r then ({ m with mem := { m.mem with responses := rest } }).fetchArrives site t a r.data r.poison else m
        | _ => m
      | none => (m.fetchNext site t).checkFetch site t := by
  obtain ⟨hitem, hruns, hon, hclock⟩ := h
  refine if_neg ?_
  rintro (hidle | hhalted | hoff | hstill)
  · rw [Option.isNone_iff_eq_none] at hidle
    rw [hidle] at hitem
    cases hitem
  · exact Bool.false_ne_true (hruns.symm.trans hhalted)
  · exact not_bnot hon hoff
  · exact not_bnot hclock hstill

/-- A completion is looked at where the core and its clock run (R146). -/
theorem doDescriptorCompletion_of_found {id : Nat} {check : Bool} {f : InFlight} (hon : (m.core site).enabled = true)
    (hclock : m.clocked site = true) (hup : m.resetting site = false) (hfound : ((m.core site).th t).find id = some f) :
    doDescriptorCompletion site t id check m = match f.cls with
      | 0 => m.completeStr site t f
      | 1 => m.completeKh site t f
      | 2 => m.completeMx site t f check
      | 3 => m.completeVx site t f check
      | 5 => m.completeNr site t f
      | _ => m := by
  refine (if_neg ?_).trans (by rw [hfound] <;> rfl)
  rintro (hoff | hstill | hresets)
  · exact not_bnot hon hoff
  · exact not_bnot hclock hstill
  · exact Bool.false_ne_true (hup.symm.trans hresets)

end

/-! ## The background test (R166, R239) -/

/-- The cycles that save a region's words leave the scratchpad as it is (R239). -/
theorem Module.saveCycle_core (m : Module) (site k n : Nat) : (m.saveCycle site k).core n = m.core n := by
  unfold Module.saveCycle
  refine foldl_field (fun x : Module => x.core n) _ ?_ _ m
  exact fun _ _ => rfl

/-- The next bank cycle of the test of `site` (R239). -/
def testGoesOn (site : Nat) (m : Module) : Module :=
  (if (m.core site).scratch.phase < 4 then m.saveCycle site (m.core site).scratch.phase else m).updCore site (fun c => { c with scratch :=
    if (m.core site).scratch.phase = 87 then { c.scratch with phase := 0, region := ((m.core site).scratch.region + 1) % 4096 }
    else { c.scratch with phase := (m.core site).scratch.phase + 1 } })
/-- A bank cycle of a core whose test goes on (R239). -/
theorem doBackgroundTestBankCycle_of_running {m : Module} {site : Nat} {wordBad : Option (Nat × Nat)} (hon : (m.core site).enabled = true)
    (hruns : m.runs (clusterOf site) = true) (hphase : (m.core site).scratch.phase < 88) :
    doBackgroundTestBankCycle site wordBad m =
      match wordBad with
      | some (w, mask) =>
        if 4 ≤ (m.core site).scratch.phase ∧ (m.core site).scratch.phase < 84 then
          (if (m.core site).scratch.phase < 4 then m.saveCycle site (m.core site).scratch.phase else m).testFails site w mask
        else testGoesOn site m
      | none => testGoesOn site m := by
  refine (if_neg (by omega)).trans (if_neg ?_)
  exact fun hbad => hbad.elim (not_bnot hon) (not_bnot hruns)
theorem testGoesOn_scratch (site : Nat) (m : Module) : ((testGoesOn site m).core site).scratch =
    if (m.core site).scratch.phase = 87 then
      { (m.core site).scratch with phase := 0, region := ((m.core site).scratch.region + 1) % 4096 }
    else { (m.core site).scratch with phase := (m.core site).scratch.phase + 1 } := by
  have hsaved : ((if (m.core site).scratch.phase < 4 then m.saveCycle site (m.core site).scratch.phase else m).core site) = m.core site := by
    split
    · exact m.saveCycle_core site _ site
    · rfl
  rw [testGoesOn, Module.updCore_core, hsaved]

/-- Settles O36: each event under the conditions its statement names. -/
theorem sequencerEvents : Obligations.SequencerEvents := by
  refine ⟨fun s site t hok hitem hruns hon hclock hpad hroom hclean => ?pad, fun s site t hok hitem hruns hon hclock => ?fetchCheck,
    fun s site t a r rest hok hitem hruns hon hclock hmem hfirst hsrc harrive => ?sector,
    fun s site t bs hok hruns hwait hop hfits howns hreached => ?release,
    fun s site t id f hok hon hclock hup hfound hcls hdone => ?nr, fun s site t id f hok hon hclock hup hfound hcls hfirst => ?vxCheck,
    fun s site t id f hok hon hclock hup hfound hcls hnext hpieces => ?kh,
    fun s site t id f srcs x hok hon hclock hup hfound hcls hfirst hread hput => ?vx,
    fun s site t op pc hok hon hruns hin hwatched hcool hheld => ?watchdog,
    fun s site wordBad hok hon hruns hphase hword hgood => ?cycle, fun s site w mask hok hw hpos hmask hon hruns hlow hhigh => ?bad⟩
  case pad =>
    refine ⟨_, onModule_of _ _ hok, (doFetchReturn_of_fetches false ⟨hitem, hruns, hon, hclock⟩).trans ?_⟩
    rw [if_neg Bool.false_ne_true, if_pos hpad, if_neg (by omega)]
  case fetchCheck =>
    exact ⟨_, onModule_of _ _ hok, (doFetchReturn_of_fetches true ⟨hitem, hruns, hon, hclock⟩).trans (if_pos rfl)⟩
  case sector =>
    refine ⟨_, onModule_of _ _ hok, (doFetchReturn_of_fetches false ⟨hitem, hruns, hon, hclock⟩).trans ?_⟩
    rw [if_neg Bool.false_ne_true, if_neg (Bool.eq_false_iff.mp hmem), hfirst]
    dsimp only
    rw [hsrc]
    exact if_pos harrive
  case release =>
    refine ⟨_, _, onModule_of _ _ hok, rfl, (if_neg (not_bnot hruns)).trans ?_⟩
    have hbody : bodySyWait s.m site t bs = .next s.m :=
      (if_neg (not_bnot hfits)).trans ((if_neg (not_bnot howns)).trans (if_pos hreached))
    rw [hwait]
    dsimp only
    rw [hop, show waitBody 0x70 = bodySyWait from rfl, hbody]
  case nr =>
    refine ⟨_, onModule_of _ _ hok, (doDescriptorCompletion_of_found hon hclock hup hfound).trans ?_⟩
    rw [hcls]
    exact if_pos hdone
  case vxCheck =>
    refine ⟨_, onModule_of _ _ hok, (doDescriptorCompletion_of_found hon hclock hup hfound).trans ?_⟩
    rw [hcls]
    exact (if_neg (Bool.eq_false_iff.mp hfirst)).trans (if_pos rfl)
  case kh =>
    refine ⟨_, onModule_of _ _ hok, (doDescriptorCompletion_of_found hon hclock hup hfound).trans ?_⟩
    rw [hcls]
    exact if_pos ⟨hnext, by rw [hpieces]; rfl⟩
  case vx =>
    refine ⟨_, onModule_of _ _ hok, (doDescriptorCompletion_of_found hon hclock hup hfound).trans ?_⟩
    rw [hcls]
    refine (if_neg (Bool.eq_false_iff.mp hfirst)).trans ((if_neg Bool.false_ne_true).trans ?_)
    rw [hread]
    dsimp only
    rw [hput]
  case watchdog =>
    refine ⟨_, onModule_of _ _ hok, (if_neg ?_).trans ?_⟩
    · rintro (hoff | hhalted | (hstop | hpower) | hswitch)
      · exact not_bnot hon hoff
      · exact Bool.false_ne_true (hruns.symm.trans hhalted)
      · exact Bool.false_ne_true (hcool.symm.trans hstop)
      · exact hheld hpower
      · exact hin hswitch
    · rw [hwatched]
  case cycle =>
    have hcycle : doBackgroundTestBankCycle site wordBad s.m = testGoesOn site s.m := by
      rw [doBackgroundTestBankCycle_of_running hon hruns hphase]
      cases wordBad with
      | none => rfl
      | some p => exact if_neg (hgood.resolve_left (by simp))
    refine ⟨_, onModule_of _ _ ?_, ?_⟩
    · cases wordBad with
      | none => simp [hok]
      | some p => simp [hok, hword p rfl]
    · dsimp only
      rw [hcycle, testGoesOn_scratch]
      refine ⟨?_, ?_, ?_⟩ <;> split <;> rfl
  case bad =>
    refine ⟨_, onModule_of _ _ (by simp [hok, hw, hpos, hmask]), ?_⟩
    refine (doBackgroundTestBankCycle_of_running (wordBad := some (w, mask)) hon hruns (by omega)).trans ?_
    dsimp only
    rw [if_pos ⟨hlow, hhigh⟩, if_neg (by omega)]

/-! ## The array, the streams, the keyhole path and the walker (chapters 5, 7, 11) -/

/-- A run from the scratchpad that enters the array, or is found with bad parity (R188). -/
theorem doMxRunEntry_of_scratchpad {m : Module} {site half : Nat} {f : InFlight} (parityBad : Bool)
    (hfirst : (((m.core site).half ((m.core site).mxHalf half)).runs.head?).bind
      (fun r => ((m.core site).th ((m.core site).mxHalf half)).find r.1) = some f)
    (hon : m.arrayOn site ((m.core site).mxHalf half) = true) (hfree : ((m.core site).th ((m.core site).mxHalf half)).runFree f = true)
    (hop : getLe f.bytes 0 1 = 0x21) (hpad : bitOf (getLe f.bytes 1 1) 0 = false) :
    doMxRunEntry site half parityBad m =
      if parityBad then m.halfCheck site ((m.core site).mxHalf half) half f
      else m.enterRun site ((m.core site).mxHalf half) f (fun x => x.padGets site ((m.core site).mxHalf half) f 3
        (vectorBytes (((m.core site).half ((m.core site).mxHalf half)).runInfo (runSwap f.bytes)) (getLe f.bytes 2 1)
          (bitOf (getLe f.bytes 1 1) 1))
        ((List.range (getLe f.bytes 8 1)).map (fun i => getLe f.bytes 4 3 + i * getLe f.bytes 10 2))) := by
  unfold doMxRunEntry
  dsimp only
  rw [hfirst]
  dsimp only
  rw [if_neg fun hbad => hbad.elim (not_bnot hon) (not_bnot hfree), if_neg (by rw [hop]; decide), hpad,
    if_neg fun hfeed => Bool.false_ne_true hfeed.1]

/-- A drain that may start: its bank is quiet and its type is no wide one (R194, R202). -/
theorem doMxDrainStart_of_quiet {m : Module} {site half : Nat} {f : InFlight} (parityBad : Bool)
    (hfirst : (((m.core site).half ((m.core site).mxHalf half)).drains.head?).bind
      (fun r => ((m.core site).th ((m.core site).mxHalf half)).find r.1) = some f)
    (hon : m.arrayOn site ((m.core site).mxHalf half) = true)
    (hquiet : ((m.core site).th ((m.core site).mxHalf half)).earlier f.id
      (fun g => getLe g.bytes 0 1 == 0x21 && runBank g.bytes == b2n (bitOf (getLe f.bytes 1 1) 0)) = false)
    (htype : getLe f.bytes 2 1 ≠ 11) {taken : Module}
    (htaken : taken = m.updCore site (fun c => c.updHalf ((m.core site).mxHalf half) (fun a =>
      { a with drains := a.drains.filter (fun q => q.1 != f.id) }))) :
    doMxDrainStart site half parityBad m =
      if parityBad then taken.halfCheck site ((m.core site).mxHalf half) half f
      else match (taken.updCore site (fun c => c.updHalf ((m.core site).mxHalf half) (fun a => a.drained c.split f.bytes))).padPuts site
          ((m.core site).mxHalf half) f 3
          (((m.core site).half ((m.core site).mxHalf half)).drainOut site ((m.core site).mxHalf half) (m.core site).split f.bytes) with
        | .error x => x
        | .ok x => x.mxDone site ((m.core site).mxHalf half) f.id := by
  subst htaken
  unfold doMxDrainStart
  dsimp only
  rw [hfirst]
  dsimp only
  rw [if_neg fun hbad => hbad.elim (not_bnot hon) (Bool.eq_false_iff.mp hquiet), if_neg fun hwide => htype hwide.1] <;> rfl

/-- A leaf that a cache takes leaves the partitions as they are (R348). -/
theorem Module.fillCore_parts (m : Module) (site part va : Nat) : (m.fillCore site part va).parts = m.parts := by
  unfold Module.fillCore
  split
  · rfl
  · refine (foldl_field (fun x : Module => x.parts) _ ?_ _ m : _)
    exact fun _ _ => rfl
theorem Module.countWalk_walks (m : Module) (n : Nat) : ((m.countWalk n).part n).walks = sat64 (m.part n).walks 1 := by
  rw [Module.countWalk, Module.updPart_part]

/-- Settles O37: each event under the conditions its statement names. -/
theorem engineEvents : Obligations.EngineEvents := by
  refine ⟨fun s site half f hsite hhalf hfirst hon hfree hop hpad => ⟨?run, ?runBad⟩,
    fun s site half f y hsite hhalf hfirst hon hquiet htype hput => ?drain, fun s site half f hsite hhalf hfirst hon hquiet htype => ?drainBad,
    fun s site slot q f y hsite hslot hturn hy hstream hfound hlive hleft hon => ?stream, fun s site slot hsite hslot hturn => ?turn,
    fun s site t a pa f x hok hnext hon hroom haddr hlow hdemand => ?keyhole,
    fun s w site t n pa hwf hsrc hheld hwanted hwalk => ?coreWalk, fun s w fn id f hwf hsrc hheld hmiss hfound => ?hostWalk⟩
  case run =>
    exact ⟨_, onModule_of _ _ (by simp [hsite, hhalf]), (doMxRunEntry_of_scratchpad false hfirst hon hfree hop hpad).trans (if_neg Bool.false_ne_true)⟩
  case runBad =>
    exact ⟨_, onModule_of _ _ (by simp [hsite, hhalf]), (doMxRunEntry_of_scratchpad true hfirst hon hfree hop hpad).trans (if_pos rfl)⟩
  case drain =>
    refine ⟨_, onModule_of _ _ (by simp [hsite, hhalf]), (doMxDrainStart_of_quiet false hfirst hon hquiet htype rfl).trans ?_⟩
    rw [if_neg Bool.false_ne_true, hput]
  case drainBad =>
    exact ⟨_, onModule_of _ _ (by simp [hsite, hhalf]), (doMxDrainStart_of_quiet true hfirst hon hquiet htype rfl).trans (if_pos rfl)⟩
  case stream =>
    subst hy
    refine ⟨_, onModule_of _ _ (by simp [hsite, hslot]), (if_pos hturn).trans ?_⟩
    unfold Module.serveSlot
    rw [hstream]
    dsimp only
    rw [hfound]
    dsimp only
    refine if_neg ?_
    rintro (hcancelled | hdone | hoff)
    · exact Bool.false_ne_true (hlive.symm.trans hcancelled)
    · exact Nat.not_le.mpr hleft hdone
    · exact not_bnot hon hoff
  case turn =>
    refine ⟨_, onModule_of _ _ (by simp [hsite, hslot]), ?_⟩
    rw [doStreamRequestIssue, if_neg hturn]
  case keyhole =>
    refine ⟨_, onModule_of _ _ hok, ?_⟩
    show doKeyholeSectorIssue site t s.m = _
    unfold doKeyholeSectorIssue
    dsimp only
    rw [hnext]
    dsimp only
    rw [if_neg fun hbad => hbad.elim (not_bnot hon) (Nat.not_le.mpr hroom), haddr]
    dsimp only
    rw [if_neg (Nat.not_le.mpr hlow), hdemand]
  case coreWalk =>
    refine ⟨_, onModule_of _ _ hwf, ?_⟩
    have hdone : doTableWalkComplete w s.m = (s.m.countWalk w.part).fillCore site w.part w.va := by
      refine (if_neg (Bool.eq_false_iff.mp hheld)).trans ?_
      rw [hsrc]
      refine (if_pos hwanted).trans ?_
      rw [Module.coreWalked, hwalk]
      dsimp only
      rw [Module.walkDone, hsrc]
    refine ⟨hdone, ?_⟩
    dsimp only
    rw [hdone, Module.part, Module.fillCore_parts]
    exact s.m.countWalk_walks w.part
  case hostWalk =>
    refine ⟨_, onModule_of _ _ hwf, ?_⟩
    have hdone : doTableWalkComplete w s.m = (s.m.countWalk w.part).fillLeaf .host f := by
      refine (if_neg (Bool.eq_false_iff.mp hheld)).trans ?_
      rw [hsrc]
      dsimp only
      rw [show walkCache (.host fn id) = .host from rfl, Module.lookedUp, hmiss]
      dsimp only
      rw [hfound]
    refine ⟨hdone, ?_⟩
    dsimp only
    rw [hdone]
    exact s.m.countWalk_walks w.part

end Sys2Proof.Machine
end

section
/-! SUPPORT. The slice controller and the arbiter (chapters 2 and 3): arrivals, refresh, write hold, scrub, bank-ops. -/

namespace Sys2Proof.Machine

open Sys2Proof.Safety

/-! ## Arrivals (R42, R46, R54) -/

section
variable {m : Module} {r : MemReq}

theorem exec_read {s : State} {i : Instr} (hi : (r.row, i) ∈ [(false, .readSector r), (true, .readRow r)]) (hwf : r.wf = true)
    (hread : r.write = false) : exec i s = .next { s with m := s.m.readArrives r } := by
  simp only [List.mem_cons, Prod.mk.injEq, List.not_mem_nil, or_false] at hi
  rcases hi with ⟨hrow, rfl⟩ | ⟨hrow, rfl⟩
  · exact onModule_of (ok := r.wf && !r.row && !r.write) (fun m => m.readArrives r) s (by simp [hwf, hrow, hread])
  · exact onModule_of (ok := r.wf && r.row && !r.write) (fun m => m.readArrives r) s (by simp [hwf, hrow, hread])
theorem exec_write {s : State} (hwf : r.wf = true) (hwrite : r.write = true) :
    exec (.writePacket r) s = .next { s with m := s.m.writeArrives r } :=
  onModule_of (ok := r.wf && r.write) (fun m => m.writeArrives r) s (by simp [hwf, hwrite])

theorem Module.readArrives_of_refused (h : m.refusedAt r.site r.src = true) : m.readArrives r = m.respond r [] false := if_pos h
theorem Module.readArrives_of_waiting (h : m.refusedAt r.site r.src = false)
    (hslot : (m.wakeSlice (clusterOf r.site)).takeHoldSlot r.site ⟨r, m.time⟩ = none) : m.readArrives r =
      (m.wakeSlice (clusterOf r.site)).updSlice r.site (fun s => { s with waiting := s.waiting ++ [⟨r, m.time⟩] }) := by
  refine (if_neg (Bool.eq_false_iff.mp h)).trans ?_
  dsimp only
  rw [hslot]
theorem Module.writeArrives_of_refused (h : m.refusedAt r.site r.src = true) :
    (m.writeArrives r).mem = { m.mem with responses := m.mem.responses ++ [⟨{ r with data := [] }, srcHost r.src, [], false⟩] } := by
  have hlogged : (if (m.slice r.site).state = 2 then m.memEntry 0x06 r.site r.off 0 (m.classAt r) 0 (srcReq r.src) else m).mem = m.mem := by
    split <;> rfl
  refine (congrArg Module.mem (if_pos h)).trans ?_
  dsimp only
  cases srcHost r.src with
  | true => rw [if_pos rfl, Module.acceptOf, hlogged]
  | false => rw [if_neg Bool.false_ne_true, Module.respond, hlogged]
theorem Module.writeArrives_of_accepted {x : Module} (h : m.refusedAt r.site r.src = false)
    (hawake : ((m.wakeSlice (clusterOf r.site)).slice r.site).selfRefresh = false)
    (hfree : ∀ k ∈ ((m.wakeSlice (clusterOf r.site)).slice r.site).holdSlots ++ ((m.wakeSlice (clusterOf r.site)).slice r.site).waiting,
      inOrder k.req r = false)
    (htaken : (m.wakeSlice (clusterOf r.site)).acceptWrite r = some x) : m.writeArrives r = x.accepted r := by
  refine (if_neg (Bool.eq_false_iff.mp h)).trans ((if_neg ?_).trans ?_)
  · rintro (hasleep | hbehind)
    · exact Bool.false_ne_true (hawake.symm.trans hasleep)
    · obtain ⟨k, hk, horder⟩ := List.any_eq_true.mp hbehind
      exact Bool.false_ne_true ((hfree k hk).symm.trans horder)
  · rw [htaken]

end

/-! ## Write hold (R59 to R61) -/

/-- Without a row that may be written no write-hold slot asks for P2 (R61). -/
theorem Module.nextOf_ne_drain {m : Module} {site : Nat} (h : ∀ e ∈ (m.slice site).holdQueue, m.writable site e.row = false) (r : Nat) :
    m.nextOf site 2 ≠ some (.drain r) := by
  have hnone : (m.slice site).holdQueue.find? (fun e => m.writable site e.row) = none :=
    List.find?_eq_none.mpr fun e he => Bool.eq_false_iff.mp (h e he)
  have hwrite : m.nextWrite site 2 ≠ some (.drain r) := by
    unfold Module.nextWrite
    dsimp only
    rw [if_pos rfl, hnone]
    dsimp only
    split
    · simp
    · rw [Ne, Option.map_eq_some_iff]
      rintro ⟨e, _, hflush⟩
      cases hflush
  have hscrub : m.nextScrub site 2 ≠ some (.drain r) := by
    unfold Module.nextScrub
    split <;> simp
  unfold Module.nextOf
  dsimp only
  split
  · simp
  · split
    · simp
    · cases hfound : m.nextWrite site 2 with
      | none => exact hscrub
      | some x => exact fun heq => hwrite (hfound.trans heq)
theorem drainHeld_of_none {m : Module} {site : Nat} (parity n : Nat) (errs : List (Nat × Nat))
    (h : ∀ e ∈ (m.slice site).holdQueue, m.writable site e.row = false) : Module.drainHeld site errs n parity m = m := by
  cases n with
  | zero => rfl
  | succ n =>
    rw [Module.drainHeld]
    split
    · rename_i r hdrain
      exact absurd hdrain (Module.nextOf_ne_drain h r)
    · rfl

/-- A host read that has waited 1 ms at a group in Over (R58). -/
def lateHostRead (site : Nat) (m : Module) (w : Waiting) : Bool :=
  !w.req.write && srcHost w.req.src && m.rowHalted site (w.req.off / 2048) && decide (w.at_ + 1000 ≤ m.time)
theorem doOverHostReadTimeout_slice (site : Nat) (m : Module) : (doOverHostReadTimeout site m).slice site =
    { m.slice site with waiting := (m.slice site).waiting.filter (fun w => !lateHostRead site m w),
                        holdSlots := (m.slice site).holdSlots.filter (fun w => !lateHostRead site m w) } := by
  unfold doOverHostReadTimeout
  extract_lets late gone m1
  refine (foldl_field (fun x : Module => x.slice site) _ ?_ gone m1).trans (Module.updSlice_slice _ _ _)
  intro acc w
  split
  · unfold Module.abortHostRead
    split <;> rfl
  · rfl

/-! ## Grants (R41 to R44) -/

/-- A transaction of a class that moves data and does not fail (R42). -/
theorem Module.runClass_of_found {m : Module} {site parity errs k mask : Nat} {p3Data : Bool} {f : Module → Module} {x : Trans1}
    (hk : k ≠ 3) (hparity : parity < 3) (hnext : m.nextOf site k = some x) : m.runClass site parity errs k mask p3Data f =
      ((((m.noteGrant site k mask).countRetries site (min parity 2)).runTrans site errs x)).reaccept site := by
  refine (if_neg fun h => hk h.1).trans ((if_neg (Nat.not_le.mpr hparity)).trans ((if_neg hk).trans ?_))
  rw [hnext]
theorem Module.runClass_of_failed {m : Module} {site parity errs k mask : Nat} {p3Data : Bool} {f : Module → Module}
    (hk : k = 3 → p3Data = true) (hparity : 3 ≤ parity) : m.runClass site parity errs k mask p3Data f =
      ((m.noteGrant site k mask).countRetries site 2).failSlice site 0 := by
  refine (if_neg fun h => not_bnot (hk h.1) h.2).trans ((if_pos hparity).trans ?_)
  rw [Nat.min_eq_right (Nat.le_of_succ_le hparity)]
theorem Module.grantOnly_of_granted {m : Module} {site parity errs k : Nat} {mine : Option Trans1 → Bool} (hgrant : m.noGrant site = false)
    (hchosen : (m.slice site).choose (m.waitingMask site (m.p3Ready site)) = some k) (hmine : k = 3 ∨ mine (m.nextOf site k) = true) :
    m.grantOnly site parity errs k mine =
      m.runClass site parity errs k (m.waitingMask site (m.p3Ready site)) (m.p3Data site) (fun x => x.runP3 site) := by
  refine if_neg ?_
  rintro (hnone | hother | ⟨hk, hforeign⟩)
  · exact Bool.false_ne_true (hgrant.symm.trans hnone)
  · exact hother hchosen
  · exact not_bnot (hmine.resolve_left hk) hforeign

/-! ## Scrub (R70, R71) -/

/-- The pass's turn is its own row when nothing was skipped (R70). -/
theorem Module.scrubNext_of_fresh {m : Module} {site : Nat} (hskipped : (m.slice site).skipped = []) (hrow : (m.slice site).scrubRow < 2 ^ 18) :
    m.scrubNext site = some (m.slice site).scrubRow := by
  unfold Module.scrubNext
  dsimp only
  rw [hskipped]
  exact if_pos hrow
/-- A scrub visit looks at its row where the slice serves and scrub is on (R70). -/
theorem doScrubRowVisit_of_on {m : Module} {site parity errs r : Nat} (hstate : (m.slice site).state ≠ 2)
    (hawake : (m.slice site).selfRefresh = false) (hhours : m.mem.scrubHours ≠ 0) (hready : m.bring.ready = true)
    (hnext : m.scrubNext site = some r) : doScrubRowVisit site parity errs m =
      if m.scrubSkips site r then m.scrubPassed site r (m.rowHeld site r && !m.rowRetired site r && !m.rowDonated site r)
      else (m.updSlice site (fun s => { s with scrubDue := true })).grantOnly site parity errs 4 isPass := by
  refine (if_neg ?_).trans (by rw [hnext])
  have hon : m.scrubOn = true := by simp [Module.scrubOn, hhours, hready]
  rintro (hoff | hasleep | hstopped)
  · exact hstate hoff
  · exact Bool.false_ne_true (hawake.symm.trans hasleep)
  · exact not_bnot hon hstopped
/-- A row the pass skips is the last of the skipped ones, and the pass goes on behind it (R70). -/
theorem Module.scrubPassed_of_skipped {m : Module} {site r : Nat} (hskipped : (m.slice site).skipped = []) (hrow : r = (m.slice site).scrubRow)
    (hlast : r < 2 ^ 18 - 1) : ((m.scrubPassed site r true).slice site).scrubRow = r + 1 ∧
      ((m.scrubPassed site r true).slice site).skipped = [r] ∧ (m.scrubPassed site r true).mem.bytes = m.mem.bytes := by
  have hpassed : m.scrubPassed site r true = (m.updSlice site (fun s => { s with scrubRow := s.scrubRow + 1 })).updSlice site
      (fun s => { s with scrubDue := false, skipped := s.skipped ++ [r] }) := by
    unfold Module.scrubPassed
    dsimp only
    rw [hskipped, if_neg List.not_mem_nil]
    refine (if_neg ?_).trans rfl
    simp only [Module.updSlice_slice, ← hrow]
    omega
  rw [hpassed, Module.updSlice_slice, Module.updSlice_slice]
  exact ⟨by rw [hrow], by rw [hskipped]; rfl, rfl⟩

/-- Settles O38: arrivals, refresh, write hold and scrub, each by the lemma about its operation. -/
theorem sliceEvents : Obligations.SliceEvents := by
  refine ⟨fun s r i hi hwf hread hrefused => ?readRefused, fun s r i hi hwf hread hserved hslot => ?readWaits,
    fun s r hwf hwrite hrefused => ?writeRefused, fun s r x hwf hwrite hserved hawake hfree htaken => ?writeTaken,
    fun s site row hsite hrow => ?age, fun s site bank hsite hbank hstate hawake => ?interval,
    fun s site bank hsite hbank hidle hdue => ?force, fun s site parity errs hsite hheld => ?drainNone,
    fun s site parity r e errs hsite hgrant hparity hchosen hnext he => ?drain, fun s site hsite => ?timeout,
    fun s site parity errs r y hsite hstate hawake hhours hready hskipped hr hrow hretired hdonated hheld hy hgrant hparity hchosen hnext =>
      ?scrub,
    fun s site parity errs r hsite hstate hawake hhours hready hskipped hr hrow hretired hdonated hheld => ?scrubSkips⟩
  case readRefused =>
    refine ⟨_, exec_read hi hwf hread, ?_⟩
    dsimp only
    rw [Module.readArrives_of_refused hrefused]
    exact ⟨rfl, rfl, rfl⟩
  case readWaits =>
    exact ⟨_, exec_read hi hwf hread, Module.readArrives_of_waiting hserved hslot⟩
  case writeRefused =>
    refine ⟨_, exec_write hwf hwrite, ?_⟩
    dsimp only
    rw [Module.writeArrives_of_refused hrefused]
    exact ⟨rfl, rfl, rfl⟩
  case writeTaken =>
    have haccepted := Module.writeArrives_of_accepted hserved hawake hfree htaken
    refine ⟨_, exec_write hwf hwrite, fun hhost => haccepted.trans ?_, fun hhost => haccepted.trans ?_⟩
    · exact if_neg (Bool.eq_false_iff.mp hhost)
    · exact if_pos hhost
  case age =>
    refine ⟨_, onModule_of _ _ (by simp only [hsite, hrow, decide_true, Bool.and_self]), fun hheld => ?_, fun hfree => ?_⟩
    · rw [doMergeEntryAgeExpiry, if_pos hheld]
    · dsimp only
      rw [doMergeEntryAgeExpiry, if_neg (Bool.eq_false_iff.mp hfree), Module.updSlice_slice]
      exact ⟨rfl, rfl⟩
  case interval =>
    have hserves : ¬ ((s.m.slice site).state = 2 ∨ (s.m.slice site).selfRefresh = true) := by simp [hstate, hawake]
    refine ⟨_, onModule_of _ _ (by simp [hsite, hbank]), ?_⟩
    dsimp only
    rw [doRefreshInterval, if_neg hserves]
    split
    · rw [Module.updSlice_slice]
      exact ⟨SMap.get_upd_self bank (fun n => min 8 (n + 1)), fun b hb => SMap.get_upd_other (fun n => min 8 (n + 1)) hb, rfl⟩
    · rw [Module.updSlice_slice]
      exact ⟨SMap.get_set_self _ _, fun b hb => SMap.get_set_other _ hb, rfl⟩
  case force =>
    refine ⟨_, onModule_of _ _ (by simp [hsite, hbank]), ?_⟩
    have hforced : doPostponedRefreshForce site bank s.m = s.m.updSlice site (fun x => { x with owed := SMap.set 0 x.owed bank 0 }) := by
      refine if_neg ?_
      rintro (hbusy | ⟨hfew, hstep⟩)
      · exact Bool.false_ne_true (hidle.symm.trans hbusy)
      · obtain ⟨hquiet, hgap⟩ := hdue.resolve_left (Nat.not_le.mpr hfew)
        refine not_bnot ?_ hstep
        rw [Bool.and_eq_true, List.all_eq_true]
        exact ⟨fun q hq => by rw [hquiet q hq]; rfl, decide_eq_true hgap⟩
    dsimp only
    rw [hforced, Module.updSlice_slice]
    exact ⟨SMap.get_set_self _ _, fun b hb => SMap.get_set_other _ hb, rfl⟩
  case drainNone =>
    refine ⟨_, onModule_of _ _ hsite, ?_⟩
    dsimp only
    rw [doWriteHoldDrain, drainHeld_of_none _ _ _ hheld]
  case drain =>
    refine ⟨_, onModule_of _ _ hsite, ?_⟩
    dsimp only
    rw [doWriteHoldDrain, Module.drainHeld, hnext]
    dsimp only
    rw [Module.grantOnly_of_granted hgrant hchosen (.inr (by rw [hnext]; rfl)), Module.runClass_of_found (by decide) hparity hnext, he] <;> rfl
  case timeout =>
    refine ⟨_, onModule_of _ _ hsite, fun w hw => ?_⟩
    rintro ⟨hread, hhost, hhalted, hold⟩
    dsimp only at hw
    rw [doOverHostReadTimeout_slice] at hw
    have hkept : lateHostRead site s.m w = false := by
      rcases List.mem_append.mp hw with hslot | hwaiting
      · simpa using (List.mem_filter.mp hslot).2
      · simpa using (List.mem_filter.mp hwaiting).2
    simp [lateHostRead, hread, hhost, hhalted, hold] at hkept
  case scrub =>
    have hvisit := (doScrubRowVisit_of_on (r := r) (parity := parity) (errs := errs) hstate hawake hhours hready
      ((Module.scrubNext_of_fresh hskipped (by omega)).trans (by rw [hr]))).trans
        (if_neg (by simp [Module.scrubSkips, hretired, hdonated, hheld]))
    refine ⟨_, onModule_of _ _ hsite, hvisit.trans ?_⟩
    rw [← hy, Module.grantOnly_of_granted hgrant hchosen (.inr (by rw [hnext]; rfl)), Module.runClass_of_found (by decide) hparity hnext]
    rfl
  case scrubSkips =>
    have hvisit := (doScrubRowVisit_of_on (r := r) (parity := parity) (errs := errs) hstate hawake hhours hready
      ((Module.scrubNext_of_fresh hskipped (by omega)).trans (by rw [hr]))).trans (if_pos (by simp [Module.scrubSkips, hheld]))
    refine ⟨_, onModule_of _ _ hsite, ?_⟩
    dsimp only
    rw [hvisit, hheld, hretired, hdonated]
    exact Module.scrubPassed_of_skipped hskipped hr hrow

end Sys2Proof.Machine
end

section
/-! SUPPORT. The arbiter's grants and bank-ops (R43, R44, R105 to R128). -/

namespace Sys2Proof.Machine

open Sys2Proof.Safety

section
variable {m : Module} {site parity errs : Nat}

/-- A granted class runs (R44). -/
theorem Module.grant_of_chosen {k : Nat} {p3 p3Data : Bool} {f : Module → Module} (hgrant : m.noGrant site = false)
    (hchosen : (m.slice site).choose (m.waitingMask site p3) = some k) :
    m.grant site parity errs p3 p3Data f = m.runClass site parity errs k (m.waitingMask site p3) p3Data f := by
  refine (if_neg fun hstate => ?_).trans ((if_neg (Bool.eq_false_iff.mp hgrant)).trans ?_)
  · simp [Module.noGrant, hstate] at hgrant
  · dsimp only
    rw [hchosen]
/-- P3 without data opens a row on the command lines alone (R110). -/
theorem Module.runClass_of_commands {mask : Nat} {f : Module → Module} :
    m.runClass site parity errs 3 mask false f = (f (m.noteGrant site 3 mask)).reaccept site := by
  unfold Module.runClass
  exact if_pos ⟨rfl, rfl⟩
/-- P3 with data: a combine or a correction detour (R110, R112). -/
theorem Module.runClass_of_combine {mask : Nat} {f : Module → Module} (hparity : parity < 3) :
    m.runClass site parity errs 3 mask true f = (f ((m.noteGrant site 3 mask).countRetries site (min parity 2))).reaccept site := by
  unfold Module.runClass
  dsimp only
  rw [if_neg (by simp), if_neg (Nat.not_le.mpr hparity), if_pos rfl]

/-- A bank-op at a slice of the transom's deck is queued there (R126). -/
theorem Module.enqueue_transom (m : Module) (id : Nat) (ts : List Nat) : (m.enqueue id ts).mem.transom = m.mem.transom := by
  unfold Module.enqueue
  refine foldl_field (fun x : Module => x.mem.transom) _ ?_ ts m
  intro acc s
  unfold Module.wakeSlice
  split <;> rfl
/-- A sequence that is closed is no longer held (R128). -/
theorem Module.closeSeq_gone (m : Module) (b : BankSeq) : ∀ q ∈ (m.closeSeq b).mem.seqs, q.id ≠ b.id := by
  intro q hq
  simpa using (List.mem_filter.mp hq).2
theorem doBankopCompletion_of_finished {id : Nat} {b : BankSeq} (hseq : m.seqOf id = some b) (hpending : b.pending = []) :
    doBankopCompletion id m =
      match b.cmd with
      | some cmd => (match b.core with | some (site, t, f) => (m.closeSeq b).bankDone b site t f | none => m.closeSeq b).complete cmd b.status b.detail
      | none => match b.core with | some (site, t, f) => (m.closeSeq b).bankDone b site t f | none => m.closeSeq b := by
  unfold doBankopCompletion
  rw [hseq]
  dsimp only
  rw [if_neg (by simp [hpending])] <;> rfl

end

/-- Settles O39: grants by the lemmas about the arbiter, the other events by their own bodies. -/
theorem bankOpEvents : Obligations.BankOpEvents := by
  refine ⟨fun s site parity errs k x hsite hgrant hchosen hk hnext hparity => ?column,
    fun s site k parity errs x hsite hgrant hchosen hk hnext hparity => ?fails, fun s site parity errs hsite hgrant hdata hchosen => ?opens,
    fun s site parity errs hsite hgrant hdata hparity hchosen => ?combines, fun s site parity q b hsite hstart hplain => ?starts,
    fun s site parity hsite hready hgrant hdata hchosen => ?stepGranted, fun s site parity k hsite hready hk hchosen => ?stepWaits,
    fun s site par q b hsite hmoves hfound hseq => ?ends, fun s deck id rest b hdeck htransom hlocked hseq hroom => ?delivery,
    fun s site bank parity errs k q b y hsite hbank hin hreads hkept hy hgrant hchosen hdata hparity => ?detour,
    fun s site id q b hsite hheld hfound hseq => ?limit, fun s site bank k q b hsite hbank hin hunit => ?unit,
    fun s id b hseq hpending hcore hcmd => ?closes, fun s id b site th f hseq hpending hcore hcmd => ?ofCore,
    fun s id cmd b hseq hpending hcore hcmd => ?ofCommand⟩
  case column =>
    exact ⟨_, onModule_of _ _ hsite, (Module.grant_of_chosen hgrant hchosen).trans (Module.runClass_of_found hk hparity hnext)⟩
  case fails =>
    exact ⟨_, onModule_of _ _ hsite,
      (Module.grant_of_chosen hgrant hchosen).trans (Module.runClass_of_failed (fun h => absurd h hk) hparity)⟩
  case opens =>
    refine ⟨_, onModule_of _ _ hsite, (Module.grant_of_chosen hgrant hchosen).trans ?_⟩
    rw [hdata]
    exact Module.runClass_of_commands
  case combines =>
    refine ⟨_, onModule_of _ _ hsite, (Module.grant_of_chosen hgrant hchosen).trans ?_⟩
    rw [hdata]
    exact Module.runClass_of_combine hparity
  case starts =>
    refine ⟨_, onModule_of _ _ hsite, (if_neg ?_).trans ?_⟩
    · rw [Module.stepReady, hstart]
      exact Bool.eq_false_iff.mp hplain
    · rw [Module.startNext, hstart]
  case stepGranted =>
    refine ⟨_, onModule_of _ _ hsite, (if_pos hready).trans ((Module.grantOnly_of_granted hgrant hchosen (.inl rfl)).trans ?_)⟩
    rw [hdata]
    exact Module.runClass_of_commands
  case stepWaits =>
    refine ⟨_, onModule_of _ _ hsite, ?_⟩
    have hother : (s.m.slice site).choose (s.m.waitingMask site (s.m.p3Ready site)) ≠ some 3 := by
      rw [hchosen]
      exact fun h => hk (Option.some.inj h)
    rw [doBankopStepStart, if_pos hready, Module.grantOnly, if_pos (.inr (.inl hother))]
  case ends =>
    refine ⟨_, onModule_of _ _ hsite, (if_neg (Bool.eq_false_iff.mp hmoves)).trans ?_⟩
    rw [hfound]
    dsimp only
    rw [hseq]
  case delivery =>
    refine ⟨_, onModule_of _ _ (decide_eq_true hdeck), ?_⟩
    have hqueued : doBankopDelivery deck s.m = ((({ s.m with mem := { s.m.mem with
        transom := SMap.set [] s.m.mem.transom deck rest } } : Module).enqueue id (b.pending.filter (fun k => deckOf (clusterOf k) == deck))).updSeq
        id (fun x => { x with undelivered := x.undelivered.filter (· != deck) })) := by
      unfold doBankopDelivery
      rw [htransom]
      dsimp only
      rw [if_neg (Bool.eq_false_iff.mp hlocked), hseq]
      refine if_pos (List.all_eq_true.mpr fun k hk => decide_eq_true ?_)
      obtain ⟨hpending, hhere⟩ := List.mem_filter.mp hk
      exact hroom k hpending (by simpa using hhere)
    refine ⟨hqueued, ?_⟩
    dsimp only
    rw [hqueued, Module.updSeq, Module.enqueue_transom]
    exact SMap.get_set_self _ _
  case detour =>
    refine ⟨_, onModule_of _ _ (by simp [hsite, hbank]), ?_⟩
    show doCorrectionDetour site bank parity errs s.m = _
    unfold doCorrectionDetour
    rw [hin]
    dsimp only
    rw [if_pos ⟨hreads, by rw [hkept]; rfl⟩, ← hy, Module.grantOnly_of_granted hgrant hchosen (.inl rfl), hdata]
    exact Module.runClass_of_combine hparity
  case limit =>
    have hlimit : doBankopHoldLimit site s.m = if b.holdLimit * 1000 ≤ q.held then (s.m.updSeq id (fun x => { x with
        status := if x.stop then x.status else worst x.status stThermalHold })).leaveSlice site id q.step true else s.m := by
      rw [doBankopHoldLimit, hheld]
      show s.m.holdLimit site id = _
      rw [Module.holdLimit, hfound, hseq]
    refine ⟨_, onModule_of _ _ hsite, fun hearly => ?_, fun hover => hlimit.trans (if_pos hover)⟩
    rw [hlimit, if_neg (Nat.not_le.mpr hearly)]
  case unit =>
    have hfailed : (doBankUnitTimeout site bank s.m).mem = { (s.m.updSlice site (fun x =>
        { x with failedUnits := x.failedUnits ++ [bank] })).mem with failedCount := s.m.mem.failedCount + 1 } := by
      unfold doBankUnitTimeout
      rw [hin]
      dsimp only
      rw [if_neg hunit, Module.recordUnit, Module.addRecord]
      split <;> rfl
    refine ⟨_, onModule_of _ _ (by simp [hsite, hbank]), ?_⟩
    dsimp only
    rw [Module.slice, hfailed]
    exact ⟨congrArg Slice.failedUnits (s.m.updSlice_slice site (fun x => { x with failedUnits := x.failedUnits ++ [bank] })), rfl, rfl⟩
  case closes =>
    have hclosed : doBankopCompletion id s.m = s.m.closeSeq b := by
      rw [doBankopCompletion_of_finished hseq hpending, hcmd, hcore]
    refine ⟨_, onModule_of _ _ rfl, hclosed, ?_⟩
    dsimp only
    rw [hclosed]
    exact s.m.closeSeq_gone b
  case ofCore =>
    refine ⟨_, onModule_of _ _ rfl, (doBankopCompletion_of_finished hseq hpending).trans ?_⟩
    rw [hcmd, hcore]
  case ofCommand =>
    refine ⟨_, onModule_of _ _ rfl, (doBankopCompletion_of_finished hseq hpending).trans ?_⟩
    rw [hcmd, hcore]

end Sys2Proof.Machine
end

section
/-! SUPPORT. The host port's registers and rings (R8, R9, R472 to R490, R511, R610 to R624). -/

namespace Sys2Proof.Machine

open Sys2Proof.Safety

/-! ## Reads that return at once (R119) -/

section
variable {m : Module} {fn : Nat}

/-- With no read under way and no posted write in front, a reply leaves at once (R119). -/
theorem Module.hostReply_of_quiet (data : List Byte) (ep : Bool) (hreads : m.port.reads = []) (hposted : ∀ id, m.postedBefore fn id = false) :
    m.hostReply fn data ep = ({ m with port := { m.port with nextId := m.port.nextId + 1, reads := [] } } : Module).answer
      (.readData fn data ep) := by
  unfold Module.hostReply Module.returnReads
  have hready : ∀ x : Module, x.mem.slices = m.mem.slices → x.net = m.net →
      x.readReady2 ⟨fn, 0, data.length, [(m.port.nextId, some data)], ep⟩ = true := by
    intro x hslices hnet
    have hfree : x.postedBefore fn m.port.nextId = false := by
      rw [← hposted m.port.nextId, Module.postedBefore, Module.postedBefore, hslices, hnet]
    simp [Module.readReady2, hfree]
  simp [hreads, hready, Module.answer]
theorem Module.hostReply_out (data : List Byte) (ep : Bool) (hreads : m.port.reads = []) (hposted : ∀ id, m.postedBefore fn id = false) :
    returned fn data ep m (m.hostReply fn data ep) := by
  rw [m.hostReply_of_quiet data ep hreads hposted]
  rfl
theorem Module.hostReply_func (data : List Byte) (ep : Bool) (hreads : m.port.reads = []) (hposted : ∀ id, m.postedBefore fn id = false)
    (k : Nat) : (m.hostReply fn data ep).func k = m.func k := by
  rw [m.hostReply_of_quiet data ep hreads hposted]
  rfl
/-- An access error is logged, and leaves the port and what the port waits for (R8). -/
theorem Module.accessError_plain (m : Module) (fn bar addr size : Nat) :
    ∃ l, m.accessError fn bar addr size = { m with log := l } := by
  unfold Module.accessError
  dsimp only
  split
  · exact ⟨m.log, rfl⟩
  · exact ⟨_, rfl⟩
/-- A refused read of a quiet function returns ones (R8, R472). -/
theorem Module.refuseRead_out (bar off len : Nat) (hreads : m.port.reads = []) (hposted : ∀ id, m.postedBefore fn id = false) :
    returned fn (List.replicate len 0xFF) false (m.accessError fn bar off len) (m.refuseRead fn bar off len) := by
  obtain ⟨l, hlogged⟩ := m.accessError_plain fn bar off len
  rw [Module.refuseRead, hlogged]
  exact Module.hostReply_out (m := { m with log := l }) _ _ hreads hposted

/-! ## BAR0 (R8, R472, R611, R612) -/

/-- What BAR0 does not serve is refused (R8, R472). -/
theorem Module.writeBar0_of_refused {off size : Nat} (v : Nat) (hopen : barOpen fn m) (hend : off + size ≤ bar0Size fn)
    (hbad : bar0Aligned off size = false ∨ m.bar0Served fn (off / 8 * 8) = false) :
    m.writeBar0 fn off size v = (m.unlatch fn).accessError fn 0 off size := by
  rw [Module.writeBar0, Module.onBar_of_barOpen hopen]
  refine (if_neg (by omega)).trans (if_pos ?_)
  rcases hbad with hbad | hbad
  · exact .inl (by rw [hbad]; rfl)
  · exact .inr (by rw [show (m.unlatch fn).bar0Served fn (off / 8 * 8) = false from hbad]; rfl)
theorem Module.readBar_of_refused {off size : Nat} (hopen : barOpen fn m) (hend : off + size ≤ bar0Size fn)
    (hbad : bar0Aligned off size = false ∨ m.bar0Served fn (off / 8 * 8) = false) :
    m.readBar fn off size = (m.unlatch fn).refuseRead fn 0 off size := by
  rw [Module.readBar, Module.onBar_of_barOpen hopen]
  refine (if_neg (by omega)).trans (if_pos ?_)
  rcases hbad with hbad | hbad
  · exact .inl (by rw [hbad]; rfl)
  · exact .inr (by rw [show (m.unlatch fn).bar0Served fn (off / 8 * 8) = false from hbad]; rfl)
/-- A read of a lower half keeps the upper one (R612). -/
theorem Module.readBar_of_lower {off : Nat} (hserves : serves fn off m) (hal : off % 8 = 0) (hend : off + 8 ≤ bar0Size fn)
    (hplain : ¬ (fn = 0 ∧ off = 0x30100)) : m.readBar fn off 4 =
      ((m.unlatch fn).updFunc fn (fun f => { f with latch := some (off, ((m.unlatch fn).readBar0 fn off).toNat / 2 ^ 32) })).hostReply fn
        (leBytes 4 ((m.unlatch fn).readBar0 fn off).toNat) false := by
  have hword : off / 8 * 8 = off := by omega
  have haligned : bar0Aligned off 4 = true := by
    have : off % 4 = 0 := by omega
    simp [bar0Aligned, this]
  rw [Module.readBar, Module.onBar_of_barOpen hserves.1]
  refine (if_neg (by omega)).trans ((if_neg ?_).trans ?_)
  · rw [haligned, hword, show (m.unlatch fn).bar0Served fn off = true from hserves.2]
    simp
  · dsimp only
    rw [if_neg hplain, hword, if_neg (by decide), if_pos hal]
/-- The read of the upper half returns what the lower one kept (R612). -/
theorem Module.readBar_of_upper {off h : Nat} (hserves : serves fn off m) (hal : off % 8 = 0) (hend : off + 8 ≤ bar0Size fn)
    (hlatch : (m.func fn).latch = some (off, h)) : m.readBar fn (off + 4) 4 = (m.unlatch fn).hostReply fn (leBytes 4 h) false := by
  have hword : (off + 4) / 8 * 8 = off := by omega
  have haligned : bar0Aligned (off + 4) 4 = true := by
    have : (off + 4) % 4 = 0 := by omega
    simp [bar0Aligned, this]
  rw [Module.readBar, Module.onBar_of_barOpen hserves.1]
  refine (if_neg (by omega)).trans ((if_neg ?_).trans ?_)
  · rw [haligned, hword, show (m.unlatch fn).bar0Served fn off = true from hserves.2]
    simp
  · dsimp only
    rw [if_neg (show ¬ (fn = 0 ∧ off + 4 = 0x30100) by omega), hword, if_neg (show ¬ 4 = 8 by decide),
      if_neg (show ¬ (off + 4) % 8 = 0 by omega), hlatch]
    dsimp only
    rw [if_pos rfl]

/-- The snapshot is latched (R620). -/
def Module.telLatched (m : Module) : Module := { m with port := { m.port with telLatch := some m.snapshot } }
/-- The read that latches the snapshot (R620). -/
theorem Module.readBar_of_snapshot (hserves : serves 0 0x30100 m) : m.readBar 0 0x30100 8 =
    (m.unlatch 0).telLatched.hostReply 0 (leBytes 8 ((m.unlatch 0).telLatched.readBar0 0 0x30100).toNat) false := by
  rw [Module.readBar, Module.onBar_of_barOpen hserves.1]
  refine (if_neg (by decide)).trans ((if_neg ?_).trans ?_)
  · rw [show (m.unlatch 0).bar0Served 0 (0x30100 / 8 * 8) = true from hserves.2]
    decide
  · rfl
/-- An offset that BAR0 does not decode is not served (R472). -/
theorem undecoded_of {off : Nat} (hpf : fn = 0 → pfUndecoded (off / 8 * 8) = true) (hvf : fn ≠ 0 → vfDecoded (off / 8 * 8) = false) :
    ¬ (if fn = 0 then !pfUndecoded (off / 8 * 8) else vfDecoded (off / 8 * 8)) = true ∧
    ∀ x : Module, x.bar0Served fn (off / 8 * 8) = false := by
  by_cases hfn : fn = 0
  · simp [Module.bar0Served, hfn, hpf hfn]
  · simp [Module.bar0Served, hfn, hvf hfn]

/-! ## What a full write of eight bytes reaches (R480, R510, R622, R623) -/

/-- An 8-byte write of an aligned register that is served reaches it. -/
theorem Module.writeBar0_of_word {off : Nat} (v : Nat) (hserves : serves fn off m) (hal : off % 8 = 0) (hend : off + 8 ≤ bar0Size fn) :
    m.writeBar0 fn off 8 v = (m.unlatch fn).writeServed fn off (2 ^ 64 - 1) (v % 2 ^ 64) off 8 := by
  have hword : off / 8 * 8 = off := by omega
  rw [Module.writeBar0_of_serves v (by rw [hword]; exact hserves) (by simp [bar0Aligned, hal]) hend, hword, hal, Nat.mul_zero, Nat.pow_zero,
    Nat.mul_one, Nat.mul_one]
/-- A full write of a register replaces its low 64 bits. -/
theorem mergeReg_full (old v : Nat) : mergeReg old (2 ^ 64 - 1) (v % 2 ^ 64) = old - old % 2 ^ 64 + v % 2 ^ 64 := by
  rw [mergeReg, Nat.and_two_pow_sub_one_eq_mod, Nat.and_two_pow_sub_one_eq_mod, Nat.mod_mod]
theorem bitOf_eq_testBit (v i : Nat) : bitOf v i = v.testBit i := by
  rw [Nat.testBit_eq_decide_div_mod_eq, bitOf, Bool.beq_eq_decide_eq]
theorem bitOf_mod (v i : Nat) (h : i < 64) : bitOf (v % 2 ^ 64) i = bitOf v i := by
  rw [bitOf_eq_testBit, bitOf_eq_testBit, Nat.testBit_mod_two_pow, decide_eq_true h, Bool.true_and]

/-- What a full write leaves in a window's base (R480). -/
theorem window_of_full (old v : Nat) :
    mergeReg old (2 ^ 64 - 1) (v % 2 ^ 64) / 2 ^ 30 % 2 ^ 18 * 2 ^ 30 = v / 2 ^ 30 % 2 ^ 18 * 2 ^ 30 := by
  rw [mergeReg_full]
  omega

/-! ## CORE_CONTROL (R168, R169, R173) -/

/-- CORE_CONTROL as it reads: its two writable fields alone (R173). -/
theorem Module.readCore_control (m : Module) (site : Nat) : ∃ hold select, hold < 2 ∧ select < 4 ∧
    (m.readCore site 0x10).toNat = 8 * hold + 16 * select := by
  refine ⟨b2n (m.core site).holdOnFault % 2, (m.core site).stallSelect % 4, Nat.mod_lt _ (by decide), Nat.mod_lt _ (by decide), ?_⟩
  have hread : m.readCore site 0x10 = regWord [(3, 1, b2n (m.core site).holdOnFault), (4, 2, (m.core site).stallSelect)] := rfl
  rw [hread, regWord, BitVec.toNat_ofNat]
  simp only [packBits]
  omega

/-- Writing one of the bits of CORE_CONTROL that act leaves its two fields as they read (R173). -/
theorem Module.controlBit_fields (m : Module) (site bit : Nat) (hbit : bit ∈ [0, 1, 2, 6, 7]) :
    (∀ i ∈ [0, 1, 2, 6, 7], bitOf ((m.readCore site 0x10).toNat + 2 ^ bit) i = decide (i = bit)) ∧
    bitOf ((m.readCore site 0x10).toNat + 2 ^ bit) 3 = bitOf (m.readCore site 0x10).toNat 3 ∧
    bitsOf ((m.readCore site 0x10).toNat + 2 ^ bit) 5 4 = bitsOf (m.readCore site 0x10).toNat 5 4 ∧
    (m.readCore site 0x10).toNat + 2 ^ bit < 2 ^ 64 := by
  obtain ⟨hold, select, hhold, hselect, hread⟩ := m.readCore_control site
  rw [hread]
  clear hread
  revert bit
  revert select
  revert hold
  decide

/-- A core's block lies in BAR0 of the physical function (R622). -/
theorem coreReg_places {site o : Nat} (hsite : siteOk site = true) (ho : o < 4096) : coreReg site o + 8 ≤ bar0Size 0 + 4096 - o ∧
    ¬ coreReg site o < 0xB0000 ∧ ¬ coreReg site o < 0x101000 ∧ ¬ coreReg site o < 0x140000 ∧
    (coreReg site o - 0x1000000) / 4096 = site ∧ coreReg site o % 4096 = o := by
  have hlt : site < 10240 := of_decide_eq_true hsite
  simp only [coreReg, bar0Size, if_pos]
  omega
/-- An 8-byte write of a register of a core's block (R623). -/
theorem Module.writeBar0_of_core {site o : Nat} (v : Nat) (hsite : siteOk site = true) (ho : o < 4088) (hal : o % 8 = 0)
    (hserves : serves 0 (coreReg site o) m) : m.writeBar0 0 (coreReg site o) 8 v =
      (m.unlatch 0).writeCore 0 site o (2 ^ 64 - 1) (v % 2 ^ 64) (coreReg site o) 8 := by
  obtain ⟨_, hdev, hwork, hhole, hblock, hreg⟩ := coreReg_places hsite (show o < 4096 by omega)
  have hlt : site < 10240 := of_decide_eq_true hsite
  have hend : coreReg site o + 8 ≤ bar0Size 0 := by simp only [coreReg, bar0Size, if_pos]; omega
  rw [Module.writeBar0_of_word v hserves (by rw [coreReg]; omega) hend, Module.writeServed, if_pos rfl, if_neg hdev, if_neg hwork,
    if_neg hhole, hblock, hreg]
/-- CORE_CONTROL with one bit that acts reaches the core (R173, R623). -/
theorem Module.controlBit_of_served {site bit : Nat} (hsite : siteOk site = true) (hserves : serves 0 (coreReg site 0x10) m)
    (hwindow : m.windowOk (site / 1024) = true) (hexpert : m.engine.expertWindow = true) (hon : (m.core site).enabled = true)
    (hbit : bit ∈ [0, 1, 2, 6, 7]) : m.controlBit 0 site bit =
      (m.unlatch 0).coreControl site (2 ^ 64 - 1) ((m.readCore site 0x10).toNat + 2 ^ bit) := by
  obtain ⟨_, _, _, hword⟩ := m.controlBit_fields site bit hbit
  rw [Module.controlBit, Module.writeBar0_of_core _ hsite (by decide) (by decide) hserves, Nat.mod_eq_of_lt hword]
  refine (if_neg (not_bnot (show (m.unlatch 0).windowOk (site / 1024) = true from hwindow))).trans ((if_pos rfl).trans (if_neg ?_))
  exact fun hbad => hbad.elim (not_bnot hexpert) (not_bnot hon)

/-- The write of the two fields of CORE_CONTROL that stay (R173). -/
def keepControl (site w : Nat) (x : Module) : Module :=
  x.updCore site (fun c => { c with holdOnFault := bitOf w 3, stallSelect := bitsOf w 5 4 })

section
variable {site w v : Nat}

/-- CORE_CONTROL with one of its reset bits set (R168, R169). -/
theorem Module.coreControl_of_reset {bit : Nat} (hbits : ∀ i ∈ [0, 1, 2, 6, 7], bitOf v i = decide (i = bit))
    (hhold : bitOf v 3 = bitOf w 3) (hselect : bitsOf v 5 4 = bitsOf w 5 4) (hup : m.resetting site = false) (hbit : bit ∈ [0, 1, 2]) :
    m.coreControl site (2 ^ 64 - 1) v = keepControl site w
      ((if bit = 0 then m.localReset site else m.threadReset site (bit - 1)).fenceMarked site) := by
  have h0 := hbits 0 (by decide)
  have h1 := hbits 1 (by decide)
  have h2 := hbits 2 (by decide)
  have h6 := hbits 6 (by decide)
  have h7 := hbits 7 (by decide)
  unfold Module.coreControl
  rw [if_neg (by decide)]
  simp only [List.mem_cons, List.not_mem_nil, or_false] at hbit
  rcases hbit with rfl | rfl | rfl
  · simp [h0, h1, h2, h6, h7, hhold, hselect, hup, keepControl]
  · simp [h0, h1, h2, h6, h7, hhold, hselect, hup, keepControl]
  · simp [h0, h1, h2, h6, h7, hhold, hselect, hup, keepControl]
/-- CORE_CONTROL with one of its counter bits set touches the counters of its core alone (R173). -/
theorem Module.coreControl_of_counters {bit : Nat} (hbits : ∀ i ∈ [0, 1, 2, 6, 7], bitOf v i = decide (i = bit)) (hbit : bit ∈ [6, 7]) :
    m.coreControl site (2 ^ 64 - 1) v = m.updCore site (fun c =>
      { (if bit = 6 then c.latchStalls else c.clearStalls) with holdOnFault := bitOf v 3, stallSelect := bitsOf v 5 4 }) := by
  have h0 := hbits 0 (by decide)
  have h1 := hbits 1 (by decide)
  have h2 := hbits 2 (by decide)
  have h6 := hbits 6 (by decide)
  have h7 := hbits 7 (by decide)
  unfold Module.coreControl
  rw [if_neg (by decide)]
  simp only [List.mem_cons, List.not_mem_nil, or_false] at hbit
  rcases hbit with rfl | rfl
  · simp [h0, h1, h2, h6, h7, Core.latchStalls]
  · simp [h0, h1, h2, h6, h7]

end

end

/-- Settles O40: reads by `readBar`'s cases, writes by the register their offset reaches. -/
theorem hostRegisters : Obligations.HostRegisters := by
  refine ⟨fun s fn off size v hfn hserves haligned hend => ?write, fun s fn off v hfn hserves hal hend hplain hquiet hv => ?lower,
    fun s fn off h hfn hserves hal hend hlatch hquiet => ?upper, fun s hserves hquiet => ?snapshot,
    fun s fn off size hfn hopen hpos hsize hbad hend => ⟨?misWrite, fun hquiet => ?misRead⟩,
    fun s fn off size hfn hopen hpos hsize hend hpf hvf => ⟨?undecWrite, fun hquiet => ?undecRead⟩,
    fun s fn v hfn hserves => ?window, fun s v hserves hright => ?expert,
    fun s site w hsite hserves hwindow hexpert hon hw => ⟨fun hup => ⟨?core, ?thread0, ?thread1⟩, ?latch, ?clear⟩,
    fun s site thread hsite hserves hwindow hexpert => ?fault⟩
  case write => exact ⟨_, exec_registerWrite_of_serves s v hfn hserves haligned hend, rfl⟩
  case lower =>
    obtain ⟨hreads, _, hposted⟩ := hquiet
    subst hv
    refine ⟨_, onModule_of _ _ (by simp [hfn]; omega), ?_⟩
    dsimp only [doLowerHalfRead]
    rw [Module.readBar_of_lower hserves hal hend hplain]
    refine ⟨?_, Module.hostReply_out (m := (s.m.unlatch fn).updFunc fn _) _ _ hreads hposted⟩
    rw [Module.hostReply_func (m := (s.m.unlatch fn).updFunc fn _) _ _ hreads hposted, Module.updFunc_func]
  case upper =>
    obtain ⟨hreads, _, hposted⟩ := hquiet
    refine ⟨_, onModule_of _ _ (by simp [hfn]; omega), ?_⟩
    dsimp only [doLowerHalfRead]
    rw [Module.readBar_of_upper hserves hal hend hlatch]
    refine ⟨?_, Module.hostReply_out (m := s.m.unlatch fn) _ _ hreads hposted⟩
    rw [Module.hostReply_func (m := s.m.unlatch fn) _ _ hreads hposted, Module.unlatch, Module.updFunc_func]
  case snapshot =>
    obtain ⟨hreads, _, hposted⟩ := hquiet
    refine ⟨_, onModule_of _ _ rfl, ?_⟩
    dsimp only [doTelSnapshotLatch]
    rw [Module.readBar_of_snapshot hserves, Module.hostReply_of_quiet (m := (s.m.unlatch 0).telLatched) _ _ hreads hposted]
    rfl
  case misWrite =>
    refine ⟨_, onModule_of _ _ (by simp [hfn, hpos, hsize]), (if_neg (Bool.eq_false_iff.mp hbad)).trans ((if_pos rfl).trans ?_)⟩
    exact Module.writeBar0_of_refused 0 hopen hend (.inl hbad)
  case misRead =>
    obtain ⟨hreads, _, hposted⟩ := hquiet
    refine ⟨_, onModule_of _ _ (by simp [hfn, hpos, hsize]), ?_⟩
    dsimp only
    rw [doBar0MisalignedAccess, if_neg (Bool.eq_false_iff.mp hbad), if_neg Bool.false_ne_true,
      Module.readBar_of_refused hopen hend (.inl hbad)]
    exact Module.refuseRead_out (m := s.m.unlatch fn) _ _ _ hreads hposted
  case undecWrite =>
    have hundecoded := undecoded_of hpf hvf
    refine ⟨_, onModule_of _ _ (by simp [hfn, hpos, hsize]), (if_neg hundecoded.1).trans ((if_pos rfl).trans ?_)⟩
    exact Module.writeBar0_of_refused 0 hopen hend (.inr (hundecoded.2 s.m))
  case undecRead =>
    obtain ⟨hreads, _, hposted⟩ := hquiet
    have hundecoded := undecoded_of hpf hvf
    refine ⟨_, onModule_of _ _ (by simp [hfn, hpos, hsize]), ?_⟩
    dsimp only
    rw [doUndecodedBar0Access, if_neg hundecoded.1, if_neg Bool.false_ne_true, Module.readBar_of_refused hopen hend (.inr (hundecoded.2 s.m))]
    exact Module.refuseRead_out (m := s.m.unlatch fn) _ _ _ hreads hposted
  case window =>
    have hput : doDevWindowWrite fn v s.m = (s.m.unlatch fn).putWindow fn (2 ^ 64 - 1) (v % 2 ^ 64) := by
      rw [doDevWindowWrite, Module.writeBar0_of_word v hserves (by decide) (by rw [bar0Size]; split <;> decide), Module.writeServed]
      split
      · subst fn
        rfl
      · rfl
    refine ⟨_, onModule_of _ _ hfn, ?_⟩
    dsimp only
    rw [hput, Module.putWindow, Module.updFunc_func]
    exact ⟨window_of_full _ v, rfl, rfl⟩
  case expert =>
    refine ⟨_, onModule_of _ _ rfl, ?_⟩
    dsimp only [doExpertWindowWrite]
    rw [Module.writeBar0_of_word v hserves (by decide) (by decide), ← bitOf_mod v 0 (by decide)]
    exact congrArg Module.engine (if_pos hright : (if bitOf s.m.engine.rights 0 = true then _ else _) = _)
  case core =>
    obtain ⟨hbits, hhold, hselect, _⟩ := s.m.controlBit_fields site 0 (by decide)
    refine ⟨_, onModule_of _ _ (by rw [hsite]; rfl), ?_⟩
    subst hw
    exact (Module.controlBit_of_served hsite hserves hwindow hexpert hon (by decide)).trans
      (Module.coreControl_of_reset (m := s.m.unlatch 0) hbits hhold hselect hup (by decide))
  case thread0 =>
    obtain ⟨hbits, hhold, hselect, _⟩ := s.m.controlBit_fields site 1 (by decide)
    refine ⟨_, onModule_of _ _ (by rw [hsite]; rfl), ?_⟩
    subst hw
    exact (Module.controlBit_of_served hsite hserves hwindow hexpert hon (by decide)).trans
      (Module.coreControl_of_reset (m := s.m.unlatch 0) hbits hhold hselect hup (by decide))
  case thread1 =>
    obtain ⟨hbits, hhold, hselect, _⟩ := s.m.controlBit_fields site 2 (by decide)
    refine ⟨_, onModule_of _ _ (by rw [hsite]; rfl), ?_⟩
    subst hw
    exact (Module.controlBit_of_served hsite hserves hwindow hexpert hon (by decide)).trans
      (Module.coreControl_of_reset (m := s.m.unlatch 0) hbits hhold hselect hup (by decide))
  case latch =>
    obtain ⟨hbits, _⟩ := s.m.controlBit_fields site 6 (by decide)
    refine ⟨_, onModule_of _ _ (by rw [hsite]; rfl), ?_⟩
    dsimp only [doStallLatch]
    rw [Module.controlBit_of_served hsite hserves hwindow hexpert hon (by decide),
      Module.coreControl_of_counters (m := s.m.unlatch 0) hbits (by decide), Module.updCore_core]
    exact ⟨rfl, rfl, rfl⟩
  case clear =>
    obtain ⟨hbits, _⟩ := s.m.controlBit_fields site 7 (by decide)
    refine ⟨_, onModule_of _ _ (by rw [hsite]; rfl), ?_⟩
    dsimp only [doStallClear]
    rw [Module.controlBit_of_served hsite hserves hwindow hexpert hon (by decide),
      Module.coreControl_of_counters (m := s.m.unlatch 0) hbits (by decide), Module.updCore_core]
    exact ⟨rfl, rfl, rfl⟩
  case fault =>
    obtain ⟨hlt, hthread⟩ : site < 10240 ∧ thread < 2 := of_decide_eq_true hsite
    have hcore : siteOk site = true := decide_eq_true hlt
    refine ⟨_, onModule_of _ _ (by rw [hsite]; rfl), ?_⟩
    dsimp only [doCoreFaultValidClear]
    rw [Module.writeBar0_of_core _ hcore (by omega) (by omega) hserves]
    refine (if_neg (not_bnot (show (s.m.unlatch 0).windowOk (site / 1024) = true from hwindow))).trans ((if_neg (by omega)).trans
      ((if_pos ⟨by omega, hexpert, by decide⟩).trans ?_))
    rw [show (0x40 + 8 * thread - 0x40) / 8 = thread by omega]

end Sys2Proof.Machine
end

section
/-! SUPPORT. The host's rings (R484 to R490, R511). -/

namespace Sys2Proof.Machine

open Sys2Proof.Safety

section
variable (m : Module)

/-! ## A ring's registers -/

theorem Module.updRing_ring (r : Ring) (f : RingRegs → RingRegs) : (m.updRing r f).ring r = f (m.ring r) := by
  cases r with
  | letter fn => exact SMap.get_upd_self fn f
  | work n => exact SMap.get_upd_self n f
theorem Module.emit_ring (fn : Nat) (t : HostTx) (r : Ring) : (m.emit fn t).ring r = m.ring r := by
  unfold Module.emit; split <;> cases r <;> rfl
theorem Module.sendMsix_ring (fn v : Nat) (r : Ring) : (m.sendMsix fn v).ring r = m.ring r := by
  unfold Module.sendMsix
  dsimp only
  split
  · rfl
  · split
    · exact m.emit_ring fn _ r
    · cases r <;> rfl

/-! ## Writes of a ring's registers (R488 to R490) -/

/-- What the offset of one of a function's own ring registers reaches (R481, R489). -/
theorem Module.writeServed_of_ring (r : Ring) (mask v off size o : Nat) (ho : o ∈ [0x10, 0x30, 0x40]) :
    m.writeServed (ringFn r) (ringSeen (ringFn r) r + o) mask v off size = m.writeRing r (ringFn r) off o mask v := by
  simp only [List.mem_cons, List.not_mem_nil, or_false] at ho
  cases r with
  | letter fn =>
    by_cases hfn : fn = 0
    · subst hfn
      rcases ho with rfl | rfl | rfl <;> rfl
    · rw [Module.writeServed, show ringFn (.letter fn) = fn from rfl, if_neg hfn, show ringSeen fn (.letter fn) = 0x10000 from rfl,
        if_neg (by omega), if_pos (by omega), Nat.add_sub_cancel_left]
  | work n =>
    by_cases hn : n = 0
    · subst hn
      rcases ho with rfl | rfl | rfl <;> rfl
    · rw [Module.writeServed, show ringFn (.work n) = n from rfl, if_neg hn, show ringSeen n (.work n) = 0x30000 from if_neg hn,
        if_neg (by omega), if_neg (by omega), if_neg (by omega), if_pos (by omega), Nat.add_sub_cancel_left]
theorem bar0Size_ge (fn : Nat) : 2 ^ 20 ≤ bar0Size fn := by
  rw [bar0Size]
  split <;> decide
theorem ringSeen_fits (r : Ring) (o : Nat) (ho : o ∈ [0x10, 0x30, 0x40]) :
    (ringSeen (ringFn r) r + o) % 8 = 0 ∧ ringSeen (ringFn r) r + o + 8 ≤ bar0Size (ringFn r) := by
  simp only [List.mem_cons, List.not_mem_nil, or_false] at ho
  cases r with
  | letter fn =>
    have hplace : ringSeen (ringFn (.letter fn)) (.letter fn) = 0x10000 := rfl
    have hsize : 2 ^ 20 ≤ bar0Size (ringFn (.letter fn)) := bar0Size_ge fn
    omega
  | work n =>
    by_cases hn : n = 0
    · have hplace : ringSeen (ringFn (.work n)) (.work n) = 0x100000 + n * 4096 := if_pos hn
      have hsize : bar0Size (ringFn (.work n)) = 64 * 2 ^ 20 := if_pos hn
      omega
    · have hplace : ringSeen (ringFn (.work n)) (.work n) = 0x30000 := if_neg hn
      have hsize : 2 ^ 20 ≤ bar0Size (ringFn (.work n)) := bar0Size_ge n
      omega
theorem Module.writeBar0_of_ring {m : Module} {r : Ring} {o : Nat} (v : Nat) (ho : o ∈ [0x10, 0x30, 0x40])
    (hserves : serves (ringFn r) (ringSeen (ringFn r) r + o) m) : m.writeBar0 (ringFn r) (ringSeen (ringFn r) r + o) 8 v =
      (m.unlatch (ringFn r)).writeRing r (ringFn r) (ringSeen (ringFn r) r + o) o (2 ^ 64 - 1) (v % 2 ^ 64) := by
  obtain ⟨hal, hend⟩ := ringSeen_fits r o ho
  rw [Module.writeBar0_of_word v hserves hal hend, Module.writeServed_of_ring _ _ _ _ _ _ _ ho]

theorem ring_visible {r : Ring} (hwf : r.wf = true) : fnOk (ringFn r) = true ∧ ringVisible (ringFn r) r = true := by
  cases r with
  | letter fn => exact ⟨hwf, by simp [ringVisible, ringFn]⟩
  | work n => exact ⟨hwf, by simp [ringVisible, ringFn]⟩

/-- A doorbell of a quiet function takes effect at once (R484, R488). -/
theorem Module.bell_of_quiet {m : Module} {r : Ring} {v : Nat} (hquiet : quietPort (ringFn r) m) (hv : v < (m.ring r).size) :
    (m.bell r v).ring r = { m.ring r with tail := v } := by
  obtain ⟨_, hbells, hposted⟩ := hquiet
  have hreleased : m.bell r v = ({ m with port := { m.port with bells := [] } } : Module).bellNow r v (ringBase r + 0x10) := by
    unfold Module.bell Module.releaseBells
    refine (if_neg (Bool.eq_false_iff.mp (hposted _))).trans ?_
    simp [hbells]
  rw [hreleased]
  have hring : ({ m with port := { m.port with bells := [] } } : Module).ring r = m.ring r := by cases r <;> rfl
  rw [Module.bellNow, hring, if_neg (Nat.not_le.mpr hv), Module.updRing_ring, hring]
theorem Module.writeRing_tail (r : Ring) (fn off v : Nat) : m.writeRing r fn off 0x10 (2 ^ 64 - 1) (v % 2 ^ 64) = m.bell r (v % 4096) := by
  rw [Module.writeRing]
  dsimp only
  rw [if_neg (by decide), if_neg (by decide), if_pos rfl, if_neg (by decide), Nat.mod_mod_of_dvd v (by decide)]
theorem Module.writeRing_head {r : Ring} {v : Nat} (fn off : Nat) (h : (m.ring r).headOk (v % 4096) = true) :
    m.writeRing r fn off 0x30 (2 ^ 64 - 1) (v % 2 ^ 64) = m.updRing r (fun q => { q with cplHead := v % 4096 }) := by
  rw [Module.writeRing]
  dsimp only
  rw [if_neg (by decide), if_neg (by decide), if_neg (by decide), if_neg (by decide), if_neg (by decide), if_pos rfl, if_neg (by decide),
    Nat.mod_mod_of_dvd v (by decide), if_pos h]
theorem Module.writeRing_control (r : Ring) (fn off v : Nat) : m.writeRing r fn off 0x40 (2 ^ 64 - 1) v = m.ringControl r fn off (2 ^ 64 - 1) v := by
  rw [Module.writeRing]
  dsimp only
  rw [if_neg (by decide), if_neg (by decide), if_neg (by decide), if_neg (by decide), if_neg (by decide), if_neg (by decide), if_pos rfl]
theorem Module.ringControl_of_word {m : Module} (r : Ring) (fn off v : Nat) (h : bitOf v 2 = false) (hv : v < 2 ^ 64) :
    m.ringControl r fn off (2 ^ 64 - 1) v =
      if bitOf v 0 ∧ !(m.ring r).enable then (if (m.ring r).canEnable then m.updRing r RingRegs.start else m.ringMisuse r fn off)
      else if !bitOf v 0 ∧ (m.ring r).enable then m.updRing r RingRegs.stop else m := by
  have hclear : ¬ bitOf (v &&& 2 ^ 64 - 1) 2 = true := by
    rw [Nat.and_two_pow_sub_one_eq_mod, Nat.mod_eq_of_lt hv, h]
    exact Bool.false_ne_true
  have hmask : ¬ bitOf (2 ^ 64 - 1) 0 = false := by decide
  unfold Module.ringControl
  rw [if_neg hclear]
  exact if_neg hmask
theorem Module.ringControl_enable {m : Module} {r : Ring} (fn off : Nat) (hoff : (m.ring r).enable = false) (hok : (m.ring r).canEnable = true) :
    m.ringControl r fn off (2 ^ 64 - 1) 1 = m.updRing r RingRegs.start := by
  rw [Module.ringControl_of_word r fn off 1 (by decide) (by decide), if_pos ⟨by decide, by rw [hoff]; rfl⟩, if_pos hok]
theorem Module.ringControl_disable {m : Module} {r : Ring} (fn off : Nat) (hon : (m.ring r).enable = true) :
    m.ringControl r fn off (2 ^ 64 - 1) 0 = m.updRing r RingRegs.stop := by
  rw [Module.ringControl_of_word r fn off 0 (by decide) (by decide), if_neg (fun h => absurd h.1 (by decide)), if_pos ⟨by decide, hon⟩]

theorem Module.unlatch_ring (fn : Nat) (r : Ring) : (m.unlatch fn).ring r = m.ring r := by cases r <;> rfl

end

theorem Module.hostEvent_ring (m : Module) (a b c d e f g h : Nat) (r : Ring) : (m.hostEvent a b c d e f g h).ring r = m.ring r := by cases r <;> rfl
/-- A ring whose entry cannot be read is disabled and shows its error (R490). -/
theorem Module.ringReadError_stops (m : Module) (r : Ring) :
    ((m.ringReadError r).ring r).enable = false ∧ ((m.ringReadError r).ring r).error = true := by
  unfold Module.ringReadError
  dsimp only
  rw [Module.sendMsix_ring, Module.hostEvent_ring, Module.hostEvent_ring, Module.updRing_ring]
  exact ⟨rfl, rfl⟩

/-! ## The letterbox and the completions (R486, R511) -/

/-- The port reads the entry at the head of the letterbox whose turn it is (R511). -/
def lookedAt (m : Module) (fn : Nat) : Module :=
  ({ m with engine := { m.engine with rotation := (fn + 1) % 64 } }).answer
    (.memRead fn ((m.ring (.letter fn)).base + (m.ring (.letter fn)).head * 64) 64)
/-- The command an entry becomes (R511). -/
def takenSlot (m : Module) (fn : Nat) (b : List Byte) : CmdSlot :=
  { id := m.engine.nextId, fn := fn, opcode := getLe b 0 1, tag := getLe b 2 2, flags := getLe b 1 1, partition := getLe b 4 2, phase := .taken,
    instr := none, claims := [], cplFlags := 0, reserved := true, effect := false, info := [] }
def letterTaken (m : Module) (fn : Nat) (b : List Byte) : Module :=
  { (lookedAt m fn).takeEntry (.letter fn) with engine := { ((lookedAt m fn).takeEntry (.letter fn)).engine with
      nextId := m.engine.nextId + 1, cmds := m.engine.cmds ++ [takenSlot m fn b] } }

theorem Module.emit_of_mayRequest {m : Module} {fn : Nat} (h : mayRequest fn m) (t : HostTx) : m.emit fn t = m.answer t :=
  if_pos ⟨h.1, by rw [h.2]; rfl⟩
/-- A completion has been taken from those that wait (R486). -/
def unqueued (m : Module) (rest : List Cpl) : Module := { m with port := { m.port with cpls := rest } }
theorem unqueued_ring (m : Module) (rest : List Cpl) (r : Ring) : (unqueued m rest).ring r = m.ring r := by cases r <;> rfl
/-- A completion has left for its ring (R486). -/
def completed (m : Module) (c : Cpl) (rest : List Cpl) : Module :=
  ((unqueued m rest).answer (.memWrite (ringFn c.ring)
    ((m.ring c.ring).cplBase + (m.ring c.ring).cplTail * ringCplBytes c.ring) c.bytes false)).updRing c.ring
    (fun q => ({ q with cplTail := ((m.ring c.ring).cplTail + 1) % (m.ring c.ring).cplSize }).release c.reserved)

/-- Settles O41: each register write by the register it reaches, the letterbox and the completion by their own bodies. -/
theorem hostRings : Obligations.HostRings := by
  refine ⟨fun s fn v hfn hserves hquiet hv => ?bell, fun s fn v hfn hserves hquiet hv => ?work, fun s part v hpart hother hserves => ?alien,
    fun s fn v r hfn hwf hring hserves hhead => ?head, fun s fn r hfn hwf hring hserves hoff hok => ?enable,
    fun s fn r hfn hwf hring hserves hon => ?disable, fun s fn b hturn hlen hop => ?take, fun s fn hturn => ?lost,
    fun s r c rest hwf hlink hfirst hring hmay hsize hmirror hvector => ?complete⟩
  case bell =>
    refine ⟨_, onModule_of _ _ hfn, ?_⟩
    dsimp only [doLtrCmdTailWrite]
    rw [show s.m.writeBar0 fn 0x10010 8 v = _ from Module.writeBar0_of_ring (r := .letter fn) (o := 0x10) v (by decide) hserves, Module.writeRing_tail]
    exact Module.bell_of_quiet (m := s.m.unlatch fn) (r := .letter fn) hquiet hv
  case work =>
    have hpart : partOk fn = true := hfn
    refine ⟨_, onModule_of _ _ (by simp [hfn, hpart, ringVisible]), ?_⟩
    dsimp only [doWrkSubTailWrite]
    rw [show s.m.writeBar0 fn (ringSeen fn (.work fn) + 0x10) 8 v = _ from Module.writeBar0_of_ring (r := .work fn) v (by decide) hserves,
      Module.writeRing_tail]
    exact Module.bell_of_quiet (m := s.m.unlatch fn) (r := .work fn) hquiet hv
  case alien =>
    have hlt : part < 64 := of_decide_eq_true hpart
    have hplace : ringSeen 0 (.work part) = 0x100000 + part * 4096 := rfl
    refine ⟨_, onModule_of _ _ (by rw [hpart]; rfl), ?_⟩
    dsimp only [doWrkSubTailWrite]
    rw [Module.writeBar0_of_word v hserves (by omega) (by rw [hplace, bar0Size, if_pos rfl]; omega), Module.writeServed, if_pos rfl,
      if_neg (by omega), if_neg (by omega), if_pos (by omega)]
  case head =>
    subst hring
    refine ⟨_, onModule_of _ _ (by simp [hwf, ring_visible hwf]), ?_⟩
    dsimp only [doCompletionHeadWrite]
    rw [Module.writeBar0_of_ring v (by decide) hserves, Module.writeRing_head _ _ _ (by rw [Module.unlatch_ring]; exact hhead), Module.updRing_ring,
      Module.unlatch_ring]
  case enable =>
    subst hring
    refine ⟨_, onModule_of _ _ (by simp [hwf, ring_visible hwf]), ?_⟩
    dsimp only [doRingEnable]
    rw [Module.writeBar0_of_ring 1 (by decide) hserves, Module.writeRing_control,
      show 1 % 2 ^ 64 = 1 from rfl, Module.ringControl_enable _ _ (by rw [Module.unlatch_ring]; exact hoff) (by rw [Module.unlatch_ring]; exact hok),
      Module.updRing_ring, Module.unlatch_ring]
    rfl
  case disable =>
    subst hring
    refine ⟨_, onModule_of _ _ (by simp [hwf, ring_visible hwf]), ?_⟩
    dsimp only [doRingDisable]
    rw [Module.writeBar0_of_ring 0 (by decide) hserves, Module.writeRing_control,
      show 0 % 2 ^ 64 = 0 from rfl, Module.ringControl_disable _ _ (by rw [Module.unlatch_ring]; exact hon), Module.updRing_ring, Module.unlatch_ring]
    rfl
  case take =>
    have htaken : doLetterboxEntryTake (some b) s.m = letterTaken s.m fn b := by
      unfold doLetterboxEntryTake
      rw [hturn]
      exact if_pos hop
    refine ⟨_, takenSlot s.m fn b, onModule_of _ _ (by simp [hlen]), ?_⟩
    dsimp only
    rw [htaken]
    refine ⟨rfl, rfl, rfl, rfl, rfl, rfl, rfl, ?_, ?_⟩
    · exact congrArg RingRegs.head (Module.updRing_ring (lookedAt s.m fn) (.letter fn) _)
    · exact congrArg RingRegs.taken (Module.updRing_ring (lookedAt s.m fn) (.letter fn) _)
  case lost =>
    have hlost : doLetterboxEntryTake none s.m = (lookedAt s.m fn).ringReadError (.letter fn) := by
      unfold doLetterboxEntryTake
      rw [hturn]
      rfl
    refine ⟨_, onModule_of _ _ rfl, ?_⟩
    dsimp only
    rw [hlost]
    obtain ⟨hoff, hfailed⟩ := (lookedAt s.m fn).ringReadError_stops (.letter fn)
    refine ⟨hoff, hfailed, ?_⟩
    unfold Module.ringReadError
    dsimp only
    rw [Module.sendMsix_engine]
    rfl
  case complete =>
    subst hring
    have hplaced : doCompletionWrite c.ring s.m = completed s.m c rest := by
      refine (if_pos hlink).trans ?_
      rw [Module.writeCpl, hfirst]
      dsimp only
      rw [show ({ s.m with port := { s.m.port with cpls := rest } } : Module) = unqueued s.m rest from rfl, Module.placeCpl]
      dsimp only
      rw [unqueued_ring, if_neg hsize, hmirror, if_neg Bool.false_ne_true, hvector, Module.emit_of_mayRequest (m := unqueued s.m rest) hmay _]
      rfl
    refine ⟨_, onModule_of _ _ hwf, ?_⟩
    dsimp only
    rw [hplaced, completed, Module.updRing_ring]
    generalize c.ring = r
    refine ⟨?_, ?_, rfl⟩
    · cases r <;> rfl
    · cases r <;> rfl

end Sys2Proof.Machine
end

section
/-! SUPPORT. Requests of the host to BAR2, BAR4 and configuration space (R477 to R483, R499). -/

namespace Sys2Proof.Machine

open Sys2Proof.Safety

/-! ## The parts of a request (R482) -/

/-- A request inside one unit is its one part. -/
theorem cuts_of_inside {u a n : Nat} (hn : 0 < n) (h : a % u + n ≤ u) : cuts u a n = [(a, n)] := by
  have hmin : min n (u - a % u) = n := Nat.min_eq_left (by omega)
  rw [cuts, cut, if_neg (by omega)]
  dsimp only
  rw [hmin, Nat.sub_self, cut, if_pos rfl]

section
variable {m : Module} {fn off : Nat}

/-! ## BAR2 (R482, R483) -/

theorem Module.badHit_of_ok {a len : Nat} {write : Bool} (h : m.hostHit fn a write = .ok a) : m.badHit fn write [(a, len)] = none := by
  simp [Module.badHit, h]
theorem Module.hostPa_of_ok {a : Nat} {write : Bool} (h : m.hostHit fn a write = .ok a) : m.hostPa fn a write = a := by
  rw [Module.hostPa, h]
theorem Module.hostWalkHeld_pf (m : Module) (ps : List (Nat × Nat)) : m.hostWalkHeld 0 ps = false := rfl
/-- A write behind BAR2 that is looked at: ready, inside BAR2, no part of it behind a held walk (R482). -/
theorem Module.bar2Put_of_ready {data : List Byte} {poison : Bool} {held : Instr} (hend : off + data.length ≤ m.bar2Size fn)
    (hready : m.bring.ready = true) : m.bar2Put fn off data poison held =
      if m.hostWalkHeld fn (cuts 2048 (m.bar2Base fn + off) data.length) then m.holdCmd held
      else match m.badHit fn true (cuts 2048 (m.bar2Base fn + off) data.length) with
        | some (b, h) => (m.hostLookups fn (cuts 2048 (m.bar2Base fn + off) data.length)).logHit fn off data.length b true h
        | none =>
          if (cuts 2048 (m.bar2Base fn + off) data.length).any (fun p =>
            m.hostWaits (siteOfAddr (m.hostPa fn p.1 true)) (m.hostPa fn p.1 true)) then m.holdCmd held
          else (cuts 2048 (m.bar2Base fn + off) data.length).foldl (fun (acc : Module) p =>
            if acc.hostLost (siteOfAddr (m.hostPa fn p.1 true)) (m.hostPa fn p.1 true) then
              acc.hostLoss (siteOfAddr (m.hostPa fn p.1 true)) (m.hostPa fn p.1 true)
            else ({ acc with port := { acc.port with nextId := acc.port.nextId + 1 } }).writeArrives
              ⟨siteOfAddr (m.hostPa fn p.1 true), offOfAddr (m.hostPa fn p.1 true), 2, .host fn acc.port.nextId, true, decide (p.2 = 2048),
               (data.drop (p.1 - (m.bar2Base fn + off))).take p.2, poison⟩)
            (m.hostLookups fn (cuts 2048 (m.bar2Base fn + off) data.length)) :=
  (if_neg (Nat.not_lt.mpr hend)).trans (if_neg (not_bnot hready))

/-- A write of the physical function inside one row (R482). -/
theorem Module.bar2Put_of_row {data : List Byte} {held : Instr} (hpos : 0 < data.length) (hrow : (m.bar2Base 0 + off) % 2048 + data.length ≤ 2048)
    (hend : off + data.length ≤ m.bar2Size 0) (hready : m.bring.ready = true) (hhit : m.hostHit 0 (m.bar2Base 0 + off) true = .ok (m.bar2Base 0 + off)) :
    m.bar2Put 0 off data false held =
      if m.hostWaits (siteOfAddr (m.bar2Base 0 + off)) (m.bar2Base 0 + off) then m.holdCmd held
      else if m.hostLost (siteOfAddr (m.bar2Base 0 + off)) (m.bar2Base 0 + off) then
        m.hostLoss (siteOfAddr (m.bar2Base 0 + off)) (m.bar2Base 0 + off)
      else ({ m with port := { m.port with nextId := m.port.nextId + 1 } } : Module).writeArrives
        ⟨siteOfAddr (m.bar2Base 0 + off), offOfAddr (m.bar2Base 0 + off), 2, .host 0 m.port.nextId, true, decide (data.length = 2048), data, false⟩ := by
  rw [Module.bar2Put_of_ready hend hready, cuts_of_inside hpos hrow, Module.badHit_of_ok hhit, Module.hostWalkHeld_pf, if_neg Bool.false_ne_true]
  simp [Module.hostPa_of_ok hhit, Module.hostLookups]
theorem bar2Read_of_ready {len : Nat} (hopen : barOpen fn m) (hend : off + len ≤ m.bar2Size fn) (hready : m.bring.ready = true)
    (hheld : m.hostWalkHeld fn (cuts 2048 (m.bar2Base fn + off) len) = false)
    (hbad : m.badHit fn false (cuts 2048 (m.bar2Base fn + off) len) = none) :
    doBar2Read fn off len m =
      let reqs := (cuts 2048 (m.bar2Base fn + off) len).flatMap (fun p => readReqs (m.hostPa fn p.1 false) p.2)
      let ids := (List.range reqs.length).map (fun i => m.port.nextId + i)
      let x := m.hostLookups fn (cuts 2048 (m.bar2Base fn + off) len)
      if reqs.any (fun r => m.hostWaits (siteOfAddr r.1) r.1) then m.holdCmd (.bar2Read fn off len)
      else (ids.zip reqs).foldl (fun (acc : Module) r =>
          if acc.hostLost (siteOfAddr r.2.1) r.2.1 then
            (({ acc with free := acc.free + 1 }).hostLoss (siteOfAddr r.2.1) r.2.1).hostData fn r.1 (acc.unknown (if r.2.2 then 2048 else 64)) true
          else acc.readArrives ⟨siteOfAddr r.2.1, offOfAddr r.2.1, 0, .host fn r.1, false, r.2.2, [], false⟩)
        { x with port := { x.port with
            nextId := m.port.nextId + reqs.length
            reads := x.port.reads ++ [⟨fn, if (reqs.headD (0, true)).2 then 0 else (m.bar2Base fn + off) % 64, len,
              ids.map (fun i => (i, none)), false⟩] } } := by
  rw [doBar2Read, Module.onBar_of_barOpen hopen]
  dsimp only
  rw [if_neg (Nat.not_lt.mpr hend), if_neg (not_bnot hready), if_neg (Bool.eq_false_iff.mp hheld), hbad]

/-! ## BAR4 (R229 to R235, R482) -/

/-- A read of one word behind BAR4 (R482). -/
theorem bar4Read_of_word (hopen : barOpen 0 m) (hal : off % 8 = 0) (hend : off + 8 ≤ bar4Size) (hready : m.bring.ready = true)
    (hpad : m.padOpen off = true) (hfree : m.hostWaits (off / 2 ^ 23) off = false) (hnear : m.hostLost (off / 2 ^ 23) off = false) :
    doBar4Read 0 off 8 m = ((m.padWordRead 0 off 8).1).hostReply 0 (m.padWordRead 0 off 8).2.1 (m.padWordRead 0 off 8).2.2 := by
  rw [doBar4Read, Module.onBar_of_barOpen hopen, cuts_of_inside (by decide) (by omega)]
  refine (if_neg (fun hbad => hbad.elim (fun h => h rfl) (Nat.not_lt.mpr hend))).trans ((if_neg ?_).trans ((if_neg ?_).trans ?_))
  · simp [hready, hpad]
  · simpa using hfree
  · have hroute : m.hostLost (off / 8388608) off = false := hnear
    simp [hroute]
/-- A write of one word behind BAR4 (R231, R482). -/
theorem bar4Write_of_word {data : List Byte} (hopen : barOpen 0 m) (hal : off % 8 = 0) (hlen : data.length = 8) (hend : off + 8 ≤ bar4Size)
    (hready : m.bring.ready = true) (hpad : m.padOpen off = true) (hfree : m.hostWaits (off / 2 ^ 23) off = false)
    (hnear : m.hostLost (off / 2 ^ 23) off = false) : doBar4Write 0 off data m =
      (m.wake (clusterOf (off / 2 ^ 23))).padExternal (off / 2 ^ 23) (off % 2 ^ 23 / 2 ^ 21) (off % 2 ^ 21) data false 6 0x8000 := by
  rw [doBar4Write, Module.onBar_of_barOpen hopen, Module.bar4Put, hlen, cuts_of_inside (by decide) (by omega)]
  refine (if_neg (fun hbad => hbad.elim (fun h => h rfl) (Nat.not_lt.mpr hend))).trans ((if_neg ?_).trans ((if_neg ?_).trans ?_))
  · simp [hready, hpad]
  · simpa using hfree
  · have htake : data.take 8 = data := List.take_of_length_le (by omega)
    have hroute : m.hostLost (off / 8388608) off = false := hnear
    simp [hroute, htake]

theorem doBar2Write_of_open (hopen : barOpen fn m) (data : List Byte) :
    doBar2Write fn off data m = m.bar2Put fn off data false (.bar2Write fn off data) := by
  rw [doBar2Write, Module.onBar_of_barOpen hopen]
/-- A virtual function has no BAR4 (R479). -/
theorem bar4_of_vf (hopen : barOpen fn m) (hvf : fn ≠ 0) (len : Nat) (data : List Byte) :
    doBar4Read fn off len m = m.answer (.unsupported fn) ∧ doBar4Write fn off data m = m.answer (.unsupported fn) := by
  rw [doBar4Read, doBar4Write, Module.onBar_of_barOpen hopen, Module.onBar_of_barOpen hopen]
  exact ⟨if_pos (.inl hvf), if_pos (.inl hvf)⟩

/-! ## Configuration space (R499) -/

/-- What was held leaves behind what has left, and the function keeps its power state (R499). -/
theorem Module.releaseHeld_out (m : Module) (fn : Nat) : m.port.out.length ≤ (m.releaseHeld fn).port.out.length ∧
    ((m.releaseHeld fn).func fn).d3hot = (m.func fn).d3hot := by
  unfold Module.releaseHeld
  dsimp only
  split
  · rw [Module.updFunc_func]
    exact ⟨by simp [Module.updFunc], rfl⟩
  · exact ⟨Nat.le_refl _, rfl⟩
/-- A configuration request that is served (R477, R499). -/
theorem doConfigurationRequest_of_served {write : Bool} {reg v : Nat} (hperst : m.port.perst = false) (hlink : m.port.linkUp = true)
    (hcfg : m.port.cfgReady = true) (hfn : fn ≤ m.port.numVfs) : doConfigurationRequest fn write reg v m =
      if write then (m.configWrite fn reg v).answer (.readData fn [] false)
      else ({ m with free := m.free + 1 }).answer (.readData fn (leBytes 4 (m.configRead fn reg)) false) :=
  (if_neg (fun hbad => hbad.elim (Bool.eq_false_iff.mp hperst) (not_bnot hlink))).trans
    ((if_neg (not_bnot hcfg)).trans (if_neg (Nat.not_lt.mpr hfn)))

end

/-- Settles O42: BAR2 and BAR4 by the lemmas about a request that is looked at, the rest by its own body. -/
theorem hostRequests : Obligations.HostRequests := by
  refine ⟨fun s fn off len hfn hopen hpos hlen hend hready hbad hheld hfree => ?read,
    fun s fn off len hfn hopen hpos hlen hend hready hquiet => ?readEarly,
    fun s off data hopen hpos hrow hend hready hhit hfree hnear => ?write, fun s off data hopen hpos hlen hrow hend hready hhit hwaits => ?writeWaits,
    fun s fn off data hfn hopen hpos hlen hend hready hheld => ?writeHeld,
    fun s fn off data b h hfn hopen hpos hlen hend hready hheld hbad => ?writeBad,
    fun s off hopen hal hend hready hpad hquiet hfree hnear => ?pad, fun s off data hopen hal hlen hend hready hpad hfree hnear => ?padWrite,
    fun s fn off len data hfn hvf hopen hpos hlen hdpos hdlen => ⟨?vfRead, ?vfWrite⟩, fun s fn kind hfn hperst hlink => ?unsupported,
    fun s fn bar off data hfn hbar hopen hpos hlen => ?poisoned, fun s fn v hfn hperst hlink hcfg hvfs => ⟨?cfgWrite, ?cfgRead⟩,
    fun s fn reg v wr hfn hreg hperst hlink hcfg => ?retry⟩
  case read =>
    refine ⟨_, onModule_of _ _ (by simp [hfn, hpos, hlen]), (bar2Read_of_ready hopen hend hready hheld hbad).trans (if_neg ?_)⟩
    rw [List.any_eq_true]
    rintro ⟨r, hr, hwaits⟩
    exact Bool.false_ne_true ((hfree r hr).symm.trans hwaits)
  case readEarly =>
    obtain ⟨hreads, _, hposted⟩ := hquiet
    refine ⟨_, onModule_of _ _ (by simp [hfn, hpos, hlen]), ?_⟩
    dsimp only
    rw [doBar2Read, Module.onBar_of_barOpen hopen]
    dsimp only
    rw [if_neg (Nat.not_lt.mpr hend), if_pos (by rw [hready]; rfl)]
    exact Module.refuseRead_out _ _ _ hreads hposted
  case write =>
    refine ⟨_, onModule_of _ _ (by simp [fnOk, Config.functions, hpos]; omega), (doBar2Write_of_open hopen data).trans ?_⟩
    rw [Module.bar2Put_of_row hpos hrow hend hready hhit, if_neg (Bool.eq_false_iff.mp hfree), if_neg (Bool.eq_false_iff.mp hnear)]
  case writeWaits =>
    refine ⟨_, onModule_of _ _ (by simp [fnOk, Config.functions, hpos, hlen]), ?_⟩
    dsimp only
    rw [doBar2Write_of_open hopen, Module.bar2Put_of_row hpos hrow hend hready hhit, if_pos hwaits]
    exact ⟨rfl, rfl⟩
  case writeHeld =>
    refine ⟨_, onModule_of _ _ (by simp [hfn, hpos, hlen]), (doBar2Write_of_open hopen data).trans ?_⟩
    exact (Module.bar2Put_of_ready hend hready).trans (if_pos hheld)
  case writeBad =>
    refine ⟨_, onModule_of _ _ (by simp [hfn, hpos, hlen]), (doBar2Write_of_open hopen data).trans ?_⟩
    rw [Module.bar2Put_of_ready hend hready, if_neg (Bool.eq_false_iff.mp hheld), hbad]
  case pad =>
    exact ⟨_, onModule_of _ _ rfl, bar4Read_of_word hopen hal hend hready hpad hfree hnear⟩
  case padWrite =>
    exact ⟨_, onModule_of _ _ (by simp [fnOk, Config.functions, hlen]), bar4Write_of_word hopen hal hlen hend hready hpad hfree hnear⟩
  case vfRead =>
    exact ⟨_, onModule_of _ _ (by simp [hfn, hpos, hlen]), (bar4_of_vf hopen hvf len data).1⟩
  case vfWrite =>
    exact ⟨_, onModule_of _ _ (by simp [hfn, hdpos, hdlen]), (bar4_of_vf hopen hvf len data).2⟩
  case unsupported =>
    refine ⟨_, onModule_of _ _ hfn, ?_⟩
    dsimp only
    rw [doUnsupportedRequest, if_neg (fun hbad => hbad.elim (Bool.eq_false_iff.mp hperst) (not_bnot hlink))]
    exact List.append_assoc _ _ _
  case poisoned =>
    refine ⟨_, onModule_of _ _ (by simp [hfn, hbar, hpos, hlen]), ?_⟩
    dsimp only
    rw [doPoisonedTlpWrite, Module.onBar_of_barOpen hopen]
    refine ⟨fun hbar0 => ?_, fun hbar2 => if_pos hbar2, fun hbar4 => (if_neg (by omega)).trans (if_pos hbar4)⟩
    exact (if_neg (by omega)).trans (if_neg (by omega))
  case cfgWrite =>
    refine ⟨_, onModule_of _ _ (by simp [hfn]), ?_⟩
    dsimp only
    rw [doConfigurationRequest_of_served hperst hlink hcfg hvfs, if_pos rfl]
    obtain ⟨hout, hstate⟩ := (s.m.updFunc fn (fun f => { f with d3hot := v % 4 == 3 })).releaseHeld_out fn
    refine ⟨?_, hstate.trans (congrArg Func.d3hot (Module.updFunc_func _ _ _))⟩
    simp only [Module.answer, List.length_append, List.length_singleton]
    exact Nat.lt_succ_of_le hout
  case cfgRead =>
    refine ⟨_, onModule_of _ _ (by simp [hfn]), ?_⟩
    dsimp only
    rw [doConfigurationRequest_of_served hperst hlink hcfg hvfs, if_neg Bool.false_ne_true]
    rfl
  case retry =>
    refine ⟨_, onModule_of _ _ (by simp [hfn, hreg]), ?_⟩
    refine (if_neg (fun hbad => hbad.elim (Bool.eq_false_iff.mp hperst) (not_bnot hlink))).trans (if_pos ?_)
    rw [hcfg]
    rfl

end Sys2Proof.Machine
end

section
/-! SUPPORT. The dispatcher and the copies (R131, R265 to R270, R488 to R497). -/

namespace Sys2Proof.Machine

open Sys2Proof.Safety

/-! ## Work packets (R491, R497) -/

section
variable {m : Module} {part seq : Nat} {p : Packet}

/-- The entry at the head of a work ring is read, and the ring goes on (R488). -/
def workTaken (m : Module) (part : Nat) : Module :=
  (((m.tookTurn part).answer (.memRead part ((m.ring (.work part)).base + (m.ring (.work part)).head * 128) 128)).takeEntry (.work part)).updRing
    (.work part) (fun r => { r with seq := (r.seq + 1) % 2 ^ 64 })
/-- The packet an entry becomes (R491). -/
def takenPacket (m : Module) (part : Nat) (b : List Byte) : Packet :=
  { seq := (m.ring (.work part)).seq, bytes := b, started := false, done := false, status := stOk, created := 0, ok := 0, faulted := 0,
    cancelled := 0, skipped := 0, moved := 0, pos := [], fault := [], result := 0, running := 0, info := [], chunks := [],
    header := [], lists := [], at_ := (m.ring (.work part)).base + (m.ring (.work part)).head * 128 }
theorem workTaken_ring (m : Module) (part : Nat) : (workTaken m part).ring (.work part) = { m.ring (.work part) with
    head := ((m.ring (.work part)).head + 1) % max (m.ring (.work part)).size 1, taken := (m.ring (.work part)).taken + 1,
    seq := ((m.ring (.work part)).seq + 1) % 2 ^ 64 } := by
  rw [workTaken, Module.updRing_ring, Module.takeEntry, Module.updRing_ring]
  rfl
theorem doWorkPacketTake_of_turn {b : List Byte} (hready : m.takeReady part = true)
    (hturn : m.outranked part m.parts.lastTake m.takeReady = false) : doWorkPacketTake part (some b) m =
      match (workTaken m part).packetRefusal part b with
      | some st => ((workTaken m part).logPacket part (takenPacket m part b) st).queueWork part
          ((Packet.completion { takenPacket m part b with status := st } 0 0))
          (if bitOf (wpFlags b) 1 ∧ vectorOk part (getLe b 2 1) then some (getLe b 2 1) else none) true
      | none => (workTaken m part).updPart part (fun x => { x with packets := x.packets ++ [takenPacket m part b] }) :=
  if_neg fun hbad => hbad.elim (not_bnot hready) (Bool.eq_false_iff.mp hturn)

/-- A copy's next request (R495, R496). -/
theorem Module.copyNext_of_found {pa : Nat} {go : Module → Nat → Nat → Module} (hheld : m.walkHeld part (wpAddr p.bytes + p.moved) = false)
    (hfound : m.lookup .host part (wpAddr p.bytes + p.moved) (if p.kind = 2 then 4 else 3) = .ok pa) : m.copyNext part p go =
      go ((((if p.started then m else m.copyTurn part).lookedUp .host part (wpAddr p.bytes + p.moved)).updPacket part p.seq (fun q => { q with
        started := true, pos := [copyChunk p (m.maxRead part), pa] }))) pa (copyChunk p (m.maxRead part)) := by
  refine (if_neg (Bool.eq_false_iff.mp hheld)).trans ?_
  dsimp only
  rw [hfound]
theorem doCopyHostDataArrival_of_lost (ep : Bool) (hwaits : m.copyWaiting part = some p) :
    doCopyHostDataArrival part none ep m = m.endCopy part p.seq stHostError [] := by
  unfold doCopyHostDataArrival
  rw [hwaits]
/-- What the header `h` of a length table comes to, in the module `m1` whose caches have taken its translation (R262, R492). -/
def lengthTableRead (part seq : Nat) (h : List Byte) (m1 m : Module) : Module :=
  match m1.readPlaces part h with
  | .wait => m
  | .poison => (m1.placesLookedUp part h).refusePacket part seq stPoisoned
  | .fault cause bad => ((m1.placesLookedUp part h).tableFault part (ltPlacement h) cause bad).refusePacket part seq stProgramFault
  | .ok bs =>
    if !((List.range (ltGroups h)).map (fun g => getLe bs (8 * g) 8)).all (m.placeOk part) then
      (m1.placesLookedUp part h).refusePacket part seq stBadParam
    else if (((List.range (ltGroups h)).map (fun g => getLe bs (8 * g) 8)).map m.placeCores).any (·.isEmpty) then
      (m1.placesLookedUp part h).refusePacket part seq stFenced
    else (m1.placesLookedUp part h).updPacket part seq (fun p => { p with
      started := true, header := h, lists := ((List.range (ltGroups h)).map (fun g => getLe bs (8 * g) 8)).map m.placeCores, pos := [0, 0, 0, 0] })
/-- A read of a length table that goes on, of a packet whose turn it is (R492). -/
theorem doLengthTable_of_turn (hpacket : m.packet part seq = some p) (hkind : p.kind = 1) (hstart : m.packetMayStart part p = true)
    (hgoes : m.dispatching = true) : doLengthTable part seq m =
      match m.tableRead part (wpAddr p.bytes) 64 with
      | .wait => m
      | .poison => (m.lookedUp .dispatcher part (wpAddr p.bytes)).refusePacket part seq stPoisoned
      | .fault cause bad => ((m.lookedUp .dispatcher part (wpAddr p.bytes)).tableFault part (wpAddr p.bytes) cause bad).refusePacket part seq stProgramFault
      | .ok h =>
        if !headerOk h then (m.lookedUp .dispatcher part (wpAddr p.bytes)).refusePacket part seq stBadParam
        else lengthTableRead part seq h (m.lookedUp .dispatcher part (wpAddr p.bytes)) m := by
  unfold doLengthTable
  rw [hpacket]
  exact if_neg fun hbad => hbad.elim (fun h => h hkind) fun h => h.elim (not_bnot hstart) (not_bnot hgoes)

end

/-- Settles O43: each event under the conditions its statement names. -/
theorem dispatcherEvents : Obligations.DispatcherEvents := by
  refine ⟨fun s part b hpart hlen hready hturn haccepted => ?taken, fun s part st b hpart hlen hready hturn hrefused => ?refused,
    fun s part seq site p hpart hpacket hkind hstart hgoes hsite hroom => ?program,
    fun s part seq p h bs hpart hpacket hkind hstart hgoes hread hheader hplaces hok hcores => ?table,
    fun s part seq p hpart hpacket hkind hstart hgoes hread => ?tablePoison,
    fun s part seq p e hpart hpacket hkind hstarted hdone hgoes hread => ?creation,
    fun s part seq p k hpart hpacket hchunk hok hgoes hroom => ?merge,
    fun s site t it rest hsite hgoes hruns hview hup htakes hhalted hfirst hmode => ?start,
    fun s part seq pa p hpart hpacket hkind hgoes hheld hfound => ?copyIn, fun s part seq pa p hpart hpacket hkind hgoes hheld hfound => ?copyOut,
    fun s part n pa p bs ep hpart hwaits hpos hlen => ?arrival, fun s part p ep hpart hwaits => ⟨?lost, ?timeout⟩,
    fun s r hwf hreadable => ?ringTimeout⟩
  case taken =>
    have hput : doWorkPacketTake part (some b) s.m =
        (workTaken s.m part).updPart part (fun x => { x with packets := x.packets ++ [takenPacket s.m part b] }) := by
      rw [doWorkPacketTake_of_turn hready hturn, show (workTaken s.m part).packetRefusal part b = none from haccepted]
    refine ⟨_, takenPacket s.m part b, onModule_of _ _ (by simp [hpart, hlen]), ?_⟩
    dsimp only
    rw [hput, Module.updPart_part]
    have hring : ((workTaken s.m part).updPart part (fun x => { x with packets := x.packets ++ [takenPacket s.m part b] })).ring (.work part) =
        (workTaken s.m part).ring (.work part) := rfl
    rw [hring, workTaken_ring]
    exact ⟨rfl, rfl, rfl, rfl, rfl, rfl, rfl⟩
  case refused =>
    refine ⟨_, onModule_of _ _ (by simp [hpart, hlen]), ?_⟩
    dsimp only
    rw [doWorkPacketTake_of_turn hready hturn, show (workTaken s.m part).packetRefusal part b = some st from hrefused]
    exact ⟨rfl, _, List.mem_append_right _ (List.mem_singleton.mpr rfl), rfl, rfl⟩
  case program =>
    refine ⟨_, onModule_of _ _ hpart, ?_⟩
    show doProgram part seq s.m = _
    unfold doProgram
    rw [hpacket]
    dsimp only
    rw [if_neg fun hbad => hbad.elim (fun h => h hkind) fun h => h.elim (not_bnot hstart) (not_bnot hgoes), hsite]
    exact if_neg (not_bnot hroom)
  case table =>
    refine ⟨_, onModule_of _ _ hpart, (doLengthTable_of_turn hpacket hkind hstart hgoes).trans ?_⟩
    rw [hread]
    refine (if_neg (not_bnot hheader)).trans ?_
    rw [lengthTableRead, hplaces]
    exact (if_neg (not_bnot hok)).trans (if_neg (Bool.eq_false_iff.mp hcores))
  case tablePoison =>
    refine ⟨_, onModule_of _ _ hpart, (doLengthTable_of_turn hpacket hkind hstart hgoes).trans ?_⟩
    rw [hread]
  case creation =>
    refine ⟨_, onModule_of _ _ hpart, ?_⟩
    show doItemCreation part seq s.m = _
    unfold doItemCreation
    rw [hpacket]
    dsimp only
    rw [if_neg, hread]
    rintro (hother | hwaits | hended | hstopped)
    · exact hother hkind
    · exact not_bnot hstarted hwaits
    · exact Bool.false_ne_true (hdone.symm.trans hended)
    · exact not_bnot hgoes hstopped
  case merge =>
    refine ⟨_, onModule_of _ _ hpart, ?_⟩
    show doMergeItemCreation part seq s.m = _
    unfold doMergeItemCreation
    rw [hpacket]
    dsimp only
    rw [hchunk]
    dsimp only
    rw [if_neg (not_bnot hok), if_neg fun hbad => hbad.elim (not_bnot hgoes) (not_bnot hroom)]
  case start =>
    refine ⟨_, onModule_of _ _ hsite, (if_neg ?_).trans ?_⟩
    · rintro (hstopped | hstill | hviewed | hresets | hfull)
      · exact not_bnot hgoes hstopped
      · exact not_bnot hruns hstill
      · exact Bool.false_ne_true (hview.symm.trans hviewed)
      · exact Bool.false_ne_true (hup.symm.trans hresets)
      · exact not_bnot htakes hfull
    · rw [hfirst]
      dsimp only
      rw [if_neg (not_bnot hmode), if_neg (Bool.eq_false_iff.mp hhalted)]
  case copyIn =>
    refine ⟨_, onModule_of _ _ hpart, ?_⟩
    show doCopyIn part seq s.m = _
    unfold doCopyIn
    rw [hpacket]
    dsimp only
    rw [if_neg fun hbad => hbad.elim (fun h => h hkind) (not_bnot hgoes), Module.copyNext_of_found hheld (by rw [if_pos hkind]; exact hfound)]
  case copyOut =>
    refine ⟨_, onModule_of _ _ hpart, ?_⟩
    show doCopyOut part seq s.m = _
    unfold doCopyOut
    rw [hpacket]
    dsimp only
    rw [if_neg fun hbad => hbad.elim (fun h => h hkind) (not_bnot hgoes),
      Module.copyNext_of_found hheld (by rw [if_neg (by rw [hkind]; decide)]; exact hfound)]
  case arrival =>
    refine ⟨_, onModule_of _ _ hpart, ?_⟩
    show doCopyHostDataArrival part (some bs) ep s.m = _
    unfold doCopyHostDataArrival
    rw [hwaits]
    dsimp only
    rw [hpos, if_neg (fun h => h hlen)]
    rfl
  case lost => exact ⟨_, onModule_of _ _ hpart, doCopyHostDataArrival_of_lost ep hwaits⟩
  case timeout => exact ⟨_, onModule_of _ _ hpart, doCopyHostDataArrival_of_lost false hwaits⟩
  case ringTimeout =>
    have hread : doCompletionTimeout r false s.m = s.m.ringReadError r := (if_neg Bool.false_ne_true).trans (if_pos hreadable)
    refine ⟨_, onModule_of _ _ hwf, ?_⟩
    dsimp only
    rw [hread]
    exact s.m.ringReadError_stops r

end Sys2Proof.Machine
end

section
/-! SUPPORT. Contexts, stops, layouts, waiting commands and arrivals (R301, R319, R337 to R345, R354 to R356, R513). -/

namespace Sys2Proof.Machine

open Sys2Proof.Safety

/-! ## Contexts (R354 to R356) -/

theorem mem_insertNew_of_mem {l : List Nat} {t u : Nat} (h : u ∈ l) : u ∈ insertNew t l := by
  unfold insertNew
  split
  · exact h
  · exact List.mem_append_left _ h

/-- One due switch is looked at again (R355). -/
def recheck (site : Nat) (acc : Module) (t : Nat) : Module :=
  acc.updCore site (fun c => { c with
    due := c.due.filter (· != t)
    switching := if acc.running site t && acc.switchWanted site t then insertNew t c.switching else c.switching })
theorem recheck_all (site : Nat) (l : List Nat) : ∀ acc : Module,
    ((l.foldl (recheck site) acc).core site).due = (acc.core site).due.filter (fun t => decide (t ∉ l)) ∧
    ∀ t ∈ (acc.core site).switching, t ∈ ((l.foldl (recheck site) acc).core site).switching := by
  induction l with
  | nil =>
    exact fun acc => ⟨(List.filter_eq_self.mpr fun t _ => decide_eq_true (List.not_mem_nil)).symm, fun _ ht => ht⟩
  | cons u l ih =>
    intro acc
    obtain ⟨hdue, hkept⟩ := ih (recheck site acc u)
    have hstep : (recheck site acc u).core site = { acc.core site with
        due := (acc.core site).due.filter (· != u)
        switching := if acc.running site u && acc.switchWanted site u then insertNew u (acc.core site).switching
          else (acc.core site).switching } := Module.updCore_core _ _ _
    rw [List.foldl_cons]
    refine ⟨?_, fun t ht => hkept t ?_⟩
    · rw [hdue, hstep, List.filter_filter]
      refine List.filter_congr fun t _ => ?_
      by_cases htu : t = u <;> simp [htu]
    · rw [hstep]
      dsimp only
      split
      · exact mem_insertNew_of_mem ht
      · exact ht

/-! ## Layouts (R337, R345) -/

theorem Module.fillClusters_epochs (m : Module) (cs : List Nat) (part strength : Nat) : (m.fillClusters cs part strength).epochs = m.epochs := by
  unfold Module.fillClusters
  refine (foldl_field (fun x : Module => x.epochs) _ ?_ _ m : _)
  exact fun _ _ => rfl
theorem Module.checkPool_plain (m : Module) (n : Nat) : (m.checkPool n).epochs = m.epochs ∧ ∀ k, (m.checkPool n).part k = m.part k := by
  unfold Module.checkPool
  split
  · exact ⟨(congrArg (fun x : Module => x.epochs) (m.setCause_inner .prt 3) :), m.setCause_part .prt 3⟩
  · exact ⟨rfl, fun _ => rfl⟩

/-- The new layout of a PART.CREATE is in force, its partition Live (R337). -/
def layoutCommitted (m : Module) (l : LayoutRun) : Module :=
  ((((m.fillClusters l.clusters l.part (m.part l.part).strength).updCls l.clusters (fun k => { k with owner := some l.part, target := 4 })).nextLayout
    l.part).updPart l.part (fun p => { p with state := 2 })).checkPool l.part
theorem layoutCommitted_plain (m : Module) (l : LayoutRun) : (layoutCommitted m l).epochs.epoch = (m.epochs.epoch + 1) % 2 ^ 32 ∧
    (layoutCommitted m l).epochs.layoutEpoch = (layoutCommitted m l).epochs.epoch ∧ ((layoutCommitted m l).part l.part).state = 2 := by
  have hepochs := m.fillClusters_epochs l.clusters l.part (m.part l.part).strength
  generalize hfilled : m.fillClusters l.clusters l.part (m.part l.part).strength = x at hepochs
  rw [layoutCommitted, hfilled]
  obtain ⟨hsame, hpart⟩ := (((x.updCls l.clusters (fun k => { k with owner := some l.part, target := 4 })).nextLayout l.part).updPart l.part
    (fun p => { p with state := 2 })).checkPool_plain l.part
  rw [hsame, hpart, Module.updPart_part, ← hepochs]
  exact ⟨rfl, rfl, rfl⟩
/-- A DRAIN of a partition that is late goes on as an ABORT (R341). -/
theorem doDrainTimeout_of_partition {m : Module} {p : Nat} {q : Stop} (hstop : m.stopOf (.partition p) = some q) (habort : q.abort = false) :
    ∃ n, doDrainTimeout (.partition p) m =
      (((m.updStop (.partition p) (fun x => { x with abort := true })).updPart p (fun x => { x with state := 4 })).abortTarget (.partition p)).prtEvent
        0x42 (m.stopPlace q).1 0 (if (m.stopPlace q).1 < 64 then (m.stopPlace q).1 else 0) (m.stopPlace q).2.1 0 0 (m.stopPlace q).2.2 n := by
  unfold doDrainTimeout
  rw [hstop]
  dsimp only
  rw [if_neg (Bool.eq_false_iff.mp habort)]
  exact ⟨_, rfl⟩

/-! ## Commands that waited (R513) -/

theorem Module.rerun_of_waiting {m : Module} {q : CmdSlot} {i : Instr} (hcmds : m.engine.cmds = [q]) (hphase : q.phase = .waiting)
    (hinstr : q.instr = some i) : m.rerun q.id = runInstr i m := by
  have hfound : m.cmd q.id = some q := by simp [Module.cmd, hcmds]
  unfold Module.rerun
  rw [hfound]
  dsimp only
  rw [hphase, hinstr]
theorem Module.fenceCmds_of_one {m : Module} {q : CmdSlot} {part : Nat} (hcmds : m.engine.cmds = [q]) (hphase : q.phase = .fenceWait)
    (hinfo : q.info = [part]) : m.fenceCmds part = [q.id] := by
  simp [Module.fenceCmds, hcmds, hphase, hinfo]

/-! ## Data and acceptances (R301, R319) -/

section
variable {m : Module} {src : Src} {r : Response} {rest : List Response} {accept : Bool}

theorem Module.takeResponse_of_first (hfirst : takeFirst (fun (r : Response) => r.req.src == src && r.accept == accept) m.mem.responses = some (r, rest))
    (harrive : m.mayArrive r = true) : m.takeResponse src accept = some (r, { m with mem := { m.mem with responses := rest } }) := by
  unfold Module.takeResponse
  rw [hfirst]
  exact if_pos harrive
theorem Module.takeResponse_of_closed (hfirst : takeFirst (fun (r : Response) => r.req.src == src && r.accept == accept) m.mem.responses = some (r, rest))
    (harrive : m.mayArrive r = false) : m.takeResponse src accept = none := by
  unfold Module.takeResponse
  rw [hfirst]
  exact if_neg (Bool.eq_false_iff.mp harrive)
theorem doDataPacket_of_first {r : Response} {x : Module} (h : m.takeResponse src false = some (r, x)) :
    doDataPacket src m = x.dataFor src r.data r.poison := by
  unfold doDataPacket
  rw [h]

/-- Without a packet that is known to be lost, a loss ends what is outstanding alone (R319). -/
theorem doRouteLoss_of_none {router e : Nat} (hlost : m.net.lost = []) : doRouteLoss router e m =
    (m.lostXfers router e).foldl (fun (acc : Module) x => acc.transferFails x.site x.thread x.id 2)
      ((m.lostPkts router e).foldl (fun (acc : Module) p => acc.failPkt p) ((m.lostReqs router e).foldl (fun (acc : Module) r =>
        acc.failReq router e r) m)) := by
  have hsame : ({ m with net := { m.net with lost := [] } } : Module) = m := by rw [← hlost]
  unfold doRouteLoss
  dsimp only
  rw [hlost, List.filter_nil, hsame]

end

/-- Settles O44: each event under the conditions its statement names. -/
theorem contextAndStopEvents : Obligations.ContextAndStopEvents := by
  refine ⟨fun s site t it hsite hitem hquantum hruns hwanted => ?quantum,
    fun s site t it k hsite hitem hin hquiet hclock hup hsaved hresume => ?restore,
    fun s site t it nx rest hsite hitem hin hquiet hclock hup hsaved hnext hgoes hview hphase => ?next,
    fun s site hsite hheld => ?recheck, fun s site t it hsite hin hquiet hitem => ?deferral, fun s t q hwf hstop habort hidle => ?drained,
    fun s t q hwf hstop habort hidle => ?aborted, fun s p q hpart hstop habort => ?drainLate, fun s l hlayout hheld hcreate => ?commit,
    fun s l missing hmissing hlayout hcreate => ?ackLate, fun s part extent x r hpart hextent hbad hnodes hmoved => ?pool,
    fun s site q hsite hstop hidle hwaits => ?retire, fun s q i hcmds hphase hinstr => ?claim,
    fun s part q i hpart hfence hcmds hphase hinfo hinstr => ?fence, fun s part q hpart hcmds hphase hinfo => ?fenceLate,
    fun s fn id r rest hfirst harrive => ?hostData, fun s site slot seq r rest hfirst harrive => ?streamData,
    fun s site slot seq r rest hfirst harrive => ?streamAccept, fun s fn id r rest hfirst harrive => ?hostAccept,
    fun s src r rest hfirst harrive => ?closed, fun s router e r hrouter hend hreqs hpkts hxfers hlost => ?lossReq,
    fun s router e p hrouter hend hreqs hpkts hxfers hlost => ?lossPkt⟩
  case quantum =>
    refine ⟨_, onModule_of _ _ hsite, ?_⟩
    show doQuantumExpiry site t s.m = _
    unfold doQuantumExpiry
    rw [hitem]
    refine if_neg ?_
    exact fun hbad => hbad.elim hquantum fun h => h.elim (not_bnot hruns) (not_bnot hwanted)
  case restore =>
    refine ⟨_, onModule_of _ _ hsite, ?_⟩
    show doContextSwitch site t s.m = _
    unfold doContextSwitch
    dsimp only
    rw [hitem]
    dsimp only
    rw [if_pos ⟨hin, hquiet, hclock, by rw [hup]; rfl⟩, Module.switchOut]
    dsimp only
    rw [hsaved]
    exact if_neg (not_bnot hresume)
  case next =>
    refine ⟨_, onModule_of _ _ hsite, ?_⟩
    show doContextSwitch site t s.m = _
    unfold doContextSwitch
    dsimp only
    rw [hitem]
    dsimp only
    rw [if_pos ⟨hin, hquiet, hclock, by rw [hup]; rfl⟩, Module.switchOut]
    dsimp only
    rw [hsaved]
    dsimp only
    rw [hnext]
    exact if_neg fun hbad => hbad.elim (not_bnot hgoes) fun h => h.elim (Bool.eq_false_iff.mp hview) hphase
  case recheck =>
    obtain ⟨hdue, hkept⟩ := recheck_all site (s.m.core site).due s.m
    have hall : doSwitchRecheck site s.m = (s.m.core site).due.foldl (recheck site) s.m := if_neg (Bool.eq_false_iff.mp hheld)
    refine ⟨_, onModule_of _ _ hsite, ?_⟩
    dsimp only
    rw [hall]
    refine ⟨hdue.trans (List.filter_eq_nil_iff.mpr fun t ht => ?_), hkept⟩
    simp [ht]
  case deferral =>
    have hone : doSwitchDeferral site s.m =
        (((s.m.updCore site (fun c => { c with switching := c.switching.filter (· != t) })).updPart it.part
          (fun p => { p with deferred := sat64 p.deferred 1 })).prtEvent 0x43 it.part 0 it.part site 0 0 it.ctx 0) := by
      unfold doSwitchDeferral
      simp [hin, hquiet, hitem]
    refine ⟨_, onModule_of _ _ hsite, ?_⟩
    dsimp only
    rw [hone]
    refine ⟨?_, congrArg Part.deferred (Module.updPart_part _ _ _)⟩
    have hleft := congrArg Core.switching (s.m.updCore_core site (fun c => { c with switching := c.switching.filter (· != t) }))
    exact hleft.trans (by simp [hin])
  case drained =>
    refine ⟨_, onModule_of _ _ hwf, ?_⟩
    show doDrainComplete t s.m = _
    unfold doDrainComplete
    rw [hstop]
    exact if_pos ⟨by rw [habort]; rfl, hidle⟩
  case aborted =>
    refine ⟨_, onModule_of _ _ hwf, ?_⟩
    show doAbortComplete t s.m = _
    unfold doAbortComplete
    rw [hstop]
    exact if_pos ⟨habort, hidle⟩
  case drainLate =>
    obtain ⟨n, hlate⟩ := doDrainTimeout_of_partition hstop habort
    exact ⟨_, n, onModule_of _ _ hpart, hlate⟩
  case commit =>
    refine ⟨_, onModule_of _ _ rfl, ?_, ?_⟩
    · show doLayoutCommit s.m = _
      unfold doLayoutCommit
      rw [hlayout]
      exact (if_neg (Bool.eq_false_iff.mp hheld)).trans (if_pos hcreate)
    · exact layoutCommitted_plain s.m l
  case ackLate =>
    refine ⟨_, onModule_of _ _ (decide_eq_true hmissing), ?_⟩
    show doLayoutAckTimeout missing s.m = _
    unfold doLayoutAckTimeout
    rw [hlayout]
    dsimp only
    rw [hcreate, if_neg Bool.false_ne_true]
  case pool =>
    refine ⟨_, onModule_of _ _ hpart, ?_⟩
    show doPoolNodeRelocation part extent s.m = _
    unfold doPoolNodeRelocation
    rw [hextent]
    dsimp only
    rw [if_neg fun hstays => hstays.elim (Bool.eq_false_iff.mp hbad) (not_bnot hnodes), hmoved]
  case retire =>
    refine ⟨_, onModule_of _ _ hsite, ?_⟩
    show doRetireSliceHoldTimeout site s.m = _
    unfold doRetireSliceHoldTimeout
    rw [hstop]
    exact if_pos ⟨hidle, hwaits⟩
  case claim =>
    refine ⟨_, onModule_of _ _ rfl, ?_⟩
    have hids : (s.m.engine.cmds.filter (fun s => s.phase == .waiting)).map (fun s => s.id) = [q.id] := by simp [hcmds, hphase]
    dsimp only
    rw [doClaimGrant, hids, List.foldl_cons, List.foldl_nil, Module.rerun_of_waiting hcmds hphase hinstr]
  case fence =>
    refine ⟨_, onModule_of _ _ hpart, (if_neg (not_bnot hfence)).trans ?_⟩
    rw [Module.fenceCmds_of_one hcmds hphase hinfo, List.foldl_cons, List.foldl_nil]
    have hupdated : (s.m.updCmd q.id (fun x => { x with phase := .waiting })).engine.cmds = [{ q with phase := .waiting }] := by
      simp [Module.updCmd, hcmds, modFirst]
    rw [Module.rerun_of_waiting (q := { q with phase := .waiting }) hupdated rfl hinstr]
  case fenceLate =>
    refine ⟨_, onModule_of _ _ hpart, ?_⟩
    dsimp only
    rw [doWorkFenceTimeout, Module.fenceCmds_of_one hcmds hphase hinfo, List.foldl_cons, List.foldl_nil]
  case hostData => exact ⟨_, onModule_of _ _ rfl, doDataPacket_of_first (Module.takeResponse_of_first hfirst harrive)⟩
  case streamData => exact ⟨_, onModule_of _ _ rfl, doDataPacket_of_first (Module.takeResponse_of_first hfirst harrive)⟩
  case streamAccept =>
    refine ⟨_, onModule_of _ _ rfl, ?_⟩
    show doAccept _ s.m = _
    unfold doAccept
    rw [Module.takeResponse_of_first hfirst harrive]
  case hostAccept =>
    refine ⟨_, onModule_of _ _ rfl, ?_⟩
    show doAccept _ s.m = _
    unfold doAccept
    rw [Module.takeResponse_of_first hfirst harrive]
  case closed =>
    refine ⟨_, onModule_of _ _ rfl, ?_⟩
    rw [doDataPacket, Module.takeResponse_of_closed hfirst harrive]
  case lossReq =>
    refine ⟨_, onModule_of _ _ (by simp [hrouter, hend]), (doRouteLoss_of_none hlost).trans ?_⟩
    rw [hreqs, hpkts, hxfers]
    rfl
  case lossPkt =>
    refine ⟨_, onModule_of _ _ (by simp [hrouter, hend]), (doRouteLoss_of_none hlost).trans ?_⟩
    rw [hreqs, hpkts, hxfers]
    rfl

end Sys2Proof.Machine
end

section
/-! SUPPORT. Packets between cores (R150, R299 to R316, R326, R327). -/

namespace Sys2Proof.Machine

open Sys2Proof.Safety

theorem endpointOk_of_site {n : Nat} (h : siteOk n = true) : endpointOk n = true := by
  have hlt : n < 10240 := of_decide_eq_true h
  exact decide_eq_true (.inl hlt)

theorem endpointOk_of_deck {deck : Nat} (h : deck < Config.decks) : endpointOk (65536 + deck) = true :=
  decide_eq_true (.inr (.inr ⟨Nat.le_add_right _ _, Nat.add_lt_add_left h _⟩))

/-- Without what waits for a way, the release of what waits changes nothing (R318, R484). -/
theorem Module.releaseCmds_of_none {m : Module} (hcmds : m.net.heldCmds = []) (hreads : m.port.reads = []) (hbells : m.port.bells = []) :
    m.releaseCmds = m := by
  have hsame : ({ m with net := { m.net with heldCmds := [] } } : Module) = m := by rw [← hcmds]
  unfold Module.releaseCmds
  dsimp only
  rw [hcmds, List.foldl_nil, hsame, hreads]
  simp [hbells]

/-- A flit without the type of a sum is no sum (R311). -/
theorem Module.checkSum_of_other {m : Module} {f : Flit} (h : f.typ ≠ 0x20) : m.checkSum f = m := by
  unfold Module.checkSum
  split
  · rfl
  · exact if_neg fun hsum => h hsum.1

/-- The marker's move while its pair is held and no packet of the pair is on its way (R318). -/
theorem Module.markBack_of_held {m : Module} {src dst : Nat} (hpair : (src, dst) ∈ m.net.heldPairs)
    (hheld : ∀ p ∈ m.net.pkts, p.src = src → p.dst = dst → p.held = true) :
    m.markBack src dst = { m with net := { m.net with
      heldPairs := m.net.heldPairs.filter (fun p => !(p == (src, dst))),
      pkts := m.net.pkts.map (fun p => if p.src == src && p.dst == dst then { p with held := false } else p) } } := by
  refine if_pos ⟨hpair, ?_⟩
  simp only [Bool.not_eq_eq_eq_not, Bool.not_true, List.any_eq_false, Bool.and_eq_true, beq_iff_eq, not_and, and_imp]
  intro p hp hs hd
  simp [hheld p hp hs hd]

/-- Settles O45: each packet by what takes it from its pair's queue, the rest by their own bodies. -/
theorem networkPackets : Obligations.NetworkPackets := by
  refine ⟨fun s src dst p m1 hsrc hdst hnext => ?send, fun s src dst p m1 hsrc hdst hnext => ?gather,
    fun s src dst p m1 hsrc hdst hnext => ?cast, fun s src deck p m1 c hsrc hdeck hnext hcast => ?deckCast,
    fun s src dst p m1 hsrc hdst hnext hown hreach => ?signal, fun s src dst cause p m1 hsrc hdst hnext hown hreach => ?signalRefused,
    fun s src dst p m1 f hsrc hdst hnext hfound hall => ?ack, fun s src dst p m1 hsrc hdst hnext => ?nack,
    fun s deck tree cluster x r rest i hdeck htree hcluster hfound hroot hwhole hfirst hinst hreach htracked => ?reduce,
    fun s src dst hsrc hdst hpair hcmds hreads hbells hheld => ?mark, fun s deck id rest hdeck hfirst hclock => ?transom,
    fun s f hwf hlive => ?flit⟩
  case send =>
    refine ⟨_, onModule_of _ _ (by simp [hsrc, hdst]), ?_⟩
    dsimp only
    rw [doNrSendPacket, hnext]
  case gather =>
    refine ⟨_, onModule_of _ _ (by simp [hsrc, hdst]), ?_⟩
    dsimp only
    rw [doNrGatherPacket, hnext]
  case cast =>
    have hlt : dst < 10240 := of_decide_eq_true hdst
    refine ⟨_, onModule_of _ _ (by simp [hsrc, endpointOk_of_site hdst]), ?_⟩
    dsimp only
    rw [doNrBcastPacket, hnext]
    exact if_pos (by omega)
  case deckCast =>
    refine ⟨_, onModule_of _ _ (by rw [hsrc, endpointOk_of_deck hdeck]; rfl), ?_⟩
    dsimp only
    rw [doNrBcastPacket, hnext]
    refine (if_neg (by omega)).trans ?_
    rw [Nat.add_sub_cancel_left, hcast]
  case signal =>
    refine ⟨_, onModule_of _ _ (by simp [hsrc, hdst]), ?_⟩
    dsimp only
    rw [doSignalPacket, hnext]
    refine (if_neg (fun h => h hown)).trans ?_
    rw [hreach]
  case signalRefused =>
    refine ⟨_, onModule_of _ _ (by simp [hsrc, hdst]), ?_⟩
    dsimp only
    rw [doSignalPacket, hnext]
    refine (if_neg (fun h => h hown)).trans ?_
    rw [hreach]
  case ack =>
    have hlt : dst < 10240 := of_decide_eq_true hdst
    refine ⟨_, onModule_of _ _ (by simp [hsrc, endpointOk_of_site hdst]), ?_⟩
    dsimp only
    rw [doNrAck, hnext]
    refine (if_pos (by omega)).trans ?_
    rw [Module.acked, hfound]
    exact if_pos hall
  case nack =>
    refine ⟨_, onModule_of _ _ (by simp [hsrc, hdst]), ?_⟩
    dsimp only
    rw [doNrNack, hnext]
  case reduce =>
    refine ⟨_, onModule_of _ _ (decide_eq_true ⟨hdeck, htree, hcluster⟩), ?_⟩
    show doReduceFlit deck tree cluster s.m = _
    unfold doReduceFlit
    rw [hfound]
    refine (if_neg (fun h => h hroot)).trans ((if_neg (not_bnot hwhole)).trans ?_)
    dsimp only
    rw [hfirst]
    dsimp only
    rw [hinst]
    dsimp only
    rw [hreach]
    exact (if_neg (show ¬ (none : Option Nat).isSome = true by decide)).trans (if_neg fun h => not_bnot htracked h.1)
  case mark =>
    have hback := Module.markBack_of_held hpair hheld
    have hmoved : doRouteMark src dst s.m = s.m.markBack src dst :=
      Module.releaseCmds_of_none (by rw [hback]; exact hcmds) (by rw [hback]; exact hreads) (by rw [hback]; exact hbells)
    refine ⟨_, onModule_of _ _ (by rw [hsrc, hdst]; rfl), ?_⟩
    dsimp only
    rw [hmoved, hback]
    refine ⟨fun h => ?_, fun p hp hs hd => ?_, List.length_map _⟩
    · simp at h
    · obtain ⟨q, -, rfl⟩ := List.mem_map.mp hp
      split at hs <;> simp_all
  case transom =>
    have hmoved : doTransom deck id s.m = { s.m with
        net := { s.m.net with transom := SMap.set [] s.m.net.transom deck ((id :: rest).filter (· != id)) },
        mem := { s.m.mem with transom := SMap.upd [] s.m.mem.transom deck (fun t => t ++ [id]) } } := by
      unfold doTransom
      dsimp only
      rw [hfirst]
      exact if_pos ⟨List.mem_cons_self, by rw [hclock]; rfl, by simp⟩
    refine ⟨_, onModule_of _ _ (decide_eq_true hdeck), ?_⟩
    dsimp only
    rw [hmoved]
    refine ⟨SMap.get_upd_self deck (fun t => t ++ [id]), (SMap.get_set_self _ _).trans ?_⟩
    simp
  case flit =>
    have harrives : doFlitArrival f s.m = _ := if_neg (not_bnot hlive)
    refine ⟨_, onModule_of _ _ hwf, ?_⟩
    dsimp only
    rw [harrives]
    refine ⟨fun hc => if_pos hc, fun hc hk ht hp => ?_, fun hc hk ht hp => ?_, fun hc hk => ?_, fun hc ht hp => ?_⟩
    · simp [hc, hk, hp, Module.checkSum_of_other ht]
    · simp [hc, hk, hp, Module.checkSum_of_other ht]
    · simp [hc, hk]
    · simp [hc, hp, show typeKnown f.typ = true by rw [ht]; rfl]

end Sys2Proof.Machine
end

section
/-! SUPPORT. Ports, training and the start of the fabric (R531 to R551). -/

namespace Sys2Proof.Machine

open Sys2Proof.Safety

section
variable {m : Module} {port : Nat} {t : Trans}

/-! ## What a transaction reaches (R538) -/

/-- A transaction of the fabric's start is for the module that hears it, whatever its destination (R547). -/
theorem Module.arrive_of_start (here : Module → Module) (hup : (m.fport port).up = true) (hstart : 0x20 ≤ t.typ ∧ t.typ ≤ 0x23) :
    m.arrive port 0 t here = here m := by
  have hknown : transKnown t = true := Bool.or_eq_true_iff.mpr (.inr (decide_eq_true ⟨hstart.1, by omega⟩))
  exact (if_neg (not_bnot hup)).trans ((if_neg (not_bnot hknown)).trans (if_pos hstart))
/-- Every other known transaction goes by its destination once the module has its ID (R538). -/
theorem Module.arrive_of_routed (here : Module → Module) (hup : (m.fport port).up = true) (hknown : transKnown t = true)
    (hstart : ¬ (0x20 ≤ t.typ ∧ t.typ ≤ 0x23)) (hid : m.fab.idValid = true) :
    m.arrive port 0 t here = if t.dest = m.fab.deviceId then here m else m.forward port 0 t :=
  (if_neg (not_bnot hup)).trans ((if_neg (not_bnot hknown)).trans ((if_neg hstart).trans (if_neg (not_bnot hid))))

theorem onTrans_of_heard {typ : Nat} {s : State} (here : Module → Module) (h : heard port t typ s.m) :
    onTrans port t typ here s = .next { s with m := s.m.arrive port 0 t here } := by
  obtain ⟨hport, hwf, rfl, -⟩ := h
  exact onModule_of _ _ (by simp [hport, hwf])
theorem onTrans_of_start {typ : Nat} {s : State} (here : Module → Module) (h : heard port t typ s.m) (hstart : 0x20 ≤ typ ∧ typ ≤ 0x23) :
    onTrans port t typ here s = .next { s with m := here s.m } := by
  rw [onTrans_of_heard here h]
  obtain ⟨-, -, rfl, hup⟩ := h
  rw [Module.arrive_of_start here hup hstart]
/-- What is for this module and known to it is handled here (R538). -/
theorem onTrans_of_forMe {typ : Nat} {s : State} (here : Module → Module) (h : forMe port t typ s.m)
    (hknown : typ ∈ [0x01, 0x02, 0x03, 0x04, 0x05, 0x06, 0x10, 0x18] ∨ 0x20 ≤ typ ∧ typ < 0x30) :
    onTrans port t typ here s = .next { s with m := here s.m } := by
  obtain ⟨hheard, hid, hdest⟩ := h
  rw [onTrans_of_heard here hheard]
  obtain ⟨-, -, rfl, hup⟩ := hheard
  by_cases hstart : 0x20 ≤ t.typ ∧ t.typ ≤ 0x23
  · rw [Module.arrive_of_start here hup hstart]
  · rw [Module.arrive_of_routed here hup (by simpa [transKnown] using hknown) hstart hid, if_pos hdest]
/-- A transaction for another module leaves by its route with one hop less (R539, R541). -/
theorem Module.forward_of_egress {p : Nat} (hhops : 2 ≤ t.hops) (hway : m.egress t.dest = some p) (hturn : p ≠ opposite port) :
    m.forward port 0 t = m.push p 0 { t with hops := t.hops - 1 } := by
  refine (if_neg (show ¬ t.hops ≤ 1 by omega)).trans ?_
  rw [Module.wayOf, hway]
  dsimp only
  rw [if_neg hturn]

/-! ## What sending leaves unchanged -/

@[simp] theorem Module.pump_bring (m : Module) (p : Nat) : (m.pump p).bring = m.bring := by
  unfold Module.pump
  dsimp only
  split <;> rfl
@[simp] theorem Module.push_bring (m : Module) (p c : Nat) (t : Trans) : (m.push p c t).bring = m.bring := Module.pump_bring _ p
@[simp] theorem Module.relay_bring (m : Module) (ps : List Nat) (t : Trans) : (m.relay ps t).bring = m.bring := by
  unfold Module.relay
  split
  · rfl
  · exact foldl_field Module.bring _ (fun m p => m.push_bring p 0 _) ps m
@[simp] theorem Module.setWrap_deviceId (m : Module) (k : Nat) : (m.setWrap k).fab.deviceId = m.fab.deviceId := by
  refine foldl_field (fun x : Module => x.fab.deviceId) _ ?_ _ m
  exact fun _ _ => rfl
@[simp] theorem Module.setWrap_idValid (m : Module) (k : Nat) : (m.setWrap k).fab.idValid = m.fab.idValid := by
  refine foldl_field (fun x : Module => x.fab.idValid) _ ?_ _ m
  exact fun _ _ => rfl
@[simp] theorem Module.setWrap_routes (m : Module) (k : Nat) : (m.setWrap k).fab.routes = m.fab.routes := by
  refine foldl_field (fun x : Module => x.fab.routes) _ ?_ _ m
  exact fun _ _ => rfl

/-! ## Flits (R533 to R537) -/

/-- A replay is counted; the eighth of the same flits retrains the port (R537). -/
theorem Module.replayPort_of_buffered (h : (m.fport port).replayBuf ≠ []) : m.replayPort port =
    if 8 ≤ (m.fport port).sameReplays + 1 then
      (m.updFport port (fun q => { q with replays := sat64 q.replays 1, sameReplays := q.sameReplays + 1 })).retrainPort port
    else m.updFport port (fun q => { q with replays := sat64 q.replays 1, sameReplays := q.sameReplays + 1 }) :=
  if_neg (by simpa using h)
theorem doFabricFlitReceive_of_order {f : FabFlit} (hup : (m.fport port).up = true) (hgood : f.good = true) (hseq : f.seq = (m.fport port).rxSeq) :
    doFabricFlitReceive port f m = if 2 ≤ f.kind then m.flitHeader port f
      else f.trans.foldl (fun (a : Module) t => a.arrive port (b2n (bitOf f.stream 2)) t (fun x => x.handle port t)) (m.flitHeader port f) :=
  (if_neg (not_bnot hup)).trans (if_neg (by simp [hgood, hseq]))

/-! ## S9 (R551) -/

theorem Module.setFabricReady_fabricReady (m : Module) (b : Bool) : (m.setFabricReady b).bring.fabricReady = b := by
  unfold Module.setFabricReady
  split
  case isTrue h => exact h
  case isFalse h => simp
theorem Module.setFabricReady_active (m : Module) (b : Bool) : (m.setFabricReady b).bring.active = m.bring.active := by
  unfold Module.setFabricReady
  split <;> simp

end

/-- Settles O47: each by what reaches the module, then by the event's own body. -/
theorem fabricStart : Obligations.FabricStart := by
  refine ⟨fun s port f hport hwf hup hgood hseq => ?order, fun s port f hport hwf hup hbad => ?nak, fun s port hport hup hbuf => ?replay,
    fun s port uncorr corr hport hup hmany => ?fec, fun s port hport hdown hready => ?retry, fun s port lanes hport hlanes htrain => ?training,
    fun s port t hheard hlead => ?hello, fun s port l t hheard hstage hlead hother => ?conflict,
    fun s port t hheard hstage hlead hrole hparent => ?beacon, fun s port t hheard hrole => ?node,
    fun s port p t hheard hrole hup hne => ?topo, fun s port t hheard hup hrole hserial hid => ?assign,
    fun s port t hheard hup hrole hserial => ?relay, fun s hstage hlead hrole => ?timeout,
    fun s dur hstage hports hconflict hdur hid hepoch hstaged hreplan => ?ready, fun s dur hstage hports => ?noPort,
    fun s port p t hheard hid hdest hhops hway hturn => ?forward⟩
  case order =>
    refine ⟨_, onModule_of _ _ (by rw [hport, hwf]; rfl), ?_⟩
    dsimp only
    rw [doFabricFlitReceive_of_order hup hgood hseq]
    exact ⟨fun h => if_pos h, fun h => if_neg (Nat.not_le.mpr h)⟩
  case nak =>
    refine ⟨_, onModule_of _ _ (by rw [hport, hwf]; rfl), ?_⟩
    exact (if_neg (not_bnot hup)).trans (if_pos (by simpa using hbad))
  case replay =>
    refine ⟨_, onModule_of _ _ (decide_eq_true hport), ?_⟩
    have hreplays : doFabricAckTimeout port s.m = s.m.replayPort port := if_pos hup
    dsimp only
    rw [hreplays, Module.replayPort_of_buffered hbuf]
    exact ⟨fun h => if_neg (by omega), fun h => if_pos (by omega)⟩
  case fec =>
    refine ⟨_, onModule_of _ _ (decide_eq_true hport), ?_⟩
    exact (if_neg (not_bnot hup)).trans (if_pos (.inl hmany))
  case retry =>
    exact ⟨_, onModule_of _ _ (decide_eq_true hport), if_pos ⟨hdown, hready⟩⟩
  case training =>
    exact ⟨_, onModule_of _ _ (by rw [hport, decide_eq_true hlanes]; rfl), if_pos htrain⟩
  case hello =>
    refine ⟨_, onTrans_of_start _ hheard (by decide), ?_⟩
    have hlead1 (f : FabPort → FabPort) : (s.m.updFport port f).fab.leadSerial = none := hlead
    dsimp only
    unfold doHello
    dsimp only
    rw [hlead1]
  case conflict =>
    refine ⟨_, onTrans_of_start _ hheard (by decide), ?_⟩
    have hseen : doBeacon port t s.m = _ := (if_neg (not_bnot hstage)).trans (if_pos (by simp [hlead, hother]))
    dsimp only
    rw [hseen]
    simp [Module.failS9, Module.roleConflict, Module.fabEvent, Module.updReport]
  case beacon =>
    refine ⟨_, _, onTrans_of_start _ hheard (by decide), rfl, ?_⟩
    have hmine : doBeacon port t s.m = _ := (if_neg (not_bnot hstage)).trans ((if_neg (by simp [hlead, hrole])).trans
      ((if_neg hrole).trans (if_pos (.inl hparent))))
    dsimp only
    rw [hmine]
    dsimp only
    rw [if_pos (.inl hparent)]
  case node =>
    exact ⟨_, onTrans_of_start _ hheard (by decide), if_pos hrole⟩
  case topo =>
    refine ⟨_, onTrans_of_start _ hheard (by decide), ?_⟩
    refine (if_neg hrole).trans ?_
    rw [hup]
    exact if_neg hne
  case assign =>
    refine ⟨_, onTrans_of_start _ hheard (by decide), ?_⟩
    have hmine : doIdAssign port t s.m = _ := (if_neg (by simp [hup, hrole])).trans (if_neg (not_not_intro hserial))
    dsimp only
    rw [hmine]
    simp [hid]
  case relay =>
    refine ⟨_, onTrans_of_start _ hheard (by decide), ?_⟩
    exact (if_neg (by simp [hup, hrole])).trans (if_pos hserial)
  case timeout =>
    exact ⟨_, onModule_of _ _ rfl, if_pos ⟨hstage, by rw [hlead]; rfl, hrole⟩⟩
  case ready =>
    refine ⟨_, onModule_of _ _ rfl, ?_⟩
    have hends : doS9Fabric [] dur s.m = _ := (if_neg (not_bnot hstage)).trans ((if_neg (by simp [firstCause, hports])).trans
      ((if_neg (by simp [firstCause, hconflict]; omega)).trans (if_pos (by simp [hid, hepoch, hstaged, hreplan]))))
    dsimp only
    rw [hends]
    exact ⟨Module.setFabricReady_fabricReady _ true, Module.setFabricReady_active _ true⟩
  case noPort =>
    refine ⟨_, onModule_of _ _ rfl, ?_⟩
    exact (if_neg (not_bnot hstage)).trans (if_pos (.inr hports))
  case forward =>
    refine ⟨_, onTrans_of_heard _ hheard, ?_⟩
    obtain ⟨-, -, htyp, hup⟩ := hheard
    dsimp only
    rw [Module.arrive_of_routed _ hup (by simp [transKnown, htyp]) (by omega) hid, if_neg hdest, Module.forward_of_egress hhops hway hturn]

end Sys2Proof.Machine
end

section
/-! SUPPORT. Data transactions of the fabric, their answers, collectives and broadcasts (R538 to R565). -/

namespace Sys2Proof.Machine

open Sys2Proof.Safety

section
variable {m : Module} {port : Nat} {t : Trans}

/-- The walks of a served transaction are counted, and no more (R348). -/
theorem Module.remoteWalked_nextOp (m : Module) (part : Nat) (l : List (Nat × Nat × Nat)) :
    (m.remoteWalked part l).flight.nextOp = m.flight.nextOp := by
  refine foldl_field (fun x : Module => x.flight.nextOp) _ ?_ l m
  exact fun _ _ => rfl

/-- A WRITE_SP that is served: nothing of its sender is held, its partition admits, its address is in reach (R540). -/
theorem doWriteSp_of_served {site : Nat} (hheld : m.behindHeld t = false) (hadmits : m.admits t.partition = true)
    (hsite : site = t.address / 2 ^ 22 % 2 ^ 14) (hlt : site < Config.sites) (hown : m.ownerOf site = t.partition) (hdata : t.payload ≠ [])
    (hwindow : oneWindow (t.address % 2 ^ 22) t.payload.length = true) (hreach : m.unreachable site = none)
    (hway : m.noWay (enterEnd port t.address) site = false) (hleave : m.mayLeave (enterEnd port t.address) site = true)
    (hlast : bitOf t.flags 1 = false) :
    doWriteSp port t m = (List.range ((t.payload.length + 63) / 64)).foldl (fun (acc : Module) k =>
      acc.padExternal site ((t.address % 2 ^ 22 + 64 * k) / 2 ^ 21) ((t.address % 2 ^ 22 + 64 * k) % 2 ^ 21) ((t.payload.drop (64 * k)).take 64)
        (bitOf t.flags 0) 5 0xFFFF) (m.wake (clusterOf site)) := by
  subst hsite
  have hdata' : t.payload.isEmpty = false := by simpa using hdata
  refine (if_neg (Bool.not_eq_true _ ▸ hheld)).trans ((if_neg (not_bnot hadmits)).trans ((if_neg ?_).trans ((if_neg ?_).trans
    ((if_neg (not_bnot hleave)).trans (if_pos (by rw [hlast]; rfl))))))
  · simp only [hown, hdata', hwindow]
    simpa using hlt
  · rw [hreach, hway]
    decide

/-- A WRITE_VA that is served, up to what the slices hold back (R540). -/
theorem doWriteVa_of_served {l : List (Nat × Nat × Nat)} (hheld : m.behindHeld t = false) (hadmits : m.admits t.partition = true)
    (hwalk : m.remoteHeld t.partition (rowParts 3 0 t.address (min t.payload.length 2048)) = false)
    (haddrs : m.remoteAddrs t.partition 4 (servedSrc t 0 0) (rowParts 3 0 t.address (min t.payload.length 2048)) = .ok l)
    (hlost : m.enterLost port l = false) (hwaits : m.enterWaits port l = false) :
    doWriteVa port t m =
      if l.any (fun x => m.holdRefuses x.2.1) then
        (m.remoteWalked t.partition (rowParts 3 0 t.address (min t.payload.length 2048))).nackTo port t 4
      else (List.range l.length).foldl (fun (acc : Module) i =>
        acc.writeArrives ⟨siteOfAddr (nth (0, 0, 0) l i).2.1, offOfAddr (nth (0, 0, 0) l i).2.1, 2, servedSrc t m.flight.nextOp i, true,
          decide ((nth (0, 0, 0) l i).2.2 = 2048), (t.payload.drop (nth (0, 0, 0) l i).1).take (nth (0, 0, 0) l i).2.2, bitOf t.flags 0⟩)
        ((m.remoteWalked t.partition (rowParts 3 0 t.address (min t.payload.length 2048))).serve port t l.length).1 := by
  unfold doWriteVa
  rw [if_neg (Bool.not_eq_true _ ▸ hheld), if_neg (not_bnot hadmits), if_neg (Bool.not_eq_true _ ▸ hwalk), haddrs]
  dsimp only
  rw [if_neg (Bool.not_eq_true _ ▸ hlost), if_neg (Bool.not_eq_true _ ▸ hwaits)]
  simp only [Module.serve, Module.remoteWalked_nextOp]

/-- A READ_VA of one row that is served (R540). -/
theorem doReadVa_of_served {l : List (Nat × Nat × Nat)} (hheld : m.behindHeld t = false) (hadmits : m.admits t.partition = true)
    (hlen : t.aux = 2048) (halign : t.address % 2048 = 0) (hwalk : m.remoteHeld t.partition [(0, t.address, 2048)] = false)
    (haddrs : m.remoteAddrs t.partition 3 (servedSrc t 0 0) [(0, t.address, 2048)] = .ok l)
    (hlost : m.enterLost port l = false) (hwaits : m.enterWaits port l = false) :
    doReadVa port t m = (List.range l.length).foldl (fun (acc : Module) i =>
      acc.readArrives ⟨siteOfAddr (nth (0, 0, 0) l i).2.1, offOfAddr (nth (0, 0, 0) l i).2.1 / 64 * 64, 2, servedSrc t m.flight.nextOp i, false,
        true, [], false⟩) ((m.remoteWalked t.partition [(0, t.address, 2048)]).serve port t l.length).1 := by
  unfold doReadVa
  simp only [hlen, halign, beq_self_eq_true, Bool.and_self, if_true, hwalk, hheld, hadmits, hlost, hwaits, haddrs, Bool.not_true,
    Bool.false_eq_true, if_false, Module.serve, Module.remoteWalked_nextOp]

/-- An acknowledgement whose transfer waits for it (R542). -/
theorem doAck_of_transfer {x : FabXfer} {m0 : Module} {f : InFlight} (hcoll : m.collOfWrite t = none)
    (htake : m.takeXfer t.tag t.src = some (x, m0)) (hfound : (m0.portCounts x.dest).transfer? x.site x.thread x.id = some f) :
    doAck port t m = (m0.portCounts x.dest).complete1 x.site x.thread f := by
  unfold doAck
  rw [hcoll]
  dsimp only
  rw [htake]
  dsimp only
  rw [hfound]

/-- A step that never came ends its collective (R564). -/
theorem doStepTimeout_of_due {tag part : Nat} {c : Collective} (hcoll : m.coll tag part = some c) (hdue : c.deadline ≤ m.time)
    (hcomplete : c.complete = false) : ∃ peer, doStepTimeout tag part m =
      (m.fabEvent 0x9B part 0xFF peer 0 0x10 tag c.epoch 0 0 (algTimeout m.epochs.algRecord)).endColl c stHwError true := by
  refine ⟨((c.plan.find? (fun x => x.2.2.1 == c.me && !c.arrived x)).map (fun x => nth 0 c.devs x.2.1)).getD 0xFFFF, ?_⟩
  rw [doStepTimeout, hcoll]
  exact if_neg (by simp [hcomplete, hdue])

/-! ## A cause bit set on a condition leaves the fabric's counters and what is in flight -/

section
variable (m : Module) (b : Blk) (i : Nat) (p : Prop) [Decidable p]

theorem Module.causeIf_flight : (if p then m.setCause b i else m).flight = m.flight := by split <;> simp
theorem Module.causeIf_slowRx : (if p then m.setCause b i else m).fab.slowRx = m.fab.slowRx := by
  split
  · exact (congrArg (fun x : Module => x.fab.slowRx) (m.setCause_inner b i) :)
  · rfl
theorem Module.causeIf_slowAt : (if p then m.setCause b i else m).fab.slowAt = m.fab.slowAt := by
  split
  · exact (congrArg (fun x : Module => x.fab.slowAt) (m.setCause_inner b i) :)
  · rfl

end

/-! ## A broadcast of firmware (R556, R557) -/

/-- A chunk in order fills the inactive slot while more are missing (R556). -/
theorem doFwChunkTransaction_of_more (hhead : m.isHead = false) (hfree : m.claimsFree [.slots] = true) (haddr : t.address < slotChunks)
    (hlen : t.payload.length = 4096) (hcrc : crc32c t.payload = t.aux) (hfrom : m.flight.rxFrom = (t.src, t.tag + 1))
    (hstate : m.flight.rxState = 0) (hmore : (insertNew t.address m.flight.rxBitmap).length < slotChunks) :
    doFwChunkTransaction port t m = { m.putChunk t.address t.payload with
      flight := { m.flight with rxBitmap := insertNew t.address m.flight.rxBitmap } } := by
  have hbegin : m.castBegin t.src t.tag = m := if_pos hfrom
  unfold doFwChunkTransaction
  dsimp only
  rw [if_neg (show ¬ (t.step = 2 ∧ m.isHead = true ∧ (!m.isLead) = true) by simp [hhead]),
    if_neg (show ¬ ((!m.claimsFree [.slots]) = true ∨ slotChunks ≤ t.address ∨ t.payload.length ≠ 4096 ∨ crc32c t.payload ≠ t.aux) by
      simpa [hfree, hlen, hcrc] using haddr), hbegin, if_neg (not_not_intro hstate)]
  exact if_pos hmore

/-- A slot whose image passes its check is valid (R587). -/
theorem Module.passSlot_valid {k : Nat} (hk : k < m.bring.slots.length) : ((m.passSlot k).slot k).valid = true := by
  unfold Module.passSlot
  split
  case isTrue h => exact h
  case isFalse h =>
    show (nth {} (modNth m.bring.slots k _) k).valid = true
    rw [nth_modNth _ _ _ _ hk, if_pos rfl]

end

/-- Settles O48: each by what reaches the module, then by the event's own body. -/
theorem fabricTransactions : Obligations.FabricTransactions := by
  refine ⟨fun s port t hadmits hheld => ⟨?refusedSp, ?refusedVa, ?refusedRead, ?refusedStep⟩,
    fun s port site t hme hheld hadmits hsite hlt hown hdata hwindow hreach hway hleave hlast => ?writeSp,
    fun s port t l hme hheld hadmits hwalk haddrs hlost hwaits hrefuses => ?writeVa,
    fun s port t l hme hheld hadmits hwalk haddrs hlost hwaits hrefuses => ?writeHeld,
    fun s port t l hme hheld hadmits hlen halign hwalk haddrs hlost hwaits => ?readVa,
    fun s port t hme => ?data, fun s port t x m0 f hme hcoll htake hfound => ?ack, fun s port t hme hcoll hany => ?nack,
    fun s tag x rest htag hfirst => ?timeout, fun s port t hme hwait => ?stepHeld,
    fun s port t hme hheld hstill hadmits => ⟨?stepNow, ?stepNewer, ?stepOlder⟩,
    fun s tag part c htag hpart hcoll hdue hcomplete => ?stepTimeout, fun s tag htag => ?retransmit, fun s hquiet => ?slowSend,
    fun s port t hme => ?slow, fun s hany hlong hother => ?reportSend, fun s port t hme => ?report,
    fun s port t hme hhead hfree haddr hlen hcrc hfrom hstate hmore => ?chunk, fun s port t hme hfrom => ?poll,
    fun s port t b hme htx hnum => ?otherCast, fun s port t b b1 hme htx hnum hb => ?bitmap,
    fun s port t hme hfrom hstate hslots hstep => ?commit⟩
  case refusedSp =>
    exact fun hme => ⟨_, onTrans_of_forMe _ hme (by decide),
      (if_neg (Bool.not_eq_true _ ▸ hheld)).trans (if_pos (by rw [hadmits]; rfl))⟩
  case refusedVa =>
    exact fun hme => ⟨_, onTrans_of_forMe _ hme (by decide),
      (if_neg (Bool.not_eq_true _ ▸ hheld)).trans (if_pos (by rw [hadmits]; rfl))⟩
  case refusedRead =>
    exact fun hme => ⟨_, onTrans_of_forMe _ hme (by decide),
      (if_neg (Bool.not_eq_true _ ▸ hheld)).trans (if_pos (by rw [hadmits]; rfl))⟩
  case refusedStep =>
    exact fun hme hstill => ⟨_, onTrans_of_forMe _ hme (by decide),
      (if_neg (by rw [hheld, hstill]; decide)).trans (if_pos (by rw [hadmits]; rfl))⟩
  case writeSp =>
    exact ⟨_, onTrans_of_forMe _ hme (by decide), doWriteSp_of_served hheld hadmits hsite hlt hown hdata hwindow hreach hway hleave hlast⟩
  case writeVa =>
    refine ⟨_, onTrans_of_forMe _ hme (by decide), ?_⟩
    exact (doWriteVa_of_served hheld hadmits hwalk haddrs hlost hwaits).trans (if_neg (Bool.not_eq_true _ ▸ hrefuses))
  case writeHeld =>
    refine ⟨_, onTrans_of_forMe _ hme (by decide), ?_⟩
    exact (doWriteVa_of_served hheld hadmits hwalk haddrs hlost hwaits).trans (if_pos hrefuses)
  case readVa =>
    exact ⟨_, onTrans_of_forMe _ hme (by decide), doReadVa_of_served hheld hadmits hlen halign hwalk haddrs hlost hwaits⟩
  case data => exact ⟨_, onTrans_of_forMe _ hme (by decide), rfl⟩
  case ack => exact ⟨_, onTrans_of_forMe _ hme (by decide), doAck_of_transfer (port := port) hcoll htake hfound⟩
  case nack =>
    refine ⟨_, onTrans_of_forMe _ hme (by decide), ?_⟩
    dsimp only
    unfold doNack
    dsimp only
    rw [hcoll]
    exact if_pos hany
  case timeout =>
    refine ⟨_, onModule_of _ _ (decide_eq_true htag), ?_⟩
    dsimp only
    rw [doNrAckTimeout, hfirst]
  case stepHeld => exact ⟨_, onTrans_of_forMe _ hme (by decide), if_pos (Bool.or_eq_true_iff.mpr hwait)⟩
  case stepNow =>
    exact fun hnow => ⟨_, onTrans_of_forMe _ hme (by decide),
      (if_neg (by rw [hheld, hstill]; decide)).trans ((if_neg (not_bnot hadmits)).trans (if_pos hnow))⟩
  case stepNewer =>
    intro hne hnewer
    refine ⟨_, onTrans_of_forMe _ hme (by decide), ?_⟩
    have hholds : doStep port t s.m = _ := (if_neg (by rw [hheld, hstill]; decide)).trans ((if_neg (not_bnot hadmits)).trans
      ((if_neg hne).trans (if_pos hnewer)))
    dsimp only
    rw [hholds]
    exact ⟨rfl, rfl⟩
  case stepOlder =>
    exact fun hne holder => ⟨_, onTrans_of_forMe _ hme (by decide),
      (if_neg (by rw [hheld, hstill]; decide)).trans ((if_neg (not_bnot hadmits)).trans
        ((if_neg hne).trans (if_neg (Bool.not_eq_true _ ▸ holder))))⟩
  case stepTimeout =>
    obtain ⟨peer, hends⟩ := doStepTimeout_of_due hcoll hdue hcomplete
    exact ⟨_, peer, onModule_of _ _ (by rw [decide_eq_true htag, hpart]; rfl), hends⟩
  case retransmit => exact ⟨_, onModule_of _ _ (decide_eq_true htag), rfl⟩
  case slowSend => exact ⟨_, onModule_of _ _ rfl, if_pos (by rw [hquiet]; rfl)⟩
  case slow =>
    refine ⟨_, onTrans_of_forMe _ hme (by decide), ?_⟩
    dsimp only
    unfold doSlow
    dsimp only
    rw [Module.causeIf_flight, Module.causeIf_slowRx, Module.causeIf_slowAt]
    refine ⟨rfl, rfl, fun c hc hsrc => List.mem_map.mpr ⟨c, hc, if_neg hsrc⟩⟩
  case reportSend =>
    refine ⟨_, _, onModule_of _ _ rfl, rfl, ?_⟩
    have hnot : ¬ (s.m.fab.idValid && s.m.fab.manager == s.m.fab.deviceId) = true := by simpa using hother
    exact (if_pos ⟨hany, hlong⟩).trans (if_neg hnot)
  case report => exact ⟨_, onTrans_of_forMe _ hme (by decide), rfl⟩
  case chunk =>
    refine ⟨_, onTrans_of_forMe _ hme (by decide), ?_⟩
    dsimp only
    rw [doFwChunkTransaction_of_more hhead hfree haddr hlen hcrc hfrom hstate hmore]
    exact ⟨rfl, rfl⟩
  case poll =>
    refine ⟨_, onTrans_of_forMe _ hme (by decide), ?_⟩
    dsimp only
    simp only [doFwPoll, hfrom, if_true]
  case otherCast =>
    refine ⟨_, onTrans_of_forMe _ hme (by decide), ?_⟩
    rw [doFwBitmap, htx]
    dsimp only
    rw [if_pos hnum]
  case bitmap =>
    refine ⟨_, onTrans_of_forMe _ hme (by decide), ?_⟩
    dsimp only
    rw [doFwBitmap, htx, hb]
    exact if_neg (not_not_intro hnum)
  case commit =>
    refine ⟨_, onTrans_of_forMe _ hme (by decide), ?_⟩
    have hpasses : doFwCommit port t s.m = _ := if_pos ⟨hfrom, hstate⟩
    have hk : s.m.inactive < s.m.bring.slots.length := by rw [hslots, Module.inactive]; omega
    dsimp only
    rw [hpasses]
    dsimp only
    rw [if_neg hstep]
    exact ⟨Module.passSlot_valid hk, rfl⟩

end Sys2Proof.Machine
end

section
/-! SUPPORT. Managers and settings of the fabric (R545, R552 to R555). -/

namespace Sys2Proof.Machine

open Sys2Proof.Safety

section
variable {m : Module} {port : Nat} {t : Trans}

/-- The value that a MODE_PREP of one transaction stages (R552). -/
def preparedBy (t : Trans) : Staged where
  kind := t.address % 256
  scope := t.address / 256
  value := t.payload
  manager := t.src
  mine := false
  auto := false
  expect := []
  acks := []
  pausing := none
  drained := []
  cmd := none
  commit := none

/-- A MODE_PREP whose value is in its one transaction, for a module that passes nothing on (R552). -/
theorem doModePrep_of_whole (hmine : m.passOn t = m) (hfirst : t.step = 0) (hlen : t.payload.length = t.aux) :
    doModePrep port t m =
      let m2 : Module := { m with flight := { m.flight with prep := [], prepFrom := 0 } }
      if !m2.claimsFree [.epoch] then m2.modeAck t.src (t.address % 256) 1
      else ({ m2 with epochs := { m2.epochs with staged := m2.epochs.staged ++
        [preparedBy t] } }).modeAck t.src (t.address % 256) 0 := by
  unfold doModePrep preparedBy
  simp [hmine, hfirst, ← hlen]

/-- An acknowledgement of a value this manager staged, from a member it waits for (R552). -/
theorem doModeAck_of_mine {v : Staged} (hstaged : m.stagedOf t.address = some v) (hmine : v.mine = true) (hexpect : t.src ∈ v.expect) :
    doModeAck port t m =
      if t.step = 1 then (if v.pausing.isSome then m else m.dropPrepare v stBusy [])
      else if t.step = 2 then (m.updStaged v.kind (fun x => { x with drained := insertNew t.src x.drained })).drainCheck v.kind
      else (m.updStaged v.kind (fun x => { x with acks := x.acks.filter (fun a => a.1 != t.src) ++ [(t.src, t.epoch)] })).ackCheck v.kind := by
  rw [doModeAck, hstaged]
  exact if_neg (by simp [hmine, hexpect])

theorem doModeCommitTransaction_of_staged {v : Staged} (hpass : m.passOn t = m) (hstaged : m.stagedFrom t = some v) :
    doModeCommitTransaction port t m =
      if t.step = 1 then { m.updStaged v.kind (fun x => { x with pausing := some t.epoch }) with
        fab := { m.fab with paused := true, drained := false } }
      else m.applyStaged v t.epoch := by
  unfold doModeCommitTransaction
  dsimp only
  rw [hpass, hstaged]
  rfl
theorem doModeAbortTransaction_of_staged {v : Staged} (hpass : m.passOn t = m) (hstaged : m.stagedFrom t = some v) :
    doModeAbortTransaction port t m = m.unstage v.kind := by
  unfold doModeAbortTransaction
  dsimp only
  rw [hpass, hstaged]

/-- Missing acknowledgements end a prepare (R552). -/
theorem doModeAckTimeout_of_missing {kind : Nat} {v : Staged} (hstaged : m.stagedOf kind = some v) (hmine : v.mine = true)
    (hpausing : v.pausing = none) (hmissing : v.expect.filter (fun d => !v.acks.any (fun a => a.1 == d)) ≠ []) :
    ∃ d, doModeAckTimeout kind m =
      (m.fabEvent 0x96 0xFF 0xFF d kind 0x27 0 m.epochs.epoch 0 (v.expect.filter (fun d => !v.acks.any (fun a => a.1 == d))).length 0).dropPrepare
        v stHwError (d4 (v.expect.filter (fun d => !v.acks.any (fun a => a.1 == d))).length) := by
  refine ⟨(v.expect.filter (fun d => !v.acks.any (fun a => a.1 == d))).headD 0xFFFF, ?_⟩
  rw [doModeAckTimeout, hstaged]
  exact if_neg (by rw [hmine, hpausing, List.isEmpty_iff]; simpa using hmissing)

/-- A port that has drained says so to the manager that asked, or to itself (R554). -/
theorem doRoutingPauseDrained_of_drained (hpaused : m.fab.paused = true) (hnot : m.fab.drained = false) (hports : m.portsDrained = true) :
    doRoutingPauseDrained m = match m.epochs.staged.find? (fun v => v.pausing.isSome) with
      | none => { m with fab := { m.fab with drained := true } }
      | some v => if v.mine then ({ m with fab := { m.fab with drained := true } } : Module).drainCheck v.kind
        else ({ m with fab := { m.fab with drained := true } } : Module).modeAck v.manager v.kind 2 :=
  if_neg (by simp [hpaused, hnot, hports])

end

/-- Settles O49: each by what reaches the module, then by the event's own body. -/
theorem fabricManagement : Obligations.FabricManagement := by
  refine ⟨fun s port t hme hsrc => ?beat, fun s port t hme hpass hfirst hlen => ?prep, fun s port t v hme hstaged hmine hexpect => ⟨?busy, ?drained, ?acks⟩,
    fun s port t v hpass hstaged => ⟨?commit, ?pause, ?abort⟩, fun s port t hme => ?poll, fun s port t hme hstaged => ?info,
    fun s k hk => ?heldPoll, fun s k a t hk => ?heldTimeout, fun s kind v hkind hstaged => ⟨?valuePoll, ?discard, ?ackTimeout⟩,
    fun s hid hmanager => ?send, fun s hhead hlead => ?summary, fun s hmissed hnot => ?lost, fun s g hlt hg hlead hacting hothers => ?takeover,
    fun s hpaused hnot hports hnone => ?drainedAlone, fun s v hpaused hnot hports hfound hmine => ?drainedFor⟩
  case beat => exact ⟨_, onTrans_of_forMe _ hme (by decide), if_pos hsrc⟩
  case prep =>
    refine ⟨_, _, onTrans_of_forMe _ hme (by decide), rfl, ?_⟩
    dsimp only
    rw [doModePrep_of_whole hpass hfirst hlen]
    exact ⟨fun h => if_pos (by rw [h]; rfl), fun h => if_neg (not_bnot h)⟩
  case busy =>
    intro hstep hpausing
    refine ⟨_, onTrans_of_forMe _ hme (by decide), ?_⟩
    exact (doModeAck_of_mine (port := port) hstaged hmine hexpect).trans ((if_pos hstep).trans (if_neg (by rw [hpausing]; decide)))
  case drained =>
    intro hstep
    refine ⟨_, onTrans_of_forMe _ hme (by decide), ?_⟩
    exact (doModeAck_of_mine (port := port) hstaged hmine hexpect).trans ((if_neg (by omega)).trans (if_pos hstep))
  case acks =>
    intro hstep
    refine ⟨_, onTrans_of_forMe _ hme (by decide), ?_⟩
    exact (doModeAck_of_mine (port := port) hstaged hmine hexpect).trans ((if_neg (by omega)).trans (if_neg (by omega)))
  case commit =>
    exact fun hme hstep => ⟨_, onTrans_of_forMe _ hme (by decide),
      (doModeCommitTransaction_of_staged (port := port) hpass hstaged).trans (if_neg (by omega))⟩
  case pause =>
    intro hme hstep
    refine ⟨_, onTrans_of_forMe _ hme (by decide), ?_⟩
    have hpauses : doModeCommitTransaction port t s.m = _ := (doModeCommitTransaction_of_staged hpass hstaged).trans (if_pos hstep)
    dsimp only
    rw [hpauses]
    exact ⟨rfl, rfl⟩
  case abort =>
    exact fun hme => ⟨_, onTrans_of_forMe _ hme (by decide), doModeAbortTransaction_of_staged (port := port) hpass hstaged⟩
  case poll => exact ⟨_, onTrans_of_forMe _ hme (by decide), rfl⟩
  case info =>
    refine ⟨_, _, onTrans_of_forMe _ hme (by decide), rfl, ?_⟩
    dsimp only
    unfold doEpochInfo
    dsimp only
    rw [hstaged, List.find?_nil]
  case heldPoll => exact ⟨_, onModule_of _ _ rfl, if_pos hk⟩
  case heldTimeout =>
    refine ⟨_, _, onModule_of _ _ rfl, rfl, ?_⟩
    dsimp only
    rw [doEpochHoldTimeout, hk]
  case valuePoll =>
    intro hmine
    refine ⟨_, onModule_of _ _ (decide_eq_true hkind), ?_⟩
    dsimp only
    rw [doStagedValuePoll, hstaged]
    exact if_neg (by rw [hmine]; decide)
  case discard =>
    intro hpausing hcmd
    refine ⟨_, onModule_of _ _ (decide_eq_true hkind), ?_⟩
    dsimp only
    rw [doStagedValueDiscard, hstaged]
    exact if_neg (by rw [hpausing, hcmd]; decide)
  case ackTimeout =>
    intro hmine hpausing hmissing
    obtain ⟨d, hends⟩ := doModeAckTimeout_of_missing hstaged hmine hpausing hmissing
    exact ⟨_, d, _, onModule_of _ _ (decide_eq_true hkind), rfl, hends⟩
  case send => exact ⟨_, onModule_of _ _ rfl, if_neg (by simp [hid, hmanager])⟩
  case summary => exact ⟨_, onModule_of _ _ rfl, if_neg (by simp [hhead, hlead])⟩
  case lost =>
    refine ⟨_, onModule_of _ _ rfl, ?_⟩
    have hends : doManagerLost s.m = _ := if_pos ⟨hmissed, by rw [hnot]; rfl⟩
    dsimp only
    rw [hends]
    exact ⟨rfl, rfl⟩
  case takeover =>
    refine ⟨_, onModule_of _ _ (decide_eq_true hlt), ?_⟩
    have hacts : doActingManagerTakeover g s.m = _ := if_pos ⟨hlead, hg, by rw [hacting]; rfl, by simpa using hothers⟩
    dsimp only
    rw [hacts]
    exact ⟨rfl, rfl⟩
  case drainedAlone =>
    refine ⟨_, onModule_of _ _ rfl, ?_⟩
    have hfind : s.m.epochs.staged.find? (fun v => v.pausing.isSome) = none :=
      List.find?_eq_none.mpr fun v hv => by rw [hnone v hv]; decide
    dsimp only
    rw [doRoutingPauseDrained_of_drained hpaused hnot hports, hfind]
  case drainedFor =>
    refine ⟨_, onModule_of _ _ rfl, ?_⟩
    dsimp only
    rw [doRoutingPauseDrained_of_drained hpaused hnot hports, hfound]
    exact if_neg (by rw [hmine]; decide)

end Sys2Proof.Machine
end

section
/-! SUPPORT. Operating points, louvres and the power ladder (R405 to R428). -/

namespace Sys2Proof.Machine

open Sys2Proof.Safety

/-! ## What a cause bit leaves of the host port -/

/-- The host port without its functions' registers and what it sends. -/
def Port.still (p : Port) : Port := { p with funcs := [], out := [] }

@[simp] theorem Module.sendMsix_still (m : Module) (fn v : Nat) : (m.sendMsix fn v).port.still = m.port.still := by
  unfold Module.sendMsix Module.emit
  dsimp only
  split
  · rfl
  · split
    · split <;> rfl
    · rfl
@[simp] theorem Module.setCause_still (m : Module) (b : Blk) (i : Nat) : (m.setCause b i).port.still = m.port.still := by
  unfold Module.setCause
  dsimp only
  split
  · exact (Module.sendMsix_still ..).trans (by cases b <;> rfl)
  · cases b <;> rfl

section
variable (m : Module) (f : Module → Module)

@[simp] theorem Module.watchLadder_still : (m.watchLadder f).port.still = (f m).port.still := by
  unfold Module.watchLadder
  dsimp only
  split
  · rfl
  · simp
theorem Module.watchLadder_linkUp : (m.watchLadder f).port.linkUp = (f m).port.linkUp :=
  (congrArg Port.linkUp (m.watchLadder_still f) :)
theorem Module.watchLadder_cl (c : Nat) : (m.watchLadder f).cl c = (f m).cl c :=
  (congrArg (fun x : Module => x.cl c) (m.watchLadder_inner f) :)
theorem Module.watchLadder_slice (k : Nat) : (m.watchLadder f).slice k = (f m).slice k :=
  (congrArg (fun x : Module => x.slice k) (m.watchLadder_inner f) :)
/-- Of the power registers it changes at most the cause bits. -/
theorem Module.watchLadder_power : (m.watchLadder f).power = { (f m).power with intStatus := (m.watchLadder f).power.intStatus } :=
  (congrArg (fun x : Module => { x.power with intStatus := (m.watchLadder f).power.intStatus }) (m.watchLadder_inner f) :)
theorem Module.watchLadder_bytes : (m.watchLadder f).mem.bytes = (f m).mem.bytes :=
  (congrArg (fun x : Module => x.mem.bytes) (m.watchLadder_inner f) :)

end

section
variable {m : Module} {c : Nat}

/-! ## A point's step (R405) -/

theorem doOperatingPointStep_of_on (hladder : (m.cl c).ladder ≠ 2) (hview : (m.cl c).functionView = false) :
    doOperatingPointStep c m =
      if (m.cl c).goal < (m.cl c).point then m.updCl c (fun k => { k with point := k.point - 1 })
      else if (m.cl c).point < (m.cl c).goal ∧ !(2 ≤ (m.cl c).point ∧ m.halfSlowAt c) then
        m.updCl c (fun k => { k with point := if k.pointHeld then k.point else k.point + 1 })
      else m := if_neg (by simp [hladder, hview])
/-- The step changes the cluster's point and nothing else. -/
theorem doOperatingPointStep_point (hladder : (m.cl c).ladder ≠ 2) (hview : (m.cl c).functionView = false) :
    ((doOperatingPointStep c m).cl c).point =
      if (m.cl c).goal < (m.cl c).point then (m.cl c).point - 1
      else if (m.cl c).point < (m.cl c).goal ∧ ¬ (2 ≤ (m.cl c).point ∧ m.halfSlowAt c = true) ∧ (m.cl c).pointHeld = false then (m.cl c).point + 1
      else (m.cl c).point := by
  rw [doOperatingPointStep_of_on hladder hview]
  split
  case isTrue => rw [Module.updCl_cl]
  case isFalse =>
    by_cases hheld : (m.cl c).pointHeld = true
    · rw [if_neg (show ¬ ((m.cl c).point < (m.cl c).goal ∧ _ ∧ (m.cl c).pointHeld = false) by simp [hheld])]
      split
      · rw [Module.updCl_cl]
        exact if_pos hheld
      · rfl
    · simp only [Bool.not_eq_true] at hheld
      simp only [hheld, and_true]
      split
      case isTrue h =>
        rw [if_pos (by simpa only [Bool.not_eq_true', decide_eq_false_iff_not] using h), Module.updCl_cl]
        exact if_neg (by rw [hheld]; decide)
      case isFalse h => rw [if_neg (by simpa only [Bool.not_eq_true', decide_eq_false_iff_not] using h)]
theorem doOperatingPointStep_frame : (∀ k, k ≠ c → (doOperatingPointStep c m).cl k = m.cl k) ∧ (doOperatingPointStep c m).power = m.power ∧
    (doOperatingPointStep c m).mem = m.mem ∧ (doOperatingPointStep c m).cores = m.cores := by
  have hupd (f : Cluster → Cluster) : (∀ k, k ≠ c → (m.updCl c f).cl k = m.cl k) ∧ (m.updCl c f).power = m.power ∧
    (m.updCl c f).mem = m.mem ∧ (m.updCl c f).cores = m.cores := ⟨fun k h => Module.updCl_cl_ne m f h, rfl, rfl, rfl⟩
  unfold doOperatingPointStep
  dsimp only
  split
  · exact ⟨fun _ _ => rfl, rfl, rfl, rfl⟩
  · split
    · exact hupd _
    · split
      · exact hupd _
      · exact ⟨fun _ _ => rfl, rfl, rfl, rfl⟩

theorem Module.slicesOn_slice (m : Module) {k : Nat} (hk : k ∈ sitesOf c) :
    ((m.slicesOn c).slice k) = { m.slice k with selfRefresh := false } :=
  Module.updSlices_slice m (fun x : Slice => { x with selfRefresh := false }) (fun _ => rfl) hk
/-- A slice goes to self-refresh unless rows still wait (R423). -/
theorem Module.updSlices_selfRefresh (m : Module) {ss : List Nat} {k : Nat} (hk : k ∈ ss) :
    ((m.updSlices ss (fun x => { x with selfRefresh := x.pendingRows.isEmpty })).slice k).selfRefresh =
      ((m.updSlices ss (fun x => { x with selfRefresh := x.pendingRows.isEmpty })).slice k).pendingRows.isEmpty := by
  rw [Module.updSlices_slice m (fun x : Slice => { x with selfRefresh := x.pendingRows.isEmpty }) (fun _ => rfl) hk]
  rfl
theorem Module.updSlices_bytes (m : Module) (ss : List Nat) (f : Slice → Slice) : (m.updSlices ss f).mem.bytes = m.mem.bytes := rfl
theorem Module.updSlices_cl (m : Module) (ss : List Nat) (f : Slice → Slice) (k : Nat) : (m.updSlices ss f).cl k = m.cl k := rfl
theorem Module.slicesOn_cl (m : Module) (k : Nat) : (m.slicesOn c).cl k = m.cl k := rfl

/-! ## Rows that wait to be written, when a cluster's slices go (R423) -/

/-- A slice without waiting rows has none to write. -/
theorem Module.settleFree_of_none {k : Nat} (h : (m.slice k).pendingRows = []) : m.settleFree k = m := by
  unfold Module.settleFree
  rw [h]
  rfl
theorem settleAll_of_none {ss : List Nat} (h : ∀ k ∈ ss, (m.slice k).pendingRows = []) :
    ss.foldl (fun (acc : Module) k => acc.settleFree k) m = m := by
  induction ss with
  | nil => rfl
  | cons k ss ih =>
    rw [List.foldl_cons, Module.settleFree_of_none (h k List.mem_cons_self)]
    exact ih fun j hj => h j (List.mem_cons_of_mem _ hj)

/-! ## Eighths of a slice that are lost in Sealed (R426) -/

theorem SMap.get_map {α : Type} (d : α) (f : α → α) (l : SMap α) (k : Nat) :
    SMap.get d (l.map (fun p => (p.1, f p.2))) k = f (SMap.get d l k) ∨ SMap.get d (l.map (fun p => (p.1, f p.2))) k = SMap.get d l k := by
  induction l with
  | nil => exact .inr rfl
  | cons p l ih =>
    show (if k = p.1 then f p.2 else SMap.get d (l.map _) k) = f (if k = p.1 then p.2 else SMap.get d l k) ∨ _ = if k = p.1 then p.2 else _
    by_cases h : k = p.1
    · simp [h]
    · simpa [h, SMap.get] using ih
theorem Module.loseEighths_retiredBank (m : Module) (keep k : Nat) : ((m.loseEighths keep).slice k).retiredBank = (m.slice k).retiredBank := by
  rcases SMap.get_map {} (fun x : Slice => { x with undef := x.undef |||
    (maskOf 8 (fun e => !bitOf keep e) + (if bitOf keep 7 then 0 else 256)) }) m.mem.slices k with h | h
  · exact (congrArg Slice.retiredBank h :)
  · exact (congrArg Slice.retiredBank h :)
/-- What is still stored lies in an eighth that is kept. -/
theorem Module.loseEighths_kept {keep : Nat} {b : Nat × Byte} (h : b ∈ (m.loseEighths keep).mem.bytes) :
    bitOf keep (eighthOf (physRow ((m.loseEighths keep).slice (b.1 / 2 ^ 29)).retiredBank (b.1 % 2 ^ 29 / 2048) / 64)) = true := by
  rw [Module.loseEighths_retiredBank]
  simpa using (List.mem_filter.mp h).2

/-! ## Sealed (R426 to R428) -/

/-- What the end of the entry switches off. -/
def Module.sealedOff (m : Module) : Module :=
  { m with
    power := { m.power with sealing := false, moduleState := 3, vib := false, vlink := false },
    port := { m.port with linkUp := false },
    fab := { m.fab with ports := m.fab.ports.map (fun p => if p.state = 4 then p else { p with state := 0 }) } }
theorem Module.sealedOff_bytes (m : Module) : m.sealedOff.mem.bytes = m.mem.bytes := rfl
theorem Module.sealedOff_slice (m : Module) (k : Nat) : m.sealedOff.slice k = m.slice k := rfl
/-- What the exit switches on. -/
def Module.unsealed (m : Module) : Module :=
  { m with
    power := { m.power with moduleState := 0, hold := 0, vib := true, vlink := true },
    clusters := SMap.updAll {} m.clusters allClusters (fun k =>
      if k.cellFenced then k else { k with ladder := 0, louvres := 8, waking := false, sliceIsland := false }) }
theorem doSealedEntry_of_quiet (hsealing : m.power.sealing = true) (hqueues : ∀ c ∈ allClusters, m.bankQueuesEmpty c = true) :
    doSealedEntry m = ((m.shutter (allClusters.filter (fun c => (m.cl c).ladder != 2))).loseEighths m.power.eighths).watchLadder Module.sealedOff :=
  if_pos ⟨hsealing, List.all_eq_true.mpr hqueues⟩
theorem doSealedExit_power (hsealed : m.power.moduleState = 3) : (doSealedExit m).power = (m.watchLadder Module.unsealed).power := by
  unfold doSealedExit
  rw [if_pos hsealed]
  dsimp only
  rw [Module.updCores_power, Module.zeroPads, Module.updCores_power, Module.updSlices_power]
  congr 1
theorem doSealedExit_bytes (hsealed : m.power.moduleState = 3) : (doSealedExit m).mem.bytes = (m.watchLadder Module.unsealed).mem.bytes := by
  unfold doSealedExit
  rw [if_pos hsealed]
  dsimp only
  rw [Module.updCores_mem, Module.zeroPads, Module.updCores_mem, Module.updSlices_bytes]
  congr 2

end

/-- Settles O51: point by point along R405 to R428; what `watchLadder` adds is a cause bit. -/
theorem powerLadder : Obligations.PowerLadder := by
  refine ⟨fun s c hc hladder hview => ?point, fun s c hc => ?hint, fun s c droop da hc hwaking hlouvres hdue => ?louvre,
    fun s c hc hwaking hlouvres => ?wake, fun s c hc hauto hladder hidle hqueues => ?ajar, fun s c hc hladder hshut hquiet hqueues => ?shutter,
    fun s c hc hheld => ?ajarExit, fun s site thread hok hgoal hladder hitem hquiet => ?quiesce,
    fun s c hc hisland hslices hqueues => ?island, fun s hsealing hqueues => ?sealed, fun s hsealed => ?unsealed⟩
  case point =>
    exact ⟨_, onModule_of _ _ hc, doOperatingPointStep_point hladder hview, doOperatingPointStep_frame⟩
  case hint =>
    exact ⟨_, onModule_of _ _ hc, congrArg Cluster.hintRaised (Module.updCl_cl ..), fun k h => Module.updCl_cl_ne s.m _ h⟩
  case louvre =>
    refine ⟨_, onModule_of _ _ hc, ?_⟩
    have hcloses : doLouvreClosure c droop da s.m = _ := if_pos ⟨hwaking, hlouvres, hdue⟩
    dsimp only
    rw [hcloses]
    by_cases hlong : (s.m.cl c).louvres < 7 ∧ (25 < droop ∨ 1536 < da)
    · rw [if_pos hlong, if_pos hlong, if_pos hlong]
      simp [Module.cl, Module.updCl, SMap.get_upd_self]
    · rw [if_neg hlong, if_neg hlong, if_neg hlong]
      simp [Module.cl, Module.updCl, SMap.get_upd_self]
  case wake =>
    refine ⟨_, onModule_of _ _ hc, ?_⟩
    have hawake : doClusterWakeComplete c s.m = _ := if_pos ⟨hwaking, hlouvres⟩
    dsimp only
    rw [hawake]
    have hslices (m : Module) : ∀ k ∈ sitesOf c, ((m.slicesOn c).slice k).selfRefresh = false :=
      fun k hk => by rw [Module.slicesOn_slice m hk]
    split
    case isTrue hdown =>
      rw [Module.slicesOn_cl, Module.updCl_cl]
      exact ⟨rfl, rfl, fun h => absurd hdown (by rw [h]; decide), fun _ => rfl, hslices _⟩
    case isFalse hup =>
      rw [Module.slicesOn_cl, Module.watchLadder_cl, Module.updCl_cl]
      exact ⟨rfl, rfl, fun _ => rfl, fun h => absurd h hup, hslices _⟩
  case ajar => exact ⟨_, onModule_of _ _ hc, if_pos ⟨hauto, hladder, hidle, hqueues⟩⟩
  case shutter => exact ⟨_, onModule_of _ _ hc, if_pos ⟨hladder, hshut, hquiet, hqueues⟩⟩
  case ajarExit => exact ⟨_, onModule_of _ _ hc, if_neg (by rw [hheld]; decide)⟩
  case quiesce =>
    exact ⟨_, onModule_of _ _ hok, if_pos ⟨hgoal, hladder, hitem, by rw [hquiet]; rfl⟩⟩
  case island =>
    refine ⟨_, onModule_of _ _ hc, ?_⟩
    have hall : (sitesOf c).all (fun k => (s.m.slice k).waiting.isEmpty && (s.m.slice k).holdSlots.isEmpty) = true :=
      List.all_eq_true.mpr fun k hk => by simp [hslices k hk]
    have hreturns : doSliceIslandReturn c s.m = _ := if_pos ⟨hisland, hall, hqueues⟩
    dsimp only
    rw [hreturns]
    dsimp only
    rw [Module.updSlices_cl, Module.updCl_cl]
    refine ⟨rfl, rfl, fun k hk => Module.updSlices_selfRefresh _ hk, fun hnone => ?_⟩
    rw [show (sitesOf c).foldl (fun (acc : Module) k => acc.settleFree k) (s.m.dropUnits (sitesOf c)) = s.m.dropUnits (sitesOf c) from
      settleAll_of_none hnone]
    rfl
  case sealed =>
    refine ⟨_, onModule_of _ _ rfl, ?_⟩
    dsimp only
    rw [doSealedEntry_of_quiet hsealing hqueues, Module.watchLadder_power, Module.watchLadder_linkUp]
    refine ⟨rfl, rfl, rfl, rfl, rfl, fun b hb => ?_⟩
    rw [Module.watchLadder_bytes, Module.sealedOff_bytes] at hb
    rw [Module.watchLadder_slice, Module.sealedOff_slice]
    exact Module.loseEighths_kept hb
  case unsealed =>
    refine ⟨_, onModule_of _ _ rfl, ?_⟩
    dsimp only
    rw [doSealedExit_power hsealed, doSealedExit_bytes hsealed, Module.watchLadder_power, Module.watchLadder_bytes]
    simp [Module.unsealed]

end Sys2Proof.Machine
end

section
/-! SUPPORT. Sensors, bands, forecasts, throttle, trip and coolant (R373 to R391). -/

namespace Sys2Proof.Machine

open Sys2Proof.Safety

/-! ## What the ladder and the alert leave of the thermal registers -/

/-- The thermal registers without their cause bits, the alert and the time since which a group is held. -/
def Thermal.still (t : Thermal) : Thermal := { t with intStatus := 0, alert := false, holdSince := none }
def Module.heat (m : Module) : Thermal := m.thermal.still

theorem heat_of_inner {m n : Module} (h : m.inner = n.inner) : m.heat = n.heat := (congrArg (fun x : Module => x.thermal.still) h :)

section
variable (m : Module)

theorem Module.toAjar_heat (cs : List Nat) : (m.toAjar cs).heat = m.heat := by
  unfold Module.toAjar
  exact (heat_of_inner (m.watchLadder_inner _)).trans rfl
theorem Module.leaveAjar_heat (cs : List Nat) : (m.leaveAjar cs).heat = m.heat := by
  unfold Module.leaveAjar
  exact (heat_of_inner (m.watchLadder_inner _)).trans rfl
theorem Module.updCls_heat (cs : List Nat) (f : Cluster → Cluster) : (m.updCls cs f).heat = m.heat := rfl
theorem Module.shareCap_heat (s : Nat) : (m.shareCap s).heat = m.heat := rfl
theorem Module.trackHold_heat : m.trackHold.heat = m.heat := rfl
theorem Module.refreshAlert_heat : m.refreshAlert.heat = m.heat := by
  unfold Module.refreshAlert
  split
  · rfl
  · dsimp only
    split
    · exact (heat_of_inner ((Module.setCause_inner ..).trans (Module.ibi_inner ..))).trans rfl
    · exact (heat_of_inner (Module.ibi_inner ..)).trans rfl
theorem Module.telCheck_heat (i lo width : Nat) (value scale : Int) : (m.telCheck i lo width value scale).heat = m.heat := by
  unfold Module.telCheck
  dsimp only
  split
  · exact (heat_of_inner (Module.setCause_inner ..)).trans rfl
  · rfl
theorem Module.suspendStage_heat : m.suspendStage.heat = m.heat := by
  unfold Module.suspendStage
  split <;> rfl
theorem Module.settleRow_heat (k r : Nat) : (m.settleRow k r).heat = m.heat := by
  unfold Module.settleRow
  split <;> rfl
theorem Module.settleFree_heat (k : Nat) : (m.settleFree k).heat = m.heat :=
  foldl_field Module.heat _ (fun m r => m.settleRow_heat k r) _ m
theorem Module.shutter_heat (cs : List Nat) : (m.shutter cs).heat = m.heat := by
  unfold Module.shutter
  dsimp only
  refine (heat_of_inner (Module.watchLadder_inner _ _)).trans ?_
  exact foldl_field Module.heat _ (fun m k => m.settleFree_heat k) _ _
theorem Module.pursue_heat : m.pursue.heat = m.heat := by
  have hajar (p : Prop) [Decidable p] (cs : List Nat) : (if p then m else m.toAjar cs).heat = m.heat := by
    split
    · rfl
    · exact m.toAjar_heat cs
  unfold Module.pursue
  extract_lets g ajar m1 go shut m2
  have h1 : m1.heat = m.heat := hajar _ _
  have h2 : m2.heat = m.heat := (m1.updCls_heat ..).trans h1
  split
  · rfl
  · split
    · exact h1
    · split
      · exact h2
      · exact (m2.shutter_heat shut).trans h2
theorem Module.ladderDone_heat : m.ladderDone.heat = m.heat := by
  unfold Module.ladderDone
  split
  · exact foldl_field Module.heat _ (fun m _ => heat_of_inner (m.complete_inner ..)) _ m
  · rfl
theorem Module.settleLadder_heat : m.settleLadder.heat = m.heat := (Module.ladderDone_heat _).trans m.pursue_heat

/-! ## A sensor's reading (R373 to R377) -/

/-- A sensor without its sampling period. -/
def Module.probe (i : Nat) : Sensor := { m.sensor i with period := 0 }

theorem probe_of_heat {m n : Module} (h : m.heat = n.heat) (i : Nat) : m.probe i = n.probe i :=
  (congrArg (fun t : Thermal => { SMap.get {} t.sensors i with period := 0 }) h :)
theorem Module.setPeriod_probe (l : List Nat) (f : Int → Nat) (i : Nat) : (m.setPeriod l f).probe i = m.probe i := by
  unfold Module.setPeriod
  split
  · rfl
  · refine foldl_field (fun x : Module => x.probe i) _ (fun m k => ?_) l m
    unfold Module.probe
    by_cases hk : i = k
    · rw [hk, Module.updSensor_sensor]
    · rw [Module.updSensor_sensor_ne m _ hk]
theorem Module.setCause_probe (b : Blk) (k i : Nat) : (m.setCause b k).probe i = m.probe i :=
  probe_of_heat (heat_of_inner (m.setCause_inner b k)) i
theorem Module.useGroup_probe (g i : Nat) : (m.useGroup g).probe i = m.probe i := by
  have hcause (p : Prop) [Decidable p] (x : Module) (k : Nat) : (if p then x.setCause .mem k else x).probe i = x.probe i := by
    split
    · exact x.setCause_probe .mem k i
    · rfl
  have hshare (p : Prop) [Decidable p] (x : Module) (k : Nat) : (if p then x.shareCap k else x).probe i = x.probe i := by split <;> rfl
  unfold Module.useGroup
  split
  · rfl
  · dsimp only
    rw [hshare, hcause, hcause]
    rfl
theorem Module.useLogic_probe (c i : Nat) : (m.useLogic c).probe i = m.probe i := by
  unfold Module.useLogic
  split
  · rfl
  · next t _ =>
    extract_lets held k stopped m2 m1
    have hheld : held.probe i = m.probe i := rfl
    have hlow : m1.probe i = m.probe i := by
      show (if _ then _ else _ : Module).probe i = _
      split
      · split
        · rfl
        · exact probe_of_heat (Module.leaveAjar_heat _ _) i
      · rfl
    split
    · split
      · exact hheld
      · exact probe_of_heat (Module.toAjar_heat _ _) i
    · split
      · exact hlow
      · split
        · exact hlow
        · exact hlow

/-- After its reading was taken and compared, a sensor keeps all but its period to the end of the sample. -/
theorem doSensorSample_probe (r : Reading) (i : Nat) :
    (doSensorSample [r] m).probe i = (Module.checkPair (m.takeReading r) (m.takeReading r) r).probe i := by
  unfold doSensorSample
  dsimp only
  refine (probe_of_heat ((Module.telCheck_heat ..).trans ((Module.telCheck_heat ..).trans ((Module.refreshAlert_heat _).trans
    (Module.trackHold_heat _)))) i).trans ?_
  refine (foldl_field (fun x : Module => x.probe i) _ (fun m c => (Module.useLogic_probe ..).trans (Module.setPeriod_probe ..)) _ _).trans ?_
  exact foldl_field (fun x : Module => x.probe i) _ (fun m g => (Module.useGroup_probe ..).trans (Module.setPeriod_probe ..)) _ _

theorem Module.refreshGuard_sensor (cs : List Nat) (i : Nat) : (m.refreshGuard cs).sensor i = m.sensor i := by
  refine foldl_field (fun x : Module => x.sensor i) _ ?_ cs m
  exact fun _ _ => rfl
theorem Module.sensorEvent_sensor (e k d i : Nat) : (m.sensorEvent e k d).sensor i = m.sensor i := by
  unfold Module.sensorEvent
  dsimp only
  split
  · rfl
  · split <;> rfl
/-- A sensor that becomes suspect (R377). -/
theorem Module.suspectSensor_of_good {i : Nat} (h : (m.sensor i).suspect = false) :
    (m.suspectSensor i).sensor i = { m.sensor i with suspect := true, valid := false, suspectAt := m.time, calm := none } := by
  unfold Module.suspectSensor
  rw [if_neg (by rw [h]; decide)]
  dsimp only
  split
  · rw [Module.refreshGuard_sensor, Module.sensorEvent_sensor, Module.sensorEvent_sensor, Module.updSensor_sensor]
  · rw [Module.sensorEvent_sensor, Module.updSensor_sensor]

/-- What a sensor measured: its reading, the one before, the expected value, and when. -/
def Sensor.measured (q : Sensor) : Int × Int × Int × Nat := (q.reading, q.prev, q.est, q.sampledAt)

theorem Module.suspectSensor_measured (i : Nat) : ((m.suspectSensor i).sensor i).measured = (m.sensor i).measured := by
  cases h : (m.sensor i).suspect
  · rw [m.suspectSensor_of_good h]
    rfl
  · rw [Module.suspectSensor, if_pos h]
/-- Comparing a pair changes what a sensor counts as, not what it measured. -/
theorem Module.checkPair_measured (seen : Module) (r : Reading) :
    ((Module.checkPair seen m r).sensor r.sensor).measured = (m.sensor r.sensor).measured := by
  have hsuspect (p : Prop) [Decidable p] :
      ((if p then m.suspectSensor r.sensor else m).sensor r.sensor).measured = (m.sensor r.sensor).measured := by
    split
    · exact m.suspectSensor_measured _
    · rfl
  unfold Module.checkPair
  split
  · extract_lets d apart m1 near
    have hm1 : (m1.sensor r.sensor).measured = (m.sensor r.sensor).measured := hsuspect _
    split
    · rw [Module.updSensor_sensor]
      exact hm1
    · exact hm1
  · rfl
theorem Module.checkPair_of_none {seen : Module} {r : Reading} (h : r.value = none) : Module.checkPair seen m r = m := by
  rw [Module.checkPair, h]

/-! ## Bands (R57, R58) -/

theorem Module.useGroup_band {g : Nat} {t : Int} (h : m.hottestPlace (groupSensors g) = some t) :
    (m.useGroup g).band g = nextBand (m.band g) t := by
  have hcause (p : Prop) [Decidable p] (x : Module) (k : Nat) : (if p then x.setCause .mem k else x).band g = x.band g := by
    split
    · exact (congrArg (fun x : Module => x.band g) (x.setCause_inner .mem k) :)
    · rfl
  have hshare (p : Prop) [Decidable p] (x : Module) (k : Nat) : (if p then x.shareCap k else x).band g = x.band g := by split <;> rfl
  unfold Module.useGroup
  rw [h]
  dsimp only
  rw [hshare, hcause, hcause]
  exact SMap.get_set_self _ _

end

/-! ## The bands' limits (R57) -/

section
variable {b : Nat} {t : Int}

/-- A band is entered above its limit, and kept down to 2 K below it. -/
theorem nextBand_eq (hlo : 1 ≤ b) (hhi : b ≤ 4) : nextBand b t =
    if t < 0 then 0 else if 840 < t ∨ b = 4 ∧ 824 ≤ t then 4 else if 760 < t ∨ 3 ≤ b ∧ 744 ≤ t then 3
    else if 680 < t ∨ 2 ≤ b ∧ 664 ≤ t then 2 else 1 := by
  unfold nextBand bandUp
  (repeat' split) <;> omega
/-- Up at once at 85, 95 and 105 °C, down only below 83, 93 and 103: each limit is one of those comparisons. -/
theorem nextBand_limits (hlo : 1 ≤ b) (hhi : b ≤ 4) :
    (840 < t → nextBand b t = 4) ∧ (824 ≤ t → b = 4 → nextBand b t = 4) ∧ (t < 824 → nextBand b t ≤ 3) ∧ (760 < t → 3 ≤ nextBand b t) ∧
    (744 ≤ t → 3 ≤ b → 3 ≤ nextBand b t) ∧ (t < 744 → nextBand b t ≤ 2) ∧ (680 < t → 2 ≤ nextBand b t) ∧
    (664 ≤ t → 2 ≤ b → 2 ≤ nextBand b t) ∧ (t < 664 → nextBand b t ≤ 1) ∧ (0 ≤ t → 1 ≤ nextBand b t) ∧ (t < 0 → nextBand b t = 0) := by
  have heq := nextBand_eq (t := t) hlo hhi
  generalize nextBand b t = n at heq ⊢
  (repeat' split at heq) <;> omega

end

/-! ## Caps (R380 to R382) -/

/-- A change that lowers a measure, at every unit of a list: each of them is at most as high as the change alone leaves it. -/
theorem SMap.get_updAll_le {α : Type} [DecidableEq α] {d : α} (g : α → Nat) (f : α → α) (hf : ∀ x, g (f x) ≤ g x) (k : Nat) :
    ∀ (ks : List Nat) (m : SMap α), g (SMap.get d (SMap.updAll d m ks f) k) ≤ g (SMap.get d m k) ∧
      (k ∈ ks → g (SMap.get d (SMap.updAll d m ks f) k) ≤ g (f (SMap.get d m k)))
  | [], m => ⟨Nat.le_refl _, fun h => absurd h List.not_mem_nil⟩
  | a :: ks, m => by
    obtain ⟨hle, hmem⟩ := SMap.get_updAll_le g f hf k ks (SMap.upd d m a f)
    change g (SMap.get d (SMap.updAll d (SMap.upd d m a f) ks f) k) ≤ _ ∧ (_ → g (SMap.get d (SMap.updAll d (SMap.upd d m a f) ks f) k) ≤ _)
    by_cases hk : k = a
    · subst hk
      rw [SMap.get_upd_self] at hle
      exact ⟨Nat.le_trans hle (hf _), fun _ => hle⟩
    · rw [SMap.get_upd_other f hk] at hle hmem
      exact ⟨hle, fun h => hmem ((List.mem_cons.mp h).resolve_left hk)⟩

theorem foldl_min_le (g : Nat → Nat) : ∀ (l : List Nat) (n : Nat),
    l.foldl (fun acc c => min acc (g c)) n ≤ n ∧ ∀ c ∈ l, l.foldl (fun acc c => min acc (g c)) n ≤ g c
  | [], n => ⟨Nat.le_refl _, fun _ h => absurd h List.not_mem_nil⟩
  | a :: l, n => by
    obtain ⟨hacc, hmem⟩ := foldl_min_le g l (min n (g a))
    refine ⟨Nat.le_trans hacc (Nat.min_le_left _ _), fun c hc => ?_⟩
    rcases List.mem_cons.mp hc with rfl | h
    · exact Nat.le_trans hacc (Nat.min_le_right _ _)
    · exact hmem c h

section
variable (m : Module) (c : Nat)

/-- The lowest cap of a stack is the cap of all of it: none rises (R381). -/
theorem Module.shareCap_thermalCap_le (s : Nat) : ((m.shareCap s).cl c).thermalCap ≤ (m.cl c).thermalCap := by
  by_cases hc : c ∈ clustersUnder s
  · have hset : (m.shareCap s).cl c = { m.cl c with thermalCap := (clustersUnder s).foldl (fun acc c => min acc (m.cl c).thermalCap) 7 } :=
      SMap.get_updAll_mem (fun k : Cluster => { k with thermalCap := (clustersUnder s).foldl (fun acc c => min acc (m.cl c).thermalCap) 7 }) (fun _ => rfl) _ _ hc
    rw [hset]
    exact (foldl_min_le (fun c => (m.cl c).thermalCap) (clustersUnder s) 7).2 c hc
  · have hkept : (m.shareCap s).cl c = m.cl c := SMap.get_updAll_not_mem _ _ _ hc
    exact Nat.le_of_eq (congrArg Cluster.thermalCap hkept)
theorem foldl_shareCap_le (p : Module → Nat → Bool) (l : List Nat) :
    ((l.foldl (fun (acc : Module) s => if p acc s then acc.shareCap s else acc) m).cl c).thermalCap ≤ (m.cl c).thermalCap := by
  induction l generalizing m with
  | nil => exact Nat.le_refl _
  | cons s l ih =>
    refine Nat.le_trans (ih _) ?_
    dsimp only
    split
    · exact m.shareCap_thermalCap_le c s
    · exact Nat.le_refl _
/-- A forecast above its target caps its region one below the point or the cap it has (R380). -/
theorem Module.useForecast_thermalCap_le {i : Nat} {p : Int} (h : targetTemp i < p) (hc : c ∈ regionOf i) :
    ((m.useForecast (i, p)).cl c).thermalCap ≤ min (m.cl c).thermalCap (m.cl c).point - 1 := by
  have hcause (q : Prop) [Decidable q] (x : Module) : (if q then x.setCause .thm 0 else x).cl c = x.cl c := by
    split
    · exact (congrArg (fun x : Module => x.cl c) (x.setCause_inner .thm 0) :)
    · rfl
  unfold Module.useForecast
  dsimp only
  rw [if_pos h, hcause]
  refine (SMap.get_updAll_le Cluster.thermalCap (fun k : Cluster => { k with thermalCap := min k.thermalCap k.point - 1 }) (fun x => ?_) c _ _).2 hc
  show min x.thermalCap x.point - 1 ≤ x.thermalCap
  omega
theorem Module.useForecast_forecast (i : Nat) (p : Int) : ((m.useForecast (i, p)).sensor i).forecast = p := by
  have hset : ((m.updSensor i (fun q => { q with forecast := p })).sensor i).forecast = p := by rw [Module.updSensor_sensor]
  have hcause (q : Prop) [Decidable q] (x : Module) : (if q then x.setCause .thm 0 else x).sensor i = x.sensor i := by
    split
    · exact (congrArg (fun x : Module => x.sensor i) (x.setCause_inner .thm 0) :)
    · rfl
  unfold Module.useForecast
  dsimp only
  split
  · rw [hcause]
    exact hset
  · exact hset

end

/-! ## The trip (R386) -/

theorem Module.logOne_inner (m : Module) (e : Entry) : (m.logOne e).inner = m.inner := by
  unfold Module.logOne
  extract_lets noted l m1
  have hm1 : m1.inner = m.inner := rfl
  split
  · rfl
  · exact (m1.writeEntry_inner e).trans hm1
theorem Module.logAll_inner (m : Module) : m.logAll.inner = m.inner := foldl_inner _ (fun m e => m.logOne_inner e) _ _
theorem Module.fatalLater_standby (m : Module) (entry : Module → Module) : (m.fatalLater entry).power.standby = m.power.standby :=
  (congrArg (fun x : Module => x.power.standby) m.logAll_inner :)

/-! ## The forecast and the coolant stop as a whole -/

section
variable {m : Module}

/-- What follows a forecast's own cap raises no cap of a cluster. -/
theorem doForecastEvaluation_thermalCap_le (i : Nat) (p : Int) (c : Nat) :
    ((doForecastEvaluation [(i, p)] m).cl c).thermalCap ≤ ((m.useForecast (i, p)).cl c).thermalCap := by
  unfold doForecastEvaluation
  extract_lets m1 sts
  have hshare := foldl_shareCap_le m1 c (fun acc s => acc.allQuartersCapped s || acc.stackHeld s) sts
  refine Nat.le_trans (Nat.le_of_eq ?_) hshare
  refine (foldl_field (fun x : Module => (x.cl c).thermalCap) _ (fun x k => ?_) _ _)
  by_cases hk : c = k
  · rw [hk, Module.updCl_cl]
  · rw [Module.updCl_cl_ne x _ hk]
theorem doForecastEvaluation_forecast (i : Nat) (p : Int) : ((doForecastEvaluation [(i, p)] m).sensor i).forecast = p := by
  refine Eq.trans ?_ (m.useForecast_forecast i p)
  unfold doForecastEvaluation
  dsimp only
  refine (foldl_field (fun x : Module => (x.sensor i).forecast) _ ?_ _ _).trans ?_
  · exact fun _ _ => rfl
  · exact foldl_field (fun x : Module => (x.sensor i).forecast) _ (fun x k => by split <;> rfl) _ _

/-- The registers of a coolant stop at the moment it is made (R391). -/
def Module.stopped (m : Module) (cause : Nat) : Module :=
  { m with thermal := { m.thermal with
    stop := true, stopAt := m.time, moduleHold := true,
    flowPresent := m.thermal.flowPresent && cause == 1, flow := if cause = 0 then 0 else m.thermal.flow,
    flowOkSince := if cause = 0 then none else m.thermal.flowOkSince } }
theorem doCoolantStop_heat {cause : Nat} (hstop : m.thermal.stop = false) (hcause : cause = 1 → 64 ≤ m.fastRises) :
    (doCoolantStop cause m).heat = (m.stopped cause).heat := by
  unfold doCoolantStop
  rw [if_neg (by rw [hstop]; simpa using hcause)]
  extract_lets th m1 m2 m3
  have h3 : m3.heat = m2.heat :=
    (Module.suspendStage_heat _).trans ((Module.refreshAlert_heat _).trans ((Module.trackHold_heat _).trans (m2.toAjar_heat _)))
  have h2 : m2.heat = m1.heat := rfl
  refine (Module.settleLadder_heat _).trans ?_
  refine (foldl_field Module.heat _ (fun x k => x.shareCap_heat k) _ _).trans ?_
  exact h3.trans h2

end

/-- Settles O52: readings by what the rest of a sample leaves of them, caps by what can only lower them, the stop by what the ladder leaves. -/
theorem thermalEvents : Obligations.ThermalEvents := by
  refine ⟨fun s r v hwf hv => ?sample, fun s r hwf hv hgood => ?lost, fun m g t h => m.useGroup_band h, fun b t hlo hhi => ?band,
    fun s i hi hsuspect hlong => ?persistence, fun s i hi hsuspect hcalm => ?recovery, fun s i p hi => ?forecast,
    fun s c hc hlong hheld => ?release, fun s c x hc hx => ⟨fun hhot => ?throttle, fun hcool => ?unthrottle⟩,
    fun s i hi harmed => ?trip, fun s us n => ⟨fun hshort => ?glitch, fun hlong => ?pulse⟩, fun s k hk hbad hgood => ?degraded,
    fun s h0 h1 h2 => ?clear, fun s hdegraded hshort => ?lower, fun s hlt hcool => ?raise, fun s hrunning => ⟨?stopFlow, fun hrises => ?stopHeat⟩⟩
  case sample =>
    refine ⟨_, onModule_of _ _ (by simp [hwf]), ?_⟩
    have hprobe := doSensorSample_probe s.m r r.sensor
    have htaken : ((s.m.takeReading r).sensor r.sensor).measured = (v, (s.m.sensor r.sensor).reading, r.est, s.m.time) := by
      rw [Module.takeReading, hv]
      dsimp only
      rw [Module.updSensor_sensor]
      rfl
    have hkept : ((doSensorSample [r] s.m).sensor r.sensor).measured = _ :=
      (congrArg Sensor.measured hprobe).trans (((s.m.takeReading r).checkPair_measured _ r).trans htaken)
    simp only [Sensor.measured, Prod.mk.injEq] at hkept
    obtain ⟨hreading, hprev, hest, hat⟩ := hkept
    exact ⟨hreading, hprev, hest, hat⟩
  case lost =>
    refine ⟨_, onModule_of _ _ (by simp [hwf]), ?_⟩
    have hprobe := doSensorSample_probe s.m r r.sensor
    have htaken : (s.m.takeReading r).sensor r.sensor = { s.m.sensor r.sensor with
        est := r.est, sampledAt := s.m.time, calm := none, suspect := true, valid := false, suspectAt := s.m.time } := by
      rw [Module.takeReading, hv]
      dsimp only
      rw [Module.suspectSensor_of_good _ (by rw [Module.updSensor_sensor]; exact hgood), Module.updSensor_sensor]
      rfl
    rw [Module.checkPair_of_none _ hv, Module.probe, Module.probe, htaken] at hprobe
    exact ⟨(congrArg Sensor.suspect hprobe :), (congrArg Sensor.valid hprobe :), (congrArg Sensor.suspectAt hprobe :)⟩
  case band =>
    exact nextBand_limits hlo hhi
  case persistence => exact ⟨_, onModule_of _ _ (decide_eq_true hi), if_pos ⟨hsuspect, hlong⟩⟩
  case recovery =>
    refine ⟨_, onModule_of _ _ (decide_eq_true hi), ?_⟩
    have hrecovers : doSuspectRecovery i s.m = _ := if_pos ⟨hsuspect, hcalm⟩
    dsimp only
    rw [hrecovers, Module.refreshGuard_sensor, Module.updSensor_sensor]
    exact ⟨rfl, rfl⟩
  case forecast =>
    refine ⟨_, onModule_of _ _ (by simp [hi]), doForecastEvaluation_forecast i p, fun htarget c hc => ?_⟩
    exact Nat.le_trans (doForecastEvaluation_thermalCap_le i p c) (s.m.useForecast_thermalCap_le c htarget hc)
  case release =>
    refine ⟨_, onModule_of _ _ hc, ?_⟩
    have hreleases : doCapRelease c s.m = _ := if_pos ⟨hlong, by rw [hheld]; rfl⟩
    dsimp only
    rw [hreleases, Module.updCl_cl]
    exact ⟨rfl, fun k hk => Module.updCl_cl_ne s.m _ hk⟩
  case throttle =>
    refine ⟨_, onModule_of _ _ hc, ?_⟩
    dsimp only
    rw [doThrottleStep, hx]
    dsimp only
    rw [if_pos hhot, Module.updCl_cl]
  case unthrottle =>
    refine ⟨_, onModule_of _ _ hc, ?_⟩
    dsimp only
    rw [doThrottleReleaseStep, hx]
    dsimp only
    rw [if_pos hcool, Module.updCl_cl]
    exact ⟨rfl, rfl⟩
  case trip =>
    refine ⟨_, onModule_of _ _ (decide_eq_true hi), ?_⟩
    have htrips : doTripComparator i s.m = _ := if_neg (by rw [harmed]; decide)
    dsimp only
    rw [htrips]
    exact ⟨rfl, rfl, rfl, rfl, rfl, rfl, rfl, s.m.fatalLater_standby _⟩
  case glitch => exact ⟨_, onModule_of _ _ rfl, congrArg (fun m => { s with m := m }) (if_pos hshort)⟩
  case pulse =>
    refine ⟨_, onModule_of _ _ rfl, ?_⟩
    have hcounts : doFlowTachPulse us n s.m = _ := if_neg (Nat.not_lt.mpr hlong)
    dsimp only
    rw [hcounts]
    exact ⟨rfl, rfl, rfl⟩
  case degraded =>
    refine ⟨_, onModule_of _ _ (decide_eq_true hk), ?_⟩
    have hlogs : doCoolantDegraded k s.m = _ := if_pos ⟨hbad, by rw [hgood]; rfl⟩
    dsimp only
    rw [hlogs]
    rfl
  case clear =>
    refine ⟨_, onModule_of _ _ rfl, ?_⟩
    have hclears : doCoolantDegradedClear s.m = _ := if_neg (by rw [h0, h1, h2]; decide)
    dsimp only
    rw [hclears]
  case lower =>
    refine ⟨_, onModule_of _ _ rfl, ?_⟩
    have hlowers : doModuleLimitLower s.m = _ := if_pos ⟨.inl hdegraded, hshort⟩
    dsimp only
    rw [hlowers]
  case raise =>
    refine ⟨_, onModule_of _ _ rfl, ?_⟩
    have hraises : doModuleLimitRaise s.m = _ := if_pos ⟨hlt, hcool⟩
    dsimp only
    rw [hraises]
  case stopFlow =>
    refine ⟨_, onModule_of _ _ rfl, ?_⟩
    have hheat := doCoolantStop_heat (cause := 0) hrunning (fun h => absurd h Nat.zero_ne_one)
    exact ⟨(congrArg Thermal.stop hheat :), (congrArg Thermal.moduleHold hheat :), (congrArg Thermal.stopAt hheat :),
      (congrArg Thermal.flow hheat :), (congrArg Thermal.flowPresent hheat :).trans (Bool.and_false _)⟩
  case stopHeat =>
    refine ⟨_, onModule_of _ _ rfl, ?_⟩
    have hheat := doCoolantStop_heat (cause := 1) hrunning fun _ => hrises
    exact ⟨(congrArg Thermal.stop hheat :), (congrArg Thermal.moduleHold hheat :)⟩

end Sys2Proof.Machine
end

section
/-! SUPPORT. Clocks and resets, the host port's pins, enables and link (R443 to R453, R499). -/

namespace Sys2Proof.Machine

open Sys2Proof.Safety

@[simp] theorem bitOf_setBit_false (v i : Nat) : bitOf (setBit v i false) i = false := by
  unfold setBit
  split
  case isTrue hclear => exact hclear
  case isFalse hset =>
    have hbit : v / 2 ^ i % 2 = 1 := by simpa [bitOf] using hset
    have hsub : (v - 2 ^ i) / 2 ^ i = v / 2 ^ i - 1 := by rw [← Nat.sub_mul_div v (2 ^ i) 1, Nat.mul_one]
    simp only [Bool.false_eq_true, if_false, bitOf, hsub, beq_eq_false_iff_ne]
    omega

section
variable {m : Module}

/-! ## Clocks (R443 to R453) -/

theorem doRelockAttemptEnd_of_found {p q : Pll} {n : Nat} (ok : Bool) (h : m.clocks.relocks.find? (fun x => x.1 == p) = some (q, n)) :
    doRelockAttemptEnd p ok m =
      if ok then { m with clocks := { m.clocks with relocks := m.clocks.relocks.filter (fun x => x.1 != p) } }
      else if n < 2 then
        { m with clocks := { m.clocks with relocks := m.clocks.relocks.map (fun x => if x.1 = p then (x.1, x.2 + 1) else x) } }
      else (({ m with clocks := { m.clocks with relocks := m.clocks.relocks.filter (fun x => x.1 != p) } } : Module).clockEvent 0x71 (pllKind p).1
        (pllKind p).2.1 (pllKind p).2.2 3 0 0).relockFailed p := by
  rw [doRelockAttemptEnd, h]

/-- A deskew without a failed site is counted, and its stack waits for the next (R450). -/
theorem Module.deskew_nil (k : Nat) :
    (m.deskew k []).clocks = { m.clocks with
      deskews := sat64 m.clocks.deskews 1, deskewAt := SMap.set 0 m.clocks.deskewAt k m.time,
      deskewWanted := setBit m.clocks.deskewWanted k false } ∧ (m.deskew k []).mem = m.mem := by
  unfold Module.deskew
  dsimp only [List.foldl_nil]
  split <;> exact ⟨rfl, rfl⟩

/-- A fatal record keeps the clocks' references and the standby supply. -/
theorem Module.fatalRecord_refOk (m : Module) : m.fatalRecord.clocks.refOk = m.clocks.refOk :=
  (congrArg (fun x : Module => x.clocks.refOk) m.logAll_inner :)
theorem Module.fatalRecord_standby (m : Module) : m.fatalRecord.power.standby = m.power.standby :=
  (congrArg (fun x : Module => x.power.standby) m.logAll_inner :)

/-- A reset that completes (R447): those inside it end with it. -/
theorem doResetComplete_clocks {scope target : Nat} {r : ResetRun}
    (hfound : m.clocks.resets.find? (fun r => r.scope == scope && r.target == target) = some r) (hready : r.scope ≤ 1 → m.bring.ready = true) :
    (doResetComplete scope target m).clocks = { m.clocks with
      resets := m.clocks.resets.filter (fun q => !m.includes r q),
      resetScope := r.scope, resetCause := r.cause, resetTarget := r.target } := by
  have hgo : ¬ (r.scope ≤ 1 ∧ (!m.bring.ready) = true) := fun h => not_bnot (hready h.1) h.2
  unfold doResetComplete
  rw [hfound]
  dsimp only
  rw [if_neg hgo]
  have hcommands (l : List ResetRun) (x : Module) :
      (l.foldl (fun acc q => match q.cmd with | some id => acc.complete id stOk [] | none => acc) x).clocks = x.clocks :=
    foldl_field Module.clocks _ (fun x q => by split <;> simp) l x
  split
  · exact hcommands ..
  · exact hcommands ..

/-! ## The port (R446, R447, R499) -/

/-- What a reset of the port leaves of its registers and of the commands. -/
theorem Module.perstReset_cleared (m : Module) :
    m.perstReset.port.cfgReady = false ∧ m.perstReset.port.numVfs = 0 ∧ m.perstReset.port.funcs = [] ∧ m.perstReset.port.letters = [] ∧
    m.perstReset.port.works = [] ∧ m.perstReset.port.cpls = [] ∧ m.perstReset.engine.cmds = [] ∧ m.perstReset.engine.rights = 0 :=
  ⟨rfl, rfl, rfl, rfl, rfl, rfl, rfl, rfl⟩

/-- A function after its reset: its registers, its rings and its commands are gone (R499). -/
theorem Module.functionReset_cleared (m : Module) (fn : Nat) :
    (m.functionReset fn).func fn = {} ∧ (m.functionReset fn).ring (.letter fn) = {} ∧ (m.functionReset fn).ring (.work fn) = {} ∧
    (∀ q ∈ (m.functionReset fn).engine.cmds, q.fn ≠ fn) ∧ bitOf (m.functionReset fn).engine.rights fn = false := by
  refine ⟨SMap.get_set_self _ _, SMap.get_set_self _ _, SMap.get_set_self _ _, fun q hq => ?_, bitOf_setBit_false _ _⟩
  simpa using (List.mem_filter.mp hq).2

/-- What a function held goes out when it may send (R499). -/
theorem Module.releaseHeld_of_on {fn : Nat} (hmaster : (m.func fn).busMaster = true) (hstate : (m.func fn).d3hot = false) :
    (m.releaseHeld fn).func fn = { m.func fn with held := [] } ∧ (m.releaseHeld fn).port.out = m.port.out ++ (m.func fn).held := by
  unfold Module.releaseHeld
  dsimp only
  rw [if_pos ⟨hmaster, by rw [hstate]; rfl⟩, Module.updFunc_func]
  exact ⟨rfl, rfl⟩

end

/-- Settles O53: each from what its event changes of the clocks. -/
theorem clockEvents : Obligations.ClockEvents := by
  refine ⟨fun s p hp hlocked => ?loss, fun s p q n hp hfound => ⟨?good, fun hn => ?again, fun hn => ?last⟩, fun s k hk hdue => ?deskew,
    fun s => ?reference, fun s href => ?mgmtLoss, fun s href => ?mgmtBack, fun s scope target r hfound hready => ?complete⟩
  case loss =>
    refine ⟨_, onModule_of _ _ hp, ?_⟩
    have hcounts : doPllLockLoss p s.m = _ := if_neg (Bool.not_eq_true _ ▸ hlocked)
    dsimp only
    rw [hcounts]
    exact ⟨rfl, rfl⟩
  case good =>
    refine ⟨_, onModule_of _ _ hp, ?_⟩
    dsimp only
    rw [doRelockAttemptEnd_of_found true hfound, if_pos rfl, Module.relocking]
    simp
  case again =>
    refine ⟨_, onModule_of _ _ hp, ?_⟩
    dsimp only
    rw [doRelockAttemptEnd_of_found false hfound, if_neg Bool.false_ne_true, if_pos hn]
  case last =>
    refine ⟨_, onModule_of _ _ hp, ?_⟩
    exact (doRelockAttemptEnd_of_found false hfound).trans ((if_neg Bool.false_ne_true).trans (if_neg (Nat.not_lt.mpr hn)))
  case deskew =>
    refine ⟨_, onModule_of _ _ (by simpa using hk), ?_⟩
    have hruns : doColumnDeskew k [] s.m = s.m.deskew k [] := if_pos hdue
    obtain ⟨hclocks, hmem⟩ := s.m.deskew_nil k
    dsimp only
    rw [hruns, hclocks]
    exact ⟨rfl, bitOf_setBit_false _ _, hmem, rfl⟩
  case reference =>
    refine ⟨_, onModule_of _ _ rfl, ?_⟩
    dsimp only
    unfold doModuleReferenceLoss
    dsimp only
    rw [Module.ibi_thermal, Module.ibi_clocks, Module.ibi_power]
    exact ⟨(Module.fatalRecord_refOk _).trans rfl, rfl, rfl, rfl, rfl, rfl, rfl, (Module.fatalRecord_standby _).trans rfl⟩
  case mgmtLoss =>
    refine ⟨_, onModule_of _ _ rfl, ?_⟩
    have hswitches : doRefclkMgmtLoss s.m = _ := if_pos href
    dsimp only
    rw [hswitches]
    exact ⟨rfl, List.length_append.trans rfl⟩
  case mgmtBack =>
    refine ⟨_, onModule_of _ _ rfl, ?_⟩
    have hswitches : doRefclkMgmtRestore s.m = _ := if_neg (Bool.not_eq_true _ ▸ href)
    dsimp only
    rw [hswitches]
    exact ⟨rfl, List.length_append.trans rfl⟩
  case complete =>
    refine ⟨_, onModule_of _ _ rfl, ?_⟩
    dsimp only
    rw [doResetComplete_clocks hfound hready]
    exact ⟨rfl, rfl, rfl, rfl⟩

/-- Settles O54: a reset of the port by what it clears, the rest by the registers each event writes. -/
theorem portEvents : Obligations.PortEvents := by
  refine ⟨fun s us hshort => ?short, fun s us hlong => ?assert, fun s => ?pf, fun s refclk => ?deassert, fun s fn hfn hok => ?vf,
    fun s n hn => ?vfs, fun s fn hfn => ⟨?masterClear, fun hstate => ?masterSet, ?memory, ?sleep⟩, fun s hup => ?lost,
    fun s us hperst hdown hlong => ?down, fun s us w r hperst hdown hvlink hlost => ?recovered, fun s st hst => ?aer⟩
  case short => exact ⟨_, onModule_of _ _ rfl, congrArg (fun m => { s with m := m }) (if_pos hshort)⟩
  case assert =>
    refine ⟨_, onModule_of _ _ rfl, ?_⟩
    have hresets : doPerstNAssert us s.m = _ := if_neg (Nat.not_lt.mpr hlong)
    obtain ⟨hcfg, hvfs, hfuncs, hletters, hworks, hcpls, hcmds, hrights⟩ := s.m.perstReset_cleared
    dsimp only
    rw [hresets]
    exact ⟨rfl, rfl, hcfg, hvfs, hfuncs, hletters, hworks, hcpls, hcmds, hrights, List.mem_append_right _ (List.mem_singleton.mpr rfl)⟩
  case pf =>
    obtain ⟨hcfg, -, hfuncs, hletters, hworks, -, hcmds, -⟩ := s.m.perstReset_cleared
    exact ⟨_, onModule_of _ _ rfl, hcfg, hfuncs, hletters, hworks, hcmds, List.mem_append_right _ (List.mem_singleton.mpr rfl)⟩
  case deassert => exact ⟨_, onModule_of _ _ rfl, rfl, rfl, rfl, rfl⟩
  case vf => exact ⟨_, onModule_of _ _ (by rw [decide_eq_true hfn, hok]; rfl), Module.functionReset_cleared _ fn⟩
  case vfs => exact ⟨_, onModule_of _ _ (decide_eq_true hn), Nat.min_le_right _ _⟩
  case masterClear => exact ⟨_, onModule_of _ _ hfn, congrArg Func.busMaster (Module.updFunc_func ..), rfl⟩
  case masterSet =>
    refine ⟨_, onModule_of _ _ hfn, ?_⟩
    have hon : (s.m.updFunc fn (fun f => { f with busMaster := true })).func fn = { s.m.func fn with busMaster := true } := Module.updFunc_func ..
    obtain ⟨hfunc, hout⟩ := Module.releaseHeld_of_on (congrArg Func.busMaster hon) ((congrArg Func.d3hot hon).trans hstate)
    dsimp only
    rw [doBusMasterEnableSet, hfunc, hout, hon]
    exact ⟨rfl, rfl, rfl⟩
  case memory =>
    refine ⟨_, onModule_of _ _ hfn, ?_⟩
    dsimp only
    rw [doMemorySpaceDisable, Module.updFunc_func]
    exact ⟨rfl, rfl⟩
  case sleep => exact ⟨_, onModule_of _ _ hfn, congrArg Func.d3hot (Module.updFunc_func ..)⟩
  case lost =>
    exact ⟨_, onModule_of _ _ rfl, congrArg Module.port (if_pos hup)⟩
  case down =>
    refine ⟨_, onModule_of _ _ rfl, ?_⟩
    have hresets : doLinkDown us s.m = _ := if_neg (by rw [hperst, hdown]; simpa using hlong)
    obtain ⟨hcfg, -, hfuncs, -, -, -, hcmds, -⟩ := (s.m.linkEvent 0xA8 us).perstReset_cleared
    dsimp only
    rw [hresets]
    exact ⟨rfl, hcfg, hfuncs, hcmds, List.mem_append_right _ (List.mem_singleton.mpr rfl)⟩
  case recovered =>
    refine ⟨_, onModule_of _ _ rfl, ?_⟩
    have hback : doLinkRecovery us w r s.m = _ := if_neg (by rw [hperst, hdown, hvlink]; decide)
    dsimp only
    rw [hback]
    dsimp only
    rw [hlost]
    split <;> exact ⟨rfl, rfl, rfl, rfl, rfl, rfl, rfl⟩
  case aer => exact ⟨_, onModule_of _ _ (decide_eq_true hst), rfl, List.length_append.trans rfl⟩

end Sys2Proof.Machine
end

section
/-! SUPPORT. The stages of bring-up (R454 to R476). -/

namespace Sys2Proof.Machine

open Sys2Proof.Safety

section
variable (m : Module)

/-! ## How a stage ends -/

theorem Module.updReport_report (n : Nat) (f : Report → Report) :
    SMap.get {} (m.updReport n f).bring.reports n = f (SMap.get {} m.bring.reports n) := SMap.get_upd_self n f
theorem Module.beginStage_reports (n : Nat) : (m.beginStage n).bring.reports =
    SMap.upd {} m.bring.reports n (fun r => { quick := m.bring.quick, result := 1, attempt := min (r.attempt + 1) 255 }) := rfl
theorem Module.beginStage_report (n : Nat) : SMap.get {} (m.beginStage (n + 1)).bring.reports n = SMap.get {} m.bring.reports n := by
  rw [Module.beginStage_reports]
  exact SMap.get_upd_other _ (Nat.ne_of_lt n.lt_succ_self)
theorem Module.writeReport_result (n : Nat) (before : Module) (result dur cause unit : Nat) :
    (SMap.get {} (m.writeReport n before result dur cause unit).bring.reports n).result = result :=
  congrArg Report.result (m.updReport_report n _)

/-- The stage after one that passes is the next (R454). -/
theorem Module.passStage_stage (n : Nat) (before : Module) (dur cause unit : Nat) : (m.passStage n before dur cause unit).bring.stage = n + 1 := rfl
/-- Without a new finding a stage passes with result 2 (R455). -/
theorem Module.passStage_result {before : Module} (n dur cause unit : Nat) (h : m.bring.findings.length = before.bring.findings.length) :
    (SMap.get {} (m.passStage n before dur cause unit).bring.reports n).result = 2 := by
  have hsame : (m.bring.findings.length != before.bring.findings.length) = false := by rw [h]; exact bne_self_eq_false _
  unfold Module.passStage
  dsimp only
  rw [hsame, Module.beginStage_report, Module.writeReport_result]
  exact if_neg Bool.false_ne_true

theorem Module.passStage_recordValid (n : Nat) (before : Module) (dur cause unit : Nat) :
    (m.passStage n before dur cause unit).bring.recordValid = m.bring.recordValid := rfl
theorem Module.passStage_cores (n : Nat) (before : Module) (dur cause unit : Nat) :
    (m.passStage n before dur cause unit).cores = m.cores := rfl
theorem Module.setStageFailed_stageFailed (b : Bool) : (m.setStageFailed b).bring.stageFailed = b := by
  unfold Module.setStageFailed
  split
  case isTrue h => exact h
  case isFalse h => simp
theorem Module.fatalRecord_stageFailed : m.fatalRecord.bring.stageFailed = m.bring.stageFailed :=
  (congrArg (fun x : Module => x.bring.stageFailed) m.logAll_inner :)
/-- A stopping cause ends the start (R476). -/
theorem Module.failStage_stopped (n event cause kind unit detail dur : Nat) :
    (m.failStage n event cause kind unit detail dur).bring.stageFailed = true ∧
    (m.failStage n event cause kind unit detail dur).bring.active = false :=
  ⟨(Module.fatalRecord_stageFailed _).trans (Module.setStageFailed_stageFailed _ true), rfl⟩

/-- What the loss of deck 0 leaves of the start's own registers: the fields a stage wrote (R459). -/
theorem Module.deckZeroLost_kept {γ : Type} (g : Bring → γ)
    (hg : ∀ (b : Bring) (x : List Entry) (p o a : Bool), g { b with shutdown := x, shutdownPending := p, orderly := o, active := a } = g b) :
    g m.deckZeroLost.bring = g m.bring := by
  unfold Module.deckZeroLost
  split
  · refine (hg ((m.escalate 0x81).logAll).bring _ _ _ _).trans ?_
    exact congrArg g (congrArg (fun x : Module => x.bring) (m.escalate 0x81).logAll_inner :)
  · rfl

/-! ## Stages that find nothing (R458 to R468) -/

/-- The image of the active slot, taken into the start's registers (R458). -/
def Module.imaged (m : Module) (i : FwInfo) : Module :=
  let s := nth {} m.bring.slots m.activeSlot
  { m with bring := { m.bring with
    grade := i.grade, moduleRev := i.moduleRev % 256, runModule := s.moduleVer, runDeck := s.deckVer, micro := s.microVer, fuse := fuseEntries } }
theorem doS1Firmware_of_good {i : FwInfo} {dur : Nat} (hstage : m.inStage 1 = true) (hslot : i.slotOk = true) (hdead : i.deadDecks = []) :
    doS1Firmware i [] dur m =
      ((m.imaged i).passStage 1 { m with bring := { m.bring with fuse := fuseEntries } } dur 0 0).deckZeroLost := by
  unfold doS1Firmware
  rw [if_pos hstage, if_neg (by simp [hslot])]
  dsimp only
  rw [if_pos hslot, hdead, if_neg (by rw [hslot]; decide)]
  rfl
theorem doS3Discovery_of_all {d : Discovery} {rev dur : Nat} (hstage : m.inStage 3 = true) (hok : discResult d = .ok []) :
    doS3Discovery d rev [] dur m = ({ m.showReset with bring := { m.showReset.bring with deckRev := rev % 256, singleBond := d.singleBond } } :
      Module).passStage 3 m dur 0 0 := by
  unfold doS3Discovery
  rw [if_pos hstage]
  dsimp only
  rw [hok]
  rfl
theorem doS4Calibration_nil {dur : Nat} (hstage : m.inStage 4 = true) : doS4Calibration [] dur m = (m.passStage 4 m dur 0 0).deckZeroLost :=
  if_pos hstage
theorem doS5Memory_nil {dur : Nat} (hstage : m.inStage 5 = true) (hwarm : m.bring.warming = false) (hfails : m.bring.fails = []) :
    doS5Memory [] dur m = ({ m with bring := { m.bring with fails := [] } } : Module).passStage 5 m dur 0 0 := by
  unfold doS5Memory
  rw [if_pos ⟨hstage, by rw [hwarm]; rfl⟩, hfails]
  rfl
theorem Module.showReset_bring : m.showReset.bring = m.bring := by
  unfold Module.showReset
  split <;> rfl

/-! ## S6: the map of units (R469) -/

theorem mem_allSites {k : Nat} (h : k < Config.sites) : k ∈ allSites := List.mem_range.mpr h
/-- A table made by one rule from a list of units gives at each of them what the rule gives. -/
theorem SMap.get_map_pair {α : Type} (d : α) (f : Nat → α) {k : Nat} : ∀ {l : List Nat}, k ∈ l → SMap.get d (l.map (fun s => (s, f s))) k = f k
  | a :: l, h => by
    by_cases hk : k = a
    · subst hk
      exact if_pos rfl
    · exact (if_neg hk).trans (SMap.get_map_pair d f ((List.mem_cons.mp h).resolve_left hk))

theorem foldl_disarm {γ : Type} (g : Module → γ) (hg : ∀ x k, g (x.disarm k) = g x) (l : List Nat) :
    g (l.foldl (fun acc k => acc.disarm k) m) = g m := foldl_field g _ hg l m
theorem Module.refreshGuard_cores (cs : List Nat) : (m.refreshGuard cs).cores = m.cores := by
  refine foldl_field Module.cores _ ?_ cs m
  exact fun _ _ => rfl
theorem Module.refreshGuard_bring (cs : List Nat) : (m.refreshGuard cs).bring = m.bring := by
  refine foldl_field Module.bring _ ?_ cs m
  exact fun _ _ => rfl
theorem Module.sensorEvent_cores (e k d : Nat) : (m.sensorEvent e k d).cores = m.cores := by
  unfold Module.sensorEvent
  dsimp only
  split
  · rfl
  · split <;> rfl
theorem Module.sensorEvent_bring (e k d : Nat) : (m.sensorEvent e k d).bring = m.bring := by
  unfold Module.sensorEvent
  dsimp only
  split
  · rfl
  · split <;> rfl
theorem Module.disarm_cores (k : Nat) : (m.disarm k).cores = m.cores :=
  (Module.refreshGuard_cores _ _).trans (Module.sensorEvent_cores ..)
theorem Module.disarm_bring (k : Nat) : (m.disarm k).bring = m.bring :=
  (Module.refreshGuard_bring _ _).trans (Module.sensorEvent_bring ..)

/-- S6 without a finding of its own: the cores as the list of units has them, the record valid, the next stage. -/
theorem doS6Repair_nil {dur : Nat} (hstage : m.inStage 6 = true) :
    (doS6Repair [] dur m).bring.stage = 7 ∧ (doS6Repair [] dur m).bring.recordValid = true ∧
    (doS6Repair [] dur m).cores = allSites.map (fun k => (k, siteCore m.outList m.bring.micro k)) := by
  have hnone : ¬ ((firstCause [] [0x0061]).isSome = true ∧ m.bring.quick = true) := fun h => Bool.false_ne_true h.1
  unfold doS6Repair
  rw [if_pos hstage, if_neg hnone]
  dsimp only
  rw [Module.passStage_recordValid, Module.passStage_cores]
  refine ⟨Module.passStage_stage .., ?_, ?_⟩
  · rw [foldl_disarm _ (fun x => x.bring.recordValid) fun x k => congrArg Bring.recordValid (x.disarm_bring k)]
  · rw [foldl_disarm _ Module.cores Module.disarm_cores]

/-! ## S8 and a stage that resumes (R385, R471) -/

theorem Module.wake_moduleHold (c : Nat) : (m.wake c).thermal.moduleHold = m.thermal.moduleHold := by
  unfold Module.wake
  split
  · rfl
  · split
    · exact (congrArg Thermal.moduleHold (m.leaveAjar_heat [c]) :)
    · split <;> rfl
/-- A module that resumes holds nothing any more (R391). -/
theorem Module.resume_moduleHold : m.resume.thermal.moduleHold = false := by
  unfold Module.resume
  extract_lets th m1 m2
  have hresumed : m1.thermal.moduleHold = false := (congrArg Thermal.moduleHold (Module.refreshAlert_heat _) :)
  split
  · exact hresumed
  · rw [foldl_field (fun x : Module => x.thermal.moduleHold) _ (fun m c => m.wake_moduleHold c)]
    exact (congrArg Thermal.moduleHold (Module.leaveAjar_heat m1 _) :).trans hresumed

/-- What S8 does before it counts the units (R471): scratchpads cleared, clusters without owners, partitions empty. -/
def Module.emptiedAll (m : Module) (cs : List Nat) : Module :=
  { m.zeroPads (m.cores.map (·.1)) with
    clusters := SMap.updAll {} m.clusters cs (fun k => { k with functionView := false, owner := none }),
    parts := { m.parts with parts := [] } }
theorem Module.short_congr {m n : Module} (hcores : m.cores = n.cores) (hmem : m.mem = n.mem) (hbring : m.bring = n.bring) : m.short = n.short := by
  unfold Module.short Module.enabledCores Module.usableSlices
  rw [hcores, hmem, hbring]
theorem Module.emptiedAll_short (cs : List Nat) : (m.emptiedAll cs).short = (m.zeroPads (m.cores.map (·.1))).short := Module.short_congr rfl rfl rfl
theorem Module.emptiedAll_cl {c : Nat} {cs : List Nat} (hc : c ∈ cs) :
    (m.emptiedAll cs).cl c = { m.cl c with functionView := false, owner := none } :=
  SMap.get_updAll_mem (fun k : Cluster => { k with functionView := false, owner := none }) (fun _ => rfl) cs _ hc
theorem doS8HostReady_of_open {dur : Nat} (hstage : m.inStage 8 = true) (hopen : m.bring.shortfall = false) :
    doS8HostReady [] dur m =
      if (m.emptiedAll allClusters).short then
        ({ (m.emptiedAll allClusters).writeReport 8 m 1 dur 0x0081 0 with
          bring := { ((m.emptiedAll allClusters).writeReport 8 m 1 dur 0x0081 0).bring with shortfall := true } } : Module).bringEvent 0x82 0x0081 0xFF 2 0 0
      else ((m.emptiedAll allClusters).writeReport 8 m 2 dur 0 0).becomeReady := if_pos ⟨hstage, by rw [hopen]; rfl⟩

theorem Module.setReady_ready (b : Bool) : (m.setReady b).bring.ready = b := by
  unfold Module.setReady
  split
  case isTrue h => exact h
  case isFalse h => simp
/-- `setReady` leaves everything but the ready flag and the cause of an in-band interrupt. -/
theorem Module.setReady_kept {γ : Type} (g : Module → γ) (b : Bool) (hg : ∀ x c, g (Module.ibi x c) = g x)
    (hr : g { m with bring := { m.bring with ready := b } } = g m) : g (m.setReady b) = g m := by
  unfold Module.setReady
  split
  · rfl
  · exact (hg _ 5).trans hr
theorem Module.ibi_cl (k c : Nat) : (m.ibi k).cl c = m.cl c := by
  rw [Module.cl, Module.ibi_clusters, Module.cl]
theorem Module.becomeReady_cl (c : Nat) : m.becomeReady.cl c = m.cl c :=
  (Module.setReady_kept _ (fun x : Module => x.cl c) true (fun x k => x.ibi_cl k c) rfl).trans rfl
theorem Module.writeReport_cl (n : Nat) (before : Module) (result dur cause unit c : Nat) :
    (m.writeReport n before result dur cause unit).cl c = m.cl c := rfl
theorem Module.becomeReady_facts : m.becomeReady.bring.ready = true ∧ m.becomeReady.bring.stage = 9 ∧ m.becomeReady.parts = m.parts ∧
    m.becomeReady.fab.role = m.fab.roleConfig ∧
    ∀ p ∈ m.becomeReady.fab.ports, p.state = 1 ∨ p.state = 4 := by
  refine ⟨Module.setReady_ready _ true, rfl, ?_, ?_, fun p hp => ?_⟩
  · exact (Module.setReady_kept _ Module.parts true (fun x c => by simp) rfl).trans rfl
  · exact (Module.setReady_kept _ (fun x : Module => x.fab.roleConfig) true (fun x c => by simp) rfl).trans rfl
  · obtain ⟨q, -, rfl⟩ := List.mem_map.mp hp
    split
    · exact .inr ‹_›
    · exact .inl rfl

/-- Cells that fail again in a hold are noted, and no more (R465). -/
theorem Module.noteWeak_fails (seen l : List CellFail) : (m.noteWeak seen l).bring.fails = m.bring.fails := by
  unfold Module.noteWeak
  refine foldl_field (fun x : Module => x.bring.fails) _ ?_ _ _
  exact fun _ _ => rfl

end

/-- Settles O55: each stage by how a stage passes or fails, and by the registers it writes. -/
theorem bringUpStages : Obligations.BringUpStages := by
  refine ⟨fun s rev dur hstage => ⟨?s0, ?s0Fail⟩, fun s i dur hstage hgrade hslot hdead => ?s1,
    fun s i dur hstage hgrade hslot hother hdead => ?s1Fail, fun s dur hstage => ?s2, fun s d rev dur hd hstage hok => ?s3,
    fun s d rev dur cause kind unit hd hstage herror => ?s3Fail, fun s dur hstage => ?s4, fun s dur hstage hwarm hfails => ?s5,
    fun s stack group ms fs hstack hgroup hms hfs hstage hquick hwarm => ?hold, fun s d hstage hwarming => ⟨fun hwarm => ?warm, fun hcold hlong => ?cold⟩,
    fun s dur hstage => ?s6, fun s dur hstage => ?s7, fun s dur hstage hopen hshort => ?s8, fun s dur hstage hopen hshort => ?shortfall,
    fun s hsuspended hok => ?resume, fun s hsuspended hlong => ?timeout⟩
  case s0 =>
    refine ⟨_, onState_of (fun s => { s with m := doS0Standby true rev dur s.m, mgmt := if s.m.inStage 0 then s.mgmt.started else s.mgmt }) s rfl, ?_⟩
    have hpasses : doS0Standby true rev dur s.m = _ := (if_pos hstage).trans (if_pos rfl)
    dsimp only
    rw [hpasses, if_pos hstage]
    exact ⟨rfl, rfl, rfl, rfl, Module.passStage_result _ 0 dur 0 0 rfl⟩
  case s0Fail =>
    refine ⟨_, onState_of (fun s => { s with m := doS0Standby false rev dur s.m, mgmt := if s.m.inStage 0 then s.mgmt.started else s.mgmt }) s rfl, ?_⟩
    have hfails : doS0Standby false rev dur s.m = _ := (if_pos hstage).trans (if_neg Bool.false_ne_true)
    obtain ⟨hfailed, hinactive⟩ := s.m.failStage_stopped 0 0x80 0x0002 0xFF 0 0 dur
    dsimp only
    rw [hfails, if_pos hstage]
    exact ⟨hfailed, hinactive, rfl⟩
  case s1 =>
    refine ⟨_, onModule_of _ _ (by simp [hgrade, hdead]), ?_⟩
    dsimp only
    rw [doS1Firmware_of_good s.m hstage hslot hdead]
    have hkept {γ : Type} (g : Bring → γ) (hg) := Module.deckZeroLost_kept
      ((s.m.imaged i).passStage 1 { s.m with bring := { s.m.bring with fuse := fuseEntries } } dur 0 0) g hg
    refine ⟨hkept Bring.stage fun _ _ _ _ _ => rfl, hkept Bring.grade fun _ _ _ _ _ => rfl, ?_, hkept Bring.micro fun _ _ _ _ _ => rfl, ?_⟩
    · rw [Module.activeSlot, hkept Bring.slots fun _ _ _ _ _ => rfl]
      rfl
    · rw [hkept Bring.reports fun _ _ _ _ _ => rfl]
      exact Module.passStage_result _ 1 dur 0 0 rfl
  case s1Fail =>
    refine ⟨_, onModule_of _ _ (by simp [hgrade, hdead]), ?_⟩
    have hfails : doS1Firmware i [] dur s.m = _ := (if_pos hstage).trans (if_pos (by rw [hslot, hother]; decide))
    dsimp only
    rw [hfails]
    exact Module.failStage_stopped ..
  case s2 =>
    refine ⟨_, onModule_of _ _ rfl, ?_⟩
    have hpasses : doS2Rails [] dur s.m = _ := if_pos hstage
    dsimp only
    rw [hpasses]
    exact ⟨rfl, rfl, rfl, rfl, rfl, rfl, rfl, rfl⟩
  case s3 =>
    refine ⟨_, onModule_of _ _ (by rw [hd]; rfl), ?_⟩
    dsimp only
    have hfound : s.m.showReset.bring.findings.length = s.m.bring.findings.length := by rw [Module.showReset_bring]
    rw [doS3Discovery_of_all s.m hstage hok]
    exact ⟨rfl, rfl, rfl, Module.passStage_result _ 3 dur 0 0 hfound⟩
  case s3Fail =>
    refine ⟨_, onModule_of _ _ (by rw [hd]; rfl), ?_⟩
    dsimp only
    unfold doS3Discovery
    rw [if_pos hstage]
    dsimp only
    rw [herror]
  case s4 =>
    refine ⟨_, onModule_of _ _ rfl, ?_⟩
    have hkept {γ : Type} (g : Bring → γ) (hg) := Module.deckZeroLost_kept (s.m.passStage 4 s.m dur 0 0) g hg
    dsimp only
    rw [doS4Calibration_nil s.m hstage]
    exact ⟨hkept Bring.stage fun _ _ _ _ _ => rfl, hkept Bring.warming fun _ _ _ _ _ => rfl⟩
  case s5 =>
    refine ⟨_, onModule_of _ _ rfl, ?_⟩
    dsimp only
    rw [doS5Memory_nil s.m hstage hwarm hfails]
    exact ⟨rfl, rfl⟩
  case hold =>
    refine ⟨_, onModule_of _ _ (by rw [hfs, decide_eq_true ⟨hstack, hgroup, hms⟩]; rfl), ?_⟩
    have hnotes : doRetentionHoldEnd stack group ms fs s.m = _ := if_pos ⟨hstage, by rw [hquick]; rfl, by rw [hwarm]; rfl⟩
    dsimp only
    rw [hnotes]
    exact Module.noteWeak_fails ..
  case warm =>
    refine ⟨_, onModule_of _ _ rfl, ?_⟩
    have hends : doColdWarmingEnd d s.m = _ := (if_pos ⟨hstage, hwarming⟩).trans (if_neg (Bool.not_eq_true _ ▸ hwarm))
    dsimp only
    rw [hends]
    rfl
  case cold =>
    refine ⟨_, onModule_of _ _ rfl, ?_⟩
    have hfails : doColdWarmingEnd d s.m = _ := (if_pos ⟨hstage, hwarming⟩).trans ((if_pos hcold).trans (if_pos hlong))
    dsimp only
    rw [hfails]
    exact Module.failStage_stopped ..
  case s6 =>
    obtain ⟨hnext, hvalid, hcores⟩ := doS6Repair_nil s.m (dur := dur) hstage
    refine ⟨_, onModule_of _ _ rfl, hnext, hvalid, fun site hsite => ?_⟩
    show SMap.get {} (doS6Repair [] dur s.m).cores site = _
    rw [hcores]
    rw [SMap.get_map_pair _ _ (mem_allSites hsite)]
  case s7 =>
    refine ⟨_, onModule_of _ _ rfl, ?_⟩
    have hpasses : doS7KnownAnswer [] dur s.m = _ := if_pos hstage
    dsimp only
    rw [hpasses]
    rfl
  case s8 =>
    refine ⟨_, onModule_of _ _ rfl, ?_⟩
    have hready : doS8HostReady [] dur s.m = _ := (doS8HostReady_of_open s.m hstage hopen).trans
      (if_neg (by rw [Module.emptiedAll_short, hshort]; decide))
    obtain ⟨hon, hnine, hparts, hrole, hports⟩ := ((s.m.emptiedAll allClusters).writeReport 8 s.m 2 dur 0 0).becomeReady_facts
    dsimp only
    rw [hready]
    refine ⟨hon, hnine, (congrArg Parts.parts hparts).trans rfl, fun c hc => ?_, hrole, hports⟩
    rw [Module.becomeReady_cl, Module.writeReport_cl, Module.emptiedAll_cl _ hc]
    exact ⟨rfl, rfl⟩
  case shortfall =>
    refine ⟨_, onModule_of _ _ rfl, ?_⟩
    have hfalls : doS8HostReady [] dur s.m = _ := (doS8HostReady_of_open s.m hstage hopen).trans
      (if_pos (by rw [Module.emptiedAll_short, hshort]))
    dsimp only
    rw [hfalls]
    exact ⟨rfl, rfl, (s.m.emptiedAll allClusters).writeReport_result 8 s.m 1 dur 0x0081 0⟩
  case resume =>
    refine ⟨_, onModule_of _ _ rfl, ?_⟩
    have hresumes : doStageResume s.m = _ := if_pos ⟨hsuspended, hok⟩
    dsimp only
    rw [hresumes]
    exact ⟨rfl, Module.resume_stop _, Module.resume_moduleHold _⟩
  case timeout =>
    refine ⟨_, onModule_of _ _ rfl, ?_⟩
    have hfails : doStageSuspendTimeout s.m = _ := if_pos ⟨hsuspended, hlong⟩
    dsimp only
    rw [hfails]
    exact Module.failStage_stopped ..

end Sys2Proof.Machine
end

section
/-! SUPPORT. Module time: only a tick moves it (log entry 2). One frame per operation that a tick can run. -/

namespace Sys2Proof.Machine

open Sys2Proof.Safety

section
variable (m : Module)

theorem foldl_time {β : Type} (f : Module → β → Module) (hf : ∀ m x, (f m x).time = m.time) (l : List β) (m : Module) :
    (l.foldl f m).time = m.time := foldl_field Module.time f hf l m

/-! ## Log entries, wakes, stored bytes -/

@[simp] theorem Module.accessError_time (fn bar addr size : Nat) : (m.accessError fn bar addr size).time = m.time := by
  unfold Module.accessError
  dsimp only
  split <;> rfl
@[simp] theorem Module.ringMisuse_time (r : Ring) (fn off : Nat) : (m.ringMisuse r fn off).time = m.time := by simp [Module.ringMisuse]
@[simp] theorem Module.memEntry_time (e k o b c f r : Nat) : (m.memEntry e k o b c f r).time = m.time := rfl
@[simp] theorem Module.logBad_time (part fn k va : Nat) (w : WalkEnd) : (m.logBad part fn k va w).time = m.time := by
  unfold Module.logBad
  split <;> rfl
@[simp] theorem Module.countFault_time (part : Nat) : (m.countFault part).time = m.time := rfl
@[simp] theorem Module.holdCmd_time (i : Instr) : (m.holdCmd i).time = m.time := rfl
@[simp] theorem Module.hostLoss_time (k a : Nat) : (m.hostLoss k a).time = m.time := rfl
@[simp] theorem Module.watchLadder_time (f : Module → Module) : (m.watchLadder f).time = (f m).time :=
  (congrArg Module.time (m.watchLadder_inner f) :)
@[simp] theorem Module.leaveAjar_time (cs : List Nat) : (m.leaveAjar cs).time = m.time := by simp [Module.leaveAjar]
@[simp] theorem Module.wake_time (c : Nat) : (m.wake c).time = m.time := by
  unfold Module.wake
  split
  · rfl
  · split
    · simp
    · split <;> rfl
@[simp] theorem Module.wakeSlice_time (c : Nat) : (m.wakeSlice c).time = m.time := by
  unfold Module.wakeSlice
  split <;> rfl
@[simp] theorem Module.settleRow_time (k r : Nat) : (m.settleRow k r).time = m.time := by
  unfold Module.settleRow
  split <;> rfl

/-! ## Requests at a slice (R42 to R63) -/

@[simp] theorem Module.respond_time (r : MemReq) (data : List Byte) (poison : Bool) : (m.respond r data poison).time = m.time := rfl
@[simp] theorem Module.acceptOf_time (r : MemReq) : (m.acceptOf r).time = m.time := rfl
@[simp] theorem Module.hostHeld_time (w : MemReq) : (m.hostHeld w).time = m.time := by
  unfold Module.hostHeld
  dsimp only
  split <;> rfl
@[simp] theorem Module.accepted_time (w : MemReq) : (m.accepted w).time = m.time := by
  unfold Module.accepted
  split <;> simp
@[simp] theorem Module.markFor_time (k : Nat) : (m.markFor k).time = m.time := by
  refine foldl_time _ ?_ _ m
  exact fun _ _ => rfl
theorem Module.toHold_time {k r lo : Nat} {data : List Byte} {poison host : Bool} {x : Module}
    (h : m.toHold k r lo data poison host = some x) : x.time = m.time := by
  unfold Module.toHold at h
  dsimp only at h
  split at h
  · obtain rfl := Option.some.inj h
    rfl
  · split at h
    · obtain rfl := Option.some.inj h
      rfl
    · exact absurd h nofun
theorem Module.acceptWrite_time {w : MemReq} {x : Module} (h : m.acceptWrite w = some x) : x.time = m.time := by
  unfold Module.acceptWrite at h
  dsimp only at h
  split at h
  · split at h
    · obtain ⟨y, hy, rfl⟩ := Option.map_eq_some_iff.mp h
      exact (show y.time = m.time from m.toHold_time hy)
    · split at h
      · obtain rfl := Option.some.inj h
        rfl
      · exact absurd h nofun
  · split at h
    · obtain rfl := Option.some.inj h
      rfl
    · split at h
      · exact m.toHold_time h
      · split at h
        · obtain rfl := Option.some.inj h
          rfl
        · split at h
          · exact m.toHold_time h
          · exact absurd h nofun
theorem Module.takeHoldSlot_time {k : Nat} {w : Waiting} {x : Module} (h : m.takeHoldSlot k w = some x) : x.time = m.time := by
  unfold Module.takeHoldSlot at h
  dsimp only at h
  split at h
  · obtain rfl := Option.some.inj h
    rfl
  · exact absurd h nofun
@[simp] theorem Module.readArrives_time (r : MemReq) : (m.readArrives r).time = m.time := by
  unfold Module.readArrives
  split
  · rfl
  · dsimp only
    split
    case h_1 hslot => exact (Module.takeHoldSlot_time _ hslot).trans (m.wakeSlice_time _)
    case h_2 => simp
@[simp] theorem Module.writeArrives_time (r : MemReq) : (m.writeArrives r).time = m.time := by
  unfold Module.writeArrives
  dsimp only
  split
  · split <;> split <;> rfl
  · split
    · simp
    · split
      case h_1 haccept => rw [Module.accepted_time, Module.acceptWrite_time _ haccept, Module.wakeSlice_time]
      case h_2 => split <;> simp
theorem Module.rowWrite_time {a : Nat} {bs : List Byte} {poison : Bool} {x : Module} (h : m.rowWrite a bs poison = some x) : x.time = m.time := by
  unfold Module.rowWrite at h
  dsimp only at h
  split at h
  case h_1 haccept =>
    obtain rfl := Option.some.inj h
    exact m.acceptWrite_time haccept
  case h_2 =>
    split at h
    · exact (Module.acceptWrite_time _ h).trans (m.settleRow_time ..)
    · exact absurd h nofun

/-! ## Translation (R346 to R348) -/

@[simp] theorem Module.lookedUp_time (k : CacheOf) (part va : Nat) : (m.lookedUp k part va).time = m.time := by
  unfold Module.lookedUp
  split
  · rfl
  · split <;> rfl
@[simp] theorem Module.engineLooked_time (part : Nat) (vas : List Nat) : (m.engineLooked part vas).time = m.time :=
  foldl_time _ (fun m _ => m.lookedUp_time ..) vas m
@[simp] theorem Module.hostLookups_time (fn : Nat) (ps : List (Nat × Nat)) : (m.hostLookups fn ps).time = m.time := by
  unfold Module.hostLookups
  split
  · rfl
  · exact foldl_time _ (fun m _ => m.lookedUp_time ..) ps m
@[simp] theorem Module.remoteWalked_time (part : Nat) (l : List (Nat × Nat × Nat)) : (m.remoteWalked part l).time = m.time := by
  refine foldl_time _ ?_ l m
  exact fun _ _ => rfl
theorem Module.remoteAddrs_time {part acc : Nat} {src : Src} {e : Nat × Module} :
    ∀ {l : List (Nat × Nat × Nat)}, m.remoteAddrs part acc src l = .error e → e.2.time = m.time
  | [], h => nomatch h
  | (o, va, k) :: rest, h => by
    unfold Module.remoteAddrs at h
    split at h
    · split at h
      · obtain rfl := Except.error.inj h
        rfl
      · cases hrest : m.remoteAddrs part acc src rest with
        | error e' =>
          rw [hrest] at h
          obtain rfl := Except.error.inj h
          exact Module.remoteAddrs_time hrest
        | ok l' =>
          rw [hrest] at h
          exact nomatch h
    · obtain rfl := Except.error.inj h
      simp
    · obtain rfl := Except.error.inj h
      rfl
theorem Module.engineAddr_time {part va acc : Nat} {e : Nat × Module} (h : m.engineAddr part va acc = .error e) : e.2.time = m.time := by
  unfold Module.engineAddr at h
  split at h
  · split at h
    · obtain rfl := Except.error.inj h
      rfl
    · exact nomatch h
  · obtain rfl := Except.error.inj h
    simp
  · obtain rfl := Except.error.inj h
    rfl

/-! ## What leaves for the fabric (R538 to R565) -/

@[simp] theorem Module.pump_time (p : Nat) : (m.pump p).time = m.time := by
  unfold Module.pump
  dsimp only
  split <;> rfl
@[simp] theorem Module.push_time (p c : Nat) (t : Trans) : (m.push p c t).time = m.time := Module.pump_time _ p
@[simp] theorem Module.sendTo_time (t : Trans) : (m.sendTo t).time = m.time := by
  unfold Module.sendTo
  split <;> simp
@[simp] theorem Module.reply_time (port : Nat) (t : Trans) (typ reason : Nat) (payload : List Byte) (flags : Nat) :
    (m.reply port t typ reason payload flags).time = m.time := by
  unfold Module.reply
  dsimp only
  split <;> simp
@[simp] theorem Module.nackTo_time (port : Nat) (t : Trans) (reason : Nat) : (m.nackTo port t reason).time = m.time := m.reply_time ..
theorem foldl_sendTo_time (l : List Trans) (m : Module) : (l.foldl (fun (a : Module) t => a.sendTo t) m).time = m.time :=
  foldl_time _ (fun m t => m.sendTo_time t) l m
@[simp] theorem Module.endColl_time (c : Collective) (st : Nat) (tell : Bool) : (m.endColl c st tell).time = m.time := by
  unfold Module.endColl
  extract_lets colls m1 m2
  have htold : m2.time = m.time := by
    show (if tell then _ else m1 : Module).time = m.time
    split
    · exact foldl_time _ (fun m d => m.sendTo_time _) _ m1
    · rfl
  split
  · exact (Module.complete_time ..).trans htold
  · exact (Module.complete_time ..).trans htold
@[simp] theorem Module.sendSteps_time (c : Collective) : (m.sendSteps c).1.time = m.time := foldl_sendTo_time _ m
@[simp] theorem Module.updColl_time (tag part : Nat) (f : Collective → Collective) : (m.updColl tag part f).time = m.time := rfl
theorem Module.writeRuns_time {part : Nat} : ∀ (l : List (Nat × List Byte × Bool)) (m : Module),
    (∀ e, m.writeRuns part l = .error e → e.2.time = m.time) ∧ (∀ x, m.writeRuns part l = .ok (some x) → x.time = m.time)
  | [], m => ⟨fun _ h => (nomatch h), fun x h => by
      obtain rfl : m = x := Option.some.inj (Except.ok.inj h)
      rfl⟩
  | (a, bs, p) :: rest, m => by
    unfold Module.writeRuns
    split
    case h_1 e herror =>
      exact ⟨fun e' h => by obtain rfl := Except.error.inj h; exact m.engineAddr_time herror, fun _ h => nomatch h⟩
    case h_2 pa hpa =>
      split
      case h_1 => exact ⟨fun _ h => (nomatch h), fun _ h => nomatch Except.ok.inj h⟩
      case h_2 m1 hwrite =>
        have hm1 : m1.time = m.time := (Module.rowWrite_time _ hwrite).trans (m.engineLooked_time ..)
        obtain ⟨herror, hok⟩ := Module.writeRuns_time rest m1
        exact ⟨fun e h => (herror e h).trans hm1, fun x h => (hok x h).trans hm1⟩
@[simp] theorem Module.advanceColl_time (c : Collective) : (m.advanceColl c).time = m.time := by
  unfold Module.advanceColl
  extract_lets r m1 c1
  have hm1 : m1.time = m.time := m.sendSteps_time c
  split
  · exact hm1
  · split
    · split
      · exact (Module.endColl_time ..).trans hm1
      · exact hm1
    · obtain ⟨herror, hok⟩ := Module.writeRuns_time (part := c1.part) (c1.output m1.ownId) m1
      split
      case h_1 e he => exact (Module.endColl_time ..).trans ((herror e he).trans hm1)
      case h_2 => exact hm1
      case h_3 m2 h2 =>
        have hsent := (foldl_sendTo_time (m2.remoteWrites c1) m2).trans ((hok m2 h2).trans hm1)
        dsimp only
        split
        · exact (Module.endColl_time ..).trans hsent
        · exact hsent
@[simp] theorem Module.takeStep_time (c : Collective) (t : Trans) : (m.takeStep c t).time = m.time := by
  unfold Module.takeStep
  split
  · simp
  · split
    · rfl
    · simp
@[simp] theorem Module.actStep_time (t : Trans) : (m.actStep t).time = m.time := by
  unfold Module.actStep
  split
  · simp
  · rfl
theorem doStep_time (port : Nat) (t : Trans) : (doStep port t m).time = m.time := by
  unfold doStep
  split
  · simp
  · split
    · simp
    · split
      · simp
      · split
        · rfl
        · simp

/-! ## Writes and reads of another module (R540) -/

@[simp] theorem Module.padExternal_time (k win o : Nat) (bs : List Byte) (poison : Bool) (requester source : Nat) :
    (m.padExternal k win o bs poison requester source).time = m.time := by
  refine foldl_time _ ?_ _ m
  exact fun _ _ => rfl
@[simp] theorem Module.bumpAt_time (k counter : Nat) (on : Bool) : (m.bumpAt k counter on).time = m.time := by
  unfold Module.bumpAt
  split <;> rfl
@[simp] theorem Module.countPart_time (root tag place parts counter : Nat) (on : Bool) :
    (m.countPart root tag place parts counter on).time = m.time := by
  unfold Module.countPart
  extract_lets hit seen rest
  split
  · simp
  · rfl
theorem doWriteSp_time (port : Nat) (t : Trans) : (doWriteSp port t m).time = m.time := by
  unfold doWriteSp
  extract_lets site off m1 on m2
  have hm1 : m1.time = m.time := (foldl_time _ (fun m k => m.padExternal_time ..) _ _).trans (m.wake_time _)
  have hm2 : m2.time = m.time := by
    show (if bitOf t.aux 5 then _ else _ : Module).time = m.time
    split
    · exact (Module.countPart_time ..).trans hm1
    · exact (Module.bumpAt_time ..).trans hm1
  split
  · simp
  · split
    · simp
    · split
      · simp
      · split
        · simp
        · split
          · simp
          · split
            · exact hm1
            · exact (Module.reply_time ..).trans hm2
theorem doWriteVa_time (port : Nat) (t : Trans) : (doWriteVa port t m).time = m.time := by
  unfold doWriteVa
  dsimp only
  split
  · simp
  · split
    · simp
    · split
      · simp
      · split
        case h_1 r m1 herror => exact (Module.nackTo_time ..).trans ((Module.remoteWalked_time ..).trans (m.remoteAddrs_time herror))
        case h_2 l hl =>
          split
          · simp
          · split
            · simp
            · split
              · simp
              · exact (foldl_time _ (fun m i => m.writeArrives_time _) _ _).trans (m.remoteWalked_time ..)
theorem doReadVa_time (port : Nat) (t : Trans) : (doReadVa port t m).time = m.time := by
  unfold doReadVa
  extract_lets row parts
  split
  · simp
  · split
    · simp
    · split
      · simp
      · split
        case h_1 r m1 herror => exact (Module.nackTo_time ..).trans ((Module.remoteWalked_time ..).trans (m.remoteAddrs_time herror))
        case h_2 l hl =>
          split
          · exact (Module.nackTo_time ..).trans (m.remoteWalked_time ..)
          · split
            · simp
            · exact (foldl_time _ (fun m i => m.readArrives_time _) _ _).trans (m.remoteWalked_time ..)
theorem Module.refuseLate_time : m.refuseLate.time = m.time := by
  refine foldl_time _ (fun m num => ?_) _ m
  dsimp only
  split
  · rfl
  · simp [Module.servedOver]

/-! ## Requests of the host (R477 to R484) -/

@[simp] theorem Module.returnReads_time (fn : Nat) : (m.returnReads fn).time = m.time := by
  refine foldl_time _ ?_ _ _
  exact fun _ _ => rfl
@[simp] theorem Module.hostReply_time (fn : Nat) (data : List Byte) (ep : Bool) : (m.hostReply fn data ep).time = m.time :=
  Module.returnReads_time _ fn
@[simp] theorem Module.refuseRead_time (fn bar off len : Nat) : (m.refuseRead fn bar off len).time = m.time := by simp [Module.refuseRead]
@[simp] theorem Module.refuseWrite_time (fn bar off len : Nat) : (m.refuseWrite fn bar off len).time = m.time := m.accessError_time ..
theorem Module.onBar_time (fn : Nat) (f : Module → Module) (hf : ∀ m, (f m).time = m.time) : (m.onBar fn f).time = m.time := by
  unfold Module.onBar
  split
  · rfl
  · split
    · rfl
    · exact hf m
@[simp] theorem Module.logHit_time (fn off len a : Nat) (write : Bool) (h : Hit) : (m.logHit fn off len a write h).time = m.time := by
  unfold Module.logHit
  split
  · rfl
  · simp
  · simp
  · simp [Module.prtEvent]
  · simp
@[simp] theorem Module.hostData_time (fn id : Nat) (data : List Byte) (poison : Bool) : (m.hostData fn id data poison).time = m.time := by
  unfold Module.hostData
  dsimp only
  split
  · split
    · rfl
    · simp
  · simp
theorem doBar2Read_time (fn off len : Nat) : (doBar2Read fn off len m).time = m.time := by
  refine m.onBar_time fn _ fun m => ?_
  dsimp only
  split
  · rfl
  · split
    · simp
    · split
      · simp
      · split
        · simp
        · simp
        · split
          · simp
          · refine (foldl_time _ (fun m r => ?_) _ _).trans (m.hostLookups_time ..)
            split <;> simp
@[simp] theorem Module.bar2Put_time (fn off : Nat) (data : List Byte) (poison : Bool) (held : Instr) :
    (m.bar2Put fn off data poison held).time = m.time := by
  unfold Module.bar2Put
  dsimp only
  split
  · rfl
  · split
    · simp
    · split
      · simp
      · split
        · simp
        · split
          · simp
          · refine (foldl_time _ (fun m r => ?_) _ _).trans (m.hostLookups_time ..)
            split <;> simp
@[simp] theorem Module.padWordRead_time (fn a n : Nat) : (m.padWordRead fn a n).1.time = m.time := by
  unfold Module.padWordRead
  dsimp only
  split
  · exact m.wake_time _
  · split
    · exact m.wake_time _
    · exact m.wake_time _
theorem doBar4Read_time (fn off len : Nat) : (doBar4Read fn off len m).time = m.time := by
  refine m.onBar_time fn _ fun m => ?_
  dsimp only
  split
  · rfl
  · split
    · simp
    · split
      · simp
      · rw [Module.hostReply_time]
        generalize cuts 8 off len = ws
        suffices h : ∀ x : Module × List Byte × Bool, (ws.foldl _ x).1.time = x.1.time from h (m, [], false)
        intro x
        induction ws generalizing x with
        | nil => rfl
        | cons w ws ih =>
          refine (ih _).trans ?_
          dsimp only
          split <;> simp
@[simp] theorem Module.bar4Put_time (fn off : Nat) (data : List Byte) (poison : Bool) (held : Instr) :
    (m.bar4Put fn off data poison held).time = m.time := by
  unfold Module.bar4Put
  dsimp only
  split
  · rfl
  · split
    · simp
    · split
      · simp
      · refine foldl_time _ (fun m w => ?_) _ m
        split <;> simp
theorem doPoisonedTlpWrite_time (fn bar off : Nat) (data : List Byte) : (doPoisonedTlpWrite fn bar off data m).time = m.time := by
  refine m.onBar_time fn _ fun m => ?_
  dsimp only
  split
  · simp
  · split <;> simp
@[simp] theorem Module.bellNow_time (r : Ring) (v off : Nat) : (m.bellNow r v off).time = m.time := by
  unfold Module.bellNow
  split <;> simp
@[simp] theorem Module.releaseBells_time (fn : Nat) : (m.releaseBells fn).time = m.time := by
  unfold Module.releaseBells
  split
  · rfl
  · exact foldl_time _ (fun m b => m.bellNow_time ..) _ _

/-! ## The tick -/

/-- A command that waited for a way takes no time when it runs. -/
theorem runHeld_time (i : Instr) : (runHeld i m).time = m.time := by
  unfold runHeld
  split
  · exact doBar2Read_time ..
  · exact m.onBar_time _ _ fun m => m.bar2Put_time ..
  · exact doBar4Read_time ..
  · exact m.onBar_time _ _ fun m => m.bar4Put_time ..
  · exact doPoisonedTlpWrite_time ..
  · exact doWriteSp_time ..
  · exact doWriteVa_time ..
  · exact doReadVa_time ..
  · exact doStep_time ..
  · rfl
theorem Module.releaseCmds_time : m.releaseCmds.time = m.time := by
  unfold Module.releaseCmds
  dsimp only
  rw [foldl_time _ (fun m fn => m.releaseBells_time fn), foldl_time _ (fun m fn => m.returnReads_time fn)]
  exact (foldl_time _ (fun m (h : Nat × Instr) => runHeld_time m h.2) _ _).trans rfl

theorem Module.tickClocks_time : m.tickClocks.time = m.time + 1 := rfl
/-- A tick is one microsecond: the clocks move the time by one, and what runs after them keeps it. -/
theorem Module.tick_time : m.tick.time = m.time + 1 := by
  rw [Module.tick, Module.refuseLate_time, Module.releaseCmds_time, Module.tickClocks_time]

end

theorem step_of_idle {s : State} (hidle : s.pending = []) : step s = .next (idle s) := by simp only [step, hidle]
theorem idle_kept (s : State) : (idle s).pending = s.pending ∧ (idle s).mgmt = s.mgmt ∧ (idle s).jtag = s.jtag := by
  rw [idle]
  exact ⟨rfl, rfl, rfl⟩
theorem idle_time (s : State) : (idle s).m.time = s.m.time + 1 := by rw [idle, Module.tick_time]

/-- Settles O2: a step on an empty queue is a tick of the module. -/
theorem emptyQueueTicks : Obligations.EmptyQueueTicks := by
  intro s hidle
  obtain ⟨hpending, hmgmt, hjtag⟩ := idle_kept s
  exact ⟨idle s, step_of_idle hidle, idle_time s, hpending.trans hidle, hmgmt, hjtag⟩

end Sys2Proof.Machine
end
